-- ==== Sys2Proof/Word.lean ====
section
/-! DEFINITION. The words of the machine: octets and octet strings (spec 00_scope.md R6, 02 R36). -/
namespace Sys2Proof

/-- One octet of a frame, a record or an OCTETS value. -/
abbrev Octet := BitVec 8

/-- A string of octets, first octet first (R6: the most significant octet of a field comes first). -/
abbrev Octets := List Octet

/-- A Sextant time or interval counted in 2^-16 ns, the unit of the fraction of TIME64 (10 R332). -/
abbrev Tick := Nat

/-- The instants of the free-running counter COUNT, in ns (10 R333). -/
abbrev Count := Nat

end Sys2Proof
end

