-- ==== Sys2Proof/Syntax.lean ====
section
/-! DEFINITION. The commands of the block: one constructor of Instr per row of spec/opcode_table.json, with the
operands the row's rules name, and the plain data those operands are made of. -/
namespace Sys2Proof

/-- A value of the object dictionary, by the types of R36. -/
inductive Val where
  | int (i : Int)
  | bool (b : Bool)
  | octets (o : Octets)
  | text (o : Octets)
  | time (sec ns frac : Nat)
deriving DecidableEq, Repr, Inhabited

/-- A CBOR item as it arrives in a write, by the major types of R36. `nint n` is −1 − n; `other` is the encoding of any other
item, and of a block-wise write the octets of one block (R45). -/
inductive Wire where
  | uint (n : Nat)
  | nint (n : Nat)
  | bool (b : Bool)
  | bytes (o : Octets)
  | text (o : Octets) (wellFormed : Bool)
  | arr3 (sec ns frac : Nat)
  | other (o : Octets)
deriving DecidableEq, Repr, Inhabited

/-- The address that a message of the trunk was sent to (R292, R293): one of the device's own, one of the pair's, another. -/
inductive Svc where
  | own
  | pair
  | other
deriving DecidableEq, Repr, Inhabited

/-- The CoAP message a trunk request comes in (R41): the trunk port (0 TA, 1 TB), the UDP port it is sent to, the sender's
address and port, its message ID, whether it is confirmable, and whether OSCORE protects it (R44). -/
structure CoapMsg where
  port : Nat
  udp : Nat
  peer : Octets
  mid : Nat
  con : Bool
  prot : Bool
  svc : Svc := .own
deriving DecidableEq, Repr, Inhabited

/-- By which route a request arrives: the Quay port (session 0), or a trunk port under an OSCORE context
(R44, R52). `ctx` is the KEY_ID of the OSCORE context (R390), `authentic` the outcome of the AES-CCM check, `old` that it verifies
under the retained generation only, `echo` that it returns the Echo value, `seq` the partial IV of the replay window. -/
inductive Via where
  | quay
  | trunk (m : CoapMsg) (ctx : Nat) (sender : Octets) (authentic old echo : Bool) (seq : Nat)
deriving DecidableEq, Repr, Inhabited

/-- A dictionary request: its route, its token, its Block1 option or BLOCK field (block number, more to come) and its block
size as SZX, the block a read asks for by Block2 (R45), whether its method is none of those of R42, and whether it ends the
session's observation (FLAGS[1] of R46). -/
structure Req where
  via : Via
  tok : Nat
  blk : Option (Nat × Bool)
  szx : Nat := 6
  blk2 : Option Nat := none
  other : Bool := false
  cancel : Bool := false
deriving DecidableEq, Repr, Inhabited

/-- What the hunter of channel `k` of window `win` computes in one claim round: the channel energy (0.1 dBm) and
the quality Q of each mode of its set (R128). -/
structure Sense where
  win : Nat
  k : Nat
  energy : Int
  qs : List (Nat × Nat)
deriving DecidableEq, Repr, Inhabited

/-- What a demodulator delivers at the end of a frame (R126, R137, R139). `mod` names the content of the PSDU. -/
structure RxFrame where
  psdu : Octets
  crcOk : Bool
  fec : Bool
  fcs32 : Bool
  mcs : Nat
  snr : Int
deriving DecidableEq, Repr, Inhabited

/-- A link address of IEEE 802.15.4 (R175). -/
inductive Addr where
  | none
  | short (a : Nat)
  | long (eui : Nat)
deriving DecidableEq, Repr, Inhabited

/-- What the 6LoWPAN headers of a MAC payload are (R226): a mesh addressing or broadcast header, uncompressed IPv6 (dispatch 0x41), the
context that IPHC names (0 also for stateless compression), and whether the UDP NHC elides the checksum. -/
structure LowHead where
  mesh : Bool := false
  broadcast : Bool := false
  plain : Bool := false
  context : Nat := 0
  sumElided : Bool := false
deriving DecidableEq, Repr, Inhabited

/-- The 6LoWPAN content of a MAC payload as the pipeline resolves it (R212, R223, R226, R228). `post` is the Uri-Path of a CoAP POST that a
datagram carries. -/
inductive Lowpan where
  | dgram (orig : Nat) (udpPort : Option Nat) (dscp : Nat) (octets : Nat) (post : Option (List Octets))
  | rpl (orig : Nat) (dio : Bool)   -- whether it is a DIO consistent with the device's (R223)
  | frag (orig tag size off : Nat) (data : Octets) (udpPort : Option Nat) (dscp : Nat)
deriving DecidableEq, Repr, Inhabited

/-- An IEEE 802.15.4 frame as Helm reads it from a PSDU (R175–R178). `ccmOk` is the outcome of the CCM* check,
`tx` the instant its transmission started (ticks of Sextant time). -/
structure MacFrame where
  version : Nat
  ftype : Nat          -- 0 beacon, 1 data, 2 acknowledgement, 3 command
  dstPan : Nat
  dst : Addr
  src : Addr
  seqNo : Option Nat
  secured : Bool
  level : Nat          -- the security level of a secured frame (R176)
  ccmOk : Bool
  keyIx : Option Nat   -- the group key index of key identifier mode 1; none for the link key
  ackReq : Bool
  payload : Octets
  head : LowHead
  content : Lowpan
deriving DecidableEq, Repr, Inhabited

/-- An ADMIT body of R253 as it is read, with the check of its destination against the node's address. -/
structure AdmitBody where
  reqId : Nat
  node : Nat
  flow : Nat
  ackReq : Bool
  attempts : Nat
  needBy : Option Tick
  dgramLen : Nat
  dstOk : Bool
  compressed : Nat     -- octets on air of the compressed frame without its source route header
deriving DecidableEq, Repr, Inhabited

/-- The body of a head-end message: an ADMIT, or the reference of a QUERY (R264). -/
inductive AdmContent where
  | request (b : AdmitBody)
  | query (ref : Nat)
deriving DecidableEq, Repr, Inhabited

/-- A datagram to PA_UDP_PORT (R251): its header, the outcome of the check of its tag (`old`: it verifies under the retained generation
only, R384), its body after decryption, the address it came from, and the octets on air of the compressed DGRAM of an ADMIT without its
source routing header (R226). -/
structure AdmWire where
  version : Nat
  type : Nat
  ctx : Nat
  seq : Nat
  ok : Bool
  old : Bool
  src : Nat
  body : Octets
  compressed : Nat
  svc : Svc := .own
deriving DecidableEq, Repr, Inhabited

/-- A message to PA_UDP_PORT as it is read (R251, R252): the context, the sequence number, whether the tag verifies, the address it
came from, and its body. -/
structure AdmMsg where
  ctx : Nat
  seq : Nat
  ok : Bool
  old : Bool           -- it verifies under the retained generation only (R384)
  src : Nat
  body : AdmContent
deriving DecidableEq, Repr, Inhabited

/-- A DAO as the control plane reads it (R224): parents by EUI-64, `none` for the device's DODAG ID. -/
structure Dao where
  node : Nat
  seq : Nat
  parents : List (Option Nat)
  lifetime : Nat
  kflag : Bool
deriving DecidableEq, Repr, Inhabited

/-- What the messages of the control plane carry: a join response with the node's link key (R213, R215, R380), a DAO-ACK (R215, R223), a DIO (R223). `keys` are the
indices and generations of the group keys of the PAN. -/
inductive ControlMsg where
  | joinResponse (node : Nat) (short : Option Nat) (keys : List (Nat × Nat)) (link jrc : Octets) (timeout : Nat)
  | daoAck (node seq : Nat) (short : Option Nat)
  | dio (pan inst version ocp : Nat) (dodag pfx : Octets) (imin doublings redundancy unit life : Nat)
deriving DecidableEq, Repr, Inhabited

/-- Timing and life state of a node (R198, R209). -/
inductive NodeState where
  | joining | active | drifted | stale | lost
deriving DecidableEq, Repr, Inhabited

/-- One node: its node-table entry (R198) and its extended record (R200, R241). -/
structure Node where
  idx : Nat
  eui : Nat
  state : NodeState
  neighbour : Bool
  pinned : Bool
  auto : Bool
  lastHeard : Nat            -- Almanac seconds
  short : Option Nat
  pan : Nat
  depth : Nat
  parent : Nat
  lastSeq : Option Nat       -- identity of the last accepted frame (R177)
  lastDigest : Octets
  daoSeq : Option Nat
  keySlot : Nat
  routeExpiry : Option Nat   -- Almanac seconds, none for never
  drift : Nat                -- 0.01 ppm
  misses : Nat
  lastOffset : Int
  lastSync : Option Tick
  keyId : Nat
  keyGen : Nat
  parents : List Nat
  joined : Tick
  created : Count
  upFrames : Nat
  downFrames : Nat
  fpw : Nat
  fph : Nat
  closed : Bool
  tokens : Int               -- hour bucket, 1/65,536 frame
  stamp : Count
  lastRef : Nat
  note : Octets
  shortClear : Option Count  -- since when NEIGHBOUR has been clear (R215)
  resync : Option Tick       -- start of its last resynchronisation beacon cell while DRIFTED (R183)
  response : Option (ControlMsg × Nat)   -- the join response given, and its length (R213)
deriving DecidableEq, Repr, Inhabited

/-- A reserved attempt (R258): its cell and ASN, its transmit instant and its cell end (Sextant ticks), its wake. -/
structure Inst where
  cell : Nat
  asn : Nat
  pan : Nat
  sf : Nat
  chanOff : Nat
  port : Nat
  start : Tick
  cellEnd : Tick
  freq : Nat
deriving DecidableEq, Repr, Inhabited

/-- An admitted downlink frame of the ledger (R259–R263). -/
structure Frame where
  ref : Nat
  reqId : Nat
  ctx : Nat
  src : Nat
  node : Nat
  hop : Nat
  flow : Nat
  cls : Nat
  cells : Nat
  air : Nat
  octets : Nat               -- of the compressed frame
  ackReq : Bool
  insts : List Inst          -- reserved attempts still to be made
  taken : Nat                -- attempts reserved in all
  made : Nat
  reason : Nat
  promise : Tick
  admitted : Count
deriving DecidableEq, Repr, Inhabited
/-- A training page received (R283). `crcOk` is the outcome of its CRC. -/
structure Page where
  version : Nat
  tiers : Nat
  role : Nat
  seed : Nat
  ack : Bool
  pfc : Bool
  crcOk : Bool
deriving DecidableEq, Repr, Inhabited

/-- An OAM block received (R281). -/
structure Oam where
  kind : Nat
  tier : Nat
  snr : Nat
  uncorr : Nat
  seq : Nat
  crcOk : Bool
deriving DecidableEq, Repr, Inhabited

/-- The redundancy tag of a trunk frame (R296): none, the PRP trailer with its sequence number and LAN (0 A, 1 B), or the
HSR tag with its sequence number. -/
inductive RedTag where
  | none
  | prp (seq lan : Nat)
  | hsr (seq : Nat)
deriving DecidableEq, Repr, Inhabited

/-- What a trunk frame is to PTP (R340): nothing, an event message of the domain (a Sync is measured by
PTP_SYNC_MEASUREMENT), a Delay_Resp (the instant it gives and the master's logMinDelayReqInterval), a response that completes a peer
delay measurement (the turnaround it gives in 2^-16 ns), a Pdelay_Req, a message
the device drops, a message of another domain. -/
inductive PtpMsg where
  | none
  | event
  | delayResp (t4 : Tick) (log : Int)
  | pdelayResp (turn : Nat)
  | pdelayReq
  | dropped
  | ignored
deriving DecidableEq, Repr, Inhabited

/-- A 66-bit block (R274): its sync header, the bit sent first leading, and the eight octets of its payload, each sent least significant
bit first. -/
structure CodeBlock where
  sync : BitVec 2
  payload : Octets
deriving DecidableEq, Repr, Inhabited

/-- A message that asks for an address of the device (R292): neighbour discovery, ARP or ICMP echo. -/
inductive AddrAsk where
  | nd (addr : Octets)
  | arp (addr : Octets)
  | echo (addr : Octets)
deriving DecidableEq, Repr, Inhabited

/-- A trunk frame received (R274, R278, R290–R299): the blocks of each codeword that it touches, still scrambled, with whether that
codeword is uncorrectable; the 58 scrambled bits before them (newest first); where the first bit after its SFD stands, as the instant of
the first symbol of its interleave group and the bit's position in it; what it is to PTP, whether it is a PTP event message that may pass
(R300), and the address it asks for. -/
structure TrunkFrame where
  words : List (List CodeBlock × Bool)
  scr : List Bool
  group : Tick
  pos : Nat
  ptp : PtpMsg
  event : Bool
  ask : Option AddrAsk
deriving DecidableEq, Repr, Inhabited

/-- What a port is given to send (R290, R291): the MAC address that neighbour discovery or ARP found for the next hop, and the datagram;
of a frame that passes through a ring, the whole frame as it came. -/
structure WireFrame where
  mac : Octets
  body : Octets
deriving DecidableEq, Repr, Inhabited

/-- What a receiver in training found (R278, R282): sync headers in one alignment, the symbols of consecutive interleave groups at one
candidate boundary, and a partner's OAM block. -/
structure PortLock where
  p : Nat
  headers : List (BitVec 2)
  groups : List (List (BitVec 10))
  oam : CodeBlock
deriving DecidableEq, Repr, Inhabited


/-- An item of the output comparison: one carrier on air (R316). -/
structure Item where
  band : Nat
  kind : Nat
  channel : Nat
  instant : Nat
  who : Nat
  what : Nat
deriving DecidableEq, Repr, Inhabited

/-- A record of a stream message (R314). The resynchronisation mark is 0 for begin and 1 for end. -/
inductive StreamRec where
  | write (ix sub sel : Nat) (v : Val) (at' : Tick)   -- `sel`: the cell, node or flow its session had selected
  | start (ix : Nat) (v : Val) (at' : Tick) (bounds : List Tick)
  | node (idx : Nat) (n : Option Node)
  | admission (f : Frame)
  | refusal (ctx reqId detail : Nat) (promise : Option Tick)   -- a decision with no picked instances
  | report (ref st : Nat)
  | plan (t : Tick) (items : List (Item × Nat))   -- each with its air time in µs
  | reserve (ctx n : Nat)
  | mark (stop : Bool)
deriving DecidableEq, Repr, Inhabited

/-- A stream message (R312, R314). `authentic` is the outcome of the tag check and the layout rules of R312. -/
structure StreamMsg where
  src : Octets
  pairId : Nat
  member : Nat
  counter : Nat
  authentic : Bool
  old : Bool                -- it verifies under the retained generation only (R384)
  recs : List StreamRec
deriving DecidableEq, Repr, Inhabited

/-- A pulse (R312, R313). -/
structure Pulse where
  src : Octets
  pairId : Nat
  member : Nat
  counter : Nat
  authentic : Bool
  old : Bool                -- it verifies under the retained generation only (R384)
  state : Nat
  outFault : Bool
  epochOk : Bool
  takeover : Bool
  revert : Bool
  carriers : Nat
  digest : Octets
  epoch : Nat
  schedDigest : Octets
  sent : Nat
  acked : Nat
  handover : Tick
deriving DecidableEq, Repr, Inhabited

/-- A Consort message as it arrives (R312): the EUI-64 of its sender, its octets ahead of the tag (of a stream message, the header),
whether the tag verifies, and whether it does so under the retained generation only (R384). -/
structure PairWire where
  src : Octets
  octets : Octets
  tagOk : Bool
  old : Bool
deriving DecidableEq, Repr, Inhabited

/-- An Announce (R341): its domain, the sender's clockIdentity and port number, the grandmaster, the data set the best-master
comparison ranks it by, stepsRemoved, clockClass, currentUtcOffset and its interval, log2 s. -/
structure Announce where
  domain : Nat
  ident : Octets
  grand : Octets
  rank : List Nat
  steps : Nat
  clockClass : Nat
  utc : Int
  logInt : Int
deriving DecidableEq, Repr, Inhabited

/-! ## Power, reset, Logbook (spec 12–14) -/

/-- A record of Logbook (R458, R461, R464): a persistent value by its object, a reserved counter, a journal, the chart parts, the
Anchor save area, the ledger summary, a certificate 1–3. -/
inductive LbTarget where
  | value (k : Nat)
  | counter (k : Nat)
  | keyJournal
  | tackJournal
  | deltaRing
  | changeJournal
  | geometry
  | chartState
  | anchorSave
  | summary
  | certificate (n : Nat)
deriving DecidableEq, Repr, Inhabited

/-- What the copies of a record turn out to be (R461): both intact at an equal generation with bodies that differ (of a
counter the two values, of a journal the OP codes of the latest record of A and of B); one intact (the copy rewritten, 0 A or
1 B, and whether a line was uncorrectable); none intact. -/
inductive LbCopies where
  | differ (gen a b : Nat)
  | repaired (copy : Nat) (line : Bool)
  | lost
deriving DecidableEq, Repr, Inhabited

/-- A record whose copies do not agree, with its RECORD_ID. -/
structure LbRead where
  target : LbTarget
  rid : Nat
  copies : LbCopies
deriving DecidableEq, Repr, Inhabited

/-- One OTP word (R432): its group by the bit of R433, its number, its three copies (none for one that is not intact), and what
it holds: 0 a trim word, 1 the SEQ_GAP option, 2 ROLLBACK_FLOOR. -/
structure TrimWord where
  group : Nat
  number : Nat
  copies : List (Option Nat)
  what : Nat
deriving DecidableEq, Repr, Inhabited

/-- The straps as sampled (R430): BOOT, CLKMODE, RSTSEQ, PAIRSEL. -/
structure Straps where
  boot : Nat
  clkMode : Nat
  rstSeq : Nat
  pairSel : Nat
deriving DecidableEq, Repr, Inhabited

/-! ## What several measurements of one event show together -/

/-- The object a request names (R36). -/
structure ObjAddr where
  ix : Nat
  sub : Nat
deriving DecidableEq, Repr, Inhabited

/-- What a port shows of a group that a severe mismatch cuts, in 0.1 dB (R85, R87, R110): the 20 µs average of its return loss, the
average over the group so far, and the isolation so far. -/
structure CutMeasure where
  rl : Nat
  avg : Nat
  iso : Nat
deriving DecidableEq, Repr, Inhabited

/-- A chain whose synthesiser loses lock, with the return loss and the isolation of its group so far, in 0.1 dB (R85, R106, R110). -/
structure LockLoss where
  c : Nat
  rl : Nat
  iso : Nat
deriving DecidableEq, Repr, Inhabited

/-- A trunk port and how long its receiver has seen a fault: in groups or in µs, as the cause of R286 counts. -/
structure PortFault where
  p : Nat
  n : Nat
deriving DecidableEq, Repr, Inhabited

/-- An SNR in 0.1 dB and for how many µs it has lasted (R286). -/
structure SnrFall where
  snr : Int
  us : Nat
deriving DecidableEq, Repr, Inhabited

/-- What the wake detector of a port sees (R289): the µs between the starts of bursts, an amplitude in mV and its µs. -/
structure WakeTone where
  gaps : List Nat
  mv : Nat
  us : Nat
deriving DecidableEq, Repr, Inhabited

/-- A stream message (R313, R314): its octets, and what its records say. -/
structure StreamWire where
  wire : PairWire
  recs : List StreamRec
deriving DecidableEq, Repr, Inhabited

/-- A Sync (R339, R340): the interleave group it was received in, its place there, and its origin with the corrections on its way. -/
structure SyncTimes where
  group : Tick
  pos : Nat
  origin : Tick
deriving DecidableEq, Repr, Inhabited

/-- A unit that Lookout finds standing still (R453): the cause and for how many µs. -/
structure Stall where
  cause : Nat
  us : Nat
deriving DecidableEq, Repr, Inhabited

/-- The commands: one constructor per row of spec/opcode_table.json. -/
inductive Instr where
  | objectWrite (r : Req) (ix sub : Nat) (w : Wire)
  | wakeOnAccessRead (r : Req) (o : ObjAddr)
  | blockTransferTimeout (sess : Nat)
  | quayFrameDiscard (raw : Octets)
  | quayUartEntry (octets : Octets) (baud : Nat)
  | quayCsFall (clkHigh : Bool)
  | sessionIdleTimeout (n : Nat)
  | sessionClose (r : Req) (w : Wire)
  | evtRecordsRead (r : Req) (n : Nat)
  | stalledReadServed (n : Nat)
  | evtObserveRegister (r : Req) (n : Nat)
  | observeNotify (n : Nat)
  | notificationAck (n : Nat)
  | notificationTimeout (n : Nat)
  | evtFlush (r : Req) (n : Nat) (w : Wire)
  | journalRecordRead (r : Req)
  | procAbort (r : Req) (w : Wire)
  | gainStepDown (p samples : Nat)
  | gainStepUp (p heldMs : Nat)
  | txGroupStart (c : Nat) (psdus : List Octets)
  | txGroupEnd (c rl iso : Nat)
  | mismatchSevere (c : Nat) (m : CutMeasure)
  | retuneRun (p c winUs : Nat)
  | retuneDone (p : Nat) (rls : List Nat)
  | retuneHoldoffExpiry (p : Nat)
  | bearingRetuneSearch (r : Req) (w : Wire)
  | bearingRetuneSet (r : Req) (w : Wire)
  | synthCalibrate (r : Req) (w : Wire)
  | synthTempSample (c : Nat) (temp : Int)
  | synthCalStart (c winUs : Nat)
  | synthCalEnd (c : Nat) (temp : Int)
  | synthLock (c : Nat)
  | synthUnlock (u : LockLoss)
  | chainPowerUp (c : Nat)
  | txDomainOff (d : Nat)
  | aerialModeApply (b : Nat)
  | claimRound (senses : List Sense) (quals : List (Nat × Nat))
  | sfdFound (d : Nat) (rssi freqOff : Int) (both : Option (Int × Int))
  | sfdTimeout (d : Nat)
  | phrError (d : Nat) (failed modeSwitch : Bool) (len mcs : Nat)
  | rxFrameEnd (d : Nat) (f : RxFrame)
  | diversityHoldEnd (i : Nat)
  | rxGateOpen (p : Nat)
  | listenWindowOpen (p : Nat)
  | rxGateClose (p w : Nat) (energy : Int)
  | falsePreambleCheck (w : Nat)
  | rxWindowApply (r : Req) (w : Wire)
  | slotBoundary (pan ebPsdu : Nat)
  | planFreeze (b : Nat) (t : Tick) (ending : List Nat)
  | quietSlotInsert (kind ix : Nat)
  | frameDecision (f : MacFrame) (ending : List Nat)
  | ackCompose (i : Nat)
  | ackWaitClose (i : Nat)
  | cellEnd (pan asn : Nat)
  | dutyBinBoundary (b : Nat)
  | panEnable (r : Req) (p : Nat) (w : Wire)
  | panStop (r : Req) (p : Nat) (w : Wire)
  | cellEntryStage (r : Req) (w : Wire)
  | schedDiscard (r : Req) (w : Wire)
  | scheduleCommit (r : Req) (w : Wire)
  | slotframeSwitch (f : Nat)
  | helmLockstep (steps : Nat)
  | nodeFindEui (r : Req) (w : Wire)
  | nodeAdd (r : Req) (w : Wire)
  | nodeRemove (r : Req) (w : Wire)
  | nodeRemoveFinish (i : Nat)
  | nodeRehash (r : Req) (w : Wire)
  | rehashBuildDone (eccError : Bool)
  | joinTimeout (i : Nat)
  | joinVerify (eui pan : Nat) (relayed ok : Bool) (psdu : Nat)
  | shortAddrRelease (i : Nat)
  | learnApply (b : Nat)
  | neighbourSweep (b : Nat)
  | daoReceived (d : Dao) (psdu : Nat)
  | disReceived (p : Nat)
  | dioTrickleFire (p psdu : Nat)
  | reassemblyTimeout (b i : Nat)
  | almanacCheckpoint (r : Req) (w : Wire)
  | almanacRestored (loadUs : Nat)
  | almanacMirrorReload (loadUs : Nat)
  | uplinkTxSelect (p : Nat) (w : WireFrame)
  | admissionMessage (x : AdmWire)
  | admitQueueTimeout (i : Nat)
  | handoverEntry (ref : Nat)
  | reportDeadline (ref : Nat)
  | flowConfig (r : Req) (w : Wire)
  | admitCtxKeyid (r : Req) (ctx : Nat) (w : Wire)
  | ledgerSummaryMirror (log : Bool)
  | nextEligibleTime (node : Bool) (key : Nat)
  | listenPaging (p : Nat)
  | wakePatternSend (p : Nat)
  | pageReceived (p : Nat) (o : Octets) (psd : List Int) (fault dist : Nat)
  | announceTimeout (p fault dist : Nat)
  | trainPhase (p : Nat) (snr : Int) (partner : Bool) (fault dist : Nat)
  | linkUp (x : PortLock)
  | retrainHoldoffExpiry (p : Nat)
  | oamSend (p : Nat) (m100 m1000 m2500 : List (List Int)) (snr : Int)
  | oamReceived (p : Nat) (b : CodeBlock)
  | codewordLockLost (x : PortFault)
  | signalLost (x : PortFault)
  | snrLinkLost (p : Nat) (x : SnrFall)
  | snrWarn (p : Nat) (x : SnrFall)
  | ttEnableWrite (r : Req) (p : Nat) (w : Wire)
  | trunkRetrain (r : Req) (w : Wire)
  | trunkLoopback (r : Req) (w : Wire)
  | loopbackEnd (p : Nat) (m100 m1000 m2500 : List (List Int)) (snr : Int)
  | trunkWakeDetect (p : Nat) (x : WakeTone)
  | trunkFrameReceived (p : Nat) (f : TrunkFrame) (fill : Nat) (idle : Bool)
  | xoffRefresh (p fill : Nat)
  | pfcReceived (p : Nat) (quanta : List (Nat × Nat))
  | pauseExpiry (p prio : Nat)
  | redPartnerTimeout (b : Nat)
  | trunkAddressWrite (r : Req) (sub : Nat) (w : Wire)
  | trainingLockTimeout (p fault dist : Nat)
  | pulseSend (heard : List (Nat × Nat × Int))
  | pulseReceived (w : PairWire)
  | streamReceived (x : StreamWire)
  | consortHandover (r : Req) (w : Wire)
  | csFaultClear (r : Req) (w : Wire)
  | ptpSyncMeasurement (p : Nat) (ident : Octets) (m : SyncTimes) (logInt : Int)
  | ptpAnnounce (p : Nat) (a : Announce)
  | ptpMasterLoss (p : Nat)
  | ppsInEdge (rising : Bool)
  | sxSourceWrite (r : Req) (w : Wire)
  | sxRateWrite (r : Req) (w : Wire)
  | sxSetAbsolute (r : Req) (w : Wire)
  | sxSetRelative (r : Req) (w : Wire)
  | sextantReconcile (ticks : Nat)
  | calSet (r : Req) (w : Wire)
  | calHaltWrite (r : Req) (w : Wire)
  | calOsfClear (r : Req) (w : Wire)
  | calAlarmWrite (r : Req) (w : Wire)
  | calFieldRead (r : Req) (sub : Nat)
  | calShadowRelease (sess : Nat)
  | calFromSextant (r : Req) (w : Wire)
  | delayReqSend (p : Nat)
  | bnImport (r : Req) (opens : Bool) (material : Octets) (w : Wire)
  | bnReplace (r : Req) (opens proof : Bool) (material : Octets) (w : Wire)
  | keyCommit (i : Nat)
  | bnRemove (r : Req) (w : Wire)
  | bnAttest (r : Req) (w : Wire)
  | groupRollover (r : Req) (w : Wire)
  | entropyBlock (ok : Bool)
  | sectorCompaction (n : Nat)
  | enterFullService (r : Req) (w : Wire)
  | enterHold (r : Req) (w : Wire)
  | enterStandby (r : Req) (w : Wire)
  | powerModeWrite (r : Req) (w : Wire)
  | ookPatternMatch (chips : List Bool)
  | wakeNLow (us : Nat)
  | vsenseWarn (low : Bool) (mv us : Nat)
  | sagCrossing (mv us : Nat)
  | supplyReturn (mv : Nat)
  | thermalLimit (tj : Int) (n : Nat)
  | thermalTrip (tj : Int) (n : Nat)
  | thermalRecovery (tj : Int) (secs : Nat)
  | railBad (mv us : Nat)
  | vbatMeasure (mv : Nat)
  | holdUpSupplyLoss (n : Nat)
  | aonSupplyChange (vbat : Bool)
  | vsenseMinRead (r : Req)
  | pinAssert (ns : Nat)
  | pinRelease (x : Straps)
  | warmAssert (detail : Nat)
  | coreAssert (detail : Nat)
  | trimLoadDone (words : List TrimWord)
  | domainRelease (rootOk : Bool) (rd : List LbRead)
  | bootImageCheck (mbit : Option Nat)
  | bootImageWrite (r : Req) (w : Wire)
  | tack (r : Req) (w : Wire)
  | tackSegment (r : Req) (w : Wire)
  | tackConfirm (r : Req) (w : Wire)
  | coreHeartbeat (core : Nat)
  | lookoutWarn (core : Nat)
  | lookoutLevel1 (core : Nat)
  | lookoutLevel2 (x : Stall)
  | warmRestart (r : Req) (w : Wire)
  | domainReset (r : Req) (w : Wire)
  | poraRelease (x : Straps) (test supply : Bool)
  | scrubLine (skip : Bool) (bits : Nat) (bad : Option (Option LbRead))
  | tjSample (temps : List Int)
  | ageingMeasure (d delay period : Nat) (bias : Int)
  | backgroundTestRun (code target : Nat) (moved : Bool)
  | selftestLate (code target : Nat)
  | bankSwap (a : Nat)
  | selftestAdcCalibration (r : Req) (w : Wire)
  | selftestBankBist (r : Req) (w : Wire)
  | selftestKeccakKat (r : Req) (w : Wire)
  | selftestAesKat (r : Req) (w : Wire)
  | selftestLogbookRead (r : Req) (w : Wire)
  | selftestTxPowerCal (r : Req) (w : Wire)
  | selftestResult (code target : Nat) (fail : Bool) (detail : Nat) (gains : List Nat)
  | capRecordsRead (r : Req) (n : Nat)
  | capFlush (r : Req) (n : Nat) (w : Wire)
  | dramEccError (channel addr : Nat) (corrected table : Bool)
  | sramEccError (corrected : Bool)
  | quayFrameSent
  | starvationIntervalEnd
  | windowApplyBoundary
  | windowRearmDone
  | tableInsert
  | migrateStart
  | migrateBucket
  | migrateEnd
  | sweeperPass
  | checkpointPeriod
  | checkpointDone
  | admissionCompute
  | query
  | wheelCoarseSlot
  | paSample
  | sampleIntervalEnd
  | supervisionSend
  | pulseLoss
  | pairingTimeout
  | streamResend
  | streamResync
  | resyncDone
  | revertStart
  | handoverInstant
  | ppsInLost
  | ppsOutEdge
  | slowTickLatch
  | slowRatioMeasure
  | calCarry
  | calOscStopped
  | calTrimApply
  | calTrimAutoUpdate
  | calFromSextantApply
  | attestDone
  | groupKeySwitch
  | groupOverlapEnd
  | retainedGenExpiry
  | blobDirectoryRebuilt
  | holdEntry
  | coreIdleRetention
  | wakeDeclared
  | anchorSaveDone
  | aonBrownout
  | sealDone
  | poraAssert
  | resetHoldEnd
  | pllLock
  | firmwareAttach
  | lodestarStart
  | chartStateWrite
  | tackVerifyDone
  | tackAttachTime
  | tackSoakDone
  | confirmDeadline
  | refclkLoss
  | logbookCommit
  | wearProjection
  | rotationReassign
  | tjMinute
deriving DecidableEq, Repr, Inhabited

end Sys2Proof
end

