-- ==== Sys2Proof/Decode.lean ====
section
/-! DEFINITION. The commands that words spell. The block takes its commands from its ports, its pins and its own units; it
decodes no instruction words, and spec/opcode_table.json gives no row any bits (log 1). -/
namespace Sys2Proof

/-- The command that `nbits` bits `w` spell by the table's bits: none, for the table gives no row bits. -/
def decodeTableWord (nbits w : Nat) : Option Instr :=
  match nbits, w with
  | _, _ => none

end Sys2Proof
end

