-- ==== Sys2Proof/Config.lean ====
section
/-! DEFINITION. What an implementation fixes and the free values: every constant here is opaque, so that
no statement can rest on a value of it. The assumption log names each. -/
namespace Sys2Proof.Config

/-- The first `n` octets of SHAKE256 of an octet string (R58, R159, R177); the function itself is FIPS 202's and
is not in the spec: a free function (log 6). -/
opaque shake256 (n : Nat) (m : Octets) : Octets

/-- SOURCE_INDEX of an event whose chapter does not say which object it names (R73; log 7). -/
opaque eventSource (code : Nat) : Nat

/-- DOMAIN of an event whose chapter does not state it (R73; log 7). -/
opaque eventDomain (code : Nat) : Nat

/-- A fresh free value: the `n`-th value the spec leaves open (log 5). -/
opaque freeValue (n : Nat) : Nat

/-- A word drawn from the entropy source (R199, R367; log 5). -/
opaque entropy (n : Nat) : Octets

/-- Which MCS the standard permits for the OFDM option of a mode code 11–14 (R126, R522; log 10). -/
opaque mcsPermitted (mode mcs : Nat) : Bool

/-- The air time in µs of `octets` PSDU octets in an OFDM mode at an MCS, by the standard (R180, R522; log 10). -/
opaque ofdmAir (mode mcs octets : Nat) : Nat

/-- The duration in µs of the preamble and training fields of an OFDM frame (R171; log 10). -/
opaque ofdmPreamble (mode : Nat) : Nat

/-- The requested power index that the record of a node supplies (R99): R198 and R200 give it no field (log 11). -/
opaque requestedIndex (node : Nat) : Nat

/-- Channel offset of the assertion beacon of a slot, which the spec does not state (R327; log 16). -/
opaque assertOffset (asn : Nat) : Nat

/-- An SLH-DSA signature of algorithm 1 (29,792 octets) or 2 (35,664 octets) with the device's own key (R371; log 6). -/
opaque signature (alg : Nat) (m : Octets) : Octets

/-- The outcome of the check of an SLH-DSA signature over octets `m` by the firmware-signing key (R436; log 6). -/
opaque verify (m sig : Octets) : Bool

/-- Body and 8-octet tag of a message under AES-128-CCM with the key of that kind, KEY_ID and generation (R252, R312; log 6). -/
opaque ccm (kind keyId gen : Nat) (nonce aad body : Octets) : Octets

/-- The IP datagram that the octets of a MAC payload, or of its reassembled fragments, are forwarded as (R226, R323): 6LoWPAN
decompression is RFC 6282's and is not in the spec (log 6). -/
opaque datagram (o : Octets) : Octets

/-- The digest of the ROM stage and that of the OTP option words (R368; log 5). -/
opaque romDigest : Octets
opaque otpDigest : Octets

/-- DIGEST and VERSION of the recovery image that final test left in Logbook (R439; log 5). -/
opaque recoveryDigest : Octets
opaque recoveryVersion : Nat

/-- The public part of a device key made from its seeds: 1 identity, 2 attestation, 3 import (R370; log 6). -/
opaque publicKey (key : Nat) (seeds : Octets) : Octets

/-- The root secret that the first start, at final test, left in root bank 0 (R365; log 5). -/
opaque factoryRoot : Octets

/-- The 32-bit check value of a root secret (R365): the spec does not state how it is formed (log 6). -/
opaque rootCheck (root : Octets) : Nat

/-- The identity certificate that final test left in Logbook (R365, R371; log 5). -/
opaque factoryCert : Octets

/-- The SLH-DSA signature of Plesiolo's device-certification key over octets `m` (R371; log 6). -/
opaque certification (m : Octets) : Octets

/-- The descriptor that holds a frame of the ledger (R241): the spec states no rule by which Pilot allocates them (log 5). -/
opaque descriptor (ref : Nat) : Nat

/-- The compressed frame of an admission, which the spec lays out nowhere (R314; log 6). -/
opaque meshFrame (ref : Nat) : Octets

/-- The built-in taps of the transmit FIR of a template (0 standard, 1 reduced) at a tier, from OTP (R279; log 5). -/
opaque firTaps (template tier : Nat) : List Int

/-- AES-256-GCM of FIPS 197 and SP 800-38D: ciphertext and tag (R375; log 6). -/
opaque gcm (key iv aad plain : Octets) : Octets

end Sys2Proof.Config
end

