-- ==== Sys2Proof/Machine/State.lean ====
section
/-! DEFINITION. The state of the block as plain data: every register, FIFO, buffer, counter, mode and pin the spec
gives it, chapter by chapter, the queue of waiting commands and the state after reset. -/
namespace Sys2Proof.Machine

/-! ## Management (spec 02) -/

/-- The result codes of R71. -/
inductive Rc where
  | ok | noObject | noSubindex | readOnly | writeOnly | range | type | calendarInvalid | domainAsleep
  | serviceStopped | serviceRunning | busyRetry | sessionLimit | stateConflict | notPermittedNow
  | refusedCapacity | refusedDeadline | oversize | verifyFail | blobInvalid | useExhausted | insertFail
  | aborted | internal
deriving DecidableEq, Repr, Inhabited

/-- One event record (R73). TIME is in 2^-16 ns of Sextant time; `late` is FLAGS[1], `valid` FLAGS[0]. -/
structure EvRec where
  code : Nat
  sev : Nat
  seq : Nat
  time : Tick
  unc : Nat
  source : Nat
  domain : Nat
  valid : Bool
  late : Bool
  param : Octets
deriving DecidableEq, Repr, Inhabited

/-- The observer of a FIFO (R77): its session and token, and SEQ of the last record its outstanding notification carries. -/
structure Observer where
  sess : Nat
  tok : Nat
  outstanding : Option Nat
deriving DecidableEq, Repr, Inhabited

/-- What a reply answers: the token of the request, the object it names, and of a confirmable message the message ID of the
acknowledgement that the reply is piggybacked on (R41, R46). -/
structure Tok where
  tok : Nat
  key : Nat
  ack : Option Nat
deriving DecidableEq, Repr, Inhabited

/-- How a read asks for its answer (R45): the block it names, the octets of a block and their SZX. -/
structure Asked where
  blk2 : Option Nat
  size : Nat
  szx : Nat
deriving DecidableEq, Repr, Inhabited

/-- A read stalled on an empty FIFO, answered in blocks as it asked (R45, R75, R76, R480). -/
structure Stalled where
  sess : Nat
  tok : Tok
  asked : Asked
deriving DecidableEq, Repr, Inhabited

/-- One event FIFO (R72–R79): its records oldest first, its counters, the records held in PD1 SAFE until Attach,
its observer and its stalled reads in order of Request arrival. -/
structure Fifo where
  recs : List EvRec
  lost : Nat
  flushed : Nat
  nextSeq : Nat
  held : List EvRec
  observer : Option Observer
  stalled : List Stalled
deriving DecidableEq, Repr, Inhabited

/-- The frozen calendar fields of a session (R354): CAL_YEAR to CAL_SUBSEC and when they were frozen. -/
structure CalShadow where
  fields : List Nat
  since : Count
deriving DecidableEq, Repr, Inhabited

/-- A session and its per-session values (R40, R52, R518). Session 0 is the Quay port. -/
structure Session where
  num : Nat
  ctx : Nat
  sender : Octets
  lastReq : Count
  cursor : Nat
  cellNumber : Nat
  nodeSelect : Nat
  findEui : Octets
  flowSelect : Nat
  statement : Octets
  shadow : Option CalShadow
deriving DecidableEq, Repr, Inhabited

/-- A Block1 transfer under way (R45): the octets of the encoding that have come. -/
structure Transfer where
  sess : Nat
  key : Nat
  data : Octets
  last : Count
deriving DecidableEq, Repr, Inhabited

/-- A Block2 read under way (R45): the encoding of the value, composed with its first block. -/
structure Sending where
  sess : Nat
  key : Nat
  data : Octets
deriving DecidableEq, Repr, Inhabited

/-- A CoAP message received (R41): its sender, its message ID and when it came, for the deduplication of RFC 7252. -/
structure Heard where
  peer : Octets
  mid : Nat
  at' : Count
deriving DecidableEq, Repr, Inhabited

/-- What a reply or a notification carries. `block` is one block of an encoding: its number, whether more follow, its SZX. -/
inductive Payload where
  | none
  | block (num : Nat) (more : Bool) (szx : Nat) (o : Octets)
  | handle (n : Nat)
  | value (v : Val)
  | records (rs : List EvRec)
  | octets (o : Octets)
  | detail (rc : Rc) (micros : Option Nat)
deriving DecidableEq, Repr, Inhabited

/-- A frame waiting for the Quay host (R46, R49): its place in the order of composition, its KIND, the object it names, the
event FIFO and SEQ of the last record it takes away when it has been clocked out. -/
structure QuayFrame where
  ord : Nat
  kind : Nat
  tok : Nat
  key : Nat
  code : Nat
  payload : Payload
  takes : Option (Nat × Nat)
deriving DecidableEq, Repr, Inhabited

/-- The Quay port (R47–R51): SPI or UART, the sensed mode, single or quad in force, the opcode of the chip-select period
in quad mode, the two outgoing queues, the replies that wait for one of the nine response places, how many octets of the frames
held have been clocked out, and the octets that hunting has still to look at. -/
structure Quay where
  uart : Bool
  baud : Nat
  spiMode : Nat
  quad : Bool
  opcode : Option Nat
  notifications : List QuayFrame
  responses : List QuayFrame
  waiting : List QuayFrame
  ord : Nat
  sent : Nat
  hunt : Octets
  wakeWait : Bool
deriving DecidableEq, Repr, Inhabited

/-- The replay window of an OSCORE context (R44): the highest sequence number accepted and the accepted ones among
the 32 at or below it. -/
structure Oscore where
  ctx : Nat
  high : Nat
  seen : List Nat
deriving DecidableEq, Repr, Inhabited

/-- One record of the change journal (R58). OLD and NEW are the CBOR encodings; the digest rule is applied when the
record is laid out. -/
structure JRec where
  seq : Nat
  kind : Nat
  session : Nat
  index : Nat
  sub : Nat
  persistent : Bool
  result : Rc
  time : Tick
  old : Octets
  new : Octets
deriving DecidableEq, Repr, Inhabited

/-- Sessions, FIFOs, the Quay port and the running procedures: PD1 SAFE (R80). -/
structure Mgmt where
  fifos : List Fifo
  sessions : List Session
  transfers : List Transfer
  sending : List Sending
  heard : List Heard        -- newest first
  quay : Quay
  oscore : List Oscore
  running : List Nat        -- handles of the running procedures, in order of start (R67)
  attachBy : Option Count   -- latest Attach that R441 and R449 allow, once PD2 CORE is released (R70)
  busy : Bool               -- a reset reached PD2 CORE and no Attach has followed (R70, R79)
deriving DecidableEq, Repr, Inhabited

/-! ## Compass Rose (spec 03) -/

/-- A retune waiting for its quiet window (R89, R93, R120): the cause it will report, the automatic cause it has
absorbed and since when that one waited, the codes of a set, and since when it waits. -/
structure RetuneReq where
  cause : Nat
  absorbed : Option (Nat × Count)
  set : Option (Nat × Nat)
  since : Count
deriving DecidableEq, Repr, Inhabited

/-- A retune at work (R90–R92). -/
structure RetuneRun where
  req : RetuneReq
  chain : Nat
  inserted : Bool
  rlBefore : Nat
  start : Count            -- start of its blanking
  lost : List (Nat × Nat)  -- channels on which a reception began in its blanking (R90)
deriving DecidableEq, Repr, Inhabited

/-- One aerial port (LA, LB, HA, HB): its FEM outputs (R114, R117), its blanking and its Bearing tuner's work. -/
structure Port where
  paEn : Bool
  lnaEn : Bool
  byp : Bool
  tr : Bool
  mode : Nat
  pabias : Nat
  blanked : Bool
  clipAt : Count            -- instant of the last step down (R82)
  retuneReq : Option RetuneReq
  retuneRun : Option RetuneRun
  holdoff : Option Count    -- end of PP_RETUNE_HOLDOFF (R92)
  badIso : Nat              -- consecutive groups below 45.0 dB, kept on the first port of each band (R110)
deriving DecidableEq, Repr, Inhabited

/-- How a frame on the air is addressed and protected (R176, R178, R307): PN_SHORT_ADDR as its source, the security level (0 none), and
the CCM* nonce of its sender: the EUI-64, the ASN, 5 octets. -/
structure Guard where
  src : Addr
  level : Nat
  nonce : Octets
deriving DecidableEq, Repr, Inhabited

/-- What an Enhanced Acknowledgement carries (R178): the Time Correction in µs, Frame Pending, the acknowledged sender as its
destination. -/
structure AckHead where
  corr : Int
  pending : Bool
  dst : Addr
deriving DecidableEq, Repr, Inhabited

/-- A frame on the air or planned: kind 0 data, 1 acknowledgement, 2 beacon, 3 assertion beacon; its reference or
node, its class, its requested power index, its carrier centre in Hz, its air time in µs and its start after the
transmit instant in µs. -/
structure AirFrame where
  kind : Nat
  ref : Nat
  node : Nat
  pan : Nat
  cls : Nat
  req : Nat
  freq : Nat
  bw : Nat
  start : Nat
  air : Nat
  ackReq : Bool
  sf : Nat
  cell : Nat
  asn : Nat
  shared : Bool
  tries : Nat
  ack : Option AckHead        -- what an acknowledgement carries
  guard : Guard
  mseq : Nat := 0
deriving DecidableEq, Repr, Inhabited

/-- A transmission group (R96): the chain, the port, the transmit instant, N_PLAN, the synthesiser frequency, the
table entry its carriers use, and its frames. -/
structure Group where
  chain : Nat
  port : Nat
  start : Tick
  nplan : Nat
  freq : Nat
  entry : Nat
  top : Nat                  -- max(req) of R99 over the whole group, once it starts
  frames : List AirFrame
deriving DecidableEq, Repr, Inhabited

/-- A calibration waiting (cause 0 command, 2 repeated loss of lock) or at work (cause 1 temperature) (R102–R104). -/
structure CalRun where
  cause : Nat
  tempBefore : Int
  inserted : Bool
  handle : Bool
deriving DecidableEq, Repr, Inhabited

/-- One transmit chain (TL1, TL2, TH1): its group and the driver gain code latched for it (R97, R98; none where the chain drives
nothing), its calibration work and its last lock. -/
structure Chain where
  group : Option Group
  drv : Option Nat
  calQueue : List Nat         -- oldest first: 0 commanded, 2 unlock-triggered
  calRun : Option CalRun
  pendingSince : Option Count
  stateSince : Count
  lastUnlock : Option Count
  lastLocked : Option Nat     -- frequency at which it was last LOCKED
  lastGroupEnd : Count
  window : Option Count       -- end of the quiet window that a calibration has taken (R103)
deriving DecidableEq, Repr, Inhabited

/-- The front end. -/
structure Front where
  ports : List Port
  chains : List Chain
  modeWrite : List Bool       -- LOW, HIGH: an aerial mode written and not yet in force (R111)
  calProc : List Nat          -- chains a running SYNTH_CALIBRATE has still to finish
  calBegan : Bool             -- its work has begun (R64)
deriving DecidableEq, Repr, Inhabited

/-! ## Receive chain (spec 04) -/

/-- A reception on a demodulator (R130–R135). -/
structure Recep where
  demod : Nat
  win : Nat
  k : Nat
  mode : Nat
  q : Nat
  second : Bool            -- a diversity second (R130)
  fireAt : Count
  claimedAt : Count
  hunt : Nat               -- Q at claim
  secondClaim : Bool
  gainStep : Bool
  sfd : Option (Tick × Count × Int × Int × Nat)  -- stamp, COUNT, RSSI, FREQ_OFFSET, gain step at the SFD
  freq : Nat               -- centre, spacing (Hz) and channel number of the filter it was claimed under (R123, R147)
  bw : Nat
  num : Nat
  kept : Bool              -- claimed on a window since changed; completes under the old filter (R147)
deriving DecidableEq, Repr, Inhabited

/-- A fire that found no demodulator and is repeated (R134). -/
structure Starved where
  win : Nat
  k : Nat
  mode : Nat
  first : Count
deriving DecidableEq, Repr, Inhabited

/-- A receive report (R137). -/
structure Report where
  sfdTime : Tick
  len : Nat
  mode : Nat
  mcs : Nat
  port : Nat
  win : Nat
  chan : Nat
  demod : Nat
  rssi : Int
  lqi : Nat
  huntQ : Nat
  freqOff : Int
  crcOk : Bool
  fec : Bool
  gainStep : Bool
  divPaired : Bool
  secondClaim : Bool
  fcs32 : Bool
  snr : Int
  gain : Nat
  endTime : Tick
  rxSeq : Nat
  freq : Nat                -- the channel it was received on: centre, spacing, channel number
  bw : Nat
  num : Nat
  psdu : Octets
deriving DecidableEq, Repr, Inhabited

/-- A report held for its diversity copy (R143). -/
structure Held where
  rep : Report
  pairDemod : Nat
  since : Count
deriving DecidableEq, Repr, Inhabited

/-- A receive domain's gating (R144, R145): whether it is powered for a cell, its listen window, what was seen in it. -/
structure Gate where
  open' : Bool
  listening : Bool
  fired : Bool
  energy : Bool            -- the window that is open has seen energy at or above WW_HUNT_ENERGY
  since : Tick             -- the opening of the latest listen window
  lastUse : Count          -- the last fire, or release of a reception, on the port
deriving DecidableEq, Repr, Inhabited

/-- An apply of the staged window set under way (R147): its set, its time, its handle (0 at a reset), the windows
changed and the receptions released once it has reached its boundary. -/
structure WinApply where
  staged : List (Nat × Val)
  at' : Tick
  handle : Nat
  aborted : Bool
  rearm : Option (List Nat × Nat)
deriving DecidableEq, Repr, Inhabited

/-- The receive chain. -/
structure Receive where
  recs : List Recep
  starved : List Starved
  held : List Held
  passed : List Report          -- reports passed to Helm that a late copy is compared with (R143)
  toHelm : List Report          -- reports that have reached Helm and await its decision
  starvedCount : List Nat       -- per band in the current 1 s interval
  preemptCount : List Nat
  peakBusy : Nat
  falseCount : List Nat         -- per window in the current second
  falseEventAt : List (Option Count)
  heldWin : List Bool           -- windows whose hunters are HELD for a re-arm
  gates : List Gate             -- per port
  rxSeq : Nat
  apply : Option WinApply
  rearming : List WinApply      -- aborted applies whose re-arm goes on behind a new apply, oldest first (R149)
  heldPort : List Bool          -- ports whose hunters are HELD for an ADC calibration (R472)
  lodestar : Bool               -- reception is reduced by R146
deriving DecidableEq, Repr, Inhabited

/-! ## Helm (spec 05) -/

/-- One cell entry (R156), its OPTIONS as separate bits. -/
structure Cell where
  sf : Nat
  tx : Bool
  rx : Bool
  shared : Bool
  timekeeping : Bool
  advertise : Bool
  rxProtect : Bool
  valid : Bool
  slot : Nat
  chanOff : Nat
  port : Nat
  node : Nat
  tag : Nat
deriving DecidableEq, Repr, Inhabited

/-- A slotframe's settings (R153). -/
structure Slotframe where
  enable : Bool
  pan : Nat
  length : Nat
  txOffset : Nat
deriving DecidableEq, Repr, Inhabited

/-- The service of one PAN (R151, R155): stopped, waiting for its epoch or running, a stop asked for, and the
assertion beacons still to be sent (R327). -/
structure Pan where
  running : Bool
  stopping : Bool
  assertLeft : Nat
  assertFirst : Option Nat   -- the ASN of the first of the 64 assertion slots (R327)
  psdu : Nat                 -- the length of the last Enhanced Beacon
deriving DecidableEq, Repr, Inhabited

/-- A frame handed over by Pilot for one of its reserved instances (R260), or a beacon or SHARED-cell frame due. -/
structure Due where
  kind : Nat                -- 0 data, 2 beacon
  ref : Nat
  node : Nat                -- the neighbour whose cell carries it
  pan : Nat
  cls : Nat
  promise : Tick
  air : Nat
  ackReq : Bool
  req : Nat
  sf : Nat
  cell : Nat
  asn : Nat
  chanOff : Nat
  port : Nat
  start : Tick
  shared : Bool
  tries : Nat               -- attempts made in SHARED cells (R181)
  mseq : Nat := 0           -- MAC sequence number of a frame that was not admitted (R316)
deriving DecidableEq, Repr, Inhabited

/-- An acknowledgement the device owes (R178, R179). -/
structure AckPlan where
  node : Nat
  pan : Nat
  port : Nat
  chain : Nat
  start : Tick
  air : Nat
  cls : Nat
  corr : Int
  freq : Nat
  bw : Nat
  pending : Option Bool     -- Frame Pending, once composed
  who : Nat                 -- MAC sequence number acknowledged
  dst : Addr                -- the sender acknowledged, as its frame named it
  asn : Nat                 -- of the cell of the frame acknowledged
deriving DecidableEq, Repr, Inhabited

/-- The wait for a node's acknowledgement (R168, R169). -/
structure AckWait where
  ref : Nat
  node : Nat
  pan : Nat
  sf : Nat
  cell : Nat
  asn : Nat
  opens : Tick
  latestSfd : Tick
  shared : Bool
  air : Nat
  cls : Nat
  tries : Nat
  freq : Nat                -- centre of the channel the acknowledgement is awaited on
  mseq : Nat := 0
  own : Bool := true        -- the member sent the frame itself; a shadow waits for those of the active too
deriving DecidableEq, Repr, Inhabited

/-- A Pilot reservation in the bins of a sub-band (R189). -/
structure Resv where
  ref : Nat
  inst : Nat                -- cell × 2^40 + ASN of the instance
  pan : Nat
  bin : Nat
  air : Nat
deriving DecidableEq, Repr, Inhabited

/-- The duty-cycle account of one sub-band (R187–R190): charges by bin (one below 0 is before COUNT 0), reservations, the limits in
force, the bin in which DUTY_EXHAUSTED was last raised. -/
structure Duty where
  charges : List (Int × Nat)
  resv : List Resv
  limit : Nat
  reserve : Nat
  warnedBin : Option Nat
  bin : Nat                 -- the bin at whose boundary the limit and reserve were taken last (R190)
deriving DecidableEq, Repr, Inhabited

/-- An inserted quiet slot (R166): kind 0 calibration, 1 retune. -/
structure Quiet where
  kind : Nat
  chain : Nat
  port : Nat
  pan : Nat
  asn : Nat
  deferred : Nat
  withheld : Nat
deriving DecidableEq, Repr, Inhabited

/-- A schedule commit under way (R158, R159). -/
structure Commit where
  epoch : Nat
  applyAt : Tick
  handle : Nat
  validated : Tick
  sfs : List Slotframe
  cells : List (Nat × Cell)
  left : List Nat           -- changed slotframes that have still to switch
  changed : Nat
  kept : Nat
  snap : List (Nat × Cell)  -- the staged cells it took
  switched : Bool           -- a slotframe has switched (R160)
deriving DecidableEq, Repr, Inhabited

/-- Helm. -/
structure Helm where
  pans : List Pan
  sfs : List Slotframe              -- the set in force
  cells : List (Nat × Cell)         -- entries in force, by cell number
  oldCells : List (Nat × Cell)      -- TX cells kept in old form for their reservations (R159)
  staged : List (Nat × Cell)
  commit : Option Commit
  upcoming : List (Nat × Nat)       -- (cell, ASN), by cell start
  due : List Due
  plans : List Group
  acks : List AckPlan
  waits : List AckWait
  duty : List Duty
  quiet : List Quiet
  lastQuiet : List (Option Count)   -- per chain
  backoff : List (Nat × Nat × Nat)  -- neighbour, BE, SHARED cells still to skip (R181)
  mirror : List Duty                -- the bins as last mirrored to DRAM (R191)
  mirrorAt : Option Count
  away : List (Count × Count)       -- the outages in STANDBY or OFF since the mirror, by COUNT (R191)
  blankedWin : List (Nat × Nat)     -- listen windows of the slot counted as lost (R165)
  macSeq : Nat                      -- the next MAC sequence number of a frame that is not admitted
deriving DecidableEq, Repr, Inhabited

/-! ## Almanac (spec 06) -/

/-- An entry of a neighbour table (R216). -/
structure NbEntry where
  eui : Nat
  idx : Nat
  second : Bool              -- port 1: LB or HB
  pan : Nat
  lqi : Nat
  stamp : Nat
deriving DecidableEq, Repr, Inhabited

/-- A request for the insertion engine (R202, R206): cause 0 join request, 1 NODE_ADD, 2 relayed join. -/
structure Insertion where
  eui : Nat
  pan : Nat
  pinned : Bool
  cause : Nat
  sess : Nat
  ident : Option Nat         -- identity and digest of the join request (R177)
  digest : Octets
deriving DecidableEq, Repr, Inhabited

/-- A cuckoo table as it lies in SRAM: the EUI-64 in (bucket, way), those in the stash, the relocation rotor and MOVES
(R199–R202). -/
structure Cuckoo where
  slots : List ((Nat × Nat) × Nat)
  stash : List Nat
  rotor : Nat
  moves : Nat
deriving DecidableEq, Repr, Inhabited

/-- A reassembly buffer (R228). -/
structure Reasm where
  orig : Nat
  tag : Nat
  size : Nat
  parts : List (Nat × Octets)
  udpPort : Option Nat
  dscp : Nat
  last : Count
deriving DecidableEq, Repr, Inhabited

/-- One forwarding pipeline, LOW or HIGH (R216–R220, R228). -/
structure Pipeline where
  nb : List NbEntry
  nbTable : Cuckoo
  learn : List NbEntry
  seeds : Nat × Nat
  overflow : List Count      -- learn requests dropped in the last second, newest first
  overflowAt : Option Count
  reasm : List Reasm
deriving DecidableEq, Repr, Inhabited

/-- The rehash (R204–R207): its phase (0 IDLE, 1 BUILD, 2 HOLD, 3 MIGRATE), the new seeds and layout, the pointer,
the delta records, and what it has tried. -/
structure Rehash where
  phase : Nat
  oldSeeds : Nat × Nat      -- the seeds a lookup uses beside the new ones in MIGRATE (R205)
  newSeeds : Nat × Nat
  layout : List ((Nat × Nat) × Nat)
  pointer : Nat
  delta : Nat
  tried : Nat
  restarts : Nat
  byProc : Bool
  aborted : Bool
  held : Count
deriving DecidableEq, Repr, Inhabited

/-- The RPL root of one PAN (R223): Trickle interval (log2 of ms) and counter, when the interval began, and whether its DIO has been sent
or suppressed. -/
structure Rpl where
  interval : Nat
  counter : Nat
  started : Bool
  since : Count
  fired : Bool
deriving DecidableEq, Repr, Inhabited

/-- What a checkpoint holds (R231). -/
structure Checkpoint where
  nodes : List Node
  table : Cuckoo
  time : Tick
  complete : Bool
deriving DecidableEq, Repr, Inhabited

/-- A record of the delta ring (R231): a node index and the entry after the change, none where it was removed. -/
structure DeltaRec where
  idx : Nat
  node : Option Node
deriving DecidableEq, Repr, Inhabited

/-- Almanac. -/
structure Almanac where
  nodes : List Node
  table : Cuckoo
  mirror : List Node            -- the DRAM mirror (R230)
  mirrorTable : Cuckoo
  queue : List Insertion
  rehash : Rehash
  freed : List (Nat × Count)    -- indices released and when (R196)
  shorts : List (Nat × Count)   -- short addresses released and when (R215)
  low : Pipeline
  high : Pipeline
  rpl : List Rpl
  removing : List Nat           -- nodes that NODE_REMOVE is to remove (R235)
  sweep : Nat × Nat × Nat × Nat -- STALE, evicted, deferred, lowest index evicted, in the pass
  routeFailAt : Option Count
  routeFails : List Count       -- routes that failed in the last second, newest first
  ckpt : Option Checkpoint      -- the copy being written
  ckptA : Option Checkpoint     -- the newer complete copy
  ckptB : Option Checkpoint     -- the other copy: the older complete one, or one that is being written or was cut short
  ring : List DeltaRec          -- the delta ring, newest first: the changes since the newer checkpoint began (R231)
  sinceCkpt : Nat               -- of these, the changes since the checkpoint being written began
  flushed : Bool                -- every record of the ring is written (R231)
  anchorSec : Nat               -- the Almanac second saved by Anchor
  heldNodes : List Node         -- nodes of the active that a shadow's rehash holds (R204, R205)
  source : Nat                  -- what the loader reads: 0 the DRAM mirror, 1 the checkpoint
  loaded : Bool                 -- the table loader has finished (R232)
  outage : Bool                 -- Sextant time across the outage was valid (R232)
deriving DecidableEq, Repr, Inhabited

/-! ## Pilot (spec 07) -/

/-- One flow (R237, R247, R270). -/
structure Flow where
  num : Nat
  enabled : Bool
  down : Bool
  cls : Nat
  weight : Nat
  rate : Nat
  burst : Nat
  attempts : Nat
  pendMax : Nat
  tokens : Int               -- 1/65,536 packet
  stamp : Count
  next : Count               -- next eligible time while in debt
deriving DecidableEq, Repr, Inhabited

/-- A terminal report in the report ring (R263, R264). -/
structure Term where
  ref : Nat
  reqId : Nat
  eui : Nat
  state : Nat
  made : Nat
  reason : Nat
  promise : Tick
  time : Tick
deriving DecidableEq, Repr, Inhabited

/-- The fields of the Consort trailer of a datagram (R323): PAIR_ID, originator, MAC sequence number, ASN and DIGEST, which are its
tag (R324), and whether PAIRED is set. -/
structure UpTag where
  pairId : Nat
  node : Nat
  seq : Nat
  asn : Nat
  digest : Octets
  paired : Bool
deriving DecidableEq, Repr, Inhabited

/-- An uplink datagram queued for the trunk (R239, R242): its scheduler flow (flow number; 4,096 + class for the
spool flows; 8,192 for replies and reports), its class and size, its LATE flag, and of a
datagram of the mesh its Consort tag (R323). `event`: of a passed PTP event message, the instant of its start of frame at the
MDI (R300). -/
structure UpFrame where
  id : Nat
  flow : Nat
  cls : Nat
  octets : Nat
  late : Bool
  tag : Option UpTag
  arrived : Count
  event : Option Tick := none
deriving DecidableEq, Repr, Inhabited

/-- The tags of a scheduler flow on one port (R243). -/
structure Tags where
  flow : Nat
  cls : Nat
  start : Nat
  finish : Nat
  last : Nat
deriving DecidableEq, Repr, Inhabited

/-- The uplink scheduler of one trunk port (R242, R243): its frames in order of arrival, its tags, V per class and
the largest finish tag issued per class. -/
structure Sched where
  frames : List UpFrame
  tags : List Tags
  vtime : List Nat
  issued : List Nat
deriving DecidableEq, Repr, Inhabited

/-- A request in the engine queue (R257). -/
structure AdmReq where
  msg : AdmMsg
  cls : Nat
  arrival : Count
deriving DecidableEq, Repr, Inhabited

/-- A reply remembered for 10 s (R254). `own` is false where only the active of the pair has decided so far (R267). -/
structure Answered where
  ctx : Nat
  reqId : Nat
  result : Rc
  detail : Nat
  ref : Nat
  promise : Option Tick
  insts : List Inst
  at' : Count
  own : Bool
deriving DecidableEq, Repr, Inhabited

/-- An entry of the timing wheel (R250): kind 0 handover, 1 report deadline, 2 flow debt, 3 hour-bucket debt; its
key; its due time (COUNT ns). -/
structure Wheel where
  kind : Nat
  key : Nat
  due : Count
deriving DecidableEq, Repr, Inhabited

/-- The running figures of one sampled flow or class (R266). -/
structure Sample where
  key : Nat                  -- flow number, or 65,536 + index of CLASS_STATS
  depths : List Nat
  delays : List Nat
deriving DecidableEq, Repr, Inhabited

/-- An admission context (R252). -/
structure AdmCtx where
  high : Nat
  seen : List Nat
deriving DecidableEq, Repr, Inhabited

/-- The ledger summary (R265). -/
structure Summary where
  lowest : Nat
  highest : Nat
  count : Nat
deriving DecidableEq, Repr, Inhabited

/-- Pilot. -/
structure Pilot where
  flows : List Flow             -- flows that differ from the default of R269
  frames : List Frame           -- the ledger
  reports : List Term           -- the report ring, newest first
  ports : List Sched            -- TA, TB
  spool : List UpFrame          -- oldest first
  spooled : Nat                 -- frames spooled in the outage
  spoolLost : Nat
  outageAt : Count
  dropsSec : List Nat           -- per class, with the second's event
  dropAt : List (Option Count)
  spoolFullSec : Nat
  spoolFullAt : Option Count
  queue : List AdmReq
  answered : List Answered
  busySec : Nat
  busyAt : Option Count
  coarse : List Wheel
  fine : List Wheel
  ctxs : List AdmCtx
  samples : List Sample
  flowStats : List (Nat × Octets)
  nextUp : Nat                  -- the next uplink frame's number
  sumDram : Summary
  sumLog : Summary
  sumAnchor : Option Summary
deriving DecidableEq, Repr, Inhabited

/-! ## Meridian (spec 08) -/

/-- A paused priority of a port (R294): until when, and since when its episode runs. -/
structure Pause where
  prio : Nat
  until' : Count
  since : Count
deriving DecidableEq, Repr, Inhabited

/-- What a receiver counts over groups (R278, R303): codewords, those corrected, symbols corrected, uncorrectable codewords. -/
structure LineTally where
  codewords : Nat
  corrected : Nat
  symbols : Nat
  uncorr : Nat
deriving DecidableEq, Repr, Inhabited

/-- TRUNK_LOOPBACK at work on a port (R303): its tier, its end, the counts so far and the last SNR. -/
structure Loopback where
  tier : Nat
  stop : Count
  tally : LineTally
  snr : Int
deriving DecidableEq, Repr, Inhabited

/-- What a training takes from TT_TIERS, TT_ROLE, TT_TEMPLATE and TT_TX_FIR when it begins (R280). -/
structure TrainPlan where
  tiers : Nat
  role : Nat
  template : Nat
  fir : Octets
deriving DecidableEq, Repr, Inhabited

/-- One trunk port (TA, TB). TT_LINK_STATE, TT_TIER_NOW and TT_ROLE_NOW are objects; this is what its training (R282–R287),
its OAM (R281), its pauses (R294) and its receive buffer (R295) work on. -/
structure TPort where
  since : Count              -- entry of the link state
  holdoff : Option Count     -- end of TT_RETRAIN_HOLDOFF, while it runs
  paged : Bool               -- the pages of LISTEN have been sent
  wakeAt : Count             -- last wake pattern sent
  page : Option Page         -- last valid partner page
  same : Nat                 -- identical valid pages in a row
  ackSent : Bool             -- a page with ACK has been sent
  firstPage : Count          -- first valid partner page
  announce : Count           -- its own first page of ANNOUNCE
  seed : Nat
  t1 : Count                 -- start of the attempt at the tier under training
  phase : Nat                -- 0 ECHO_M, 1 ECHO_S, 2 DUPLEX_2, 3 DUPLEX_N, 4 VERDICT, 5 lock
  common : Nat               -- tiers set in both TIERS fields
  tried : Nat                -- tiers tried, as TIERS
  best : Int                 -- best SNR measured
  verdict : Count            -- last VERDICT
  pfc : Bool                 -- the partner honours IEEE 802.1Qbb
  oamSeq : Nat
  bad : List (Count × Nat)   -- uncorrectable codewords counted within the last second, and when (R281)
  pauses : List Pause
  fill : Nat                 -- octets in the receive buffer
  xoff : Option (Count × Count)  -- XOFF in force: since when, last sent
  xoffAfter : Count          -- no new XOFF before (R295)
  loop : Option Loopback
  plan : TrainPlan           -- what its last training took
  wire : Option (Nat × Count)    -- the last frame it sent, and when the end of it passes the MDI (R286)
deriving DecidableEq, Repr, Inhabited

/-- The trunk: its ports, the sequence number of the redundancy tag, the duplicate table (source MAC, sequence number, when
entered), when a supervision frame last arrived per bit of RED_PARTNER_STATE, the ports TRUNK_RETRAIN still waits for, when the device last sent
supervision frames. -/
structure Trunk where
  ports : List TPort
  seq : Nat
  dups : List (Octets × Nat × Count)
  heard : List (Option Count)
  retrain : List Nat
  lifeAt : Option Count
  nodes : List (Octets × Nat × Count)   -- the node table of PRP: source, LAN, last heard (R296)
deriving DecidableEq, Repr, Inhabited


/-! ## Consort (spec 09) -/

/-- A stream message sent and not yet acknowledged (R314): its number, its records, its length, when it was first and
when it was last sent. -/
structure SentMsg where
  seq : Nat
  recs : List StreamRec
  octets : Nat
  first : Count
  last : Count
deriving DecidableEq, Repr, Inhabited

/-- What a member knows of one window: its own CARRIERS and DIGEST, whether the window is unknown to it, whether it is
SILENT, and whether it has been evaluated (R317, R318). -/
structure Window where
  k : Nat
  carriers : Nat
  digest : Octets
  unknown : Bool
  silent : Bool
  done : Bool
deriving DecidableEq, Repr, Inhabited

/-- A handover chosen (R325, R326): H, whether it is a revert, and whether CONSORT_HANDOVER asked for it. -/
structure Handover where
  at' : Tick
  revert : Bool
  byProc : Bool
deriving DecidableEq, Repr, Inhabited

/-- A plan record of the active: its transmit instant, its items, and the Sextant time of its arrival. -/
structure PlanRec where
  start : Tick
  items : List (Item × Nat)    -- with the end of the carrier, in µs after the instant
  came : Tick
deriving DecidableEq, Repr, Inhabited

/-- Consort's working state: PD3 HELM. -/
structure Consort where
  since : Count                -- entry of the state, for PAIRING the release
  lastPulse : Option Count     -- arrival of the last authentic pulse
  pulse : Option Pulse         -- that pulse
  pulseIn : Option Nat         -- its COUNTER
  windows : List Window        -- newest first
  run : List (Nat × Bool)      -- mismatching windows of the run, oldest first: k, and true for DIFFERENT
  plans : List PlanRec
  takeover : Bool              -- TAKEOVER of its pulses
  handover : Option Handover
  holdSince : Option Count     -- since when the conditions of revert hold
  bothSince : Option (Count × Nat)  -- since when both members are active, and the cause
  sent : Nat                   -- highest stream number sent
  unacked : List SentMsg       -- oldest first
  acked : Nat                  -- highest stream number received with every earlier one
  waiting : List StreamMsg     -- messages ahead of a missing one
  full : Nat                   -- full state transfer: 0 none, 1 between the marks, 2 received
  resyncRecs : Nat
  reserved : List (Nat × Nat)  -- highest ADMIT_SEQ_OUT reservation received, by context
  sfdAt : List (Option Count)  -- last SFD found, per band
  aired : List (Item × Tick × Tick)  -- its own carriers: start and end on air
  sentAt : List (Nat × Count)  -- STREAM_SENT of the partner above `acked`, lowest first, and when each was first known
  stale : List Nat             -- objects that the full state under way has not written (R314)
  missed : Nat                 -- highest window whose pulse has been counted as missed
deriving DecidableEq, Repr, Inhabited


/-! ## Sextant and the Chronometer (spec 10) -/

/-- What PD0 AON holds of Sextant (R346): the pair register and the mirrors. -/
structure Pair where
  tick : Nat
  count : Count
  offset : Int
  base : Count
  rate : Int
deriving DecidableEq, Repr, Inhabited

/-- A master heard on a port (0 TA, 1 TB): its last Announce and when it arrived (R341). -/
structure Master where
  ann : Announce
  port : Nat
  heard : Count
deriving DecidableEq, Repr, Inhabited

/-- The PTP logic of one trunk port: its last path delay measurements in ns, the last Sync of the selected master, its reception less
its origin (2^-16 ns) and the Sync interval in ns; the stamp of the last Delay_Req or Pdelay_Req, when it went, and the master's
logMinDelayReqInterval. -/
structure PtpPort where
  delays : List Nat
  lastSync : Option Count
  diff : Int
  syncInt : Nat
  asked : Option Tick
  askedAt : Option Count
  askLog : Int
  since : Option Count       -- from when the loss by no Sync counts: the last Sync, or when the port took its role
  silent : Bool              -- lost by no Sync, until one is heard again
deriving DecidableEq, Repr, Inhabited

/-- Sextant: OFFSET (2^-16 ns) and BASE (RATE is the object SX_RATE), the servo, the uncertainty, the slow counter and
the pair register, the PPS and PTP logic, and the Chronometer's working state. -/
structure Sextant where
  offset : Int
  base : Count
  f : Int                    -- frequency term, 2^-16 ppb
  lockRun : Nat
  lossRun : Nat
  recent : List Nat          -- |o| of the last 16 measurements since entry
  u0 : Nat                   -- U0 of R344
  since : Count              -- entry of the state the formula of R344 counts from
  uncHeld : Bool             -- the state left was LOCKED: the value is held, not grown
  slow : Nat                 -- the 48-bit slow counter
  pair : Pair
  ratioMeasured : Bool
  runTicks : Nat             -- ticks of the run of 32,768 under way
  runStart : Count
  pll : Bool                 -- the system PLL runs
  stopCause : Nat            -- cause of TIME_RECONCILED: 0 STANDBY or OFF, 1 reset, 2 REFCLK
  clkMode : Nat              -- the mode stored in PD0 AON (R349)
  modeChanged : Bool
  oscStopped : Bool          -- OSF became set while the PLL was stopped
  first : Bool               -- the first start of the device is not yet over (R345, R349)
  aonLost : Bool             -- the pair register was lost (R349)
  saved : Pair               -- the time and registers Anchor saved in Logbook
  savedUnc : Nat             -- with them TIME_UNC_NS
  savedAsns : List Nat       -- and the ASN of each PAN
  ppsEdges : Nat             -- edges toward qualification
  ppsLast : Option Tick
  ppsLastAt : Option Count
  ppsOut : Bool              -- pin PPS_OUT
  ppsRise : Count            -- its last rise
  ppsDone : List (Nat × Nat) -- the seconds an edge was produced for, as ranges
  setPending : Option (Nat × Nat)  -- seconds and uncertainty waiting for the next PPS_IN edge (R363)
  masters : List Master
  selected : Option Announce
  syncs : Nat                -- consecutive Syncs of the selected master on the SLAVE port
  ptp : List PtpPort
  calRun : Bool              -- the Chronometer's crystal runs
  fromSext : Option (Nat × Int)  -- CAL_FROM_SEXTANT: the second S and the offset
  trimAt : Count
  withheld : Nat             -- crystal cycles CAL_TRIM has still to withhold (R358)
deriving DecidableEq, Repr, Inhabited

/-! ## Binnacle (spec 11) -/

/-- A blob record (R375): the key and its generation, FLAGS, PURPOSE, USE_LIMIT, BOOT_EPOCH, the measurement it is sealed to, its IV,
the material it wraps, which leaves the device only wrapped (R395), and the recipient ID of an OSCORE context. -/
structure KeyRec where
  kind : Nat
  keyId : Nat
  gen : Nat
  persist : Bool
  expire : Bool
  limited : Bool
  protect : Bool
  check : Bool
  limit : Nat
  bootEpoch : Nat
  meas : Octets
  iv : Octets
  material : Octets
  recip : Octets
deriving DecidableEq, Repr, Inhabited

/-- A record of the key journal (R385): OP 1 PREPARE, 2 COMMIT, 3 CLEAN, 4 ABORT, 5 REMOVE. -/
structure KeyJ where
  seq : Nat
  op : Nat
  kind : Nat
  keyId : Nat
  oldGen : Nat
  newGen : Nat
  handle : Nat
deriving DecidableEq, Repr, Inhabited

/-- An import or a replacement at work (R383, R384): the record it brings, the generation in force before, whether its
PREPARE has been written. -/
structure ImportRun where
  replace : Bool
  new : KeyRec
  old : Nat
  prepared : Bool
  handle : Nat
deriving DecidableEq, Repr, Inhabited

/-- A previous generation kept in its slot for checking (R384 step 5). -/
structure Retained where
  old : KeyRec
  until' : Count
deriving DecidableEq, Repr, Inhabited

/-- A GROUP_ROLLOVER at work (R389): its switch, and after it the end of the overlap and the old key's index. -/
structure Rollover where
  pan : Nat
  key : Nat
  overlap : Nat
  at' : Tick
  switched : Option (Count × Option Nat)
deriving DecidableEq, Repr, Inhabited

/-- A root bank of the antifuse OTP (R365): the 32 octets programmed into it, empty with none, and its PROGRAMMED marker. -/
structure RootBank where
  secret : Octets
  marker : Bool
deriving DecidableEq, Repr, Inhabited

/-- Binnacle. -/
structure Binnacle where
  records : List KeyRec
  erased : Nat                      -- records erased and not yet reclaimed
  journal : List KeyJ               -- newest first
  imports : List ImportRun
  retained : List Retained
  uses : List ((Nat × Nat × Nat) × Nat) -- uses counted per key and generation since its load, or in all for PERSIST_COUNT
  spent : List (Nat × Nat × Nat)    -- PERSIST_COUNT keys that are exhausted
  txKey : List (Option Nat)         -- per PAN, the index named by the last completed switch
  roll : Option Rollover
  attest : Option (Nat × Octets)    -- session and body of the statement being signed
  badBlocks : Nat                   -- consecutive entropy blocks that failed
  root : List RootBank              -- root bank 0 and the spare bank 1 (R365)
  rootCheck : Nat                   -- the 32-bit check value held in the derivation hardware (R365)
  rootBad : Bool
  keccakOut : List Nat              -- Keccak engines out of service (R394)
  aesOut : List Nat                 -- AES engines out of service
  missingAt : List (Nat × Count)    -- last KEY_MISSING, by kind
  echo : List Nat                   -- OSCORE contexts whose first request is still to be answered with Echo (R390)
  oscoreSeq : List (Nat × Nat)      -- next sender sequence number of each OSCORE context (R390)
  directory : Bool                  -- the directory has been rebuilt (R378)
  other : Octets                    -- the measurement of the second sealing while BN_STATE reads DUAL (R392)
  cache : List (Nat × Nat)          -- the node link-key cache (R381): node index and KEY_GEN, the last used first
  void : List (Nat × Nat × Nat)     -- kind, KEY_ID and generation of keys whose counter record was lost (R464)
deriving DecidableEq, Repr, Inhabited


/-! ## Power (spec 12) -/

/-- The conditions of a domain (R399). -/
inductive Cond where
  | off | on | retention | biasChange | reset
deriving DecidableEq, Repr, Inhabited

/-- Entry to STANDBY (R408): the step under way (1 to 5), the start of step 1, the state it left, and whether the procedure has
been aborted. -/
structure Entry where
  step : Nat
  t0 : Count
  from' : Nat
  abort : Bool
deriving DecidableEq, Repr, Inhabited

/-- An Anchor save under way (R414, R415): what started it, when, VSENSE at the start. -/
structure Anchor where
  thermal : Bool
  start : Count
  vsense : Nat
deriving DecidableEq, Repr, Inhabited

/-- What ANCHOR_SAVED will report (R415, R416): outcome, last complete record, duration in µs, VSENSE, trigger. -/
structure AnchorEv where
  outcome : Nat
  record : Nat
  micros : Nat
  vsense : Nat
  trigger : Nat
deriving DecidableEq, Repr, Inhabited

/-- The body bias of a domain in mV without its trim, its SRAM wordline assist, and whether its clock is halved (R401, R510). -/
structure Bias where
  mv : Int
  assist : Bool
  halved : Bool
deriving DecidableEq, Repr, Inhabited

/-- The power logic: PD0 AON. -/
structure Power where
  dom : List Cond            -- PD0 to PD15
  bias : List Bias           -- PD0 to PD15 (R401)
  biasAt : Option Count      -- since when domains stand in BIAS_CHANGE (R402)
  off : Bool                 -- state OFF
  standby : Bool             -- state STANDBY
  entry : Option Entry
  holdWait : Bool            -- ENTER_HOLD waits for DOWN_PENDING 0
  lastRequest : Count        -- for HOLD_CORE_IDLE
  anchor : Option Anchor
  anchorEv : Option AnchorEv -- a save that no Attach has reported yet
  aonCause : Option Nat      -- cause of AON_LOST_DETECTED, until an Attach has reported it
  pfailN : Bool              -- pin PFAIL_N
  warn : Bool                -- VSENSE below WARN
  warnMin : Nat              -- lowest VSENSE of the episode
  thermal : Bool             -- the thermal condition of R417 holds the SAG reset
  brownout : Bool            -- the brownout latch (R420)
  woken : Bool               -- a wake source has asserted since step 1 or in STANDBY (R410)
  wakeAt : Option Count      -- Wake declared, until firmware attaches
  modeFrom : Option Count    -- a POWER_MODE write takes effect from the first cell powered up from here on
  modeInForce : Nat          -- 0 RUN, 1 GATED
  vbatAt : Option Count      -- last measurement of VBAT
  vbatLowAt : Option Count   -- last VBAT_LOW
deriving DecidableEq, Repr, Inhabited

/-! ## Reset, boot, Lodestar, Tack and Lookout (spec 13) -/

/-- A reset source that is asserted (R424): 0 PORA, 1 SAG, 2 PIN, 3 WARM, 4 CORE, 5 DOMAIN; the domain named by DOMAIN;
the end of its fixed hold, where it has one. -/
structure Hold where
  source : Nat
  dom : Nat
  until' : Option Count
deriving DecidableEq, Repr, Inhabited

/-- The state part of the Lodestar chart (R444). -/
structure ChartState where
  pair : Pair
  unc : Nat
  asns : List Nat
  time : Tick
deriving DecidableEq, Repr, Inhabited

/-- The Lodestar chart (R444): its generation, the objects of the geometry part, the cells of each slotframe it holds,
the cells left out, and the state part. -/
structure Chart where
  gen : Nat
  objs : List (Nat × Val)
  sfs : List Slotframe
  cells : List (Nat × Cell)
  leftOut : Nat
  state : Option ChartState
deriving DecidableEq, Repr, Inhabited

/-- A control core as Lookout sees it (R453): its last heartbeat, and whether its lateness has been reported. -/
structure Beat where
  last : Count
  warned : Bool
deriving DecidableEq, Repr, Inhabited

/-- A record of the Tack journal (R447): OP 1 STAGE_BEGIN, 2 SEGMENT, 3 STAGE_COMMIT, 4 VERIFY_COMMIT, 5 SEAL_COMMIT,
6 ATTACH_COMMIT, 7 CONFIRM_COMMIT, 8 ABANDON, 9 FALLBACK_BEGIN, 10 FALLBACK_COMMIT, 11 TRIAL_BOOT. -/
structure TackRec where
  seq : Nat
  op : Nat
  bank : Nat
  boots : Nat
  handle : Nat
  length : Nat
  segs : List Nat            -- numbers of the segments programmed
  digest : Octets
deriving DecidableEq, Repr, Inhabited

/-- A bank of the flash as its programmed pieces (R446): offset and octets. -/
abbrev Bank := List (Nat × Octets)

/-- What LEDGER_LOST will report (R265): its cause, the copies it can be issued from, the highest reference. -/
structure LostEv where
  cause : Nat
  copies : List (Nat × Summary)   -- the copies of the summary, newest first: 0 Anchor's, 1 DRAM's, 2 Logbook's (R265)
  last : Nat
deriving DecidableEq, Repr, Inhabited

/-- The instructions of IEEE 1149.1 that the JTAG port supports (R492). -/
inductive JtagIr where
  | bypass | idcode | sample | extest
deriving DecidableEq, Repr, Inhabited

/-- The reset controller, the boot ROM's choices, Lodestar's tables, Tack and Lookout. -/
structure ResetSt where
  holds : List Hold
  fresh : Bool               -- no source has asserted since the last Attach
  test : Bool                -- TEST_EN was high at the last release of PORA (R485)
  supply : Bool              -- every main rail is good and VSENSE has qualified (R496)
  trimRun : Bool             -- a trim load is under way (R431)
  pll : Bool                 -- the system PLL is locked (R429)
  metAt : Count              -- from here the next SEQ_GAP or the synchroniser counts (R428)
  coreRel : Option Count     -- release of PD2 CORE, until Attach
  helmRel : Count            -- release of PD3 HELM
  attachFrom : Count         -- the release that ATTACH_DURATION counts from
  reattach : List Nat        -- PD3 or PD4 after a DOMAIN reset, until the firmware reattaches (R441)
  domNo : Nat                -- the domain of the last DOMAIN reset, or 0xFF
  domWait : Option Nat       -- a DOMAIN_RESET that waits for a group to end (R455)
  warmAt : Option Count      -- WARM_RESTART asserts here (R454)
  lost : Option LostEv
  table : List Slotframe × List (Nat × Cell)  -- the table in force, while Lodestar serves from its chart
  lodestar : Bool            -- Lodestar has to start after a release of PD3 HELM
  lodeFrom : Nat             -- LODESTAR_UP_FORWARDED when the service started
  lodeStart : Nat            -- µs from the release of PD3 HELM to that start
  chart : Option Chart
  image : Option Nat         -- the image started: 0 A, 1 B, 2 Quay download, 3 recovery
  waitImage : Bool           -- the boot ROM waits for BOOT_IMAGE (R439)
  banks : List Bank          -- A, B
  tack : List TackRec        -- the Tack journal, newest first
  attachAt : Tick            -- the attach time of TACK_ARGS
  attaching : Option Count   -- CORE has been reset for ATTACH: t0 of R449
  upPorts : List Nat         -- trunk ports UP at that t0
  confirmed : Bool           -- a manager has written TACK_CONFIRM
  trialFrom : Count          -- the latest start of the image in trial
  fallCause : Nat            -- cause of TACK_FALLBACK
  resumed : Option (Nat × Nat × Nat)  -- TACK_RESUMED at Attach: OP, stage, TRIAL_BOOTS
  aborted : List Nat         -- procedures that resets have ended since the last Attach (R62)
  beats : List Beat          -- cores 0 to 3
  l1 : List Count            -- level-1 resets, newest first
  lookAt : Option Count      -- last Lookout event
  jtag : JtagIr              -- the instruction in the JTAG port (R492)
deriving DecidableEq, Repr, Inhabited

/-! ## Logbook, diagnostics and capture (spec 14) -/

/-- The wear of the line set of one persistent object (R467, R468), in 1/32 of a write of one line, and its writes in the
last 24 h of powered time. -/
structure Wear where
  key : Nat
  wear : Nat
  day : Nat
deriving DecidableEq, Repr, Inhabited

/-- A scrub pass (R465, R466): lines, bits corrected and lines moved so far, whether it is a catch-up pass, and
LB_POWER_ON_HOURS when the last pass ended. -/
structure Scrub where
  lines : Nat
  bits : Nat
  moved : Nat
  catchUp : Bool
  doneHours : Nat
deriving DecidableEq, Repr, Inhabited

/-- Logbook: the persistent values committed, the change journal, the start counts of the procedures, what Anchor and the
schedule commits keep there, wear and scrubbing. -/
structure Logbook where
  committed : List (Nat × Val)
  journal : List JRec          -- newest first, never empty (R521)
  queue : List (Nat × Val)     -- commits waiting behind the one at the head (R460)
  ceilings : List (Nat × Nat)  -- committed ceilings of the reserved counters, by counter (R463)
  starts : List (Nat × Nat)    -- start count of each procedure index (R63)
  sched : List Slotframe × List (Nat × Cell)  -- the newer complete schedule copy (R435)
  duty : Option (List Duty × Count)  -- duty-cycle bins saved by Anchor or on the way to STANDBY, and when (R191)
  wear : List Wear
  rotating : List Nat          -- persistent objects in rotation (R467)
  wearEvAt : Option Nat        -- LB_POWER_ON_HOURS of the last WEAR_PROJECTION
  scrub : Scrub
deriving DecidableEq, Repr, Inhabited

/-- A captured frame (R478, R479): its source and port, its time, its original length and the octets kept. -/
structure CapRec where
  seq : Nat
  source : Nat
  port : Nat
  time : Tick
  len : Nat
  flags : Nat
  node : Nat
  head : Octets                -- META: the receive report of R137 for an air reception
  data : Octets
deriving DecidableEq, Repr, Inhabited

/-- One capture FIFO (R478–R480). -/
structure CapFifo where
  recs : List CapRec
  lost : Nat
  flushed : Nat
  nextSeq : Nat
  stalled : List Stalled
deriving DecidableEq, Repr, Inhabited

/-- A self-test waiting for its gap or at work (R472, R475): its code and target, its handle (0 in the background), since
when it is due, whether it has begun and when. -/
structure TestRun where
  code : Nat
  target : Nat
  handle : Nat
  due : Count
  began : Bool
  start : Count
  late : Bool
  runs : Nat               -- runs of its procedure (R64)
deriving DecidableEq, Repr, Inhabited

/-- The banks of a table array (R473): the live bank whose turn it is, whether its copy is under way, the bank under test,
and whether the array has lost its spare. -/
structure Banks where
  turn : Nat
  copying : Bool
  freed : Option Nat
  retired : Bool
deriving DecidableEq, Repr, Inhabited

/-- Diagnostics. -/
structure Diag where
  caps : List CapFifo
  tests : List TestRun
  lastTest : List ((Nat × Nat) × Count)  -- end of the last run of each test and target
  banks : List Banks
  minuteMax : Option Int       -- the highest Tj of the minute
  minutes : Nat                -- powered minutes
  rotationAt : Nat             -- powered minutes at the last choice of R467
  wearAt : Nat                 -- powered minutes at the last projection of R468
  marginAt : List (Option Count)  -- last MARGIN_LOW, by domain
  calTj : List Int             -- Tj at the last calibration of each port, in 0.1 °C
deriving DecidableEq, Repr, Inhabited

/-! ## Outputs and the whole state -/

/-- The IEs of an Enhanced Beacon (R186): TSCH Synchronization with the ASN and the join metric, the TSCH Timeslot with the figures
that the spec gives it, the hopping sequence, and the slotframes with the cells they list. -/
structure Beacon where
  src : Addr
  asn : Nat
  join : Nat
  txOffset : Nat
  ackDelay : Nat
  slot : Nat
  hop : Octets
  frames : List (Nat × Nat × List Cell)   -- slotframe number, length, cells
deriving DecidableEq, Repr, Inhabited

/-- The rows of R114: an edge of the FEM controls of a transmitting port or of its driver. -/
inductive FemEdge where
  | lead (mode : Nat) | paOn | bias (code : Nat) | rampUp (gain : Nat) | rampDown | paOff | receive
deriving DecidableEq, Repr, Inhabited

/-- What the block gives out, newest first in State.out: the model's own record (log 4). -/
inductive Out where
  | reply (sess : Nat) (tok : Tok) (code : Nat) (p : Payload) (ports : List Nat)
  | reject (tok : Tok) (code : Nat) (ports : List Nat)
  | again (peer : Octets) (mid : Nat) (ports : List Nat)   -- the reply to a repeated message, once more (R41)
  | quay (o : Octets)                                      -- what the device drives on the Quay port (R48)
  | notify (sess tok : Nat) (recs : List EvRec) (ports : List Nat)
  | air (g : Group) (ball : Tick)                          -- a group and its transmit instant at the port's balls (R116)
  | fem (port : Nat) (edges : List (FemEdge × Tick))       -- the FEM controls and the ramp of a port, at the balls (R114)
  | admReply (dst ctx seq reqId : Nat) (result : Rc) (detail attempts ref : Nat) (promise first : Option Tick)
  | admReport (dst ctx seq eui : Nat) (t : Term)
  | queryReply (dst ctx seq eui : Nat) (t : Term)
  | trunkFrame (port : Nat) (f : UpFrame) (trailer : Octets)
  | busError (channel addr : Nat)                          -- the error response to the initiator of an access (R27)
  | udp (dst : Nat) (o : Octets)                           -- an admission message, octet by octet (R251)
  | neighbour (port : Nat) (ask : AddrAsk) (mac : Octets)   -- an answer for an address of the device (R292)
  | ether (port vlan pcp : Nat) (dst src hop : Octets) (red : RedTag)   -- what a sent frame carries, and its next hop (R239, R291, R292, R296)
  | control (kind node : Nat)
  | message (m : ControlMsg)                               -- what a message of the control plane carries (R213, R223)
  | beacon (pan : Nat) (b : Beacon)                        -- what an Enhanced Beacon carries (R186)
  | pairFrame (port : Nat) (frame : Octets)                -- a Consort message in its IEEE 802.3 frame
  | pulse (p : Pulse) (o : Octets)
  | stream (seq : Nat) (recs : List StreamRec)
  | stored (what : Nat) (o : Octets)                       -- what Binnacle writes: 1 a blob record (R375), 2 a key journal record (R385)
  | line (kind port : Nat) (args : List Nat)
  | blocks (port : Nat) (scr : List Bool) (l : List CodeBlock)   -- scrambled blocks, and the 58 scrambled bits before them (R274)
  | levels (port : Nat) (l wave : List Int)                -- symbols of a port, and the line through its transmit FIR (R275–R277, R279)
  | prbs (port order start n : Nat) (inverted : Bool) (taps : List Int)   -- n symbols of a PRBS from a state of its register (R284)
deriving DecidableEq, Repr, Inhabited

/-- Why the machine stops. No rule of the spec stops the block on a command, so nothing raises this today. -/
inductive Fault where
  /-- Raised by no command: kept so that a stop has a name of its own. Safe. -/
  | stuck
deriving DecidableEq, Repr, Inhabited

/-- Why a command has no meaning. -/
inductive Refusal where
  /-- Raised by exec for a row of the table that has no meaning yet. Safe: the machine stops. -/
  | notModelled (mnemonic : String)
deriving DecidableEq, Repr, Inhabited

/-- The whole block. -/
structure State where
  obj : List (Nat × Val)     -- the object dictionary: entries that differ from their defaults, keys rising
  lb : Logbook
  mg : Mgmt
  fe : Front
  rx : Receive
  helm : Helm
  alm : Almanac
  pilot : Pilot
  tk : Trunk
  cs : Consort
  bn : Binnacle
  sx : Sextant
  pwr : Power
  diag : Diag
  rst : ResetSt
  now : Count                -- COUNT, the free-running counter, ns
  free : Nat                 -- how many free values have been drawn (the model's own field)
  out : List Out
  pending : List Instr
deriving DecidableEq, Repr

/-! ## Reset: the first power-up of a factory-fresh device, PORA asserted (R9, R420, R424, R456, R521; log 2) -/

/-- No slotframe in force: the 64 slotframes at their defaults (R193). -/
def noSfs : List Slotframe := List.replicate 64 { enable := false, pan := 0, length := 101, txOffset := 4000 }

/-- An event FIFO with nothing in it. -/
def Fifo.blank : Fifo := { recs := [], lost := 0, flushed := 0, nextSeq := 0, held := [], observer := none, stalled := [] }

/-- Management. CAL_OSC_STOPPED of the first power-up (R355) is held until Attach (R79). -/
def Mgmt.reset : Mgmt :=
  let osc : EvRec := { code := 0x1401, sev := 2, seq := 0, time := 0, unc := 0xFFFFFFFF, source := 0x2400,
                       domain := Config.eventDomain 0x1401, valid := false, late := true, param := List.replicate 36 0 }
  { fifos := [{ Fifo.blank with held := [osc] }] ++ List.replicate 7 Fifo.blank,
    sessions := [{ num := 0, ctx := 0, sender := [], lastReq := 0, cursor := 0, cellNumber := 0, nodeSelect := 0x3FFFF,
                   findEui := List.replicate 8 0, flowSelect := 1, statement := [], shadow := none }],
    transfers := [], sending := [], heard := [],
    quay := { uart := false, baud := 115200, spiMode := 0, quad := false, opcode := none, notifications := [], responses := [],
              waiting := [], ord := 0, sent := 0, hunt := [], wakeWait := false },
    oscore := [], running := [], attachBy := none, busy := true }

/-- Logbook with nothing committed: every persistent value is at its default, the journal holds its first record (R521). -/
def Logbook.reset : Logbook :=
  { committed := [],
    journal := [{ seq := 0, kind := 4, session := 0, index := 0, sub := 0, persistent := false, result := .ok, time := 0,
                  old := [], new := [] }],
    queue := [], ceilings := [], starts := [], sched := (noSfs, []), duty := none, wear := [], rotating := [],
    wearEvAt := none, scrub := { lines := 0, bits := 0, moved := 0, catchUp := false, doneHours := 0 } }

def Front.reset : Front :=
  { ports := List.replicate 4
      { paEn := false, lnaEn := false, byp := true, tr := false, mode := 0, pabias := 0, blanked := false, clipAt := 0,
        retuneReq := none, retuneRun := none, holdoff := none, badIso := 0 },
    chains := List.replicate 3
      { group := none, drv := none, calQueue := [], calRun := none, pendingSince := none, stateSince := 0, lastUnlock := none,
        lastLocked := none, lastGroupEnd := 0, window := none },
    modeWrite := [false, false], calProc := [], calBegan := false }

def Receive.reset : Receive :=
  { recs := [], starved := [], held := [], passed := [], toHelm := [], starvedCount := [0, 0], preemptCount := [0, 0],
    peakBusy := 0, falseCount := List.replicate 6 0, falseEventAt := List.replicate 6 none,
    heldWin := List.replicate 6 false, gates := List.replicate 4 { open' := false, listening := false, fired := false, energy := false, since := 0, lastUse := 0 },
    rxSeq := 0, apply := none, rearming := [], heldPort := List.replicate 4 false, lodestar := true }

def Helm.reset : Helm :=
  { pans := List.replicate 4 { running := false, stopping := false, assertLeft := 0, assertFirst := none, psdu := 0 },
    sfs := noSfs, cells := [], oldCells := [], staged := [], commit := none, upcoming := [], due := [], plans := [],
    acks := [], waits := [],
    duty := List.replicate 16 { charges := [], resv := [], limit := 0, reserve := 0, warnedBin := none, bin := 0 },
    quiet := [], lastQuiet := List.replicate 3 none, backoff := [], mirror := [], mirrorAt := none, away := [], blankedWin := [], macSeq := 0 }

def Almanac.reset : Almanac :=
  let empty : Cuckoo := { slots := [], stash := [], rotor := 0, moves := 0 }
  let pipe : Pipeline := { nb := [], nbTable := empty, learn := [], seeds := (0, 0), overflow := [], overflowAt := none, reasm := [] }
  { nodes := [], table := empty, mirror := [], mirrorTable := empty, queue := [],
    rehash := { phase := 0, oldSeeds := (0, 0), newSeeds := (0, 0), layout := [], pointer := 0, delta := 0, tried := 0, restarts := 0,
                byProc := false, aborted := false, held := 0 },
    freed := [], shorts := [], low := pipe, high := pipe,
    rpl := List.replicate 4 { interval := 0, counter := 0, started := false, since := 0, fired := false }, removing := [], sweep := (0, 0, 0, 0),
    routeFailAt := none, routeFails := [], ckpt := none, ckptA := none, ckptB := none, ring := [], sinceCkpt := 0, flushed := true, anchorSec := 0,
    heldNodes := [], source := 1, loaded := false, outage := false }

def Pilot.reset : Pilot :=
  let zero : Summary := { lowest := 0, highest := 0, count := 0 }
  { flows := [], frames := [], reports := [],
    ports := List.replicate 2 { frames := [], tags := [], vtime := List.replicate 4 0, issued := List.replicate 4 0 },
    spool := [], spooled := 0, spoolLost := 0, outageAt := 0, dropsSec := List.replicate 4 0,
    dropAt := List.replicate 4 none, spoolFullSec := 0, spoolFullAt := none, queue := [], answered := [], busySec := 0,
    busyAt := none, coarse := [], fine := [], ctxs := List.replicate 16 { high := 0, seen := [] }, samples := [],
    flowStats := [], nextUp := 0, sumDram := zero, sumLog := zero, sumAnchor := none }

def Trunk.reset : Trunk :=
  { ports := List.replicate 2
      { since := 0, holdoff := none, paged := false, wakeAt := 0, page := none, same := 0, ackSent := false, firstPage := 0,
        announce := 0, seed := 0, t1 := 0, phase := 0, common := 0, tried := 0, best := 0, verdict := 0, pfc := false,
        oamSeq := 0, bad := [], pauses := [], fill := 0, xoff := none, xoffAfter := 0, loop := none,
        plan := { tiers := 0, role := 0, template := 0, fir := [] }, wire := none },
    seq := 0, dups := [], heard := List.replicate 4 none, retrain := [], lifeAt := none, nodes := [] }

def Consort.reset : Consort :=
  { since := 0, lastPulse := none, pulse := none, pulseIn := none, windows := [], run := [], plans := [], takeover := false,
    handover := none, holdSince := none, bothSince := none, sent := 0, unacked := [], acked := 0, waiting := [], full := 0,
    resyncRecs := 0, reserved := [], sfdAt := [none, none], aired := [], sentAt := [], stale := [], missed := 0 }

def Sextant.reset : Sextant :=
  let zero : Pair := { tick := 0, count := 0, offset := 0, base := 0, rate := 0 }
  { offset := 0, base := 0, f := 0, lockRun := 0, lossRun := 0, recent := [], u0 := 0xFFFFFFFF, since := 0, uncHeld := false,
    slow := 0, pair := zero, ratioMeasured := false, runTicks := 0, runStart := 0, pll := false, stopCause := 1, clkMode := 0,
    modeChanged := false, oscStopped := true, first := true, aonLost := true, saved := zero, savedUnc := 0xFFFFFFFF, savedAsns := List.replicate 4 0, ppsEdges := 0, ppsLast := none,
    ppsLastAt := none, ppsOut := false, ppsRise := 0, ppsDone := [], setPending := none, masters := [], selected := none,
    syncs := 0, ptp := List.replicate 2 { delays := [], lastSync := none, diff := 0, syncInt := 2000000000, asked := none, askedAt := none, askLog := 0, since := none, silent := false }, calRun := true,
    fromSext := none, trimAt := 0, withheld := 0 }

def Binnacle.reset : Binnacle :=
  { records := [], erased := 0, journal := [], imports := [], retained := [], uses := [], spent := [],
    txKey := List.replicate 4 none, roll := none, attest := none, badBlocks := 0,
    root := [{ secret := Config.factoryRoot, marker := true }, { secret := [], marker := false }],
    rootCheck := Config.rootCheck Config.factoryRoot, rootBad := false, keccakOut := [],
    aesOut := [], missingAt := [], echo := [], oscoreSeq := [], directory := false, other := [], cache := [], void := [] }

def Power.reset : Power :=
  { dom := List.replicate 16 .reset, 
    bias := (List.range 16).map (fun d => { mv := if d = 2 ∨ d = 4 then 150 else 0, assist := false, halved := false }), off := false, standby := false, entry := none, biasAt := none, holdWait := false, lastRequest := 0,
    anchor := none, anchorEv := none, aonCause := some 0, pfailN := false, warn := false, warnMin := 1000, thermal := false,
    brownout := false, woken := false, wakeAt := none, modeFrom := none, modeInForce := 0, vbatAt := none,
    vbatLowAt := none }

def Diag.reset : Diag :=
  { caps := List.replicate 4 { recs := [], lost := 0, flushed := 0, nextSeq := 0, stalled := [] }, tests := [],
    lastTest := [], banks := List.replicate 5 { turn := 0, copying := false, freed := none, retired := false },
    minuteMax := none, minutes := 0, rotationAt := 0, wearAt := 0, marginAt := List.replicate 16 none, calTj := List.replicate 4 0 }

def ResetSt.reset : ResetSt :=
  { holds := [{ source := 0, dom := 0, until' := none }], fresh := false, test := false, supply := false, trimRun := false,
    pll := false, metAt := 0, coreRel := none, helmRel := 0, attachFrom := 0, reattach := [], domNo := 0xFF,
    domWait := none, warmAt := none, lost := none, table := (noSfs, []), lodestar := true, lodeFrom := 0, lodeStart := 0,
    chart := none, image := none, waitImage := false, banks := [[], []], tack := [], attachAt := 0, attaching := none,
    upPorts := [], confirmed := false, trialFrom := 0, fallCause := 0, resumed := none, aborted := [],
    beats := List.replicate 4 { last := 0, warned := false }, l1 := [], lookAt := none,
    jtag := .idcode }

/-- The block right after reset: every object at its default (R9), RESET_CAUSE at PORA, no command waiting. -/
def State.reset : State :=
  { obj := [], lb := Logbook.reset, mg := Mgmt.reset, fe := Front.reset, rx := Receive.reset, helm := Helm.reset,
    alm := Almanac.reset, pilot := Pilot.reset, tk := Trunk.reset, cs := Consort.reset, bn := Binnacle.reset,
    sx := Sextant.reset, pwr := Power.reset, diag := Diag.reset, rst := ResetSt.reset, now := 0, free := 0, out := [],
    pending := [] }

end Sys2Proof.Machine
end

