-- ==== Sys2Proof/Machine/Objects.lean ====
section
/-! DEFINITION. The object dictionary (spec 16 R514–R519 and the object tables of chapters 02 to 14): one row per object
row of the manual, with its indices, subindices, type, access class, default, range, persistence and owner, and the key
of each object under the manual's own name. Keys are index × 256 + subindex. -/
namespace Sys2Proof.Machine

/-- The types of R36. -/
inductive Ty where
  | bool | u (bits : Nat) | i (bits : Nat) | time64 | octets (n : Nat) | utf8 (n : Nat)
deriving DecidableEq, Repr, Inhabited

/-- The access classes of R37. -/
inductive Acc where
  | ro | rw | wo | rws
deriving DecidableEq, Repr, Inhabited

/-- The Range column. `special` ranges depend on another object or on a layout rule and are checked in Operands. -/
inductive Rng where
  | any | iv (lo hi : Int) | oneOf (l : List Int) | step (lo hi d : Int) | orZero (lo hi : Int)
  | mask (m : Nat) | isTrue | isFalse | octMax (m : Nat) | gainStep | winFirst | winSpacing | winModes | special
deriving DecidableEq, Repr, Inhabited

/-- The owning domain: a fixed one, the receive domain of the port, the domain of the chain, or the domain of the
trunk port that the index names (R119, R305). -/
inductive Own where
  | dom (n : Nat) | rxPort | chain | trunkPort
deriving DecidableEq, Repr, Inhabited

/-- The Default column: one value, or one for each index of the family. -/
inductive Dflt where
  | all (v : Val) | each (l : List Val)
deriving DecidableEq, Repr, Inhabited

/-- One row of an object table: indices `ix` to `ix + n − 1`, subindices `lo` to `hi`. -/
structure Row where
  ix : Nat
  n : Nat
  lo : Nat
  hi : Nat
  ty : Ty
  acc : Acc
  dflt : Dflt
  rng : Rng
  persist : Bool
  own : Own
deriving DecidableEq, Repr, Inhabited

namespace Obj

/-- The key of a subindex of an index. -/
abbrev key (ix sub : Nat) : Nat := ix * 256 + sub

abbrev DEVICE_ID_COUNT : Nat := 0x100000
abbrev VENDOR_NAME : Nat := 0x100001
abbrev PART_NAME : Nat := 0x100002
abbrev SILICON_STEPPING : Nat := 0x100003
abbrev DEVICE_EUI64 : Nat := 0x100004
abbrev FIRMWARE_VERSION : Nat := 0x100005
abbrev FIRMWARE_DIGEST : Nat := 0x100006
abbrev SESSION_COUNT : Nat := 0x110000
abbrev SESSION_IDLE : Nat := 0x110100
abbrev SESSION_CLOSE : Nat := 0x110200
abbrev UNPROTECTED_REJECTS : Nat := 0x110300
abbrev QUAY_MODE : Nat := 0x110400
abbrev QUAY_CRC_ERRORS : Nat := 0x110500
abbrev SESSION_ID : Nat := 0x110600
abbrev JOURNAL_HEAD : Nat := 0x111000
abbrev JOURNAL_TAIL : Nat := 0x111001
abbrev JOURNAL_CURSOR : Nat := 0x111100
abbrev JOURNAL_RECORD : Nat := 0x111200
abbrev EVT_COUNT (p : Nat) : Nat := 0x120000 + p * 256
abbrev EVT_RECORDS (p : Nat) : Nat := 0x120001 + p * 256
abbrev EVT_DEPTH (p : Nat) : Nat := 0x120002 + p * 256
abbrev EVT_LOST (p : Nat) : Nat := 0x120003 + p * 256
abbrev EVT_FLUSH (p : Nat) : Nat := 0x120004 + p * 256
abbrev EVT_FLUSHED (p : Nat) : Nat := 0x120005 + p * 256
abbrev EVT_NEXT_SEQ (p : Nat) : Nat := 0x120006 + p * 256
abbrev PROC_RUNNING_COUNT : Nat := 0xF00000
abbrev PROC_RUNNING (i : Nat) : Nat := 0xF00001 + i
abbrev PROC_ABORT : Nat := 0xF00100
abbrev PP_PORT_COUNT (p : Nat) : Nat := 0x300000 + p * 256
abbrev PP_RX_ENABLE (p : Nat) : Nat := 0x300001 + p * 256
abbrev PP_GAIN_MODE (p : Nat) : Nat := 0x300002 + p * 256
abbrev PP_GAIN_FIXED (p : Nat) : Nat := 0x300003 + p * 256
abbrev PP_GAIN_STEP_NOW (p : Nat) : Nat := 0x300004 + p * 256
abbrev PP_GAIN_UP_HOLD (p : Nat) : Nat := 0x300005 + p * 256
abbrev PP_RX_DELAY (p : Nat) : Nat := 0x300006 + p * 256
abbrev PP_TX_DELAY (p : Nat) : Nat := 0x300007 + p * 256
abbrev PP_CLIP_EVENTS (p : Nat) : Nat := 0x300008 + p * 256
abbrev PP_BLANKED_RX (p : Nat) : Nat := 0x300009 + p * 256
abbrev PP_BEARING_COUNT (p : Nat) : Nat := 0x301000 + p * 256
abbrev PP_TUNE_C1 (p : Nat) : Nat := 0x301001 + p * 256
abbrev PP_TUNE_C2 (p : Nat) : Nat := 0x301002 + p * 256
abbrev PP_RETURN_LOSS (p : Nat) : Nat := 0x301003 + p * 256
abbrev PP_MATCH_STATE (p : Nat) : Nat := 0x301004 + p * 256
abbrev PP_RETUNE_HOLDOFF (p : Nat) : Nat := 0x301005 + p * 256
abbrev PP_RETUNE_COUNT (p : Nat) : Nat := 0x301006 + p * 256
abbrev AERIAL_COUNT : Nat := 0x302000
abbrev LOW_AERIAL_MODE : Nat := 0x302001
abbrev HIGH_AERIAL_MODE : Nat := 0x302002
abbrev LOW_ISOLATION : Nat := 0x302003
abbrev HIGH_ISOLATION : Nat := 0x302004
abbrev LOW_AERIAL_IN_FORCE : Nat := 0x302005
abbrev HIGH_AERIAL_IN_FORCE : Nat := 0x302006
abbrev CC_CHAIN_COUNT (p : Nat) : Nat := 0x303000 + p * 256
abbrev CC_PORTS (p : Nat) : Nat := 0x303001 + p * 256
abbrev CC_TOP_POWER (p : Nat) : Nat := 0x303002 + p * 256
abbrev CC_MAX_INDEX (p : Nat) : Nat := 0x303003 + p * 256
abbrev CC_CARRIER_LIMIT (p : Nat) : Nat := 0x303004 + p * 256
abbrev CC_SYNTH_STATE (p : Nat) : Nat := 0x303005 + p * 256
abbrev CC_SYNTH_FREQ (p : Nat) : Nat := 0x303006 + p * 256
abbrev CC_CAL_DELTA_T (p : Nat) : Nat := 0x303007 + p * 256
abbrev CC_CAL_TEMP (p : Nat) : Nat := 0x303008 + p * 256
abbrev CC_CAL_TIME (p : Nat) : Nat := 0x303009 + p * 256
abbrev CC_CAL_PENDING (p : Nat) : Nat := 0x30300A + p * 256
abbrev CC_TX_GROUPS (p : Nat) : Nat := 0x30300B + p * 256
abbrev CC_TX_UNLOCK_ABORTS (p : Nat) : Nat := 0x30300C + p * 256
abbrev CC_PTAB_COUNT (p : Nat) : Nat := 0x304000 + p * 256
abbrev CC_PTAB (p : Nat) (i : Nat) : Nat := 0x304001 + p * 256 + i
abbrev WW_COUNT (p : Nat) : Nat := 0x340000 + p * 256
abbrev WW_ENABLE (p : Nat) : Nat := 0x340001 + p * 256
abbrev WW_FIRST (p : Nat) : Nat := 0x340002 + p * 256
abbrev WW_SPACING (p : Nat) : Nat := 0x340003 + p * 256
abbrev WW_CHANNELS (p : Nat) : Nat := 0x340004 + p * 256
abbrev WW_CHAN0 (p : Nat) : Nat := 0x340005 + p * 256
abbrev WW_MODES (p : Nat) : Nat := 0x340006 + p * 256
abbrev WW_HUNT_Q (p : Nat) : Nat := 0x340007 + p * 256
abbrev WW_Q_MARGIN (p : Nat) : Nat := 0x340008 + p * 256
abbrev WW_HUNT_ENERGY (p : Nat) : Nat := 0x340009 + p * 256
abbrev WW_PREAMBLE_MAX (p : Nat) : Nat := 0x34000A + p * 256
abbrev WW_FALSE_LIMIT (p : Nat) : Nat := 0x34000B + p * 256
abbrev WW_NOW_COUNT (p : Nat) : Nat := 0x341000 + p * 256
abbrev WW_ENABLE_NOW (p : Nat) : Nat := 0x341001 + p * 256
abbrev WW_FIRST_NOW (p : Nat) : Nat := 0x341002 + p * 256
abbrev WW_SPACING_NOW (p : Nat) : Nat := 0x341003 + p * 256
abbrev WW_CHANNELS_NOW (p : Nat) : Nat := 0x341004 + p * 256
abbrev WW_CHAN0_NOW (p : Nat) : Nat := 0x341005 + p * 256
abbrev WW_MODES_NOW (p : Nat) : Nat := 0x341006 + p * 256
abbrev WW_HUNT_Q_NOW (p : Nat) : Nat := 0x341007 + p * 256
abbrev WW_Q_MARGIN_NOW (p : Nat) : Nat := 0x341008 + p * 256
abbrev WW_HUNT_ENERGY_NOW (p : Nat) : Nat := 0x341009 + p * 256
abbrev WW_PREAMBLE_MAX_NOW (p : Nat) : Nat := 0x34100A + p * 256
abbrev WW_FALSE_LIMIT_NOW (p : Nat) : Nat := 0x34100B + p * 256
abbrev POOL_COUNT : Nat := 0x342000
abbrev DEMOD_BUSY_NOW : Nat := 0x342001
abbrev DEMOD_BUSY_PEAK : Nat := 0x342002
abbrev HUNTERS_IN_FORCE : Nat := 0x342003
abbrev RX_REPORTS : Nat := 0x342004
abbrev PP_RXSTAT_COUNT (p : Nat) : Nat := 0x343000 + p * 256
abbrev PP_RX_FRAMES (p : Nat) : Nat := 0x343001 + p * 256
abbrev PP_RX_CRC_FAIL (p : Nat) : Nat := 0x343002 + p * 256
abbrev PP_FALSE_PREAMBLE (p : Nat) : Nat := 0x343003 + p * 256
abbrev PP_PHR_ERROR (p : Nat) : Nat := 0x343004 + p * 256
abbrev PP_SECOND_CLAIMS (p : Nat) : Nat := 0x343005 + p * 256
abbrev PP_PREEMPTED (p : Nat) : Nat := 0x343006 + p * 256
abbrev PP_DEMOD_STARVED (p : Nat) : Nat := 0x343007 + p * 256
abbrev PP_GATE_OPENS (p : Nat) : Nat := 0x343008 + p * 256
abbrev PP_GATE_ENERGY_ONLY (p : Nat) : Nat := 0x343009 + p * 256
abbrev PP_LOCKED_FIRES (p : Nat) : Nat := 0x34300A + p * 256
abbrev PP_RSSI_OFFSET (p : Nat) : Nat := 0x34300B + p * 256
abbrev PP_RSSI_OFFSET_EXT (p : Nat) : Nat := 0x34300C + p * 256
abbrev DIVERSITY_COUNT : Nat := 0x344000
abbrev LOW_DIVERSITY_DUP : Nat := 0x344001
abbrev HIGH_DIVERSITY_DUP : Nat := 0x344002
abbrev PN_COUNT (p : Nat) : Nat := 0x400000 + p * 256
abbrev PN_ENABLE (p : Nat) : Nat := 0x400001 + p * 256
abbrev PN_PAN_ID (p : Nat) : Nat := 0x400002 + p * 256
abbrev PN_BAND (p : Nat) : Nat := 0x400003 + p * 256
abbrev PN_SLOT_DURATION (p : Nat) : Nat := 0x400004 + p * 256
abbrev PN_EPOCH (p : Nat) : Nat := 0x400005 + p * 256
abbrev PN_SHORT_ADDR (p : Nat) : Nat := 0x400006 + p * 256
abbrev PN_ACK_DELAY (p : Nat) : Nat := 0x400007 + p * 256
abbrev PN_PREAMBLE (p : Nat) : Nat := 0x400008 + p * 256
abbrev PN_ACK_PSDU (p : Nat) : Nat := 0x400009 + p * 256
abbrev PN_TX_MODE (p : Nat) : Nat := 0x40000A + p * 256
abbrev PN_HOP_LEN (p : Nat) : Nat := 0x40000B + p * 256
abbrev PN_HOP_SEQ (p : Nat) : Nat := 0x40000C + p * 256
abbrev PN_EB_PERIOD (p : Nat) : Nat := 0x40000D + p * 256
abbrev PN_SEC_LEVEL (p : Nat) : Nat := 0x40000E + p * 256
abbrev PN_ASN (p : Nat) : Nat := 0x40000F + p * 256
abbrev PN_MIN_BE (p : Nat) : Nat := 0x400010 + p * 256
abbrev PN_MAX_BE (p : Nat) : Nat := 0x400011 + p * 256
abbrev PN_MAX_RETRIES (p : Nat) : Nat := 0x400012 + p * 256
abbrev PN_TX_MCS (p : Nat) : Nat := 0x400013 + p * 256
abbrev SS_COUNT (p : Nat) : Nat := 0x410000 + p * 256
abbrev SS_ENABLE (p : Nat) : Nat := 0x410001 + p * 256
abbrev SS_PAN (p : Nat) : Nat := 0x410002 + p * 256
abbrev SS_LENGTH (p : Nat) : Nat := 0x410003 + p * 256
abbrev SS_TX_OFFSET (p : Nat) : Nat := 0x410004 + p * 256
abbrev SS_IN_EB (p : Nat) : Nat := 0x410005 + p * 256
abbrev SS_CELLS_IN_FORCE (p : Nat) : Nat := 0x410006 + p * 256
abbrev SCHED_COUNT : Nat := 0x420000
abbrev CELL_NUMBER : Nat := 0x420001
abbrev CELL_ENTRY : Nat := 0x420002
abbrev CELL_STAGED : Nat := 0x420003
abbrev SCHED_STAGED_COUNT : Nat := 0x420004
abbrev SCHED_EPOCH : Nat := 0x420005
abbrev SCHED_DIGEST : Nat := 0x420006
abbrev SCHED_DISCARD : Nat := 0x420007
abbrev UPCOMING_DEPTH : Nat := 0x420008
abbrev UPCOMING_HORIZON : Nat := 0x420009
abbrev SB_COUNT (p : Nat) : Nat := 0x440000 + p * 256
abbrev SB_ENABLE (p : Nat) : Nat := 0x440001 + p * 256
abbrev SB_LOW (p : Nat) : Nat := 0x440002 + p * 256
abbrev SB_HIGH (p : Nat) : Nat := 0x440003 + p * 256
abbrev SB_LIMIT (p : Nat) : Nat := 0x440004 + p * 256
abbrev SB_WINDOW (p : Nat) : Nat := 0x440005 + p * 256
abbrev SB_ALARM_RESERVE (p : Nat) : Nat := 0x440006 + p * 256
abbrev SB_USED (p : Nat) : Nat := 0x440007 + p * 256
abbrev SB_RESERVED (p : Nat) : Nat := 0x440008 + p * 256
abbrev LEEWAY_COUNT : Nat := 0x4A1000
abbrev LEEWAY_BASE : Nat := 0x4A1001
abbrev DRIFT_INIT : Nat := 0x4A1002
abbrev LEEWAY_MAX : Nat := 0x4A1003
abbrev DRIFT_FLOOR : Nat := 0x4A1004
abbrev DRIFT_MISSES : Nat := 0x4A1005
abbrev LOST_MISSES : Nat := 0x4A1006
abbrev HELM_STAT_COUNT : Nat := 0x4B0000
abbrev RX_ACCEPTED : Nat := 0x4B0001
abbrev DUP_RX : Nat := 0x4B0002
abbrev REPLAY_DROPS : Nat := 0x4B0003
abbrev OUT_OF_CELL : Nat := 0x4B0004
abbrev ADDR_FILTERED : Nat := 0x4B0005
abbrev CCM_FAIL : Nat := 0x4B0006
abbrev ACKS_SENT : Nat := 0x4B0007
abbrev ACK_WITHHELD_BLANK : Nat := 0x4B0008
abbrev ACK_WITHHELD_DUTY : Nat := 0x4B0009
abbrev ACK_WITHHELD_CHAIN : Nat := 0x4B000A
abbrev TX_ATTEMPTS : Nat := 0x4B000B
abbrev ACKS_RECEIVED : Nat := 0x4B000C
abbrev BEACONS_SENT : Nat := 0x4B000D
abbrev BEACONS_SKIPPED : Nat := 0x4B000E
abbrev CELLS_BLANKED : Nat := 0x4B000F
abbrev QUIET_SLOTS : Nat := 0x4B0010
abbrev DEFER_COUNT : Nat := 0x4B1000
abbrev DEFER_BY_REASON (i : Nat) : Nat := 0x4B1001 + i
abbrev NODE_TIMING_COUNT : Nat := 0x4C0000
abbrev NODE_SELECT : Nat := 0x4C0001
abbrev NODE_TIMING_STATE : Nat := 0x4C0002
abbrev NODE_DRIFT : Nat := 0x4C0003
abbrev NODE_LAST_SYNC : Nat := 0x4C0004
abbrev NODE_LEEWAY_NOW : Nat := 0x4C0005
abbrev NODE_MISSES : Nat := 0x4C0006
abbrev NODE_LAST_OFFSET : Nat := 0x4C0007
abbrev ALM_CFG_COUNT : Nat := 0x500000
abbrev NODE_STALE : Nat := 0x500001
abbrev NODE_EVICT : Nat := 0x500002
abbrev LEARN_AGE : Nat := 0x500003
abbrev JOIN_ENABLE : Nat := 0x500004
abbrev JOIN_LIMIT : Nat := 0x500005
abbrev JOIN_TIMEOUT : Nat := 0x500006
abbrev SHORT_BASE : Nat := 0x500007
abbrev SHORT_HOLD : Nat := 0x500008
abbrev REHASH_AUTO : Nat := 0x500009
abbrev CKPT_PERIOD : Nat := 0x50000A
abbrev REASSEMBLY_TIMEOUT : Nat := 0x50000B
abbrev ALM_STAT_COUNT : Nat := 0x501000
abbrev NODES_IN_TABLE : Nat := 0x501001
abbrev NODES_JOINING : Nat := 0x501002
abbrev NODES_STALE : Nat := 0x501003
abbrev NODES_LOST : Nat := 0x501004
abbrev STASH_USED : Nat := 0x501005
abbrev SHORT_ADDR_USED : Nat := 0x501006
abbrev TABLE_INSERTS : Nat := 0x501007
abbrev TABLE_RELOCATIONS : Nat := 0x501008
abbrev TABLE_INSERT_FAILS : Nat := 0x501009
abbrev LOOKUP_REREADS : Nat := 0x50100A
abbrev NODE_EVICTIONS : Nat := 0x50100B
abbrev REASSEMBLY_DROPS : Nat := 0x50100C
abbrev LOWPAN_DROPS : Nat := 0x50100D
abbrev ROUTE_FAILS : Nat := 0x50100E
abbrev REHASH_PHASE : Nat := 0x50100F
abbrev MIGRATE_POINTER : Nat := 0x501010
abbrev ALM_STORE_COUNT : Nat := 0x502000
abbrev TABLE_SEEDS : Nat := 0x502001
abbrev ALMANAC_SHIFT : Nat := 0x502002
abbrev CKPT_LAST : Nat := 0x502003
abbrev NODE_REC_COUNT : Nat := 0x503000
abbrev NODE_FIND_EUI : Nat := 0x503001
abbrev NODE_ENTRY_RAW : Nat := 0x503002
abbrev NODE_EXT_RAW : Nat := 0x503003
abbrev NODE_NOTE : Nat := 0x503004
abbrev QQ_NB_COUNT (p : Nat) : Nat := 0x504000 + p * 256
abbrev QQ_NB_ENTRIES (p : Nat) : Nat := 0x504001 + p * 256
abbrev QQ_LEARN_DEPTH (p : Nat) : Nat := 0x504002 + p * 256
abbrev QQ_LEARN_REQUESTS (p : Nat) : Nat := 0x504003 + p * 256
abbrev QQ_LEARN_MERGES (p : Nat) : Nat := 0x504004 + p * 256
abbrev QQ_LEARN_DROPS (p : Nat) : Nat := 0x504005 + p * 256
abbrev QQ_LEARN_EVICTIONS (p : Nat) : Nat := 0x504006 + p * 256
abbrev QQ_NB_AGED (p : Nat) : Nat := 0x504007 + p * 256
abbrev RP_COUNT (p : Nat) : Nat := 0x520000 + p * 256
abbrev RP_INSTANCE (p : Nat) : Nat := 0x520001 + p * 256
abbrev RP_PREFIX (p : Nat) : Nat := 0x520002 + p * 256
abbrev RP_OCP (p : Nat) : Nat := 0x520003 + p * 256
abbrev RP_DIO_IMIN (p : Nat) : Nat := 0x520004 + p * 256
abbrev RP_DIO_DOUBLINGS (p : Nat) : Nat := 0x520005 + p * 256
abbrev RP_LIFETIME_UNIT (p : Nat) : Nat := 0x520006 + p * 256
abbrev RP_DEFAULT_LIFETIME (p : Nat) : Nat := 0x520007 + p * 256
abbrev RP_VERSION (p : Nat) : Nat := 0x520008 + p * 256
abbrev RP_ROUTES (p : Nat) : Nat := 0x520009 + p * 256
abbrev PA_CFG_COUNT : Nat := 0x600000
abbrev PA_UDP_PORT : Nat := 0x600001
abbrev PA_HORIZON : Nat := 0x600002
abbrev PA_NODE_QUEUE_MAX : Nat := 0x600003
abbrev PA_NODE_FPW : Nat := 0x600004
abbrev PA_NODE_FPH : Nat := 0x600005
abbrev PA_ACK_HEADROOM : Nat := 0x600006
abbrev PA_DOWN_DESC_LIMIT : Nat := 0x600007
abbrev PA_DOWN_CELL_LIMIT : Nat := 0x600008
abbrev PA_UP_ALARM_RESERVE : Nat := 0x600009
abbrev PA_REPORT_EVENTS : Nat := 0x60000A
abbrev PA_SAMPLE_PERIOD : Nat := 0x60000B
abbrev PA_HIST_UNIT : Nat := 0x60000C
abbrev PA_UP_DEFAULT_FLOW : Nat := 0x60000D
abbrev PA_CLASS_PCP : Nat := 0x60000E
abbrev PA_STAT_COUNT : Nat := 0x601000
abbrev ADMIT_REQUESTS : Nat := 0x601001
abbrev ADMIT_ACCEPTED : Nat := 0x601002
abbrev ADMIT_REFUSED_CAP : Nat := 0x601003
abbrev ADMIT_REFUSED_DL : Nat := 0x601004
abbrev ADMIT_OVERSIZE : Nat := 0x601005
abbrev ADMIT_BUSY : Nat := 0x601006
abbrev ADMIT_BAD_MSG : Nat := 0x601007
abbrev REPORTS_DELIVERED : Nat := 0x601008
abbrev REPORTS_NOT_ACKED : Nat := 0x601009
abbrev REPORTS_UNREACHABLE : Nat := 0x60100A
abbrev DOWN_PENDING : Nat := 0x60100B
abbrev UP_QUEUED : Nat := 0x60100C
abbrev NEXT_ADMISSION_REF : Nat := 0x60100D
abbrev PAIR_ADMIT_DIFF : Nat := 0x60100E
abbrev CELLS_UNINDEXED : Nat := 0x60100F
abbrev UP_DROPS_COUNT : Nat := 0x601100
abbrev UP_DROPS (i : Nat) : Nat := 0x601101 + i
abbrev SPOOL_COUNT : Nat := 0x602000
abbrev SPOOL_STATE : Nat := 0x602001
abbrev SPOOL_FRAMES : Nat := 0x602002
abbrev SPOOL_OCTETS : Nat := 0x602003
abbrev SPOOL_DISCARDS : Nat := 0x602004
abbrev PA_SPOOL_WEIGHT : Nat := 0x602005
abbrev FLOW_COUNT : Nat := 0x610000
abbrev FLOW_SELECT : Nat := 0x610001
abbrev FLOW_CONFIG : Nat := 0x610002
abbrev FLOW_STATE : Nat := 0x610003
abbrev FLOW_STATS : Nat := 0x610004
abbrev CLASS_STATS_COUNT : Nat := 0x611000
abbrev CLASS_STATS (i : Nat) : Nat := 0x611001 + i
abbrev UPRULE_COUNT : Nat := 0x620000
abbrev UPRULE (i : Nat) : Nat := 0x620001 + i
abbrev NODE_ENERGY_COUNT : Nat := 0x630000
abbrev NODE_FPW : Nat := 0x630001
abbrev NODE_FPH : Nat := 0x630002
abbrev NODE_QUEUE_DEPTH : Nat := 0x630003
abbrev NODE_PENDING : Nat := 0x630004
abbrev NODE_ENERGY_TOKENS : Nat := 0x630005
abbrev ADMIT_CTX_COUNT : Nat := 0x650000
abbrev ADMIT_CTX_KEYID (i : Nat) : Nat := 0x650001 + i
abbrev ADMIT_SEQ_IN_COUNT : Nat := 0x650100
abbrev ADMIT_SEQ_IN (i : Nat) : Nat := 0x650101 + i
abbrev ADMIT_SEQ_OUT_COUNT : Nat := 0x650200
abbrev ADMIT_SEQ_OUT (i : Nat) : Nat := 0x650201 + i
abbrev TT_CFG_COUNT (p : Nat) : Nat := 0x700000 + p * 256
abbrev TT_ENABLE (p : Nat) : Nat := 0x700001 + p * 256
abbrev TT_TIERS (p : Nat) : Nat := 0x700002 + p * 256
abbrev TT_ROLE (p : Nat) : Nat := 0x700003 + p * 256
abbrev TT_TEMPLATE (p : Nat) : Nat := 0x700004 + p * 256
abbrev TT_TX_FIR (p : Nat) : Nat := 0x700005 + p * 256
abbrev TT_MASK_POINTS (p : Nat) : Nat := 0x700006 + p * 256
abbrev TT_MDI_TX_DELAY (p : Nat) : Nat := 0x700007 + p * 256
abbrev TT_MDI_RX_DELAY (p : Nat) : Nat := 0x700008 + p * 256
abbrev TT_RETRAIN_HOLDOFF (p : Nat) : Nat := 0x700009 + p * 256
abbrev TT_WAKE_PERIOD (p : Nat) : Nat := 0x70000A + p * 256
abbrev TT_PFC_TX_MASK (p : Nat) : Nat := 0x70000B + p * 256
abbrev TT_SNR_WARN (p : Nat) : Nat := 0x70000C + p * 256
abbrev TT_STAT_COUNT (p : Nat) : Nat := 0x701000 + p * 256
abbrev TT_LINK_STATE (p : Nat) : Nat := 0x701001 + p * 256
abbrev TT_TIER_NOW (p : Nat) : Nat := 0x701002 + p * 256
abbrev TT_ROLE_NOW (p : Nat) : Nat := 0x701003 + p * 256
abbrev TT_SNR (p : Nat) : Nat := 0x701004 + p * 256
abbrev TT_UP_TIME (p : Nat) : Nat := 0x701005 + p * 256
abbrev TT_RETRAINS (p : Nat) : Nat := 0x701006 + p * 256
abbrev TT_CW_CORRECTED (p : Nat) : Nat := 0x701007 + p * 256
abbrev TT_SYM_CORRECTED (p : Nat) : Nat := 0x701008 + p * 256
abbrev TT_CW_UNCORRECTABLE (p : Nat) : Nat := 0x701009 + p * 256
abbrev TT_FRAMES_RX (p : Nat) : Nat := 0x70100A + p * 256
abbrev TT_FRAMES_TX (p : Nat) : Nat := 0x70100B + p * 256
abbrev TT_FCS_ERRORS (p : Nat) : Nat := 0x70100C + p * 256
abbrev TT_LENGTH_ERRORS (p : Nat) : Nat := 0x70100D + p * 256
abbrev TT_PFC_RX (p : Nat) : Nat := 0x70100E + p * 256
abbrev TT_PFC_TX (p : Nat) : Nat := 0x70100F + p * 256
abbrev TT_PAUSED_TIME (p : Nat) : Nat := 0x701010 + p * 256
abbrev TT_PFC_DROPS (p : Nat) : Nat := 0x701011 + p * 256
abbrev TT_CABLE_FAULT_M (p : Nat) : Nat := 0x701012 + p * 256
abbrev RED_COUNT : Nat := 0x702000
abbrev TRUNK_REDUNDANCY : Nat := 0x702001
abbrev RED_LIFE_CHECK : Nat := 0x702002
abbrev RED_FORGET_TIME : Nat := 0x702003
abbrev RED_DUPS_DISCARDED : Nat := 0x702004
abbrev RED_PASS_THROUGH : Nat := 0x702005
abbrev RED_PASS_DROPS : Nat := 0x702006
abbrev RED_WRONG_LAN : Nat := 0x702007
abbrev RED_PARTNER_STATE : Nat := 0x702008
abbrev TRUNK_ADDR_COUNT : Nat := 0x703000
abbrev TRUNK_MAC : Nat := 0x703001
abbrev TRUNK_VLAN : Nat := 0x703002
abbrev TRUNK_IPV6 : Nat := 0x703003
abbrev TRUNK_IPV6_PREFIX_LEN : Nat := 0x703004
abbrev TRUNK_IPV6_GW : Nat := 0x703005
abbrev TRUNK_IPV4 : Nat := 0x703006
abbrev TRUNK_IPV4_MASK_LEN : Nat := 0x703007
abbrev TRUNK_IPV4_GW : Nat := 0x703008
abbrev TRUNK_PAIR_IPV6 : Nat := 0x703009
abbrev TRUNK_PAIR_IPV4 : Nat := 0x70300A
abbrev TRUNK_PAIR_MAC : Nat := 0x70300B
abbrev TRUNK_WAKE_COUNT : Nat := 0x704000
abbrev TRUNK_WAKE_MODE : Nat := 0x704001
abbrev TRUNK_WAKE_ENERGY : Nat := 0x704002
abbrev CS_CFG_COUNT : Nat := 0x740000
abbrev CS_PAIRSEL : Nat := 0x740001
abbrev CS_PAIR_ID : Nat := 0x740002
abbrev CS_PARTNER_EUI : Nat := 0x740003
abbrev CS_PAIR_KEYID : Nat := 0x740004
abbrev CS_REVERT_HOLD : Nat := 0x740005
abbrev CS_HEAR_ENERGY : Nat := 0x740006
abbrev CS_RX_HEALTH : Nat := 0x740007
abbrev CS_EPOCH_REF : Nat := 0x740008
abbrev CS_FAULT_CLEAR : Nat := 0x740009
abbrev CS_STAT_COUNT : Nat := 0x741000
abbrev CS_STATE : Nat := 0x741001
abbrev CS_PARTNER_STATE : Nat := 0x741002
abbrev CS_OUTPUT_FAULT : Nat := 0x741003
abbrev CS_TAKEOVERS : Nat := 0x741004
abbrev CS_YIELDS : Nat := 0x741005
abbrev CS_DIVERGE_KEPT : Nat := 0x741006
abbrev CS_MISMATCH_WINDOWS : Nat := 0x741007
abbrev CS_PULSES_MISSED : Nat := 0x741008
abbrev CS_PLAN_LATE : Nat := 0x741009
abbrev CS_STREAM_BACKLOG : Nat := 0x74100A
abbrev CS_BOTH_ACTIVE_TIME : Nat := 0x74100B
abbrev CS_LAST_FAULT : Nat := 0x74100C
abbrev SX_COUNT : Nat := 0x800000
abbrev SEXTANT_NOW : Nat := 0x800001
abbrev SX_COUNTER : Nat := 0x800002
abbrev SX_RATE : Nat := 0x800003
abbrev SX_STATE : Nat := 0x800004
abbrev TIME_UNC_NS : Nat := 0x800005
abbrev SX_TIME_VALID : Nat := 0x800006
abbrev SX_SOURCE : Nat := 0x800007
abbrev SX_SET : Nat := 0x800008
abbrev SX_STEP_THRESHOLD : Nat := 0x800009
abbrev SX_RATE_LIMIT : Nat := 0x80000A
abbrev SX_LOCK_NS : Nat := 0x80000B
abbrev SX_LOSS_NS : Nat := 0x80000C
abbrev SX_KP_SHIFT : Nat := 0x80000D
abbrev SX_KI_SHIFT : Nat := 0x80000E
abbrev SX_REF_STABILITY : Nat := 0x80000F
abbrev SX_REF_AGEING : Nat := 0x800010
abbrev SX_PATH_UNC : Nat := 0x800011
abbrev SX_SLOW_RATIO : Nat := 0x800012
abbrev SX_STEPS : Nat := 0x800013
abbrev SX_LAST_STEP : Nat := 0x800014
abbrev SX_RECKON_SINCE : Nat := 0x800015
abbrev SX_UTC_OFFSET : Nat := 0x800016
abbrev SX_PPS_OUT_ENABLE : Nat := 0x800017
abbrev SX_PPS_WIDTH : Nat := 0x800018
abbrev SX_PPS_OUT_GATE : Nat := 0x800019
abbrev SX_PPS_IN_EDGE : Nat := 0x80001A
abbrev SX_PPS_IN_STAMP : Nat := 0x80001B
abbrev PTP_COUNT : Nat := 0x801000
abbrev PTP_DOMAIN : Nat := 0x801001
abbrev PTP_TRANSPORT : Nat := 0x801002
abbrev PTP_PDELAY_TWO_STEP : Nat := 0x801003
abbrev PTP_PDELAY_LOG : Nat := 0x801004
abbrev PTP_ANNOUNCE_TIMEOUT : Nat := 0x801005
abbrev PTP_QUALIFY : Nat := 0x801006
abbrev PTP_DELAY_AVG : Nat := 0x801007
abbrev PTP_CLOCK_ID : Nat := 0x801008
abbrev PTP_MASTER_ID : Nat := 0x801009
abbrev PTP_MASTER_PORT : Nat := 0x80100A
abbrev PTP_OFFSET : Nat := 0x80100B
abbrev PTP_MEAN_DELAY : Nat := 0x80100C
abbrev TT_PTP_COUNT (p : Nat) : Nat := 0x802000 + p * 256
abbrev TT_PTP_DELAY_MECH (p : Nat) : Nat := 0x802001 + p * 256
abbrev TT_PTP_STATE (p : Nat) : Nat := 0x802002 + p * 256
abbrev TT_PTP_PEER_DELAY (p : Nat) : Nat := 0x802003 + p * 256
abbrev TT_PTP_RX_EVENT (p : Nat) : Nat := 0x802004 + p * 256
abbrev TT_PTP_DROPPED (p : Nat) : Nat := 0x802005 + p * 256
abbrev CAL_COUNT : Nat := 0x240000
abbrev CAL_YEAR : Nat := 0x240001
abbrev CAL_MONTH : Nat := 0x240002
abbrev CAL_DAY : Nat := 0x240003
abbrev CAL_HOUR : Nat := 0x240004
abbrev CAL_MINUTE : Nat := 0x240005
abbrev CAL_SECOND : Nat := 0x240006
abbrev CAL_WEEKDAY : Nat := 0x240007
abbrev CAL_SUBSEC : Nat := 0x240008
abbrev CAL_SET : Nat := 0x240009
abbrev CAL_HALT : Nat := 0x24000A
abbrev CAL_OSF : Nat := 0x24000B
abbrev CAL_END : Nat := 0x24000C
abbrev CAL_NOW : Nat := 0x24000D
abbrev CAL_TRIM : Nat := 0x24000E
abbrev CAL_TRIM_AUTO : Nat := 0x24000F
abbrev CAL_ALARM : Nat := 0x240010
abbrev CAL_ALARM_ENABLE : Nat := 0x240011
abbrev CAL_ALARM_FIRED : Nat := 0x240012
abbrev CAL_ALARM_WAKE : Nat := 0x240013
abbrev BN_COUNT : Nat := 0x900000
abbrev BN_STATE : Nat := 0x900001
abbrev BN_MEAS : Nat := 0x900002
abbrev BN_MEAS_DEV : Nat := 0x900003
abbrev BN_MEAS_PREDICTED : Nat := 0x900004
abbrev BN_IDENTITY_PUB : Nat := 0x900005
abbrev BN_ATTEST_PUB : Nat := 0x900006
abbrev BN_IMPORT_PUB : Nat := 0x900007
abbrev BN_BLOB_CAPACITY : Nat := 0x900008
abbrev BN_GRACE : Nat := 0x900009
abbrev BN_CERT_COUNT : Nat := 0x901000
abbrev BN_IDENTITY_CERT : Nat := 0x901001
abbrev BN_ATTEST_CERT : Nat := 0x901002
abbrev BN_IMPORT_CERT : Nat := 0x901003
abbrev BN_STMT_COUNT : Nat := 0x902000
abbrev BN_STATEMENT : Nat := 0x902001
abbrev POWER_COUNT : Nat := 0x200000
abbrev POWER_MODE : Nat := 0x200001
abbrev POWER_STATE : Nat := 0x200002
abbrev POWER_STATE_SINCE : Nat := 0x200003
abbrev WAKE_ENABLE : Nat := 0x200004
abbrev WAKE_CAUSE : Nat := 0x200005
abbrev HOLD_CORE_IDLE : Nat := 0x200006
abbrev DOMAIN_COUNT : Nat := 0x201000
abbrev DOMAIN_STATE (i : Nat) : Nat := 0x201001 + i
abbrev ANCHOR_COUNT : Nat := 0x202000
abbrev VSENSE_NOW : Nat := 0x202001
abbrev VSENSE_MIN : Nat := 0x202002
abbrev VSENSE_WARNINGS : Nat := 0x202003
abbrev ANCHOR_SAVES : Nat := 0x202004
abbrev ANCHOR_LAST_DURATION : Nat := 0x202005
abbrev ANCHOR_LAST_TIME : Nat := 0x202006
abbrev ANCHOR_LAST_OUTCOME : Nat := 0x202007
abbrev BACKUP_COUNT : Nat := 0x203000
abbrev AON_LOST : Nat := 0x203001
abbrev AON_SUPPLY : Nat := 0x203002
abbrev VBAT_NOW : Nat := 0x203003
abbrev VBAT_LOW_LIMIT : Nat := 0x203004
abbrev OOK_COUNT : Nat := 0x204000
abbrev OOK_WAKE_CODE : Nat := 0x204001
abbrev OOK_WAKE_LEVEL : Nat := 0x204002
abbrev OOK_PARTIAL : Nat := 0x204003
abbrev RST_COUNT : Nat := 0x230000
abbrev RESET_CAUSE : Nat := 0x230001
abbrev RESET_DETAIL : Nat := 0x230002
abbrev STRAPS : Nat := 0x230003
abbrev RESET_RELEASE_TIME : Nat := 0x230004
abbrev TRIM_VALID : Nat := 0x230005
abbrev TRIM_STATUS : Nat := 0x230006
abbrev SEQ_GAP : Nat := 0x230007
abbrev ATTACH_DURATION : Nat := 0x230008
abbrev TACK_COUNT : Nat := 0xA00000
abbrev TACK_STAGE_NOW : Nat := 0xA00001
abbrev ACTIVE_BANK : Nat := 0xA00002
abbrev TRIAL : Nat := 0xA00003
abbrev BANK_A_VERSION : Nat := 0xA00004
abbrev BANK_B_VERSION : Nat := 0xA00005
abbrev ROLLBACK_FLOOR : Nat := 0xA00006
abbrev TACK_CONFIRM_MODE : Nat := 0xA00007
abbrev TACK_SOAK : Nat := 0xA00008
abbrev TACK_CONFIRM : Nat := 0xA00009
abbrev CONFIRM_DEADLINE : Nat := 0xA0000A
abbrev TRIAL_BOOTS : Nat := 0xA0000B
abbrev TACK_SEGMENT : Nat := 0xA0000C
abbrev FLASH_MAP : Nat := 0xA0000D
abbrev LODE_COUNT : Nat := 0xA01000
abbrev LODESTAR_ACTIVE : Nat := 0xA01001
abbrev LODESTAR_SLOTFRAMES : Nat := 0xA01002
abbrev LODESTAR_CHART_TIME : Nat := 0xA01003
abbrev LODESTAR_UP_FORWARDED : Nat := 0xA01004
abbrev LODESTAR_UP_WITHHELD : Nat := 0xA01005
abbrev BOOT_IMAGE_COUNT : Nat := 0xA02000
abbrev BOOT_IMAGE : Nat := 0xA02001
abbrev LOOKOUT_COUNT : Nat := 0xB80000
abbrev LOOKOUT_WARN_TIME : Nat := 0xB80001
abbrev LOOKOUT_CORE_TIME : Nat := 0xB80002
abbrev LOOKOUT_WARNS : Nat := 0xB80003
abbrev LOOKOUT_L1_RESETS : Nat := 0xB80004
abbrev LOOKOUT_L2_RESETS : Nat := 0xB80005
abbrev LB_COUNT : Nat := 0xB00000
abbrev LB_BOOT_COUNT : Nat := 0xB00001
abbrev LB_COMMITS : Nat := 0xB00002
abbrev LB_CONFLICTS : Nat := 0xB00003
abbrev LB_COPY_REPAIRS : Nat := 0xB00004
abbrev LB_RECORDS_LOST : Nat := 0xB00005
abbrev LB_ECC_CORRECTED : Nat := 0xB00006
abbrev LB_SCRUB_PERIOD : Nat := 0xB00007
abbrev LB_SCRUB_POINTER : Nat := 0xB00008
abbrev LB_SCRUB_LAST : Nat := 0xB00009
abbrev LB_WEAR_MAX : Nat := 0xB0000A
abbrev LB_WEAR_YEARS : Nat := 0xB0000B
abbrev LB_POWER_ON_HOURS : Nat := 0xB0000C
abbrev DEV_STAT_COUNT : Nat := 0xB10000
abbrev TJ_NOW : Nat := 0xB10001
abbrev TJ_MAX_LIFE : Nat := 0xB10002
abbrev AGE_FLOOR : Nat := 0xB10003
abbrev DRAM_ECC_CORRECTED : Nat := 0xB10004
abbrev DRAM_ECC_UNCORRECTABLE : Nat := 0xB10005
abbrev SRAM_ECC_CORRECTED : Nat := 0xB10006
abbrev TJ_MINUTES_COUNT : Nat := 0xB11000
abbrev TJ_MINUTES (i : Nat) : Nat := 0xB11001 + i
abbrev AGE_MARGIN_COUNT : Nat := 0xB12000
abbrev AGE_MARGIN (i : Nat) : Nat := 0xB12001 + i
abbrev AGE_BIAS_COUNT : Nat := 0xB13000
abbrev AGE_BIAS (i : Nat) : Nat := 0xB13001 + i
abbrev ST_COUNT : Nat := 0xB30000
abbrev ST_ENABLE : Nat := 0xB30001
abbrev ST_ADC_PERIOD : Nat := 0xB30002
abbrev ST_BIST_CYCLE : Nat := 0xB30003
abbrev ST_KAT_PERIOD : Nat := 0xB30004
abbrev ST_RUNS : Nat := 0xB30005
abbrev ST_FAILS : Nat := 0xB30006
abbrev ST_LATE : Nat := 0xB30007
abbrev ST_RETIRED_BANKS : Nat := 0xB30008
abbrev CAP_COUNT (p : Nat) : Nat := 0xB50000 + p * 256
abbrev CAP_RECORDS (p : Nat) : Nat := 0xB50001 + p * 256
abbrev CAP_DEPTH (p : Nat) : Nat := 0xB50002 + p * 256
abbrev CAP_LOST (p : Nat) : Nat := 0xB50003 + p * 256
abbrev CAP_FLUSH (p : Nat) : Nat := 0xB50004 + p * 256
abbrev CAP_FLUSHED (p : Nat) : Nat := 0xB50005 + p * 256
abbrev CAP_NEXT_SEQ (p : Nat) : Nat := 0xB50006 + p * 256
abbrev CAP_ENABLE (p : Nat) : Nat := 0xB50007 + p * 256
abbrev CAP_SOURCES (p : Nat) : Nat := 0xB50008 + p * 256
abbrev CAP_PORTS (p : Nat) : Nat := 0xB50009 + p * 256
abbrev CAP_NODE (p : Nat) : Nat := 0xB5000A + p * 256
abbrev CAP_SNAP (p : Nat) : Nat := 0xB5000B + p * 256
abbrev CAP_SKIPPED (p : Nat) : Nat := 0xB5000C + p * 256
/-- The index of the procedure POWER_STATE_SET (R517). -/
abbrev POWER_STATE_SET : Nat := 0x2100
/-- The index of the procedure WARM_RESTART (R517). -/
abbrev WARM_RESTART : Nat := 0x2380
/-- The index of the procedure DOMAIN_RESET (R517). -/
abbrev DOMAIN_RESET : Nat := 0x2381
/-- The index of the procedure CAL_FROM_SEXTANT (R517). -/
abbrev CAL_FROM_SEXTANT : Nat := 0x2410
/-- The index of the procedure BEARING_RETUNE (R517). -/
abbrev BEARING_RETUNE : Nat := 0x3100
/-- The index of the procedure SYNTH_CALIBRATE (R517). -/
abbrev SYNTH_CALIBRATE : Nat := 0x3101
/-- The index of the procedure RX_WINDOW_APPLY (R517). -/
abbrev RX_WINDOW_APPLY : Nat := 0x3500
/-- The index of the procedure SCHEDULE_COMMIT (R517). -/
abbrev SCHEDULE_COMMIT : Nat := 0x4300
/-- The index of the procedure NODE_ADD (R517). -/
abbrev NODE_ADD : Nat := 0x5100
/-- The index of the procedure NODE_REMOVE (R517). -/
abbrev NODE_REMOVE : Nat := 0x5101
/-- The index of the procedure NODE_REHASH (R517). -/
abbrev NODE_REHASH : Nat := 0x5102
/-- The index of the procedure ALMANAC_CHECKPOINT (R517). -/
abbrev ALMANAC_CHECKPOINT : Nat := 0x5103
/-- The index of the procedure TRUNK_RETRAIN (R517). -/
abbrev TRUNK_RETRAIN : Nat := 0x7100
/-- The index of the procedure TRUNK_LOOPBACK (R517). -/
abbrev TRUNK_LOOPBACK : Nat := 0x7101
/-- The index of the procedure CONSORT_HANDOVER (R517). -/
abbrev CONSORT_HANDOVER : Nat := 0x7500
/-- The index of the procedure BN_IMPORT (R517). -/
abbrev BN_IMPORT : Nat := 0x9100
/-- The index of the procedure BN_REPLACE (R517). -/
abbrev BN_REPLACE : Nat := 0x9101
/-- The index of the procedure BN_REMOVE (R517). -/
abbrev BN_REMOVE : Nat := 0x9102
/-- The index of the procedure BN_ATTEST (R517). -/
abbrev BN_ATTEST : Nat := 0x9103
/-- The index of the procedure GROUP_ROLLOVER (R517). -/
abbrev GROUP_ROLLOVER : Nat := 0x9104
/-- The index of the procedure TACK (R517). -/
abbrev TACK : Nat := 0xA100
/-- The index of the procedure SELFTEST_RUN (R517). -/
abbrev SELFTEST_RUN : Nat := 0xB400

end Obj

/-- Objects of chapter 02, part 1. -/
def rows02_1 : List Row := [
  ⟨0x1000, 1, 0x0, 0x0, .u 8, .ro, .all (.int 6), .any, false, .dom 1⟩,
  ⟨0x1000, 1, 0x1, 0x1, .utf8 32, .ro, .all (.text [80, 108, 101, 115, 105, 111, 108, 111, 32, 77, 105, 99, 114, 111, 115, 121, 115, 116, 101, 109, 115]), .any, false, .dom 1⟩,
  ⟨0x1000, 1, 0x2, 0x2, .utf8 16, .ro, .all (.text [90, 75, 56, 54, 52, 48]), .any, false, .dom 1⟩,
  ⟨0x1000, 1, 0x3, 0x3, .utf8 4, .ro, .all (.text [67, 49]), .any, false, .dom 1⟩,
  ⟨0x1000, 1, 0x4, 0x4, .octets 8, .ro, .all (.octets (List.replicate 8 0)), .any, false, .dom 1⟩,
  ⟨0x1000, 1, 0x5, 0x5, .u 32, .ro, .all (.int 0), .any, false, .dom 1⟩,
  ⟨0x1000, 1, 0x6, 0x6, .octets 32, .ro, .all (.octets (List.replicate 32 0)), .any, false, .dom 1⟩,
  ⟨0x1100, 1, 0x0, 0x0, .u 8, .ro, .all (.int 1), .any, false, .dom 1⟩,
  ⟨0x1101, 1, 0x0, 0x0, .u 32, .rw, .all (.int 300), .iv 10 86400, true, .dom 1⟩,
  ⟨0x1102, 1, 0x0, 0x0, .u 8, .wo, .all (.int 0), .iv 1 15, false, .dom 1⟩,
  ⟨0x1103, 1, 0x0, 0x0, .u 32, .ro, .all (.int 0), .any, false, .dom 1⟩,
  ⟨0x1104, 1, 0x0, 0x0, .u 8, .rw, .all (.int 0), .oneOf [0, 1], true, .dom 1⟩,
  ⟨0x1105, 1, 0x0, 0x0, .u 32, .ro, .all (.int 0), .any, false, .dom 1⟩,
  ⟨0x1106, 1, 0x0, 0x0, .u 8, .ro, .all (.int 0), .any, false, .dom 1⟩,
  ⟨0x1110, 1, 0x0, 0x0, .u 32, .ro, .all (.int 0), .any, true, .dom 1⟩,
  ⟨0x1110, 1, 0x1, 0x1, .u 32, .ro, .all (.int 0), .any, true, .dom 1⟩,
  ⟨0x1111, 1, 0x0, 0x0, .u 32, .rw, .all (.int 0), .special, false, .dom 1⟩,
  ⟨0x1112, 1, 0x0, 0x0, .octets 64, .ro, .all (.octets (List.replicate 64 0)), .any, false, .dom 1⟩,
  ⟨0x1200, 8, 0x0, 0x0, .u 8, .ro, .all (.int 6), .any, false, .dom 1⟩,
  ⟨0x1200, 8, 0x1, 0x1, .octets 960, .ro, .all (.octets (List.replicate 960 0)), .any, false, .dom 1⟩,
  ⟨0x1200, 8, 0x2, 0x2, .u 16, .ro, .all (.int 0), .any, false, .dom 1⟩,
  ⟨0x1200, 8, 0x3, 0x3, .u 64, .ro, .all (.int 0), .any, false, .dom 1⟩,
  ⟨0x1200, 8, 0x4, 0x4, .bool, .wo, .all (.bool false), .isTrue, false, .dom 1⟩,
  ⟨0x1200, 8, 0x5, 0x5, .u 64, .ro, .all (.int 0), .any, false, .dom 1⟩,
  ⟨0x1200, 8, 0x6, 0x6, .u 32, .ro, .all (.int 0), .any, false, .dom 1⟩,
  ⟨0xF000, 1, 0x0, 0x0, .u 8, .ro, .all (.int 0), .any, false, .dom 1⟩,
  ⟨0xF000, 1, 0x1, 0x40, .u 32, .ro, .all (.int 0), .any, false, .dom 1⟩,
  ⟨0xF001, 1, 0x0, 0x0, .u 32, .wo, .all (.int 0), .any, false, .dom 1⟩]

/-- Objects of chapter 02. -/
def rows02 : List Row := rows02_1

/-- Objects of chapter 03, part 1. The table gives PP_GAIN_STEP_NOW no default: it starts at the top step of its port (DESIGN CHOICE,
log 28). -/
def rows03_1 : List Row := [
  ⟨0x3000, 4, 0x0, 0x0, .u 8, .ro, .all (.int 9), .any, false, .dom 1⟩,
  ⟨0x3000, 4, 0x1, 0x1, .bool, .rw, .all (.bool true), .any, true, .dom 1⟩,
  ⟨0x3000, 4, 0x2, 0x2, .u 8, .rw, .all (.int 0), .oneOf [0, 1], true, .dom 1⟩,
  ⟨0x3000, 4, 0x3, 0x3, .u 8, .rw, .each [.int 4, .int 4, .int 1, .int 1], .gainStep, true, .dom 1⟩,
  ⟨0x3000, 4, 0x4, 0x4, .u 8, .ro, .each [.int 4, .int 4, .int 1, .int 1], .any, false, .rxPort⟩,
  ⟨0x3000, 4, 0x5, 0x5, .u 16, .rw, .all (.int 50), .iv 1 1000, true, .dom 1⟩,
  ⟨0x3000, 4, 0x6, 0x6, .u 16, .rw, .all (.int 0), .iv 0 2000, true, .dom 1⟩,
  ⟨0x3000, 4, 0x7, 0x7, .u 16, .rw, .all (.int 0), .iv 0 2000, true, .dom 1⟩,
  ⟨0x3000, 4, 0x8, 0x8, .u 32, .ro, .all (.int 0), .any, false, .dom 1⟩,
  ⟨0x3000, 4, 0x9, 0x9, .u 32, .ro, .all (.int 0), .any, false, .dom 1⟩,
  ⟨0x3010, 4, 0x0, 0x0, .u 8, .ro, .all (.int 6), .any, false, .dom 1⟩,
  ⟨0x3010, 4, 0x1, 0x1, .u 8, .ro, .all (.int 0), .any, true, .dom 1⟩,
  ⟨0x3010, 4, 0x2, 0x2, .u 8, .ro, .all (.int 0), .any, true, .dom 1⟩,
  ⟨0x3010, 4, 0x3, 0x3, .u 16, .ro, .all (.int 0), .any, false, .rxPort⟩,
  ⟨0x3010, 4, 0x4, 0x4, .u 8, .ro, .all (.int 0), .any, false, .dom 1⟩,
  ⟨0x3010, 4, 0x5, 0x5, .u 16, .rw, .all (.int 60), .iv 10 3600, true, .dom 1⟩,
  ⟨0x3010, 4, 0x6, 0x6, .u 32, .ro, .all (.int 0), .any, false, .dom 1⟩,
  ⟨0x3020, 1, 0x0, 0x0, .u 8, .ro, .all (.int 6), .any, false, .dom 1⟩,
  ⟨0x3020, 1, 0x1, 0x1, .u 8, .rw, .all (.int 0), .oneOf [0, 1], true, .dom 1⟩,
  ⟨0x3020, 1, 0x2, 0x2, .u 8, .rw, .all (.int 0), .oneOf [0, 1], true, .dom 1⟩,
  ⟨0x3020, 1, 0x3, 0x3, .u 16, .ro, .all (.int 0), .any, false, .dom 1⟩,
  ⟨0x3020, 1, 0x4, 0x4, .u 16, .ro, .all (.int 0), .any, false, .dom 1⟩,
  ⟨0x3020, 1, 0x5, 0x5, .u 8, .ro, .all (.int 0), .any, false, .dom 1⟩,
  ⟨0x3020, 1, 0x6, 0x6, .u 8, .ro, .all (.int 0), .any, false, .dom 1⟩,
  ⟨0x3030, 3, 0x0, 0x0, .u 8, .ro, .all (.int 12), .any, false, .dom 1⟩,
  ⟨0x3030, 3, 0x1, 0x1, .u 8, .rw, .all (.int 3), .mask 0x03, true, .dom 1⟩,
  ⟨0x3030, 3, 0x2, 0x2, .i 16, .rw, .all (.int 140), .iv (-200) 400, true, .dom 1⟩,
  ⟨0x3030, 3, 0x3, 0x3, .u 8, .rw, .all (.int 63), .iv 0 63, true, .dom 1⟩,
  ⟨0x3030, 3, 0x4, 0x4, .u 8, .rw, .all (.int 8), .iv 1 8, true, .dom 1⟩,
  ⟨0x3030, 3, 0x5, 0x5, .u 8, .ro, .all (.int 0), .any, false, .chain⟩]

/-- Objects of chapter 03, part 2. -/
def rows03_2 : List Row := [
  ⟨0x3030, 3, 0x6, 0x6, .u 32, .ro, .all (.int 0), .any, false, .chain⟩,
  ⟨0x3030, 3, 0x7, 0x7, .u 8, .rw, .all (.int 8), .iv 2 30, true, .dom 1⟩,
  ⟨0x3030, 3, 0x8, 0x8, .i 16, .ro, .all (.int 250), .any, true, .dom 1⟩,
  ⟨0x3030, 3, 0x9, 0x9, .time64, .ro, .all (.time 0 0 0), .any, true, .dom 1⟩,
  ⟨0x3030, 3, 0xA, 0xA, .bool, .ro, .all (.bool false), .any, false, .dom 1⟩,
  ⟨0x3030, 3, 0xB, 0xB, .u 64, .ro, .all (.int 0), .any, false, .dom 1⟩,
  ⟨0x3030, 3, 0xC, 0xC, .u 32, .ro, .all (.int 0), .any, false, .dom 1⟩,
  ⟨0x3040, 3, 0x0, 0x0, .u 8, .ro, .all (.int 64), .any, false, .dom 1⟩,
  ⟨0x3040, 3, 0x1, 0x40, .u 32, .rw, .all (.int 0), .special, true, .dom 1⟩]

/-- Objects of chapter 03. -/
def rows03 : List Row := rows03_1 ++ rows03_2

/-- Objects of chapter 04, part 1. -/
def rows04_1 : List Row := [
  ⟨0x3400, 6, 0x0, 0x0, .u 8, .ro, .all (.int 11), .any, false, .dom 1⟩,
  ⟨0x3400, 6, 0x1, 0x1, .bool, .rw, .all (.bool false), .any, true, .dom 1⟩,
  ⟨0x3400, 6, 0x2, 0x2, .u 32, .rw, .each [.int 150100000, .int 150100000, .int 150100000, .int 150100000, .int 2405000000, .int 2405000000], .winFirst, true, .dom 1⟩,
  ⟨0x3400, 6, 0x3, 0x3, .u 16, .rw, .each [.int 200, .int 200, .int 200, .int 200, .int 5000, .int 5000], .winSpacing, true, .dom 1⟩,
  ⟨0x3400, 6, 0x4, 0x4, .u 8, .rw, .all (.int 1), .iv 1 200, true, .dom 1⟩,
  ⟨0x3400, 6, 0x5, 0x5, .u 16, .rw, .each [.int 0, .int 0, .int 0, .int 0, .int 11, .int 11], .iv 0 65535, true, .dom 1⟩,
  ⟨0x3400, 6, 0x6, 0x6, .u 16, .rw, .each [.int 4, .int 4, .int 4, .int 4, .int 32768, .int 32768], .winModes, true, .dom 1⟩,
  ⟨0x3400, 6, 0x7, 0x7, .u 8, .rw, .all (.int 96), .iv 32 255, true, .dom 1⟩,
  ⟨0x3400, 6, 0x8, 0x8, .u 8, .rw, .all (.int 16), .iv 0 128, true, .dom 1⟩,
  ⟨0x3400, 6, 0x9, 0x9, .i 16, .rw, .each [.int (-1100), .int (-1100), .int (-1100), .int (-1100), .int (-1000), .int (-1000)], .iv (-1300) (-300), true, .dom 1⟩,
  ⟨0x3400, 6, 0xA, 0xA, .u 8, .rw, .all (.int 16), .iv 4 64, true, .dom 1⟩,
  ⟨0x3400, 6, 0xB, 0xB, .u 16, .rw, .all (.int 200), .iv 0 10000, true, .dom 1⟩,
  ⟨0x3410, 6, 0x0, 0x0, .u 8, .ro, .all (.int 11), .any, false, .dom 1⟩,
  ⟨0x3410, 6, 0x1, 0x1, .bool, .ro, .all (.bool false), .any, false, .dom 1⟩,
  ⟨0x3410, 6, 0x2, 0x2, .u 32, .ro, .each [.int 150100000, .int 150100000, .int 150100000, .int 150100000, .int 2405000000, .int 2405000000], .any, false, .dom 1⟩,
  ⟨0x3410, 6, 0x3, 0x3, .u 16, .ro, .each [.int 200, .int 200, .int 200, .int 200, .int 5000, .int 5000], .any, false, .dom 1⟩,
  ⟨0x3410, 6, 0x4, 0x4, .u 8, .ro, .all (.int 1), .any, false, .dom 1⟩,
  ⟨0x3410, 6, 0x5, 0x5, .u 16, .ro, .each [.int 0, .int 0, .int 0, .int 0, .int 11, .int 11], .any, false, .dom 1⟩,
  ⟨0x3410, 6, 0x6, 0x6, .u 16, .ro, .each [.int 4, .int 4, .int 4, .int 4, .int 32768, .int 32768], .any, false, .dom 1⟩,
  ⟨0x3410, 6, 0x7, 0x7, .u 8, .ro, .all (.int 96), .any, false, .dom 1⟩,
  ⟨0x3410, 6, 0x8, 0x8, .u 8, .ro, .all (.int 16), .any, false, .dom 1⟩,
  ⟨0x3410, 6, 0x9, 0x9, .i 16, .ro, .each [.int (-1100), .int (-1100), .int (-1100), .int (-1100), .int (-1000), .int (-1000)], .any, false, .dom 1⟩,
  ⟨0x3410, 6, 0xA, 0xA, .u 8, .ro, .all (.int 16), .any, false, .dom 1⟩,
  ⟨0x3410, 6, 0xB, 0xB, .u 16, .ro, .all (.int 200), .any, false, .dom 1⟩,
  ⟨0x3420, 1, 0x0, 0x0, .u 8, .ro, .all (.int 4), .any, false, .dom 4⟩,
  ⟨0x3420, 1, 0x1, 0x1, .u 8, .ro, .all (.int 0), .any, false, .dom 4⟩,
  ⟨0x3420, 1, 0x2, 0x2, .u 8, .ro, .all (.int 0), .any, false, .dom 4⟩,
  ⟨0x3420, 1, 0x3, 0x3, .u 16, .ro, .all (.int 0), .any, false, .dom 4⟩,
  ⟨0x3420, 1, 0x4, 0x4, .u 64, .ro, .all (.int 0), .any, false, .dom 4⟩,
  ⟨0x3430, 4, 0x0, 0x0, .u 8, .ro, .all (.int 12), .any, false, .dom 4⟩]

/-- Objects of chapter 04, part 2. -/
def rows04_2 : List Row := [
  ⟨0x3430, 4, 0x1, 0x1, .u 64, .ro, .all (.int 0), .any, false, .dom 4⟩,
  ⟨0x3430, 4, 0x2, 0x2, .u 32, .ro, .all (.int 0), .any, false, .dom 4⟩,
  ⟨0x3430, 4, 0x3, 0x3, .u 32, .ro, .all (.int 0), .any, false, .dom 4⟩,
  ⟨0x3430, 4, 0x4, 0x4, .u 32, .ro, .all (.int 0), .any, false, .dom 4⟩,
  ⟨0x3430, 4, 0x5, 0x5, .u 32, .ro, .all (.int 0), .any, false, .dom 4⟩,
  ⟨0x3430, 4, 0x6, 0x6, .u 32, .ro, .all (.int 0), .any, false, .dom 4⟩,
  ⟨0x3430, 4, 0x7, 0x7, .u 32, .ro, .all (.int 0), .any, false, .dom 4⟩,
  ⟨0x3430, 4, 0x8, 0x8, .u 64, .ro, .all (.int 0), .any, false, .dom 4⟩,
  ⟨0x3430, 4, 0x9, 0x9, .u 32, .ro, .all (.int 0), .any, false, .dom 4⟩,
  ⟨0x3430, 4, 0xA, 0xA, .u 32, .ro, .all (.int 0), .any, false, .dom 4⟩,
  ⟨0x3430, 4, 0xB, 0xB, .i 16, .rw, .all (.int 0), .iv (-400) 400, true, .dom 1⟩,
  ⟨0x3430, 4, 0xC, 0xC, .i 16, .rw, .all (.int 0), .iv (-400) 400, true, .dom 1⟩,
  ⟨0x3440, 1, 0x0, 0x0, .u 8, .ro, .all (.int 2), .any, false, .dom 4⟩,
  ⟨0x3440, 1, 0x1, 0x1, .u 64, .ro, .all (.int 0), .any, false, .dom 4⟩,
  ⟨0x3440, 1, 0x2, 0x2, .u 64, .ro, .all (.int 0), .any, false, .dom 4⟩]

/-- Objects of chapter 04. -/
def rows04 : List Row := rows04_1 ++ rows04_2

/-- Objects of chapter 05, part 1. -/
def rows05_1 : List Row := [
  ⟨0x4000, 4, 0x0, 0x0, .u 8, .ro, .all (.int 19), .any, false, .dom 3⟩,
  ⟨0x4000, 4, 0x1, 0x1, .bool, .rw, .all (.bool false), .any, true, .dom 1⟩,
  ⟨0x4000, 4, 0x2, 0x2, .u 16, .rws, .all (.int 0), .iv 0 65534, true, .dom 1⟩,
  ⟨0x4000, 4, 0x3, 0x3, .u 8, .rws, .each [.int 0, .int 0, .int 1, .int 1], .oneOf [0, 1], true, .dom 1⟩,
  ⟨0x4000, 4, 0x4, 0x4, .u 32, .rws, .each [.int 25000, .int 25000, .int 10000, .int 10000], .step 2000 100000 10, true, .dom 1⟩,
  ⟨0x4000, 4, 0x5, 0x5, .time64, .rws, .all (.time 0 0 0), .any, true, .dom 1⟩,
  ⟨0x4000, 4, 0x6, 0x6, .u 16, .rws, .all (.int 1), .iv 1 65533, true, .dom 1⟩,
  ⟨0x4000, 4, 0x7, 0x7, .u 16, .rws, .all (.int 1000), .iv 300 5000, true, .dom 1⟩,
  ⟨0x4000, 4, 0x8, 0x8, .u 8, .rws, .all (.int 8), .iv 4 64, true, .dom 1⟩,
  ⟨0x4000, 4, 0x9, 0x9, .u 8, .rws, .all (.int 40), .iv 10 127, true, .dom 1⟩,
  ⟨0x4000, 4, 0xA, 0xA, .u 8, .rws, .each [.int 2, .int 2, .int 15, .int 15], .special, true, .dom 1⟩,
  ⟨0x4000, 4, 0xB, 0xB, .u 16, .rws, .all (.int 1), .iv 1 512, true, .dom 1⟩,
  ⟨0x4000, 4, 0xC, 0xC, .octets 1024, .rws, .all (.octets (List.replicate 1024 0)), .any, true, .dom 1⟩,
  ⟨0x4000, 4, 0xD, 0xD, .u 8, .rw, .all (.int 1), .iv 1 255, true, .dom 1⟩,
  ⟨0x4000, 4, 0xE, 0xE, .u 8, .rws, .all (.int 5), .iv 5 7, true, .dom 1⟩,
  ⟨0x4000, 4, 0xF, 0xF, .u 64, .ro, .all (.int 0), .any, false, .dom 3⟩,
  ⟨0x4000, 4, 0x10, 0x10, .u 8, .rw, .all (.int 1), .special, true, .dom 1⟩,
  ⟨0x4000, 4, 0x11, 0x11, .u 8, .rw, .all (.int 5), .special, true, .dom 1⟩,
  ⟨0x4000, 4, 0x12, 0x12, .u 8, .rw, .all (.int 3), .iv 0 7, true, .dom 1⟩,
  ⟨0x4000, 4, 0x13, 0x13, .u 8, .rws, .all (.int 2), .special, true, .dom 1⟩,
  ⟨0x4100, 64, 0x0, 0x0, .u 8, .ro, .all (.int 6), .any, false, .dom 3⟩,
  ⟨0x4100, 64, 0x1, 0x1, .bool, .rw, .all (.bool false), .any, true, .dom 1⟩,
  ⟨0x4100, 64, 0x2, 0x2, .u 8, .rw, .all (.int 0), .iv 0 3, true, .dom 1⟩,
  ⟨0x4100, 64, 0x3, 0x3, .u 16, .rw, .all (.int 101), .iv 1 65535, true, .dom 1⟩,
  ⟨0x4100, 64, 0x4, 0x4, .u 32, .rw, .all (.int 4000), .special, true, .dom 1⟩,
  ⟨0x4100, 64, 0x5, 0x5, .bool, .rw, .all (.bool true), .any, true, .dom 1⟩,
  ⟨0x4100, 64, 0x6, 0x6, .u 32, .ro, .all (.int 0), .any, false, .dom 3⟩,
  ⟨0x4200, 1, 0x0, 0x0, .u 8, .ro, .all (.int 9), .any, false, .dom 1⟩,
  ⟨0x4200, 1, 0x1, 0x1, .u 32, .rw, .all (.int 0), .iv 0 1048575, false, .dom 1⟩,
  ⟨0x4200, 1, 0x2, 0x2, .octets 16, .rw, .all (.octets (List.replicate 16 0)), .any, false, .dom 1⟩]

/-- Objects of chapter 05, part 2. -/
def rows05_2 : List Row := [
  ⟨0x4200, 1, 0x3, 0x3, .bool, .ro, .all (.bool false), .any, false, .dom 1⟩,
  ⟨0x4200, 1, 0x4, 0x4, .u 32, .ro, .all (.int 0), .any, false, .dom 1⟩,
  ⟨0x4200, 1, 0x5, 0x5, .u 32, .ro, .all (.int 0), .any, true, .dom 1⟩,
  ⟨0x4200, 1, 0x6, 0x6, .octets 8, .ro, .all (.octets (List.replicate 8 0)), .any, true, .dom 1⟩,
  ⟨0x4200, 1, 0x7, 0x7, .bool, .wo, .all (.bool false), .isTrue, false, .dom 1⟩,
  ⟨0x4200, 1, 0x8, 0x8, .u 32, .ro, .all (.int 0), .any, false, .dom 3⟩,
  ⟨0x4200, 1, 0x9, 0x9, .u 32, .ro, .all (.int 0), .any, false, .dom 3⟩,
  ⟨0x4400, 16, 0x0, 0x0, .u 8, .ro, .all (.int 8), .any, false, .dom 3⟩,
  ⟨0x4400, 16, 0x1, 0x1, .bool, .rw, .all (.bool false), .any, true, .dom 1⟩,
  ⟨0x4400, 16, 0x2, 0x2, .u 32, .rws, .all (.int 150000000), .special, true, .dom 1⟩,
  ⟨0x4400, 16, 0x3, 0x3, .u 32, .rws, .all (.int 150000000), .special, true, .dom 1⟩,
  ⟨0x4400, 16, 0x4, 0x4, .u 32, .rw, .all (.int 10000), .iv 1 1000000, true, .dom 1⟩,
  ⟨0x4400, 16, 0x5, 0x5, .u 16, .rws, .all (.int 3600), .iv 1 3600, true, .dom 1⟩,
  ⟨0x4400, 16, 0x6, 0x6, .u 8, .rw, .all (.int 10), .iv 0 50, true, .dom 1⟩,
  ⟨0x4400, 16, 0x7, 0x7, .u 32, .ro, .all (.int 0), .any, false, .dom 3⟩,
  ⟨0x4400, 16, 0x8, 0x8, .u 32, .ro, .all (.int 0), .any, false, .dom 3⟩,
  ⟨0x4A10, 1, 0x0, 0x0, .u 8, .ro, .all (.int 6), .any, false, .dom 1⟩,
  ⟨0x4A10, 1, 0x1, 0x1, .u 32, .rw, .all (.int 100), .iv 50 1000, true, .dom 1⟩,
  ⟨0x4A10, 1, 0x2, 0x2, .u 16, .rw, .all (.int 2000), .iv 1 65535, true, .dom 1⟩,
  ⟨0x4A10, 1, 0x3, 0x3, .u 32, .rw, .all (.int 4000), .special, true, .dom 1⟩,
  ⟨0x4A10, 1, 0x4, 0x4, .u 16, .rw, .all (.int 100), .iv 1 10000, true, .dom 1⟩,
  ⟨0x4A10, 1, 0x5, 0x5, .u 8, .rw, .all (.int 3), .special, true, .dom 1⟩,
  ⟨0x4A10, 1, 0x6, 0x6, .u 8, .rw, .all (.int 8), .special, true, .dom 1⟩,
  ⟨0x4B00, 1, 0x0, 0x0, .u 8, .ro, .all (.int 16), .any, false, .dom 3⟩,
  ⟨0x4B00, 1, 0x1, 0x1, .u 64, .ro, .all (.int 0), .any, false, .dom 3⟩,
  ⟨0x4B00, 1, 0x2, 0x2, .u 32, .ro, .all (.int 0), .any, false, .dom 3⟩,
  ⟨0x4B00, 1, 0x3, 0x3, .u 32, .ro, .all (.int 0), .any, false, .dom 3⟩,
  ⟨0x4B00, 1, 0x4, 0x4, .u 32, .ro, .all (.int 0), .any, false, .dom 3⟩,
  ⟨0x4B00, 1, 0x5, 0x5, .u 32, .ro, .all (.int 0), .any, false, .dom 3⟩,
  ⟨0x4B00, 1, 0x6, 0x6, .u 32, .ro, .all (.int 0), .any, false, .dom 3⟩]

/-- Objects of chapter 05, part 3. -/
def rows05_3 : List Row := [
  ⟨0x4B00, 1, 0x7, 0x7, .u 64, .ro, .all (.int 0), .any, false, .dom 3⟩,
  ⟨0x4B00, 1, 0x8, 0x8, .u 32, .ro, .all (.int 0), .any, false, .dom 3⟩,
  ⟨0x4B00, 1, 0x9, 0x9, .u 32, .ro, .all (.int 0), .any, false, .dom 3⟩,
  ⟨0x4B00, 1, 0xA, 0xA, .u 32, .ro, .all (.int 0), .any, false, .dom 3⟩,
  ⟨0x4B00, 1, 0xB, 0xB, .u 64, .ro, .all (.int 0), .any, false, .dom 3⟩,
  ⟨0x4B00, 1, 0xC, 0xC, .u 64, .ro, .all (.int 0), .any, false, .dom 3⟩,
  ⟨0x4B00, 1, 0xD, 0xD, .u 64, .ro, .all (.int 0), .any, false, .dom 3⟩,
  ⟨0x4B00, 1, 0xE, 0xE, .u 32, .ro, .all (.int 0), .any, false, .dom 3⟩,
  ⟨0x4B00, 1, 0xF, 0xF, .u 32, .ro, .all (.int 0), .any, false, .dom 3⟩,
  ⟨0x4B00, 1, 0x10, 0x10, .u 32, .ro, .all (.int 0), .any, false, .dom 3⟩,
  ⟨0x4B10, 1, 0x0, 0x0, .u 8, .ro, .all (.int 11), .any, false, .dom 3⟩,
  ⟨0x4B10, 1, 0x1, 0xB, .u 32, .ro, .all (.int 0), .any, false, .dom 3⟩,
  ⟨0x4C00, 1, 0x0, 0x0, .u 8, .ro, .all (.int 7), .any, false, .dom 3⟩,
  ⟨0x4C00, 1, 0x1, 0x1, .u 32, .rw, .all (.int 262143), .iv 0 262143, false, .dom 3⟩,
  ⟨0x4C00, 1, 0x2, 0x2, .u 8, .ro, .all (.int 0), .any, false, .dom 3⟩,
  ⟨0x4C00, 1, 0x3, 0x3, .u 16, .ro, .all (.int 0), .any, false, .dom 3⟩,
  ⟨0x4C00, 1, 0x4, 0x4, .time64, .ro, .all (.time 0 0 0), .any, false, .dom 3⟩,
  ⟨0x4C00, 1, 0x5, 0x5, .u 32, .ro, .all (.int 0), .any, false, .dom 3⟩,
  ⟨0x4C00, 1, 0x6, 0x6, .u 8, .ro, .all (.int 0), .any, false, .dom 3⟩,
  ⟨0x4C00, 1, 0x7, 0x7, .i 32, .ro, .all (.int 0), .any, false, .dom 3⟩]

/-- Objects of chapter 05. -/
def rows05 : List Row := rows05_1 ++ rows05_2 ++ rows05_3

/-- Objects of chapter 06, part 1. -/
def rows06_1 : List Row := [
  ⟨0x5000, 1, 0x0, 0x0, .u 8, .ro, .all (.int 11), .any, false, .dom 1⟩,
  ⟨0x5000, 1, 0x1, 0x1, .u 32, .rw, .all (.int 604800), .iv 3600 31536000, true, .dom 1⟩,
  ⟨0x5000, 1, 0x2, 0x2, .u 32, .rw, .all (.int 7776000), .special, true, .dom 1⟩,
  ⟨0x5000, 1, 0x3, 0x3, .u 32, .rw, .all (.int 600), .iv 10 86400, true, .dom 1⟩,
  ⟨0x5000, 1, 0x4, 0x4, .u 8, .rw, .all (.int 15), .mask 0x0F, true, .dom 1⟩,
  ⟨0x5000, 1, 0x5, 0x5, .u 16, .rw, .all (.int 256), .iv 1 4096, true, .dom 1⟩,
  ⟨0x5000, 1, 0x6, 0x6, .u 16, .rw, .all (.int 60), .iv 5 3600, true, .dom 1⟩,
  ⟨0x5000, 1, 0x7, 0x7, .u 16, .rws, .all (.int 16384), .special, true, .dom 1⟩,
  ⟨0x5000, 1, 0x8, 0x8, .u 32, .rw, .all (.int 86400), .iv 0 2592000, true, .dom 1⟩,
  ⟨0x5000, 1, 0x9, 0x9, .bool, .rw, .all (.bool true), .any, true, .dom 1⟩,
  ⟨0x5000, 1, 0xA, 0xA, .u 32, .rw, .all (.int 3600), .iv 600 86400, true, .dom 1⟩,
  ⟨0x5000, 1, 0xB, 0xB, .u 8, .rw, .all (.int 5), .iv 1 60, true, .dom 1⟩,
  ⟨0x5010, 1, 0x0, 0x0, .u 8, .ro, .all (.int 16), .any, false, .dom 4⟩,
  ⟨0x5010, 1, 0x1, 0x1, .u 32, .ro, .all (.int 0), .any, false, .dom 4⟩,
  ⟨0x5010, 1, 0x2, 0x2, .u 16, .ro, .all (.int 0), .any, false, .dom 4⟩,
  ⟨0x5010, 1, 0x3, 0x3, .u 32, .ro, .all (.int 0), .any, false, .dom 4⟩,
  ⟨0x5010, 1, 0x4, 0x4, .u 32, .ro, .all (.int 0), .any, false, .dom 4⟩,
  ⟨0x5010, 1, 0x5, 0x5, .u 8, .ro, .all (.int 0), .any, false, .dom 4⟩,
  ⟨0x5010, 1, 0x6, 0x6, .u 16, .ro, .all (.int 0), .any, false, .dom 4⟩,
  ⟨0x5010, 1, 0x7, 0x7, .u 64, .ro, .all (.int 0), .any, false, .dom 4⟩,
  ⟨0x5010, 1, 0x8, 0x8, .u 64, .ro, .all (.int 0), .any, false, .dom 4⟩,
  ⟨0x5010, 1, 0x9, 0x9, .u 32, .ro, .all (.int 0), .any, false, .dom 4⟩,
  ⟨0x5010, 1, 0xA, 0xA, .u 64, .ro, .all (.int 0), .any, false, .dom 4⟩,
  ⟨0x5010, 1, 0xB, 0xB, .u 32, .ro, .all (.int 0), .any, false, .dom 4⟩,
  ⟨0x5010, 1, 0xC, 0xC, .u 32, .ro, .all (.int 0), .any, false, .dom 4⟩,
  ⟨0x5010, 1, 0xD, 0xD, .u 32, .ro, .all (.int 0), .any, false, .dom 4⟩,
  ⟨0x5010, 1, 0xE, 0xE, .u 32, .ro, .all (.int 0), .any, false, .dom 4⟩,
  ⟨0x5010, 1, 0xF, 0xF, .u 8, .ro, .all (.int 0), .any, false, .dom 4⟩,
  ⟨0x5010, 1, 0x10, 0x10, .u 32, .ro, .all (.int 0), .any, false, .dom 4⟩,
  ⟨0x5020, 1, 0x0, 0x0, .u 8, .ro, .all (.int 3), .any, false, .dom 1⟩]

/-- Objects of chapter 06, part 2. -/
def rows06_2 : List Row := [
  ⟨0x5020, 1, 0x1, 0x1, .octets 16, .ro, .all (.octets (List.replicate 16 0)), .any, true, .dom 1⟩,
  ⟨0x5020, 1, 0x2, 0x2, .i 64, .ro, .all (.int 0), .any, true, .dom 1⟩,
  ⟨0x5020, 1, 0x3, 0x3, .time64, .ro, .all (.time 0 0 0), .any, true, .dom 1⟩,
  ⟨0x5030, 1, 0x0, 0x0, .u 8, .ro, .all (.int 4), .any, false, .dom 4⟩,
  ⟨0x5030, 1, 0x1, 0x1, .octets 8, .rw, .all (.octets (List.replicate 8 0)), .any, false, .dom 4⟩,
  ⟨0x5030, 1, 0x2, 0x2, .octets 32, .ro, .all (.octets (List.replicate 32 0)), .any, false, .dom 4⟩,
  ⟨0x5030, 1, 0x3, 0x3, .octets 256, .ro, .all (.octets (List.replicate 256 0)), .any, false, .dom 4⟩,
  ⟨0x5030, 1, 0x4, 0x4, .octets 64, .rw, .all (.octets (List.replicate 64 0)), .any, false, .dom 4⟩,
  ⟨0x5040, 2, 0x0, 0x0, .u 8, .ro, .all (.int 7), .any, false, .dom 4⟩,
  ⟨0x5040, 2, 0x1, 0x1, .u 16, .ro, .all (.int 0), .any, false, .dom 4⟩,
  ⟨0x5040, 2, 0x2, 0x2, .u 16, .ro, .all (.int 0), .any, false, .dom 4⟩,
  ⟨0x5040, 2, 0x3, 0x3, .u 64, .ro, .all (.int 0), .any, false, .dom 4⟩,
  ⟨0x5040, 2, 0x4, 0x4, .u 64, .ro, .all (.int 0), .any, false, .dom 4⟩,
  ⟨0x5040, 2, 0x5, 0x5, .u 32, .ro, .all (.int 0), .any, false, .dom 4⟩,
  ⟨0x5040, 2, 0x6, 0x6, .u 32, .ro, .all (.int 0), .any, false, .dom 4⟩,
  ⟨0x5040, 2, 0x7, 0x7, .u 32, .ro, .all (.int 0), .any, false, .dom 4⟩,
  ⟨0x5200, 4, 0x0, 0x0, .u 8, .ro, .all (.int 9), .any, false, .dom 4⟩,
  ⟨0x5200, 4, 0x1, 0x1, .u 8, .rws, .all (.int 0), .iv 0 127, true, .dom 1⟩,
  ⟨0x5200, 4, 0x2, 0x2, .octets 8, .rws, .all (.octets (List.replicate 8 0)), .any, true, .dom 1⟩,
  ⟨0x5200, 4, 0x3, 0x3, .u 16, .rws, .all (.int 0), .oneOf [0, 1], true, .dom 1⟩,
  ⟨0x5200, 4, 0x4, 0x4, .u 8, .rw, .all (.int 12), .iv 6 20, true, .dom 1⟩,
  ⟨0x5200, 4, 0x5, 0x5, .u 8, .rw, .all (.int 8), .iv 0 16, true, .dom 1⟩,
  ⟨0x5200, 4, 0x6, 0x6, .u 16, .rws, .all (.int 60), .iv 1 65535, true, .dom 1⟩,
  ⟨0x5200, 4, 0x7, 0x7, .u 8, .rws, .all (.int 120), .iv 1 254, true, .dom 1⟩,
  ⟨0x5200, 4, 0x8, 0x8, .u 8, .ro, .all (.int 0), .any, true, .dom 1⟩,
  ⟨0x5200, 4, 0x9, 0x9, .u 32, .ro, .all (.int 0), .any, false, .dom 4⟩]

/-- Objects of chapter 06. -/
def rows06 : List Row := rows06_1 ++ rows06_2

/-- Objects of chapter 07, part 1. -/
def rows07_1 : List Row := [
  ⟨0x6000, 1, 0x0, 0x0, .u 8, .ro, .all (.int 14), .any, false, .dom 1⟩,
  ⟨0x6000, 1, 0x1, 0x1, .u 16, .rw, .all (.int 5690), .special, true, .dom 1⟩,
  ⟨0x6000, 1, 0x2, 0x2, .u 32, .rw, .all (.int 600), .iv 1 1600, true, .dom 1⟩,
  ⟨0x6000, 1, 0x3, 0x3, .u 16, .rw, .all (.int 64), .iv 1 4096, true, .dom 1⟩,
  ⟨0x6000, 1, 0x4, 0x4, .u 8, .rw, .all (.int 4), .iv 1 64, true, .dom 1⟩,
  ⟨0x6000, 1, 0x5, 0x5, .u 16, .rw, .all (.int 60), .iv 1 3600, true, .dom 1⟩,
  ⟨0x6000, 1, 0x6, 0x6, .u 8, .rw, .all (.int 2), .iv 0 7, true, .dom 1⟩,
  ⟨0x6000, 1, 0x7, 0x7, .u 32, .rw, .all (.int 3145728), .iv 65536 4128768, true, .dom 1⟩,
  ⟨0x6000, 1, 0x8, 0x8, .u 32, .rw, .all (.int 3145728), .iv 65536 4128768, true, .dom 1⟩,
  ⟨0x6000, 1, 0x9, 0x9, .u 32, .rw, .all (.int 65536), .iv 0 262144, true, .dom 1⟩,
  ⟨0x6000, 1, 0xA, 0xA, .u 8, .rw, .all (.int 1), .oneOf [0, 1, 2], true, .dom 1⟩,
  ⟨0x6000, 1, 0xB, 0xB, .u 32, .rw, .all (.int 1000), .iv 100 100000, true, .dom 1⟩,
  ⟨0x6000, 1, 0xC, 0xC, .u 16, .rw, .all (.int 10), .iv 1 10000, true, .dom 1⟩,
  ⟨0x6000, 1, 0xD, 0xD, .u 16, .rw, .all (.int 1), .iv 1 4095, true, .dom 1⟩,
  ⟨0x6000, 1, 0xE, 0xE, .octets 4, .rw, .all (.octets [6, 5, 2, 1]), .octMax 7, true, .dom 1⟩,
  ⟨0x6010, 1, 0x0, 0x0, .u 8, .ro, .all (.int 15), .any, false, .dom 4⟩,
  ⟨0x6010, 1, 0x1, 0x1, .u 64, .ro, .all (.int 0), .any, false, .dom 4⟩,
  ⟨0x6010, 1, 0x2, 0x2, .u 64, .ro, .all (.int 0), .any, false, .dom 4⟩,
  ⟨0x6010, 1, 0x3, 0x3, .u 32, .ro, .all (.int 0), .any, false, .dom 4⟩,
  ⟨0x6010, 1, 0x4, 0x4, .u 32, .ro, .all (.int 0), .any, false, .dom 4⟩,
  ⟨0x6010, 1, 0x5, 0x5, .u 32, .ro, .all (.int 0), .any, false, .dom 4⟩,
  ⟨0x6010, 1, 0x6, 0x6, .u 32, .ro, .all (.int 0), .any, false, .dom 4⟩,
  ⟨0x6010, 1, 0x7, 0x7, .u 32, .ro, .all (.int 0), .any, false, .dom 4⟩,
  ⟨0x6010, 1, 0x8, 0x8, .u 64, .ro, .all (.int 0), .any, false, .dom 4⟩,
  ⟨0x6010, 1, 0x9, 0x9, .u 64, .ro, .all (.int 0), .any, false, .dom 4⟩,
  ⟨0x6010, 1, 0xA, 0xA, .u 64, .ro, .all (.int 0), .any, false, .dom 4⟩,
  ⟨0x6010, 1, 0xB, 0xB, .u 32, .ro, .all (.int 0), .any, false, .dom 4⟩,
  ⟨0x6010, 1, 0xC, 0xC, .u 32, .ro, .all (.int 0), .any, false, .dom 4⟩,
  ⟨0x6010, 1, 0xD, 0xD, .u 64, .ro, .all (.int 1), .any, true, .dom 4⟩,
  ⟨0x6010, 1, 0xE, 0xE, .u 32, .ro, .all (.int 0), .any, false, .dom 4⟩]

/-- Objects of chapter 07, part 2. -/
def rows07_2 : List Row := [
  ⟨0x6010, 1, 0xF, 0xF, .u 32, .ro, .all (.int 0), .any, false, .dom 4⟩,
  ⟨0x6011, 1, 0x0, 0x0, .u 8, .ro, .all (.int 4), .any, false, .dom 4⟩,
  ⟨0x6011, 1, 0x1, 0x4, .u 32, .ro, .all (.int 0), .any, false, .dom 4⟩,
  ⟨0x6020, 1, 0x0, 0x0, .u 8, .ro, .all (.int 5), .any, false, .dom 4⟩,
  ⟨0x6020, 1, 0x1, 0x1, .u 8, .ro, .all (.int 0), .any, false, .dom 4⟩,
  ⟨0x6020, 1, 0x2, 0x2, .u 32, .ro, .all (.int 0), .any, false, .dom 4⟩,
  ⟨0x6020, 1, 0x3, 0x3, .u 32, .ro, .all (.int 0), .any, false, .dom 4⟩,
  ⟨0x6020, 1, 0x4, 0x4, .u 32, .ro, .all (.int 0), .any, false, .dom 4⟩,
  ⟨0x6020, 1, 0x5, 0x5, .u 16, .rw, .all (.int 64), .iv 1 1024, true, .dom 1⟩,
  ⟨0x6100, 1, 0x0, 0x0, .u 8, .ro, .all (.int 4), .any, false, .dom 4⟩,
  ⟨0x6100, 1, 0x1, 0x1, .u 16, .rw, .all (.int 1), .iv 0 4095, false, .dom 4⟩,
  ⟨0x6100, 1, 0x2, 0x2, .octets 16, .rw, .all (.octets [0, 2, 0, 64, 0, 0, 3, 0xE8, 0, 8, 3, 0, 0, 0, 0x10, 0]), .any, true, .dom 1⟩,
  ⟨0x6100, 1, 0x3, 0x3, .octets 48, .ro, .all (.octets (List.replicate 48 0)), .any, false, .dom 4⟩,
  ⟨0x6100, 1, 0x4, 0x4, .octets 104, .ro, .all (.octets (List.replicate 104 0)), .any, false, .dom 4⟩,
  ⟨0x6110, 1, 0x0, 0x0, .u 8, .ro, .all (.int 8), .any, false, .dom 4⟩,
  ⟨0x6110, 1, 0x1, 0x8, .octets 104, .ro, .all (.octets (List.replicate 104 0)), .any, false, .dom 4⟩,
  ⟨0x6200, 1, 0x0, 0x0, .u 8, .ro, .all (.int 64), .any, false, .dom 1⟩,
  ⟨0x6200, 1, 0x1, 0x40, .octets 8, .rw, .all (.octets (List.replicate 8 0)), .special, true, .dom 1⟩,
  ⟨0x6300, 1, 0x0, 0x0, .u 8, .ro, .all (.int 5), .any, false, .dom 4⟩,
  ⟨0x6300, 1, 0x1, 0x1, .u 8, .rw, .all (.int 0), .iv 0 64, false, .dom 4⟩,
  ⟨0x6300, 1, 0x2, 0x2, .u 16, .rw, .all (.int 0), .iv 0 3600, false, .dom 4⟩,
  ⟨0x6300, 1, 0x3, 0x3, .u 16, .ro, .all (.int 0), .any, false, .dom 4⟩,
  ⟨0x6300, 1, 0x4, 0x4, .u 16, .ro, .all (.int 0), .any, false, .dom 4⟩,
  ⟨0x6300, 1, 0x5, 0x5, .i 32, .ro, .all (.int 0), .any, false, .dom 4⟩,
  ⟨0x6500, 1, 0x0, 0x0, .u 8, .ro, .all (.int 16), .any, false, .dom 1⟩,
  ⟨0x6500, 1, 0x1, 0x10, .octets 8, .rw, .all (.octets (List.replicate 8 0)), .any, true, .dom 1⟩,
  ⟨0x6501, 1, 0x0, 0x0, .u 8, .ro, .all (.int 16), .any, false, .dom 4⟩,
  ⟨0x6501, 1, 0x1, 0x10, .u 64, .ro, .all (.int 0), .any, false, .dom 4⟩,
  ⟨0x6502, 1, 0x0, 0x0, .u 8, .ro, .all (.int 16), .any, false, .dom 4⟩,
  ⟨0x6502, 1, 0x1, 0x10, .u 64, .ro, .all (.int 0), .any, true, .dom 4⟩]

/-- Objects of chapter 07. -/
def rows07 : List Row := rows07_1 ++ rows07_2

/-- Objects of chapter 08, part 1. -/
def rows08_1 : List Row := [
  ⟨0x7000, 2, 0x0, 0x0, .u 8, .ro, .all (.int 12), .any, false, .dom 1⟩,
  ⟨0x7000, 2, 0x1, 0x1, .bool, .rw, .all (.bool true), .any, true, .dom 1⟩,
  ⟨0x7000, 2, 0x2, 0x2, .u 8, .rw, .all (.int 7), .special, true, .dom 1⟩,
  ⟨0x7000, 2, 0x3, 0x3, .u 8, .rw, .all (.int 0), .oneOf [0, 1, 2], true, .dom 1⟩,
  ⟨0x7000, 2, 0x4, 0x4, .u 8, .rw, .all (.int 0), .oneOf [0, 1, 2], true, .dom 1⟩,
  ⟨0x7000, 2, 0x5, 0x5, .octets 32, .rw, .all (.octets (List.replicate 32 0)), .special, true, .dom 1⟩,
  ⟨0x7000, 2, 0x6, 0x6, .octets 128, .rw, .all (.octets (List.replicate 128 0)), .special, true, .dom 1⟩,
  ⟨0x7000, 2, 0x7, 0x7, .u 16, .rw, .all (.int 0), .iv 0 500, true, .dom 1⟩,
  ⟨0x7000, 2, 0x8, 0x8, .u 16, .rw, .all (.int 0), .iv 0 500, true, .dom 1⟩,
  ⟨0x7000, 2, 0x9, 0x9, .u 16, .rw, .all (.int 100), .iv 0 60000, true, .dom 1⟩,
  ⟨0x7000, 2, 0xA, 0xA, .u 16, .rw, .all (.int 1000), .orZero 100 60000, true, .dom 1⟩,
  ⟨0x7000, 2, 0xB, 0xB, .u 8, .rw, .all (.int 6), .any, true, .dom 1⟩,
  ⟨0x7000, 2, 0xC, 0xC, .u 8, .rw, .all (.int 30), .iv 0 100, true, .dom 1⟩,
  ⟨0x7010, 2, 0x0, 0x0, .u 8, .ro, .all (.int 18), .any, false, .trunkPort⟩,
  ⟨0x7010, 2, 0x1, 0x1, .u 8, .ro, .all (.int 0), .any, false, .trunkPort⟩,
  ⟨0x7010, 2, 0x2, 0x2, .u 8, .ro, .all (.int 0), .any, false, .trunkPort⟩,
  ⟨0x7010, 2, 0x3, 0x3, .u 8, .ro, .all (.int 0), .any, false, .trunkPort⟩,
  ⟨0x7010, 2, 0x4, 0x4, .i 16, .ro, .all (.int 0), .any, false, .trunkPort⟩,
  ⟨0x7010, 2, 0x5, 0x5, .u 32, .ro, .all (.int 0), .any, false, .trunkPort⟩,
  ⟨0x7010, 2, 0x6, 0x6, .u 32, .ro, .all (.int 0), .any, false, .trunkPort⟩,
  ⟨0x7010, 2, 0x7, 0x7, .u 64, .ro, .all (.int 0), .any, false, .trunkPort⟩,
  ⟨0x7010, 2, 0x8, 0x8, .u 64, .ro, .all (.int 0), .any, false, .trunkPort⟩,
  ⟨0x7010, 2, 0x9, 0x9, .u 32, .ro, .all (.int 0), .any, false, .trunkPort⟩,
  ⟨0x7010, 2, 0xA, 0xA, .u 64, .ro, .all (.int 0), .any, false, .trunkPort⟩,
  ⟨0x7010, 2, 0xB, 0xB, .u 64, .ro, .all (.int 0), .any, false, .trunkPort⟩,
  ⟨0x7010, 2, 0xC, 0xC, .u 32, .ro, .all (.int 0), .any, false, .trunkPort⟩,
  ⟨0x7010, 2, 0xD, 0xD, .u 32, .ro, .all (.int 0), .any, false, .trunkPort⟩,
  ⟨0x7010, 2, 0xE, 0xE, .u 32, .ro, .all (.int 0), .any, false, .trunkPort⟩,
  ⟨0x7010, 2, 0xF, 0xF, .u 32, .ro, .all (.int 0), .any, false, .trunkPort⟩,
  ⟨0x7010, 2, 0x10, 0x10, .u 64, .ro, .all (.int 0), .any, false, .trunkPort⟩]

/-- Objects of chapter 08, part 2. -/
def rows08_2 : List Row := [
  ⟨0x7010, 2, 0x11, 0x11, .u 32, .ro, .all (.int 0), .any, false, .trunkPort⟩,
  ⟨0x7010, 2, 0x12, 0x12, .u 16, .ro, .all (.int 65535), .any, false, .trunkPort⟩,
  ⟨0x7020, 1, 0x0, 0x0, .u 8, .ro, .all (.int 8), .any, false, .dom 4⟩,
  ⟨0x7020, 1, 0x1, 0x1, .u 8, .rws, .all (.int 0), .oneOf [0, 1], true, .dom 1⟩,
  ⟨0x7020, 1, 0x2, 0x2, .u 16, .rw, .all (.int 2000), .iv 100 10000, true, .dom 1⟩,
  ⟨0x7020, 1, 0x3, 0x3, .u 16, .rw, .all (.int 400), .iv 10 10000, true, .dom 1⟩,
  ⟨0x7020, 1, 0x4, 0x4, .u 64, .ro, .all (.int 0), .any, false, .dom 4⟩,
  ⟨0x7020, 1, 0x5, 0x5, .u 64, .ro, .all (.int 0), .any, false, .dom 4⟩,
  ⟨0x7020, 1, 0x6, 0x6, .u 32, .ro, .all (.int 0), .any, false, .dom 4⟩,
  ⟨0x7020, 1, 0x7, 0x7, .u 32, .ro, .all (.int 0), .any, false, .dom 4⟩,
  ⟨0x7020, 1, 0x8, 0x8, .u 8, .ro, .all (.int 0), .any, false, .dom 4⟩,
  ⟨0x7030, 1, 0x0, 0x0, .u 8, .ro, .all (.int 11), .any, false, .dom 1⟩,
  ⟨0x7030, 1, 0x1, 0x1, .octets 6, .ro, .all (.octets (List.replicate 6 0)), .any, false, .dom 1⟩,
  ⟨0x7030, 1, 0x2, 0x2, .u 16, .rw, .all (.int 0), .iv 0 4094, true, .dom 1⟩,
  ⟨0x7030, 1, 0x3, 0x3, .octets 16, .rw, .all (.octets (List.replicate 16 0)), .any, true, .dom 1⟩,
  ⟨0x7030, 1, 0x4, 0x4, .u 8, .rw, .all (.int 64), .iv 1 128, true, .dom 1⟩,
  ⟨0x7030, 1, 0x5, 0x5, .octets 16, .rw, .all (.octets (List.replicate 16 0)), .any, true, .dom 1⟩,
  ⟨0x7030, 1, 0x6, 0x6, .octets 4, .rw, .all (.octets (List.replicate 4 0)), .any, true, .dom 1⟩,
  ⟨0x7030, 1, 0x7, 0x7, .u 8, .rw, .all (.int 24), .iv 1 32, true, .dom 1⟩,
  ⟨0x7030, 1, 0x8, 0x8, .octets 4, .rw, .all (.octets (List.replicate 4 0)), .any, true, .dom 1⟩,
  ⟨0x7030, 1, 0x9, 0x9, .octets 16, .rw, .all (.octets (List.replicate 16 0)), .any, true, .dom 1⟩,
  ⟨0x7030, 1, 0xA, 0xA, .octets 4, .rw, .all (.octets (List.replicate 4 0)), .any, true, .dom 1⟩,
  ⟨0x7030, 1, 0xB, 0xB, .octets 6, .rw, .all (.octets [3, 0, 0, 0, 0, 0]), .special, true, .dom 1⟩,
  ⟨0x7040, 1, 0x0, 0x0, .u 8, .ro, .all (.int 2), .any, false, .dom 1⟩,
  ⟨0x7040, 1, 0x1, 0x1, .u 8, .rw, .all (.int 1), .oneOf [0, 1, 2], true, .dom 1⟩,
  ⟨0x7040, 1, 0x2, 0x2, .u 16, .rw, .all (.int 100), .iv 50 400, true, .dom 1⟩]

/-- Objects of chapter 08. -/
def rows08 : List Row := rows08_1 ++ rows08_2

/-- Objects of chapter 09, part 1. -/
def rows09_1 : List Row := [
  ⟨0x7400, 1, 0x0, 0x0, .u 8, .ro, .all (.int 9), .any, false, .dom 1⟩,
  ⟨0x7400, 1, 0x1, 0x1, .u 8, .ro, .all (.int 0), .any, false, .dom 1⟩,
  ⟨0x7400, 1, 0x2, 0x2, .u 16, .rw, .all (.int 0), .iv 0 65535, true, .dom 1⟩,
  ⟨0x7400, 1, 0x3, 0x3, .octets 8, .rw, .all (.octets (List.replicate 8 0)), .any, true, .dom 1⟩,
  ⟨0x7400, 1, 0x4, 0x4, .octets 8, .rw, .all (.octets (List.replicate 8 0)), .any, true, .dom 1⟩,
  ⟨0x7400, 1, 0x5, 0x5, .u 32, .rw, .all (.int 60), .orZero 10 86400, true, .dom 1⟩,
  ⟨0x7400, 1, 0x6, 0x6, .i 16, .rw, .all (.int (-600)), .iv (-1000) (-200), true, .dom 1⟩,
  ⟨0x7400, 1, 0x7, 0x7, .u 16, .rw, .all (.int 5), .iv 1 600, true, .dom 1⟩,
  ⟨0x7400, 1, 0x8, 0x8, .octets 12, .rw, .all (.octets (List.replicate 12 0)), .any, true, .dom 1⟩,
  ⟨0x7400, 1, 0x9, 0x9, .bool, .wo, .all (.bool false), .isTrue, false, .dom 1⟩,
  ⟨0x7410, 1, 0x0, 0x0, .u 8, .ro, .all (.int 12), .any, false, .dom 3⟩,
  ⟨0x7410, 1, 0x1, 0x1, .u 8, .ro, .all (.int 0), .any, false, .dom 3⟩,
  ⟨0x7410, 1, 0x2, 0x2, .u 8, .ro, .all (.int 255), .any, false, .dom 3⟩,
  ⟨0x7410, 1, 0x3, 0x3, .bool, .ro, .all (.bool false), .any, true, .dom 3⟩,
  ⟨0x7410, 1, 0x4, 0x4, .u 32, .ro, .all (.int 0), .any, false, .dom 3⟩,
  ⟨0x7410, 1, 0x5, 0x5, .u 32, .ro, .all (.int 0), .any, false, .dom 3⟩,
  ⟨0x7410, 1, 0x6, 0x6, .u 32, .ro, .all (.int 0), .any, false, .dom 3⟩,
  ⟨0x7410, 1, 0x7, 0x7, .u 32, .ro, .all (.int 0), .any, false, .dom 3⟩,
  ⟨0x7410, 1, 0x8, 0x8, .u 64, .ro, .all (.int 0), .any, false, .dom 3⟩,
  ⟨0x7410, 1, 0x9, 0x9, .u 32, .ro, .all (.int 0), .any, false, .dom 3⟩,
  ⟨0x7410, 1, 0xA, 0xA, .u 32, .ro, .all (.int 0), .any, false, .dom 3⟩,
  ⟨0x7410, 1, 0xB, 0xB, .u 64, .ro, .all (.int 0), .any, false, .dom 3⟩,
  ⟨0x7410, 1, 0xC, 0xC, .time64, .ro, .all (.time 0 0 0), .any, false, .dom 3⟩]

/-- Objects of chapter 09. -/
def rows09 : List Row := rows09_1

/-- Objects of chapter 10, part 1. -/
def rows10_1 : List Row := [
  ⟨0x8000, 1, 0x0, 0x0, .u 8, .ro, .all (.int 27), .any, false, .dom 3⟩,
  ⟨0x8000, 1, 0x1, 0x1, .time64, .ro, .all (.time 0 0 0), .any, false, .dom 3⟩,
  ⟨0x8000, 1, 0x2, 0x2, .u 64, .ro, .all (.int 0), .any, false, .dom 3⟩,
  ⟨0x8000, 1, 0x3, 0x3, .i 64, .rw, .all (.int 0), .special, false, .dom 3⟩,
  ⟨0x8000, 1, 0x4, 0x4, .u 8, .ro, .all (.int 0), .any, false, .dom 3⟩,
  ⟨0x8000, 1, 0x5, 0x5, .u 32, .ro, .all (.int 4294967295), .any, false, .dom 3⟩,
  ⟨0x8000, 1, 0x6, 0x6, .bool, .ro, .all (.bool false), .any, false, .dom 3⟩,
  ⟨0x8000, 1, 0x7, 0x7, .u 8, .rw, .all (.int 1), .oneOf [0, 1, 2], true, .dom 1⟩,
  ⟨0x8000, 1, 0x8, 0x8, .octets 20, .wo, .all (.octets (List.replicate 20 0)), .any, false, .dom 3⟩,
  ⟨0x8000, 1, 0x9, 0x9, .u 32, .rw, .all (.int 100000), .orZero 1000 1000000000, true, .dom 1⟩,
  ⟨0x8000, 1, 0xA, 0xA, .u 32, .rw, .all (.int 200000), .special, true, .dom 1⟩,
  ⟨0x8000, 1, 0xB, 0xB, .u 32, .rw, .all (.int 100), .special, true, .dom 1⟩,
  ⟨0x8000, 1, 0xC, 0xC, .u 32, .rw, .all (.int 10000), .special, true, .dom 1⟩,
  ⟨0x8000, 1, 0xD, 0xD, .u 8, .rw, .all (.int 1), .iv 0 8, true, .dom 1⟩,
  ⟨0x8000, 1, 0xE, 0xE, .u 8, .rw, .all (.int 4), .iv 0 12, true, .dom 1⟩,
  ⟨0x8000, 1, 0xF, 0xF, .u 32, .rw, .all (.int (-1)), .iv 1 100000, true, .dom 1⟩,
  ⟨0x8000, 1, 0x10, 0x10, .u 32, .rw, .all (.int (-1)), .iv 0 10000, true, .dom 1⟩,
  ⟨0x8000, 1, 0x11, 0x11, .u 32, .rw, .all (.int 100), .iv 0 1000000, true, .dom 1⟩,
  ⟨0x8000, 1, 0x12, 0x12, .u 32, .ro, .all (.int 2000000000), .any, false, .dom 3⟩,
  ⟨0x8000, 1, 0x13, 0x13, .u 32, .ro, .all (.int 0), .any, false, .dom 3⟩,
  ⟨0x8000, 1, 0x14, 0x14, .i 64, .ro, .all (.int 0), .any, false, .dom 3⟩,
  ⟨0x8000, 1, 0x15, 0x15, .time64, .ro, .all (.time 0 0 0), .any, false, .dom 3⟩,
  ⟨0x8000, 1, 0x16, 0x16, .i 16, .ro, .all (.int 0), .any, false, .dom 3⟩,
  ⟨0x8000, 1, 0x17, 0x17, .bool, .rw, .all (.bool false), .any, true, .dom 1⟩,
  ⟨0x8000, 1, 0x18, 0x18, .u 16, .rw, .all (.int 100), .iv 1 900, true, .dom 1⟩,
  ⟨0x8000, 1, 0x19, 0x19, .bool, .rw, .all (.bool true), .any, true, .dom 1⟩,
  ⟨0x8000, 1, 0x1A, 0x1A, .u 8, .rw, .all (.int 0), .oneOf [0, 1], true, .dom 1⟩,
  ⟨0x8000, 1, 0x1B, 0x1B, .time64, .ro, .all (.time 0 0 0), .any, false, .dom 3⟩,
  ⟨0x8010, 1, 0x0, 0x0, .u 8, .ro, .all (.int 12), .any, false, .dom 3⟩,
  ⟨0x8010, 1, 0x1, 0x1, .u 8, .rw, .all (.int 0), .iv 0 127, true, .dom 1⟩]

/-- Objects of chapter 10, part 2. -/
def rows10_2 : List Row := [
  ⟨0x8010, 1, 0x2, 0x2, .u 8, .rw, .all (.int 0), .oneOf [0, 1, 2], true, .dom 1⟩,
  ⟨0x8010, 1, 0x3, 0x3, .bool, .rw, .all (.bool false), .any, true, .dom 1⟩,
  ⟨0x8010, 1, 0x4, 0x4, .i 8, .rw, .all (.int 0), .iv (-4) 4, true, .dom 1⟩,
  ⟨0x8010, 1, 0x5, 0x5, .u 8, .rw, .all (.int 3), .iv 2 10, true, .dom 1⟩,
  ⟨0x8010, 1, 0x6, 0x6, .u 8, .rw, .all (.int 16), .iv 4 255, true, .dom 1⟩,
  ⟨0x8010, 1, 0x7, 0x7, .u 8, .rw, .all (.int 16), .iv 1 64, true, .dom 1⟩,
  ⟨0x8010, 1, 0x8, 0x8, .octets 8, .ro, .all (.octets (List.replicate 8 0)), .any, false, .dom 3⟩,
  ⟨0x8010, 1, 0x9, 0x9, .octets 10, .ro, .all (.octets (List.replicate 10 0)), .any, false, .dom 3⟩,
  ⟨0x8010, 1, 0xA, 0xA, .u 8, .ro, .all (.int 255), .any, false, .dom 3⟩,
  ⟨0x8010, 1, 0xB, 0xB, .i 64, .ro, .all (.int 0), .any, false, .dom 3⟩,
  ⟨0x8010, 1, 0xC, 0xC, .u 32, .ro, .all (.int 0), .any, false, .dom 3⟩,
  ⟨0x8020, 2, 0x0, 0x0, .u 8, .ro, .all (.int 5), .any, false, .trunkPort⟩,
  ⟨0x8020, 2, 0x1, 0x1, .u 8, .rw, .all (.int 0), .oneOf [0, 1], true, .dom 1⟩,
  ⟨0x8020, 2, 0x2, 0x2, .u 8, .ro, .all (.int 3), .any, false, .trunkPort⟩,
  ⟨0x8020, 2, 0x3, 0x3, .u 32, .ro, .all (.int 0), .any, false, .trunkPort⟩,
  ⟨0x8020, 2, 0x4, 0x4, .u 64, .ro, .all (.int 0), .any, false, .trunkPort⟩,
  ⟨0x8020, 2, 0x5, 0x5, .u 32, .ro, .all (.int 0), .any, false, .trunkPort⟩,
  ⟨0x2400, 1, 0x0, 0x0, .u 8, .ro, .all (.int 19), .any, false, .dom 0⟩,
  ⟨0x2400, 1, 0x1, 0x1, .u 16, .ro, .all (.int 2000), .any, false, .dom 0⟩,
  ⟨0x2400, 1, 0x2, 0x2, .u 8, .ro, .all (.int 1), .any, false, .dom 0⟩,
  ⟨0x2400, 1, 0x3, 0x3, .u 8, .ro, .all (.int 1), .any, false, .dom 0⟩,
  ⟨0x2400, 1, 0x4, 0x4, .u 8, .ro, .all (.int 0), .any, false, .dom 0⟩,
  ⟨0x2400, 1, 0x5, 0x5, .u 8, .ro, .all (.int 0), .any, false, .dom 0⟩,
  ⟨0x2400, 1, 0x6, 0x6, .u 8, .ro, .all (.int 0), .any, false, .dom 0⟩,
  ⟨0x2400, 1, 0x7, 0x7, .u 8, .ro, .all (.int 6), .any, false, .dom 0⟩,
  ⟨0x2400, 1, 0x8, 0x8, .u 16, .ro, .all (.int 0), .any, false, .dom 0⟩,
  ⟨0x2400, 1, 0x9, 0x9, .octets 8, .wo, .all (.octets (List.replicate 8 0)), .any, false, .dom 0⟩,
  ⟨0x2400, 1, 0xA, 0xA, .bool, .rw, .all (.bool false), .any, false, .dom 0⟩,
  ⟨0x2400, 1, 0xB, 0xB, .bool, .rw, .all (.bool true), .isFalse, false, .dom 0⟩,
  ⟨0x2400, 1, 0xC, 0xC, .bool, .ro, .all (.bool false), .any, false, .dom 0⟩]

/-- Objects of chapter 10, part 3. -/
def rows10_3 : List Row := [
  ⟨0x2400, 1, 0xD, 0xD, .octets 10, .ro, .all (.octets (List.replicate 10 0)), .any, false, .dom 0⟩,
  ⟨0x2400, 1, 0xE, 0xE, .i 16, .rw, .all (.int 0), .iv (-512) 511, true, .dom 0⟩,
  ⟨0x2400, 1, 0xF, 0xF, .bool, .rw, .all (.bool false), .any, true, .dom 0⟩,
  ⟨0x2400, 1, 0x10, 0x10, .octets 8, .rw, .all (.octets [0xFF, 0xFF, 0xFF, 0xFF, 0xFF, 0xFF, 0, 0x7F]), .any, true, .dom 0⟩,
  ⟨0x2400, 1, 0x11, 0x11, .bool, .rw, .all (.bool false), .any, true, .dom 0⟩,
  ⟨0x2400, 1, 0x12, 0x12, .bool, .rw, .all (.bool false), .isFalse, false, .dom 0⟩,
  ⟨0x2400, 1, 0x13, 0x13, .bool, .rw, .all (.bool true), .any, true, .dom 0⟩]

/-- Objects of chapter 10. -/
def rows10 : List Row := rows10_1 ++ rows10_2 ++ rows10_3

/-- Objects of chapter 11, part 1. -/
def rows11_1 : List Row := [
  ⟨0x9000, 1, 0x0, 0x0, .u 8, .ro, .all (.int 9), .any, false, .dom 1⟩,
  ⟨0x9000, 1, 0x1, 0x1, .u 8, .ro, .all (.int 0), .any, false, .dom 1⟩,
  ⟨0x9000, 1, 0x2, 0x2, .octets 32, .ro, .all (.octets (List.replicate 32 0)), .any, false, .dom 1⟩,
  ⟨0x9000, 1, 0x3, 0x3, .octets 32, .ro, .all (.octets (List.replicate 32 0)), .any, false, .dom 1⟩,
  ⟨0x9000, 1, 0x4, 0x4, .octets 32, .ro, .all (.octets (List.replicate 32 0)), .any, false, .dom 1⟩,
  ⟨0x9000, 1, 0x5, 0x5, .octets 64, .ro, .all (.octets (List.replicate 64 0)), .any, false, .dom 1⟩,
  ⟨0x9000, 1, 0x6, 0x6, .octets 48, .ro, .all (.octets (List.replicate 48 0)), .any, false, .dom 1⟩,
  ⟨0x9000, 1, 0x7, 0x7, .octets 1568, .ro, .all (.octets []), .any, false, .dom 1⟩,
  ⟨0x9000, 1, 0x8, 0x8, .u 32, .ro, .all (.int 1408512), .any, false, .dom 1⟩,
  ⟨0x9000, 1, 0x9, 0x9, .u 16, .rw, .all (.int 60), .iv 0 600, true, .dom 1⟩,
  ⟨0x9010, 1, 0x0, 0x0, .u 8, .ro, .all (.int 3), .any, false, .dom 1⟩,
  ⟨0x9010, 1, 0x1, 0x1, .octets 29904, .ro, .all (.octets Config.factoryCert), .any, true, .dom 1⟩,
  ⟨0x9010, 1, 0x2, 0x2, .octets 29888, .ro, .all (.octets []), .any, true, .dom 1⟩,
  ⟨0x9010, 1, 0x3, 0x3, .octets 31408, .ro, .all (.octets []), .any, true, .dom 1⟩,
  ⟨0x9020, 1, 0x0, 0x0, .u 8, .ro, .all (.int 1), .any, false, .dom 1⟩,
  ⟨0x9020, 1, 0x1, 0x1, .octets 36824, .ro, .all (.octets []), .any, false, .dom 1⟩]

/-- Objects of chapter 11. -/
def rows11 : List Row := rows11_1

/-- Objects of chapter 12, part 1. -/
def rows12_1 : List Row := [
  ⟨0x2000, 1, 0x0, 0x0, .u 8, .ro, .all (.int 6), .any, false, .dom 0⟩,
  ⟨0x2000, 1, 0x1, 0x1, .u 8, .rw, .all (.int 0), .oneOf [0, 1], true, .dom 1⟩,
  ⟨0x2000, 1, 0x2, 0x2, .u 8, .ro, .all (.int 0), .any, false, .dom 0⟩,
  ⟨0x2000, 1, 0x3, 0x3, .time64, .ro, .all (.time 0 0 0), .any, false, .dom 0⟩,
  ⟨0x2000, 1, 0x4, 0x4, .u 8, .rw, .all (.int 3), .mask 0x03, true, .dom 1⟩,
  ⟨0x2000, 1, 0x5, 0x5, .u 8, .ro, .all (.int 0), .any, false, .dom 0⟩,
  ⟨0x2000, 1, 0x6, 0x6, .u 16, .rw, .all (.int 100), .iv 10 10000, true, .dom 1⟩,
  ⟨0x2010, 1, 0x0, 0x0, .u 8, .ro, .all (.int 16), .any, false, .dom 0⟩,
  ⟨0x2010, 1, 0x1, 0x10, .u 8, .ro, .all (.int 0), .any, false, .dom 0⟩,
  ⟨0x2020, 1, 0x0, 0x0, .u 8, .ro, .all (.int 7), .any, false, .dom 0⟩,
  ⟨0x2020, 1, 0x1, 0x1, .u 16, .ro, .all (.int 1000), .any, false, .dom 0⟩,
  ⟨0x2020, 1, 0x2, 0x2, .u 16, .ro, .all (.int 1000), .any, false, .dom 0⟩,
  ⟨0x2020, 1, 0x3, 0x3, .u 32, .ro, .all (.int 0), .any, true, .dom 1⟩,
  ⟨0x2020, 1, 0x4, 0x4, .u 32, .ro, .all (.int 0), .any, true, .dom 1⟩,
  ⟨0x2020, 1, 0x5, 0x5, .u 32, .ro, .all (.int 0), .any, true, .dom 1⟩,
  ⟨0x2020, 1, 0x6, 0x6, .time64, .ro, .all (.time 0 0 0), .any, true, .dom 1⟩,
  ⟨0x2020, 1, 0x7, 0x7, .u 8, .ro, .all (.int 0), .any, true, .dom 1⟩,
  ⟨0x2030, 1, 0x0, 0x0, .u 8, .ro, .all (.int 4), .any, false, .dom 0⟩,
  ⟨0x2030, 1, 0x1, 0x1, .bool, .rw, .all (.bool true), .isFalse, false, .dom 0⟩,
  ⟨0x2030, 1, 0x2, 0x2, .u 8, .ro, .all (.int 0), .any, false, .dom 0⟩,
  ⟨0x2030, 1, 0x3, 0x3, .u 16, .ro, .all (.int 0), .any, false, .dom 0⟩,
  ⟨0x2030, 1, 0x4, 0x4, .u 16, .rw, .all (.int 2200), .iv 2000 3300, true, .dom 1⟩,
  ⟨0x2040, 1, 0x0, 0x0, .u 8, .ro, .all (.int 3), .any, false, .dom 0⟩,
  ⟨0x2040, 1, 0x1, 0x1, .u 16, .rw, .all (.int 42948), .iv 1 65534, true, .dom 0⟩,
  ⟨0x2040, 1, 0x2, 0x2, .i 16, .rw, .all (.int (-450)), .iv (-600) (-200), true, .dom 0⟩,
  ⟨0x2040, 1, 0x3, 0x3, .u 32, .ro, .all (.int 0), .any, false, .dom 0⟩]

/-- Objects of chapter 12. -/
def rows12 : List Row := rows12_1

/-- Objects of chapter 13, part 1. -/
def rows13_1 : List Row := [
  ⟨0x2300, 1, 0x0, 0x0, .u 8, .ro, .all (.int 8), .any, false, .dom 0⟩,
  ⟨0x2300, 1, 0x1, 0x1, .u 16, .ro, .all (.int 1), .any, false, .dom 0⟩,
  ⟨0x2300, 1, 0x2, 0x2, .u 8, .ro, .all (.int 0), .any, false, .dom 0⟩,
  ⟨0x2300, 1, 0x3, 0x3, .u 8, .ro, .all (.int 0), .any, false, .dom 0⟩,
  ⟨0x2300, 1, 0x4, 0x4, .time64, .ro, .all (.time 0 0 0), .any, false, .dom 0⟩,
  ⟨0x2300, 1, 0x5, 0x5, .bool, .ro, .all (.bool false), .any, false, .dom 0⟩,
  ⟨0x2300, 1, 0x6, 0x6, .u 16, .ro, .all (.int 0), .any, false, .dom 0⟩,
  ⟨0x2300, 1, 0x7, 0x7, .u 16, .ro, .all (.int 256), .any, false, .dom 0⟩,
  ⟨0x2300, 1, 0x8, 0x8, .u 32, .ro, .all (.int 0), .any, false, .dom 0⟩,
  ⟨0xA000, 1, 0x0, 0x0, .u 8, .ro, .all (.int 13), .any, false, .dom 1⟩,
  ⟨0xA000, 1, 0x1, 0x1, .u 8, .ro, .all (.int 0), .any, true, .dom 1⟩,
  ⟨0xA000, 1, 0x2, 0x2, .u 8, .ro, .all (.int 0), .any, true, .dom 1⟩,
  ⟨0xA000, 1, 0x3, 0x3, .bool, .ro, .all (.bool false), .any, true, .dom 1⟩,
  ⟨0xA000, 1, 0x4, 0x4, .u 32, .ro, .all (.int 0), .any, false, .dom 1⟩,
  ⟨0xA000, 1, 0x5, 0x5, .u 32, .ro, .all (.int 0), .any, false, .dom 1⟩,
  ⟨0xA000, 1, 0x6, 0x6, .u 8, .ro, .all (.int 0), .any, true, .dom 1⟩,
  ⟨0xA000, 1, 0x7, 0x7, .u 8, .rw, .all (.int 0), .oneOf [0, 1], true, .dom 1⟩,
  ⟨0xA000, 1, 0x8, 0x8, .u 16, .rw, .all (.int 30), .iv 0 110, true, .dom 1⟩,
  ⟨0xA000, 1, 0x9, 0x9, .bool, .wo, .all (.bool false), .isTrue, false, .dom 1⟩,
  ⟨0xA000, 1, 0xA, 0xA, .time64, .ro, .all (.time 0 0 0), .any, true, .dom 1⟩,
  ⟨0xA000, 1, 0xB, 0xB, .u 8, .ro, .all (.int 0), .any, true, .dom 1⟩,
  ⟨0xA000, 1, 0xC, 0xC, .octets 65540, .wo, .all (.octets []), .any, false, .dom 1⟩,
  ⟨0xA000, 1, 0xD, 0xD, .u 8, .ro, .all (.int 0), .any, false, .dom 1⟩,
  ⟨0xA010, 1, 0x0, 0x0, .u 8, .ro, .all (.int 5), .any, false, .dom 3⟩,
  ⟨0xA010, 1, 0x1, 0x1, .bool, .ro, .all (.bool false), .any, false, .dom 3⟩,
  ⟨0xA010, 1, 0x2, 0x2, .u 64, .rw, .all (.int 0), .any, true, .dom 1⟩,
  ⟨0xA010, 1, 0x3, 0x3, .time64, .ro, .all (.time 0 0 0), .any, true, .dom 1⟩,
  ⟨0xA010, 1, 0x4, 0x4, .u 32, .ro, .all (.int 0), .any, false, .dom 3⟩,
  ⟨0xA010, 1, 0x5, 0x5, .u 32, .ro, .all (.int 0), .any, false, .dom 3⟩,
  ⟨0xA020, 1, 0x0, 0x0, .u 8, .ro, .all (.int 1), .any, false, .dom 1⟩]

/-- Objects of chapter 13, part 2. -/
def rows13_2 : List Row := [
  ⟨0xA020, 1, 0x1, 0x1, .octets 6291456, .wo, .all (.octets []), .any, false, .dom 1⟩,
  ⟨0xB800, 1, 0x0, 0x0, .u 8, .ro, .all (.int 5), .any, false, .dom 0⟩,
  ⟨0xB800, 1, 0x1, 0x1, .u 16, .rw, .all (.int 50), .special, true, .dom 0⟩,
  ⟨0xB800, 1, 0x2, 0x2, .u 16, .rw, .all (.int 500), .special, true, .dom 0⟩,
  ⟨0xB800, 1, 0x3, 0x3, .u 32, .ro, .all (.int 0), .any, true, .dom 0⟩,
  ⟨0xB800, 1, 0x4, 0x4, .u 32, .ro, .all (.int 0), .any, true, .dom 0⟩,
  ⟨0xB800, 1, 0x5, 0x5, .u 32, .ro, .all (.int 0), .any, true, .dom 0⟩]

/-- Objects of chapter 13. -/
def rows13 : List Row := rows13_1 ++ rows13_2

/-- Objects of chapter 14, part 1. -/
def rows14_1 : List Row := [
  ⟨0xB000, 1, 0x0, 0x0, .u 8, .ro, .all (.int 12), .any, false, .dom 1⟩,
  ⟨0xB000, 1, 0x1, 0x1, .u 32, .ro, .all (.int 0), .any, true, .dom 1⟩,
  ⟨0xB000, 1, 0x2, 0x2, .u 64, .ro, .all (.int 0), .any, true, .dom 1⟩,
  ⟨0xB000, 1, 0x3, 0x3, .u 32, .ro, .all (.int 0), .any, true, .dom 1⟩,
  ⟨0xB000, 1, 0x4, 0x4, .u 32, .ro, .all (.int 0), .any, true, .dom 1⟩,
  ⟨0xB000, 1, 0x5, 0x5, .u 32, .ro, .all (.int 0), .any, true, .dom 1⟩,
  ⟨0xB000, 1, 0x6, 0x6, .u 64, .ro, .all (.int 0), .any, true, .dom 1⟩,
  ⟨0xB000, 1, 0x7, 0x7, .u 16, .rw, .all (.int 180), .iv 1 730, true, .dom 1⟩,
  ⟨0xB000, 1, 0x8, 0x8, .u 32, .ro, .all (.int 0), .any, false, .dom 1⟩,
  ⟨0xB000, 1, 0x9, 0x9, .time64, .ro, .all (.time 0 0 0), .any, true, .dom 1⟩,
  ⟨0xB000, 1, 0xA, 0xA, .u 64, .ro, .all (.int 0), .any, true, .dom 1⟩,
  ⟨0xB000, 1, 0xB, 0xB, .u 16, .ro, .all (.int 65535), .any, true, .dom 1⟩,
  ⟨0xB000, 1, 0xC, 0xC, .u 32, .ro, .all (.int 0), .any, true, .dom 1⟩,
  ⟨0xB100, 1, 0x0, 0x0, .u 8, .ro, .all (.int 6), .any, false, .dom 1⟩,
  ⟨0xB100, 1, 0x1, 0x1, .i 16, .ro, .all (.int 0), .any, false, .dom 1⟩,
  ⟨0xB100, 1, 0x2, 0x2, .i 16, .ro, .all (.int (-400)), .any, true, .dom 1⟩,
  ⟨0xB100, 1, 0x3, 0x3, .u 16, .ro, .all (.int 50), .any, false, .dom 1⟩,
  ⟨0xB100, 1, 0x4, 0x4, .u 64, .ro, .all (.int 0), .any, false, .dom 5⟩,
  ⟨0xB100, 1, 0x5, 0x5, .u 32, .ro, .all (.int 0), .any, false, .dom 5⟩,
  ⟨0xB100, 1, 0x6, 0x6, .u 64, .ro, .all (.int 0), .any, false, .dom 1⟩,
  ⟨0xB110, 1, 0x0, 0x0, .u 8, .ro, .all (.int 8), .any, false, .dom 1⟩,
  ⟨0xB110, 1, 0x1, 0x8, .u 32, .ro, .all (.int 0), .any, true, .dom 1⟩,
  ⟨0xB120, 1, 0x0, 0x0, .u 8, .ro, .all (.int 16), .any, false, .dom 1⟩,
  ⟨0xB120, 1, 0x1, 0x10, .i 16, .ro, .all (.int 0), .any, false, .dom 1⟩,
  ⟨0xB130, 1, 0x0, 0x0, .u 8, .ro, .all (.int 16), .any, false, .dom 1⟩,
  ⟨0xB130, 1, 0x1, 0x10, .i 16, .ro, .all (.int 0), .any, true, .dom 1⟩,
  ⟨0xB300, 1, 0x0, 0x0, .u 8, .ro, .all (.int 8), .any, false, .dom 4⟩,
  ⟨0xB300, 1, 0x1, 0x1, .u 8, .rw, .all (.int 31), .mask 0x1F, true, .dom 4⟩,
  ⟨0xB300, 1, 0x2, 0x2, .u 32, .rw, .all (.int 600), .iv 60 86400, true, .dom 4⟩,
  ⟨0xB300, 1, 0x3, 0x3, .u 32, .rw, .all (.int 86400), .iv 3600 2592000, true, .dom 4⟩]

/-- Objects of chapter 14, part 2. -/
def rows14_2 : List Row := [
  ⟨0xB300, 1, 0x4, 0x4, .u 32, .rw, .all (.int 3600), .iv 60 86400, true, .dom 4⟩,
  ⟨0xB300, 1, 0x5, 0x5, .u 64, .ro, .all (.int 0), .any, false, .dom 4⟩,
  ⟨0xB300, 1, 0x6, 0x6, .u 32, .ro, .all (.int 0), .any, false, .dom 4⟩,
  ⟨0xB300, 1, 0x7, 0x7, .u 32, .ro, .all (.int 0), .any, false, .dom 4⟩,
  ⟨0xB300, 1, 0x8, 0x8, .u 16, .ro, .all (.int 0), .any, true, .dom 4⟩,
  ⟨0xB500, 4, 0x0, 0x0, .u 8, .ro, .all (.int 12), .any, false, .dom 4⟩,
  ⟨0xB500, 4, 0x1, 0x1, .octets 65536, .ro, .all (.octets []), .any, false, .dom 4⟩,
  ⟨0xB500, 4, 0x2, 0x2, .u 32, .ro, .all (.int 0), .any, false, .dom 4⟩,
  ⟨0xB500, 4, 0x3, 0x3, .u 64, .ro, .all (.int 0), .any, false, .dom 4⟩,
  ⟨0xB500, 4, 0x4, 0x4, .bool, .wo, .all (.bool false), .isTrue, false, .dom 4⟩,
  ⟨0xB500, 4, 0x5, 0x5, .u 64, .ro, .all (.int 0), .any, false, .dom 4⟩,
  ⟨0xB500, 4, 0x6, 0x6, .u 32, .ro, .all (.int 0), .any, false, .dom 4⟩,
  ⟨0xB500, 4, 0x7, 0x7, .bool, .rw, .all (.bool false), .any, false, .dom 4⟩,
  ⟨0xB500, 4, 0x8, 0x8, .u 8, .rw, .all (.int 1), .mask 0x1F, false, .dom 4⟩,
  ⟨0xB500, 4, 0x9, 0x9, .u 8, .rw, .all (.int 63), .mask 0x3F, false, .dom 4⟩,
  ⟨0xB500, 4, 0xA, 0xA, .u 32, .rw, .all (.int 262143), .iv 0 262143, false, .dom 4⟩,
  ⟨0xB500, 4, 0xB, 0xB, .u 16, .rw, .all (.int 256), .iv 16 9216, false, .dom 4⟩,
  ⟨0xB500, 4, 0xC, 0xC, .u 32, .ro, .all (.int 0), .any, false, .dom 4⟩]

/-- Objects of chapter 14. -/
def rows14 : List Row := rows14_1 ++ rows14_2

/-- The five readable members and the write-only arguments of a procedure (R61), for the procedure at index `ix` owned by `own`, with
arguments of type `args`. -/
def procRows (ix own : Nat) (args : Ty) : List Row := [
  ⟨ix, 1, 0, 0, .u 8, .ro, .all (.int 5), .any, false, .dom own⟩,
  ⟨ix, 1, 1, 1, .u 8, .ro, .all (.int 0), .any, false, .dom own⟩,
  ⟨ix, 1, 2, 2, .u 16, .ro, .all (.int 0), .any, false, .dom own⟩,
  ⟨ix, 1, 3, 3, args, .wo, .all (.int 0), .special, false, .dom own⟩,
  ⟨ix, 1, 4, 4, .time64, .ro, .all (.time 0 0 0), .any, false, .dom own⟩,
  ⟨ix, 1, 5, 5, .u 32, .ro, .all (.int 0), .any, false, .dom own⟩]

/-- A procedure: its index, its owning domain and the type of its arguments (R517). A list of octet counts says which
lengths an OCTETS argument may have. -/
structure ProcRow where
  ix : Nat
  own : Nat
  args : Ty
  lens : List Nat
deriving DecidableEq, Repr, Inhabited

/-- The procedures of the second table of chapter 16. -/
def procTable : List ProcRow := [
  ⟨0x2100, 0, .u 8, []⟩,
  ⟨0x2380, 0, .bool, []⟩,
  ⟨0x2381, 0, .u 8, []⟩,
  ⟨0x2410, 0, .i 64, []⟩,
  ⟨0x3100, 1, .octets 4, [4]⟩,
  ⟨0x3101, 1, .u 8, []⟩,
  ⟨0x3500, 1, .time64, []⟩,
  ⟨0x4300, 1, .octets 16, [16]⟩,
  ⟨0x5100, 4, .octets 12, [12]⟩,
  ⟨0x5101, 4, .u 32, []⟩,
  ⟨0x5102, 4, .u 8, []⟩,
  ⟨0x5103, 4, .bool, []⟩,
  ⟨0x7100, 1, .u 8, []⟩,
  ⟨0x7101, 1, .octets 4, [4]⟩,
  ⟨0x7500, 1, .u 8, []⟩,
  ⟨0x9100, 1, .octets 1696, [1648, 1696]⟩,
  ⟨0x9101, 1, .octets 1712, [1664, 1712]⟩,
  ⟨0x9102, 1, .octets 9, [9]⟩,
  ⟨0x9103, 1, .octets 0, []⟩,
  ⟨0x9104, 1, .octets 16, [16]⟩,
  ⟨0xA100, 1, .octets 20, [20]⟩,
  ⟨0xB400, 4, .octets 4, [4]⟩
]

/-- The rows that an index can belong to: the chapter whose index ranges hold it (16 "Objects"). -/
def rowsOf (ix : Nat) : List Row :=
  match procTable.find? (fun p => p.ix == ix) with
  | some p => procRows p.ix p.own p.args
  | none =>
    if ix < 0x2000 then rows02
    else if ix < 0x2300 then rows12
    else if ix < 0x2400 then rows13
    else if ix < 0x3000 then rows10
    else if ix < 0x3400 then rows03
    else if ix < 0x4000 then rows04
    else if ix < 0x5000 then rows05
    else if ix < 0x6000 then rows06
    else if ix < 0x7000 then rows07
    else if ix < 0x7400 then rows08
    else if ix < 0x8000 then rows09
    else if ix < 0x9000 then rows10
    else if ix < 0xA000 then rows11
    else if ix < 0xB000 then rows13
    else if ix < 0xB800 then rows14
    else if ix < 0xF000 then rows13
    else rows02

/-- Whether row `r` serves index `ix` and subindex `sub`. -/
def Row.has (r : Row) (ix sub : Nat) : Bool :=
  decide (r.ix ≤ ix ∧ ix < r.ix + r.n ∧ r.lo ≤ sub ∧ sub ≤ r.hi)

/-- The row of an object, if it exists (R514). -/
def Obj.row (k : Nat) : Option Row := (rowsOf (k / 256)).find? (fun r => r.has (k / 256) (k % 256))

/-- Whether an index is served at all (R38, R514). -/
def Obj.hasIndex (ix : Nat) : Bool :=
  (rowsOf ix).any (fun r => decide (r.ix ≤ ix ∧ ix < r.ix + r.n))

/-- The default of an object (R9). -/
def Obj.default (k : Nat) : Val :=
  match Obj.row k with
  | none => .int 0
  | some r =>
    match r.dflt with
    | .all v => v
    | .each l => l.getD (k / 256 - r.ix) (.int 0)

/-- Whether an object is persistent (R9). -/
def Obj.persistent (k : Nat) : Bool :=
  match Obj.row k with
  | none => false
  | some r => r.persist

/-- The power domain that owns an object. -/
def Obj.owner (k : Nat) : Nat :=
  match Obj.row k with
  | none => 1
  | some r =>
    match r.own with
    | .dom n => n
    | .rxPort => 6 + (k / 256 - r.ix)
    | .chain => if k / 256 - r.ix < 2 then 12 else 13
    | .trunkPort => 14 + (k / 256 - r.ix)

/-- The number of bits of an integer object, by which its counter wraps. -/
def Obj.bits (k : Nat) : Nat :=
  match Obj.row k with
  | none => 64
  | some r =>
    match r.ty with
    | .u n => n
    | .i n => n
    | _ => 64

end Sys2Proof.Machine
end

