-- ==== Sys2Proof/Machine/Ops.lean ====
section
/-! DEFINITION. The named operations every command is built from: reading and writing objects, the clock, octet
layouts, events and their FIFOs, the change journal, replies, sessions and procedures (spec 02, 10 R333, R344). -/
namespace Sys2Proof.Machine

/-! ## Lists indexed by the spec's numbers -/

/-- The element with number `n`, or the type's default where there is none. -/
def nth {α : Type} [Inhabited α] (l : List α) (n : Nat) : α := l.getD n default

/-- Change the element with number `n`. -/
def upd {α : Type} (l : List α) (n : Nat) (f : α → α) : List α := l.modify n f

/-! ## Octets, most significant first (R6) -/

/-- The `n` octets of a number, most significant first. -/
def be : Nat → Nat → Octets
  | 0, _ => []
  | n + 1, x => be n (x / 256) ++ [BitVec.ofNat 8 x]

/-- The `n` octets of a signed number in two's complement. -/
def beI (n : Nat) (x : Int) : Octets := be n (x % (256 ^ n : Nat)).toNat

/-- The number a string of octets stands for. -/
def num (o : Octets) : Nat := o.foldl (fun a b => a * 256 + b.toNat) 0

/-- The signed number a string of octets stands for. -/
def numI (o : Octets) : Int :=
  if 2 * num o < 256 ^ o.length then num o else (num o : Int) - (256 ^ o.length : Nat)

/-- A string cut or zero-padded to `n` octets. -/
def fit (n : Nat) (o : Octets) : Octets := o.take n ++ List.replicate (n - o.length) 0

/-- Octets `i` to `i + n − 1` of a string. -/
def slice (o : Octets) (i n : Nat) : Octets := (o.drop i).take n

/-- A field of a layout, as a number. -/
def fld (o : Octets) (i n : Nat) : Nat := num (slice o i n)

/-- Bit `i` of a number. -/
def bit (x i : Nat) : Bool := x / 2 ^ i % 2 == 1

/-- 0 or 1. -/
def b2n (b : Bool) : Nat := if b then 1 else 0

/-- A number held to a range. -/
def clampI (lo hi x : Int) : Int := max lo (min hi x)

/-- Division rounded up. -/
def cdiv (a b : Nat) : Nat := (a + b - 1) / b

/-! ## Units: Sextant times count 2^-16 ns, COUNT counts ns -/

def nsT : Tick := 65536
def usT : Tick := 65536000
def msT : Tick := 65536000000
def secT : Tick := 65536000000000
def usC : Count := 1000
def msC : Count := 1000000
def secC : Count := 1000000000

/-- A Sextant time as the three members of TIME64 (R332). -/
def t64 (t : Tick) : Val := .time (t / secT) (t % secT / nsT) (t % nsT)

/-- TIME64 in its 12 octets (R332). -/
def t64Octets (t : Tick) : Octets := be 6 (t / secT) ++ be 4 (t % secT / nsT) ++ be 2 (t % nsT)

/-- The Sextant time that three members stand for. -/
def ofT64 (sec ns frac : Nat) : Tick := sec * secT + ns * nsT + frac

/-- The Sextant time in 12 octets. -/
def ofT64Octets (o : Octets) : Tick := ofT64 (fld o 0 6) (fld o 6 4) (fld o 10 2)

/-! ## CBOR encodings of the journal (R58) -/

/-- The head of a CBOR item in its shortest form. -/
def cborHead (major n : Nat) : Octets :=
  if n < 24 then be 1 (major * 32 + n)
  else if n < 256 then be 1 (major * 32 + 24) ++ be 1 n
  else if n < 65536 then be 1 (major * 32 + 25) ++ be 2 n
  else if n < 4294967296 then be 1 (major * 32 + 26) ++ be 4 n
  else be 1 (major * 32 + 27) ++ be 8 n


end Sys2Proof.Machine

namespace Sys2Proof
open Machine

/-- The integer of a value, 0 for another type. -/
def Val.toInt : Val → Int
  | .int i => i
  | _ => 0

def Val.toBool : Val → Bool
  | .bool b => b
  | _ => false

def Val.toOctets : Val → Octets
  | .octets o => o
  | .text o => o
  | _ => []

def Val.toTick : Val → Tick
  | .time a b c => ofT64 a b c
  | _ => 0

/-- The CBOR encoding of a value (R36). -/
def Val.cbor : Val → Octets
  | .int (.ofNat n) => cborHead 0 n
  | .int (.negSucc n) => cborHead 1 n
  | .bool b => be 1 (if b then 0xF5 else 0xF4)
  | .octets o => cborHead 2 o.length ++ o
  | .text o => cborHead 3 o.length ++ o
  | .time a b c => be 1 0x83 ++ cborHead 0 a ++ cborHead 0 b ++ cborHead 0 c

/-- The encoding of a value as it was requested. DESIGN CHOICE (log 8): the length in which the argument of an integer or of a
string came is no part of a Wire, and the shortest form stands for each (R36, R58). Safe for every check of R36, unsafe for OLD_LEN
and NEW_LEN of a value that came in a longer form. -/
def Wire.cbor : Wire → Octets
  | .uint n => cborHead 0 n
  | .nint n => cborHead 1 n
  | .bool b => be 1 (if b then 0xF5 else 0xF4)
  | .bytes o => cborHead 2 o.length ++ o
  | .text o _ => cborHead 3 o.length ++ o
  | .arr3 a b c => be 1 0x83 ++ cborHead 0 a ++ cborHead 0 b ++ cborHead 0 c
  | .other o => o

/-- What the reply to a request answers: the reply to a confirmable request is piggybacked (R41). -/
def Req.answers (r : Req) (key : Nat) : Tok :=
  { tok := r.tok, key := key,
    ack := match r.via with
      | .quay => none
      | .trunk m _ _ _ _ _ _ => if m.con then some m.mid else none }

/-- Octets of a block: 16 to 1,024 for SZX 0 to 6; 1,024 on the Quay port (R45, R46). -/
def Req.blockOctets (r : Req) : Nat :=
  match r.via with
  | .quay => 1024
  | .trunk _ _ _ _ _ _ _ => 2 ^ (min r.szx 6 + 4)

/-- What a read asks of its answer (R45). -/
def Req.asked (r : Req) : Asked := { blk2 := r.blk2, size := r.blockOctets, szx := r.szx }

/-- A CBOR item of R36 from its octets: the argument in any length CBOR allows. -/
def cborArg (o : Octets) : Option (Nat × Nat × Octets) :=
  match o with
  | [] => none
  | b :: t =>
    let ai := b.toNat % 32
    let n := if ai = 24 then 1 else if ai = 25 then 2 else if ai = 26 then 4 else if ai = 27 then 8 else 0
    if ai < 24 then some (b.toNat / 32, ai, t)
    else if n = 0 ∨ t.length < n then none
    else some (b.toNat / 32, num (t.take n), t.drop n)

/-- Well-formed UTF-8 (R36): no octet that starts nothing, no form longer than needed, no surrogate, nothing above 0x10FFFF. -/
def utf8Ok : Nat → Octets → Bool
  | 0, o => o.isEmpty
  | _, [] => true
  | n + 1, b :: t =>
    let x := b.toNat
    let k := if x < 0x80 then 0 else if 0xC2 ≤ x ∧ x < 0xE0 then 1 else if 0xE0 ≤ x ∧ x < 0xF0 then 2
      else if 0xF0 ≤ x ∧ x < 0xF5 then 3 else 4
    let y := (t.headD 0).toNat
    decide (k < 4 ∧ k ≤ t.length) && (t.take k).all (fun c => decide (c.toNat / 64 = 2)) &&
      !decide ((x = 0xE0 ∧ y < 0xA0) ∨ (x = 0xED ∧ 0xA0 ≤ y) ∨ (x = 0xF0 ∧ y < 0x90) ∨ (x = 0xF4 ∧ 0x90 ≤ y)) &&
      utf8Ok n (t.drop k)

/-- The item that the octets of a request's payload are (R36): any that is not of R36 is `other`. -/
def Wire.ofCbor (o : Octets) : Wire :=
  match cborArg o with
  | none => .other o
  | some (major, n, t) =>
    if major = 0 ∧ t = [] then .uint n
    else if major = 1 ∧ t = [] then .nint n
    else if major = 2 ∧ t.length = n then .bytes t
    else if major = 3 ∧ t.length = n then .text t (utf8Ok n t)
    else if o = be 1 0xF4 then .bool false
    else if o = be 1 0xF5 then .bool true
    else if major = 4 ∧ n = 3 then
      match cborArg t with
      | some (0, a, t1) =>
        match cborArg t1 with
        | some (0, b, t2) =>
          match cborArg t2 with
          | some (0, c, []) => .arr3 a b c
          | _ => .other o
        | _ => .other o
      | _ => .other o
    else .other o

end Sys2Proof

namespace Sys2Proof.Machine

/-! ## Objects -/

/-- Look a key up in a store. -/
def Store.find (m : List (Nat × Val)) (k : Nat) : Option Val := (m.find? (fun e => e.1 == k)).map (·.2)

/-- Put an entry into a store whose keys rise. -/
def Store.insert (k : Nat) (v : Val) : List (Nat × Val) → List (Nat × Val)
  | [] => [(k, v)]
  | e :: t => if k < e.1 then (k, v) :: e :: t else if k = e.1 then (k, v) :: t else e :: Store.insert k v t

/-- Write an object: a value equal to the default is not listed. -/
def Store.put (k : Nat) (v : Val) (m : List (Nat × Val)) : List (Nat × Val) :=
  if v = Obj.default k then m.filter (fun e => e.1 != k) else Store.insert k v m

/-- The canonical form of a store: keys strictly rising, no entry equal to its default. -/
def Store.wf (m : List (Nat × Val)) : Bool :=
  (m.map (·.1)).Pairwise (· < ·) && m.all (fun e => e.2 != Obj.default e.1)

/-- The value an object holds. -/
def State.get (s : State) (k : Nat) : Val := (Store.find s.obj k).getD (Obj.default k)

/-- Write an object. -/
def State.set (s : State) (k : Nat) (v : Val) : State := { s with obj := Store.put k v s.obj }

/-- Integer, number, truth, octets and time of an object. -/
def State.getI (s : State) (k : Nat) : Int := (s.get k).toInt
def State.getN (s : State) (k : Nat) : Nat := (s.getI k).toNat
def State.getB (s : State) (k : Nat) : Bool := (s.get k).toBool
def State.getO (s : State) (k : Nat) : Octets := (s.get k).toOctets
def State.getT (s : State) (k : Nat) : Tick := (s.get k).toTick

def State.setI (s : State) (k : Nat) (i : Int) : State := s.set k (.int i)
def State.setN (s : State) (k n : Nat) : State := s.set k (.int n)
def State.setB (s : State) (k : Nat) (b : Bool) : State := s.set k (.bool b)

/-- Add to a counter, which wraps at the width of its object. -/
def State.bumpBy (s : State) (k n : Nat) : State := s.setN k ((s.getN k + n) % 2 ^ Obj.bits k)

/-- Add one to a counter. -/
def State.bump (s : State) (k : Nat) : State := s.bumpBy k 1

/-- Subtract from a counter that does not pass 0. -/
def State.dropBy (s : State) (k n : Nat) : State := s.setN k (s.getN k - n)

/-! ## Sextant time (R333, R336, R344) -/

/-- T(c) of R333, in 2^-16 ns. -/
def State.timeAt (s : State) (c : Count) : Int :=
  let d : Int := (c : Int) - s.sx.base
  s.sx.offset + d * 65536 + (d * s.getI Obj.SX_RATE) / (2 ^ 24 : Int)

/-- Sextant time now. -/
def State.time (s : State) : Tick := (s.timeAt s.now).toNat

/-- A default that depends on CLKMODE (R361): the object holds −1 until it is written. -/
def State.clkDefault (s : State) (k : Nat) (l : List Nat) : Nat :=
  if s.getI k < 0 then l.getD s.sx.clkMode 0 else s.getN k

def State.refStability (s : State) : Nat := s.clkDefault Obj.SX_REF_STABILITY [500, 500, 10, 20000]
def State.refAgeing (s : State) : Nat := s.clkDefault Obj.SX_REF_AGEING [10, 10, 1, 100]

/-- The formula of R344 for RECKONING and FREE: U0 + S × Δt + A × Δt² / 172,800. -/
def State.uncGrown (s : State) : Nat :=
  let dt := s.now - s.sx.since
  s.sx.u0 + s.refStability * dt / secC + s.refAgeing * dt * dt / (172800 * secC * secC)

/-- TIME_UNC_NS (R344), saturating. -/
def State.timeUnc (s : State) : Nat :=
  if s.getB Obj.SX_TIME_VALID = false then 0xFFFFFFFF
  else
    let st := s.getN Obj.SX_STATE
    min 0xFFFFFFFF
      (if st = 1 ∨ st = 2 then
        (if s.sx.recent = [] then (if s.sx.uncHeld then s.sx.u0 else s.uncGrown)
         else s.sx.recent.foldl max 0 + s.getN Obj.SX_PATH_UNC)
       else s.uncGrown)

/-! ## Free values, outputs -/

/-- Draw a value the spec leaves open. -/
def State.fresh (s : State) : Nat × State := (Config.freeValue s.free, { s with free := s.free + 1 })

/-- Give something out. -/
def State.emit (s : State) (o : Out) : State := { s with out := o :: s.out }

/-! ## Power conditions -/

def State.cond (s : State) (d : Nat) : Cond := s.pwr.dom.getD d .off
/-- DOMAIN_STATE (R399). -/
def State.condCode (s : State) (d : Nat) : Nat :=
  match s.cond d with
  | .off => 0 | .on => 1 | .retention => 2 | .biasChange => 3 | .reset => 4
def State.isOn (s : State) (d : Nat) : Bool := s.cond d == .on || s.cond d == .biasChange

/-- PD6 RXLA to PD9 RXHB. -/
def rxDom (p : Nat) : Nat := 6 + p

/-- LNA_EN and BYP of a port (R114, R117): with its receive domain off they float to the board's pulls; while it transmits the
external LNA is off and bypassed; else BYP is high at step G0. -/
def Port.lna (x : Port) (on : Bool) (step : Nat) : Port :=
  { x with lnaEn := on && !x.tr, byp := !on || x.tr || step == 0 }

/-- PA_EN, TR, MODE and PABIAS of a port whose transmit domain is off float to the board's pulls (R117). -/
def Port.floatTx (x : Port) : Port := { x with paEn := false, tr := false, mode := 0, pabias := 0 }

/-- The FEM controls follow the condition of the domain they belong to (R117). -/
def State.femOf (s : State) (d : Nat) (c : Cond) : Front :=
  let on := c == .on || c == .biasChange
  if 6 ≤ d ∧ d < 10 then
    { s.fe with ports := upd s.fe.ports (d - 6) (fun x => x.lna on (s.getN (Obj.PP_GAIN_STEP_NOW (d - 6)))) }
  else if (d = 12 ∨ d = 13) ∧ on = false then
    { s.fe with ports := upd (upd s.fe.ports (2 * (d - 12)) Port.floatTx) (2 * (d - 12) + 1) Port.floatTx }
  else s.fe

/-- A domain takes a condition. -/
def State.setCond (s : State) (d : Nat) (c : Cond) : State :=
  { s with fe := s.femOf d c, pwr := { s.pwr with dom := upd s.pwr.dom d (fun _ => c) } }

/-- R401 with the levels of R510: what a domain runs at in a power state (0 RUN, 1 GATED, 2 HOLD, 3 STANDBY). -/
def biasRow (st d : Nat) : Bias :=
  if st ≤ 1 ∧ (d = 2 ∨ d = 4) then { mv := 150, assist := false, halved := false }
  else if st = 2 ∧ (d = 2 ∨ d = 4) then { mv := -250, assist := true, halved := d == 4 }
  else if st = 3 ∧ d = 1 then { mv := -250, assist := true, halved := false }
  else { mv := 0, assist := false, halved := false }

/-- The row in force: with the trim group LOGIC in safe mode PD2 to PD5 have zero bias in every state, and PD2 to PD4 the halved
clock (R433). -/
def State.biasOf (s : State) (st d : Nat) : Bias :=
  let b := biasRow st d
  if bit (s.getN Obj.TRIM_STATUS) 2 ∧ 2 ≤ d ∧ d ≤ 5 then { b with mv := 0, halved := d != 5 } else b

/-- Bias and assist become those of a power state (R401), within 20 µs (R402). -/
def State.biasFor (s : State) (st : Nat) : State := { s with pwr := { s.pwr with bias := (List.range 16).map (s.biasOf st) } }

/-- The bias of a domain in mV with its ageing trim (R471, R510). -/
def State.biasMv (s : State) (d : Nat) : Int := (nth s.pwr.bias d).mv + s.getI (Obj.AGE_BIAS d)

/-- PD2 CORE leaves retention (R406); its idle time starts anew. -/
def State.coreWake (s : State) : State :=
  if s.cond 2 = .retention then
    let s := s.setCond 2 .on
    { s with pwr := { s.pwr with lastRequest := s.now },
             rst := { s.rst with beats := List.replicate 4 { last := s.now, warned := false } } }
  else s

/-! ## Events (R72–R74, R79) -/

/-- The FIFO an event code belongs to (R72). -/
def fifoOf (code : Nat) : Nat := code / 4096 - 1

/-- Records a FIFO holds, and records held for it until Attach. -/
def fifoDepth : Nat := 4096

/-- Write a record into a FIFO: a full FIFO loses its oldest record (R74). -/
def Fifo.write (f : Fifo) (r : EvRec) : Fifo :=
  let r' := { r with seq := f.nextSeq }
  let f' := { f with nextSeq := (f.nextSeq + 1) % 2 ^ 32 }
  if f.recs.length < fifoDepth then { f' with recs := f.recs ++ [r'] }
  else { f' with recs := f.recs.tail ++ [r'], lost := (f.lost + 1) % 2 ^ 64 }

/-- Hold a record until Attach: beyond 4,096 the oldest held record is discarded and counted (R79). -/
def Fifo.hold (f : Fifo) (r : EvRec) : Fifo :=
  if f.held.length < fifoDepth then { f with held := f.held ++ [r] }
  else { f with held := f.held.tail ++ [r], lost := (f.lost + 1) % 2 ^ 64 }

def State.updFifo (s : State) (n : Nat) (g : Fifo → Fifo) : State :=
  { s with mg := { s.mg with fifos := upd s.mg.fifos n g } }

/-- Raise an event: written to its FIFO, or held in PD1 SAFE while no Attach has followed a reset (R73, R79). -/
def State.raiseFrom (s : State) (code sev source dom : Nat) (param : Octets) : State :=
  let r : EvRec := { code := code, sev := sev, seq := 0, time := s.time, unc := s.timeUnc, source := source,
                     domain := dom, valid := s.getB Obj.SX_TIME_VALID, late := s.mg.busy, param := fit 36 param }
  let f := nth s.mg.fifos (fifoOf code)
  let s := if f.observer.isSome ∨ f.stalled ≠ [] then s.coreWake else s
  s.updFifo (fifoOf code) (fun f => if s.mg.busy then f.hold r else f.write r)

/-- Raise an event whose chapter names the object most concerned. -/
def State.raiseOn (s : State) (code sev source : Nat) (param : Octets) : State :=
  s.raiseFrom code sev source (Config.eventDomain code) param

/-- Raise an event whose SOURCE_INDEX the spec leaves open (log 7). -/
def State.raise (s : State) (code sev : Nat) (param : Octets) : State :=
  s.raiseFrom code sev (Config.eventSource code) (Config.eventDomain code) param

/-- The 64 octets of an event record (R73). -/
def EvRec.octets (r : EvRec) : Octets :=
  be 2 r.code ++ be 1 (fifoOf r.code) ++ be 1 r.sev ++ be 4 r.seq ++ t64Octets r.time ++ be 4 r.unc ++ be 2 r.source ++ be 1 r.domain
    ++ be 1 (b2n r.valid + 2 * b2n r.late) ++ fit 36 r.param

/-- At most 15 records go into one reply or notification (R75). -/
def batch : Nat := 15

/-! ## Result codes (R71) -/

/-- The numeric result code. -/
def Rc.code : Rc → Nat
  | .ok => 0 | .noObject => 0x101 | .noSubindex => 0x102 | .readOnly => 0x201 | .writeOnly => 0x202
  | .range => 0x301 | .type => 0x302 | .calendarInvalid => 0x303 | .domainAsleep => 0x401
  | .serviceStopped => 0x402 | .serviceRunning => 0x403 | .busyRetry => 0x501 | .sessionLimit => 0x502
  | .stateConflict => 0x601 | .notPermittedNow => 0x602 | .refusedCapacity => 0x701
  | .refusedDeadline => 0x702 | .oversize => 0x703 | .verifyFail => 0x801 | .blobInvalid => 0x802
  | .useExhausted => 0x803 | .insertFail => 0x901 | .aborted => 0xA01 | .internal => 0xFFF

/-- The CoAP code of a refusal, class × 32 + detail (R43, R71). -/
def Rc.coap : Rc → Nat
  | .ok => 0x45
  | .noObject | .noSubindex => 0x84
  | .readOnly | .writeOnly => 0x85
  | .range | .type | .calendarInvalid | .verifyFail | .blobInvalid => 0x80
  | .domainAsleep | .busyRetry | .sessionLimit | .insertFail => 0xA3
  | .oversize => 0x8D
  | .useExhausted => 0x83
  | .internal => 0xA0
  | .serviceStopped | .serviceRunning | .stateConflict | .notPermittedNow | .refusedCapacity
  | .refusedDeadline | .aborted => 0x89

/-- CoAP 2.04 Changed, 2.05 Content, 2.31 Continue, 4.01 Unauthorized, 4.05 Method Not Allowed, 4.08 Request Entity Incomplete. -/
def coapChanged : Nat := 0x44
def coapContent : Nat := 0x45
def coapContinue : Nat := 0x5F
def coapUnauthorized : Nat := 0x81
def coapMethod : Nat := 0x85
def coapIncomplete : Nat := 0x88

/-! ## The change journal (R58–R60, R521) -/

/-- The ring holds 65,536 records. -/
def journalSize : Nat := 65536

/-- SEQ of the newest and of the oldest record. -/
def State.journalHead (s : State) : Nat := (s.lb.journal.head?.map (·.seq)).getD 0
def State.journalTail (s : State) : Nat := (s.lb.journal.getLast?.map (·.seq)).getD 0

/-- Commit a journal record: it takes the next SEQ and, in a full ring, the place of the oldest record (R58). -/
def State.journal (s : State) (kind session index sub : Nat) (result : Rc) (old new : Octets) : State :=
  let r : JRec := { seq := (s.journalHead + 1) % 2 ^ 32, kind := kind, session := session, index := index,
                    sub := sub, persistent := Obj.persistent (Obj.key index sub), result := result,
                    time := s.time, old := old, new := new }
  { s with lb := { s.lb with journal := r :: s.lb.journal.take (journalSize - 1) } }

/-- The first record of an empty journal (R521). -/
def firstRecord (t : Tick) : JRec :=
  { seq := 0, kind := 4, session := 0, index := 0, sub := 0, persistent := false, result := .ok, time := t,
    old := [], new := [] }

/-- CRC-32C over a string: one octet of the reflected polynomial 0x82F63B78 (log 9). -/
def crc32cByte (c : Nat) : Nat → Nat
  | 0 => c
  | n + 1 => crc32cByte (if c % 2 = 1 then (c / 2) ^^^ 0x82F63B78 else c / 2) n

def crc32c (o : Octets) : Nat :=
  (o.foldl (fun c b => crc32cByte (c ^^^ b.toNat) 8) 0xFFFFFFFF) ^^^ 0xFFFFFFFF

/-- OLD or NEW of a record: the encoding zero-padded, or its digest when it exceeds 16 octets (R58). -/
def jField (o : Octets) : Octets := if o.length ≤ 16 then fit 16 o else fit 16 (Config.shake256 16 o)

/-- The 64 octets of a journal record (R58). DESIGN CHOICE (log 53): the spec gives OLD_LEN and NEW_LEN two octets and no value
for an encoding of more than 65,535; the field holds the length modulo 65,536. Unsafe for the length of such a value alone. -/
def JRec.octets (r : JRec) : Octets :=
  let body := be 4 r.seq ++ be 1 r.kind ++ be 1 r.session ++ be 2 r.index ++ be 1 r.sub
    ++ be 1 (b2n (16 < r.old.length) + 2 * b2n (16 < r.new.length) + 4 * b2n r.persistent)
    ++ be 2 r.result.code ++ t64Octets r.time ++ be 2 r.old.length ++ be 2 r.new.length
    ++ jField r.old ++ jField r.new
  body ++ be 4 (crc32c body)

/-! ## Wear (R467, R468) -/

/-- The keys of what rotates beside the persistent objects: reserved counters, the ledger summary, the chart state. -/
def wearCounter (k : Nat) : Nat := 2 ^ 80 + k
def wearSummary : Nat := 2 ^ 81
def wearChart : Nat := 2 ^ 81 + 1

/-- A commit of a record writes the copy not written last: half a write for each line of its set, and a sixteenth of that
for a record in rotation. In 1/32 of a write (log 26). -/
def State.wearOut (s : State) (k : Nat) : State :=
  let n := if 2 ^ 80 ≤ k ∨ s.lb.rotating.contains k then 1 else 16
  let old := (s.lb.wear.find? (fun w => w.key == k)).getD { key := k, wear := 0, day := 0 }
  let new : Wear := { old with wear := old.wear + n, day := old.day + 1 }
  { s with lb := { s.lb with wear := new :: s.lb.wear.filter (fun w => w.key != k) } }

/-- LB_WEAR_MAX: the largest count of any line. -/
def State.wearMax (s : State) : Nat := (s.lb.wear.map (fun w => cdiv w.wear 32)).foldl max 0

/-! ## Sessions, replies and the Quay queues (R44, R49, R52–R54) -/

def State.session? (s : State) (n : Nat) : Option Session := s.mg.sessions.find? (fun x => x.num == n)
def State.session (s : State) (n : Nat) : Session := (s.session? n).getD default

def State.updSession (s : State) (n : Nat) (g : Session → Session) : State :=
  { s with mg := { s.mg with sessions := s.mg.sessions.map (fun x => if x.num = n then g x else x) } }

/-- The values of R518 at the opening of a session. DESIGN CHOICE (log 53): JOURNAL_CURSOR takes the JOURNAL_TAIL in force before
the record of the opening is journaled; in a full ring that record overwrites the one it names. Unsafe for the first read. -/
def State.newSession (s : State) (n ctx : Nat) (sender : Octets) : Session :=
  { num := n, ctx := ctx, sender := sender, lastReq := s.now, cursor := s.journalTail, cellNumber := 0,
    nodeSelect := 0x3FFFF, findEui := List.replicate 8 0, flowSelect := 1, statement := [], shadow := none }

/-- The trunk ports that are UP: replies leave on every one of them (R14). -/
def State.upPorts (s : State) : List Nat := [0, 1].filter (fun p => s.getN (Obj.TT_LINK_STATE p) == 4)

/-- CRC-16 of R46: polynomial 0x1021, initial value 0xFFFF, no reflection, no final XOR. -/
def crc16Byte (c : Nat) : Nat → Nat
  | 0 => c
  | n + 1 => crc16Byte (if c / 32768 % 2 = 1 then (c * 2 % 65536) ^^^ 0x1021 else c * 2 % 65536) n

def crc16 (o : Octets) : Nat := o.foldl (fun c b => crc16Byte (c ^^^ (b.toNat * 256)) 8) 0xFFFF

/-- A byte string in CBOR. -/
def cborBytes (o : Octets) : Octets := cborHead 2 o.length ++ o

/-- The octets of a payload: CBOR, as on the trunk (R42, R43, R46); the records of a FIFO are one byte string (R75). -/
def Payload.cbor : Payload → Octets
  | .none => []
  | .block _ _ _ o => o
  | .handle n => cborHead 0 n
  | .value v => v.cbor
  | .records rs => cborBytes (rs.flatMap EvRec.octets)
  | .octets o => cborBytes o
  | .detail rc m => be 1 0x82 ++ cborHead 0 rc.code ++ m.elim (be 1 0xF6) (cborHead 0)

/-- The block options of a payload as a number: MORE and the block number (R46). -/
def Payload.blockField : Payload → Nat
  | .block n more _ _ => b2n more * 2 ^ 23 + n % 2 ^ 23
  | _ => 0

/-- The octets of a Quay frame (R46): SYNC, LENGTH, BODY and CRC. -/
def QuayFrame.octets (f : QuayFrame) : Octets :=
  let body := be 1 f.kind ++ be 1 f.tok ++ be 1 f.code ++ be 2 (f.key / 256) ++ be 1 f.key ++ be 3 f.payload.blockField ++ be 1 0
    ++ f.payload.cbor
  be 1 0xA5 ++ be 2 body.length ++ body ++ be 2 (crc16 (be 2 body.length ++ body))

/-- IRQ_N is low while the device holds a frame for the host (R49). -/
def State.irqN (s : State) : Bool := s.mg.quay.notifications.isEmpty && s.mg.quay.responses.isEmpty

/-- The places of the two outgoing queues (R49). -/
def notificationPlaces : Nat := 16
def responsePlaces : Nat := 9

/-- Queue a frame of KIND `kind` for the host: a notification, a response or the ready frame of R51. A response waits while its
nine places are taken (R49). -/
def State.quayFrame (s : State) (kind : Nat) (t : Tok) (code : Nat) (p : Payload) (takes : Option (Nat × Nat)) : State :=
  let f : QuayFrame := { ord := s.mg.quay.ord, kind := kind, tok := t.tok, key := t.key, code := code, payload := p, takes := takes }
  let q := { s.mg.quay with ord := s.mg.quay.ord + 1 }
  { s with mg := { s.mg with quay :=
      if kind = 3 then { q with notifications := q.notifications ++ [f] }
      else if q.responses.length < responsePlaces then { q with responses := q.responses ++ [f] }
      else { q with waiting := q.waiting ++ [f] } } }

/-- Requests outstanding on a session (R53): its stalled reads, and on the Quay port those whose reply has no place yet; every other
request is answered in its own step. -/
def State.outstanding (s : State) (sess : Nat) : Nat :=
  (s.mg.fifos.map (fun f => (f.stalled.filter (fun x => x.sess = sess)).length)).sum +
  (s.diag.caps.map (fun f => (f.stalled.filter (fun x => x.sess = sess)).length)).sum +
  (if sess = 0 then s.mg.quay.waiting.length else 0)

/-! ## Procedures (R61–R67) -/

def State.procState (s : State) (ix : Nat) : Nat := s.getN (Obj.key ix 1)
def State.procHandle (s : State) (ix : Nat) : Nat := s.getN (Obj.key ix 5)
def State.procRunning (s : State) (ix : Nat) : Bool := s.procState ix == 1

/-- The start count after `n`: 0x0001 to 0xFEFF (R63). -/
def nextStart (n : Nat) : Nat := if n ≥ 0xFEFF then 1 else n + 1

def State.startCount (s : State) (ix : Nat) : Nat :=
  ((s.lb.starts.find? (fun e => e.1 == ix)).map (·.2)).getD 0

def State.setStartCount (s : State) (ix n : Nat) : State :=
  { s with lb := { s.lb with starts := (ix, n) :: s.lb.starts.filter (fun e => e.1 != ix) } }

/-- A procedure enters RUNNING with its next handle (R62, R63, R67). -/
def State.procBegin (s : State) (ix : Nat) (est : Tick) : State :=
  let n := nextStart (s.startCount ix)
  let h := ix * 65536 + n
  let s := (((((s.setStartCount ix n).setN (Obj.key ix 1) 1).setN (Obj.key ix 2) 0).set (Obj.key ix 4) (t64 est)).setN
    (Obj.key ix 5) h)
  { s with mg := { s.mg with running := s.mg.running ++ [h] } }

/-- A procedure leaves RUNNING for state `st` with result `rc` (R62). -/
def State.procEnd (s : State) (ix st : Nat) (rc : Rc) : State :=
  let h := s.procHandle ix
  let s := (s.setN (Obj.key ix 1) st).setN (Obj.key ix 2) rc.code
  { s with mg := { s.mg with running := s.mg.running.filter (fun x => x != h) } }

/-- Completion: DONE, or FAILED with the failure code (R62). A procedure that is not RUNNING is left alone. -/
def State.procDone (s : State) (ix : Nat) (rc : Rc) : State :=
  if s.procRunning ix then s.procEnd ix (if rc = .ok then 2 else 4) rc else s

/-- Abort: ABORTED with result ABORTED (R62). -/
def State.procAborted (s : State) (ix : Nat) : State :=
  if s.procRunning ix then s.procEnd ix 3 .aborted else s

/-- Move the estimated or actual start of a procedure (R64). -/
def State.procEst (s : State) (ix : Nat) (t : Tick) : State := s.set (Obj.key ix 4) (t64 t)

/-! ## Wake sources (R410) -/

/-- A wake source asserts: recorded from step 1 of STANDBY entry until the wake or the abandonment is decided. -/
def State.wakeSource (s : State) (b : Nat) : State :=
  if s.pwr.standby ∨ s.pwr.entry.isSome then
    let s := if bit (s.getN Obj.WAKE_CAUSE) b then s else s.setN Obj.WAKE_CAUSE (s.getN Obj.WAKE_CAUSE + 2 ^ b)
    { s with pwr := { s.pwr with woken := true } }
  else s

/-- A step that goes on. -/
abbrev Res := Host.Outcome State Fault Refusal

end Sys2Proof.Machine
end

