-- ==== Sys2Proof/Machine/LineCode.lean ====
section
/-! DEFINITION. The line code of a trunk port (spec 08 R274–R278, R281): 66-bit blocks and their scrambler, the RS(360,330) code,
interleave groups and the levels of the line. Bits are lists in the order in which they are sent. -/
namespace Sys2Proof.Machine

/-- The parts of `n` elements of a list. -/
def parts {α : Type} (n : Nat) (l : List α) : List (List α) := (List.range (l.length / n)).map (fun i => (l.drop (i * n)).take n)

/-! ## The field GF(2^10) (R275) -/

/-- A symbol of the code. -/
abbrev Sym := BitVec 10

/-- α times an element: α^10 = α^3 + 1. -/
def gfDouble (a : Sym) : Sym := if a.msb then (a <<< 1) ^^^ 0x009#10 else a <<< 1

def gfMul (a b : Sym) : Sym :=
  (List.range 10).foldl (fun r i => let d := gfDouble r; if b.getMsbD i then d ^^^ a else d) 0#10

def gfPow (a : Sym) : Nat → Sym
  | 0 => 1#10
  | n + 1 => gfMul a (gfPow a n)

/-- The inverse a^1022, the product of a^2, a^4 … a^512. -/
def gfInv (a : Sym) : Sym :=
  ((List.range 9).foldl (fun (x : Sym × Sym) _ => let q := gfMul x.2 x.2; (gfMul x.1 q, q)) (1#10, a)).1

/-- α^i. -/
def alpha (i : Nat) : Sym := (List.range i).foldl (fun a _ => gfDouble a) 1#10

/-! ## Polynomials, the constant coefficient first -/

def polyAdd (a b : List Sym) : List Sym :=
  (List.range (max a.length b.length)).map (fun i => a.getD i 0#10 ^^^ b.getD i 0#10)
def polyScale (c : Sym) (a : List Sym) : List Sym := a.map (gfMul c)
def polyMul (a b : List Sym) : List Sym := a.foldr (fun c r => polyAdd (polyScale c b) (0#10 :: r)) []
def polyEval (a : List Sym) (x : Sym) : Sym := a.foldr (fun c r => gfMul r x ^^^ c) 0#10
/-- The formal derivative: the odd powers, each one lower. -/
def polyDeriv (a : List Sym) : List Sym := (List.range (a.length - 1)).map (fun i => if i % 2 = 0 then a.getD (i + 1) 0#10 else 0#10)
/-- The degree of a polynomial that is not 0. -/
def polyDeg (a : List Sym) : Nat := (List.range a.length).foldl (fun d i => if a.getD i 0#10 = 0#10 then d else i) 0

/-! ## RS(360,330) (R275) -/

def rsLen : Nat := 360
def rsInfo : Nat := 330
def rsParityLen : Nat := 30

/-- g(x) = (x − α^0)(x − α^1) … (x − α^29). -/
def rsGen : List Sym := (List.range rsParityLen).foldl (fun g i => polyMul [alpha i, 1#10] g) [1#10]

/-- The parity of 330 information symbols, that of the highest degree first: the remainder by `g` of the message times x^30. -/
def rsParity (g : List Sym) (info : List Sym) : List Sym :=
  let taps := (g.take rsParityLen).reverse
  info.foldl (fun r m =>
    let f := r.headD 0#10 ^^^ m
    List.zipWith (fun a b => a ^^^ gfMul f b) (r.drop 1 ++ [0#10]) taps) (List.replicate rsParityLen 0#10)

/-- The parity mask of codeword `k` of its interleave group, at parity symbol `j`. -/
def parityMask (k j : Nat) : Sym := BitVec.ofNat 10 (((k + 1) * 0x0A5 + j) % 1024)

/-- The parity symbols of a codeword under the mask of its place; applied again it takes the mask away. -/
def maskParity (k : Nat) (c : List Sym) : List Sym :=
  c.take rsInfo ++ (List.range rsParityLen).map (fun j => c.getD (rsInfo + j) 0#10 ^^^ parityMask k j)

/-- Codeword `k` of a group, as it is sent. -/
def rsEncode (k : Nat) (info : List Sym) : List Sym := maskParity k (info ++ rsParity rsGen info)

/-- The syndromes of a received word: its values at α^0 … α^29, symbol 0 being the coefficient of the highest degree. -/
def syndromes (c : List Sym) : List Sym :=
  (List.range rsParityLen).map (fun i => let x := alpha i; c.foldl (fun r m => gfMul r x ^^^ m) 0#10)

/-- The locator of a symbol: α to the degree at which it stands. -/
def locator (i : Nat) : Sym := alpha (rsLen - 1 - i)

/-- The erasure locator polynomial of positions. -/
def erasurePoly (erased : List Nat) : List Sym := erased.foldl (fun g i => polyMul [1#10, locator i] g) [1#10]

/-- A run of the Berlekamp–Massey algorithm that starts from the erasures: the locator of errors and erasures. -/
def rsLocator (syn : List Sym) (erased : List Nat) : List Sym :=
  let g := erasurePoly erased
  let v := erased.length
  let step := fun (x : List Sym × List Sym × Nat) (n : Nat) =>
    let d := (List.range x.1.length).foldl (fun a j => if j ≤ n then a ^^^ gfMul (x.1.getD j 0#10) (syn.getD (n - j) 0#10) else a) 0#10
    let shifted := 0#10 :: x.2.1
    if d = 0#10 then (x.1, shifted, x.2.2)
    else
      let next := polyAdd x.1 (polyScale d shifted)
      if 2 * x.2.2 ≤ n + v then (next, polyScale (gfInv d) x.1, n + 1 + v - x.2.2) else (next, shifted, x.2.2)
  ((List.range (rsParityLen - v)).foldl (fun x i => step x (v + i)) (g, g, v)).1

/-- The word with its errors and erasures put right, when the locator has all its roots among the positions of the word. -/
def rsFix (c syn loc : List Sym) : List Sym :=
  let omega := (polyMul syn loc).take rsParityLen
  let deriv := polyDeriv loc
  (List.range rsLen).map (fun i =>
    let x := locator i
    let y := gfInv x
    if polyEval loc y = 0#10 then c.getD i 0#10 ^^^ gfMul x (gfMul (polyEval omega y) (gfInv (polyEval deriv y))) else c.getD i 0#10)

/-- Bounded decoding of a word without its mask: up to 15 symbols, or errors and erasures with 2e + ν ≤ 30. `none`: uncorrectable.
The second part is the number of symbols that were put right. -/
def rsDecode (c : List Sym) (erased : List Nat) : Option (List Sym × Nat) :=
  let syn := syndromes c
  if syn.all (· == 0#10) then some (c, 0)
  else if rsParityLen < erased.length then none
  else
    let loc := rsLocator syn erased
    let r := rsFix c syn loc
    let n := ((List.range rsLen).filter (fun i => r.getD i 0#10 != c.getD i 0#10)).length
    let e := ((List.range rsLen).filter (fun i => r.getD i 0#10 != c.getD i 0#10 && !erased.contains i)).length
    if 2 * e + erased.length ≤ rsParityLen ∧ polyDeg loc ≤ rsParityLen ∧ (syndromes r).all (· == 0#10) then some (r, n) else none

/-! ## Blocks and their bits (R274, R275) -/

/-- The bits of an octet, the least significant first, as Clause 49 sends them. -/
def octetBits (o : Octet) : List Bool := (List.range 8).map (fun i => o.getLsbD i)
def bitsOctet (l : List Bool) : Octet := BitVec.ofNat 8 (((List.range 8).map (fun i => b2n (l.getD i false) * 2 ^ i)).sum)

def payloadBits (o : Octets) : List Bool := o.flatMap octetBits
def bitsPayload (l : List Bool) : Octets := (parts 8 l).map bitsOctet

/-- The 66 bits of a block: its sync header first. -/
def CodeBlock.bits (b : CodeBlock) : List Bool := [b.sync.getLsbD 1, b.sync.getLsbD 0] ++ payloadBits b.payload
def bitsBlock (l : List Bool) : CodeBlock :=
  { sync := BitVec.ofNat 2 (2 * b2n (l.getD 0 false) + b2n (l.getD 1 false)), payload := bitsPayload (l.drop 2) }

/-- Ten bits of a symbol, the first in bit [9]. -/
def symBits (a : Sym) : List Bool := (List.range 10).map (fun i => a.getMsbD i)
def bitsSym (l : List Bool) : Sym := BitVec.ofNat 10 (l.foldl (fun a b => 2 * a + b2n b) 0)

/-- The information symbols of fifty blocks, and back. -/
def blocksInfo (b : List CodeBlock) : List Sym := (parts 10 (b.flatMap CodeBlock.bits)).map bitsSym
def infoBlocks (c : List Sym) : List CodeBlock := (parts 66 ((c.take rsInfo).flatMap symBits)).map bitsBlock

/-- Sync headers: data 01, control 10; the others are invalid. -/
def syncData : BitVec 2 := 1#2
def syncControl : BitVec 2 := 2#2

/-- A control block of eight idles, and one of eight error codes (7 bits each, 0x1E), after the type 0x1E. -/
def idleBlock : CodeBlock := { sync := syncControl, payload := 0x1E#8 :: List.replicate 7 0#8 }
def errorBlock : CodeBlock :=
  { sync := syncControl, payload := 0x1E#8 :: bitsPayload ((List.replicate 8 [false, true, true, true, true, false, false]).flatten) }

/-- The block types of Clause 49 that end a frame with 0 to 7 octets before the end. -/
def endTypes : Octets := [0x87#8, 0x99#8, 0xAA#8, 0xB4#8, 0xCC#8, 0xD2#8, 0xE1#8, 0xFF#8]

/-- The blocks of a frame: a start in the first lane with preamble and SFD, its octets, and an end. -/
def frameBlocks (o : Octets) : List CodeBlock :=
  let rest := o.drop (o.length / 8 * 8)
  let start : CodeBlock := { sync := syncControl, payload := 0x78#8 :: (List.replicate 6 0x55#8 ++ [0xD5#8]) }
  let last : CodeBlock := { sync := syncControl, payload := endTypes.getD rest.length 0#8 :: fit 7 rest }
  [start] ++ (parts 8 o).map (fun l => { sync := syncData, payload := l }) ++ [last]

/-- The block types of Clause 49 with the start of a frame in lane 4, after idles or after an ordered set: the last four octets of its
preamble and SFD then lead the block after it. -/
def lateStarts : Octets := [0x33#8, 0x66#8]

/-- The octets of a frame from its blocks, and whether every block of it is one that a frame may hold: a start in lane 0 or 4, data,
an end. -/
def blocksFrame : List CodeBlock → Octets × Bool
  | [] => ([], false)
  | b :: rest =>
    let late := lateStarts.contains (b.payload.getD 0 0)
    let started := b.sync == syncControl && (b.payload.getD 0 0 == 0x78#8 || late)
    let body := rest.takeWhile (fun c => c.sync == syncData)
    let o := (body.flatMap (·.payload)).drop (if late then 4 else 0)
    match rest.drop body.length with
    | [] => (o, false)
    | c :: _ =>
      if c.sync == syncControl && endTypes.contains (c.payload.getD 0 0) then
        (o ++ (c.payload.drop 1).take (endTypes.findIdx (· == c.payload.getD 0 0)), started)
      else (o, false)

/-! ## The scrambler 1 + x^39 + x^58 over the payloads (R274); its state is the last 58 scrambled bits, the newest first -/

def scrambleBit (x : List Bool × List Bool) (b : Bool) : List Bool × List Bool :=
  let c := b ^^ (x.1.getD 38 false ^^ x.1.getD 57 false)
  ((c :: x.1).take 58, c :: x.2)
def descrambleBit (x : List Bool × List Bool) (b : Bool) : List Bool × List Bool :=
  ((b :: x.1).take 58, (b ^^ (x.1.getD 38 false ^^ x.1.getD 57 false)) :: x.2)

/-- The payloads of blocks through one of the two, their headers kept. -/
def throughScrambler (f : List Bool × List Bool → Bool → List Bool × List Bool) (scr : List Bool) (l : List CodeBlock) : List CodeBlock :=
  let o := bitsPayload (((l.flatMap (fun b => payloadBits b.payload)).foldl f (scr, [])).2.reverse)
  l.zipIdx.map (fun e => { e.1 with payload := slice o (e.2 * 8) 8 })
def scramble : List Bool → List CodeBlock → List CodeBlock := throughScrambler scrambleBit
def descramble : List Bool → List CodeBlock → List CodeBlock := throughScrambler descrambleBit

/-- The blocks of codewords after the descrambler, with error control blocks in place of those of an uncorrectable codeword (R278). -/
def wordBlocks (scr : List Bool) (w : List (List CodeBlock × Bool)) : List CodeBlock :=
  List.zipWith (fun b bad => if bad then errorBlock else b) (descramble scr (w.flatMap Prod.fst))
    (w.flatMap (fun x => x.1.map (fun _ => x.2)))

/-- A trunk frame received, from the codewords that it touches (R278). -/
def frameReceived (f : TrunkFrame) : Octets × Bool := blocksFrame (wordBlocks f.scr f.words)

/-! ## IEEE 802.3 frames (R290, R291, R296) -/

/-- The FCS: CRC-32 of IEEE 802.3, reflected polynomial 0xEDB88320, its lowest octet first. -/
def crc32Byte (c : Nat) : Nat → Nat
  | 0 => c
  | n + 1 => crc32Byte (if c % 2 = 1 then (c / 2) ^^^ 0xEDB88320 else c / 2) n
def fcsOf (o : Octets) : Octets :=
  (be 4 ((o.foldl (fun c b => crc32Byte (c ^^^ b.toNat) 8) 0xFFFFFFFF) ^^^ 0xFFFFFFFF)).reverse

/-- The frame of a payload: addresses, the 802.1Q tag, the HSR tag, the EtherType, the payload and its padding to 64 octets in all,
the PRP trailer, the FCS. `lan` 0 is LAN A. -/
def frameOctets (dst src : Octets) (vlan pcp : Nat) (red : RedTag) (type : Nat) (payload : Octets) : Octets :=
  let head := fit 6 dst ++ fit 6 src ++ be 2 0x8100 ++ be 2 (pcp % 8 * 8192 + vlan % 4096)
  let padded := fun (n : Nat) (o : Octets) => o ++ List.replicate (n - o.length) 0#8
  let o := match red with
    | .none => padded 60 (head ++ be 2 type ++ payload)
    | .hsr seq => padded 60 (head ++ be 2 0x892F ++ be 2 (payload.length + 6) ++ be 2 seq ++ be 2 type ++ payload)
    | .prp seq lan =>
      let b := padded 54 (head ++ be 2 type ++ payload)
      b ++ be 2 seq ++ be 2 ((0xA + lan) * 4096 + (b.length - 12)) ++ be 2 0x88FB
  o ++ fcsOf o

/-- What the octets of a frame say: its addresses, its VLAN ID and priority, its redundancy tag and its EtherType. -/
structure EtherHead where
  dst : Octets
  src : Octets
  vlan : Option Nat
  prio : Nat
  tag : RedTag
  type : Nat
deriving DecidableEq, Repr

/-- The head of a frame of octets; its tag is that of HSR, or the trailer of PRP where the LSDU size fits (R296). -/
def etherHead (o : Octets) : EtherHead :=
  let tagged := fld o 12 2 == 0x8100
  let at' := if tagged then 16 else 12
  let ty := fld o at' 2
  let trl := o.drop (o.length - 10)
  let prp := fld trl 4 2 == 0x88FB && (fld trl 2 2 / 4096 == 0xA || fld trl 2 2 / 4096 == 0xB)
    && fld trl 2 2 % 4096 == (o.length - 6 - at') % 4096
  { dst := o.take 6, src := slice o 6 6, vlan := if tagged then some (fld o 14 2 % 4096) else none,
    prio := if tagged then fld o 14 2 / 8192 else 0,
    tag := if ty = 0x892F then .hsr (fld o (at' + 4) 2) else if prp then .prp (fld trl 0 2) (fld trl 2 2 / 4096 - 0xA) else .none,
    type := if ty = 0x892F then fld o (at' + 6) 2 else ty }

/-- The FCS of a frame holds. -/
def fcsHolds (o : Octets) : Bool := o.drop (o.length - 4) == fcsOf (o.take (o.length - 4))

/-- The group address of supervision frames and their EtherType (IEC 62439-3). -/
def superAddr : Octets := [0x01#8, 0x15#8, 0x4E#8, 0x00#8, 0x01#8, 0x00#8]
def superType : Nat := 0x88FB

/-! ## The transmit FIR and the sequences of training (R279, R284) -/

/-- Symbols through the taps of a FIR, from a silent line: each of `l` leads to the sum of the last taps.length symbols, newest first,
by the taps, in 1/16,384. -/
def shaped (taps l : List Int) : List Int :=
  (List.range l.length).map (fun i => ((List.range taps.length).map (fun j => if j ≤ i then taps.getD j 0 * l.getD (i - j) 0 else 0)).sum)

/-- The 16 taps of TT_TX_FIR. -/
def firOf (o : Octets) : List Int := (List.range 16).map (fun i => numI (slice o (2 * i) 2))

/-- PRBS-11 (x^11 + x^9 + 1) and PRBS-31 (x^31 + x^28 + 1) as PAM-2, `n` symbols from a state of the register. -/
def prbs (order tap : Nat) : Nat → Nat → List Int
  | _, 0 => []
  | x, n + 1 =>
    (if bit x (order - 1) then 1 else -1) :: prbs order tap (x * 2 % 2 ^ order + (b2n (bit x (order - 1)) + b2n (bit x (tap - 1))) % 2) n

/-- The line of a PRBS: of order 11 or 31, inverted or not, through the FIR. -/
def prbsLine (order start n : Nat) (inverted : Bool) (taps : List Int) : List Int :=
  shaped taps ((prbs order (if order = 11 then 9 else 28) start n).map (fun x => if inverted then -x else x))

/-- Symbols per ms of a tier (R272). -/
def symbolsMs (tier : Nat) : Nat := [0, 75000, 562500, 1406250].getD tier 0

/-! ## Pages (R283) -/

/-- The 64 bits of a page, bit 63 first, as octets: CRC-16 over [63:16]. -/
def pageOctets (tiers role seed : Nat) (ack pfc : Bool) : Octets :=
  let o := be 6 (2 ^ 44 + tiers % 8 * 2 ^ 41 + role % 4 * 2 ^ 39 + seed % 2 ^ 32 * 2 ^ 7 + b2n ack * 2 ^ 6 + b2n pfc * 2 ^ 5)
  o ++ be 2 (crc16 o)

/-- A page as it is received. -/
def pageOf (o : Octets) : Page :=
  let n := num (o.take 6)
  { version := n / 2 ^ 44 % 16, tiers := n / 2 ^ 41 % 8, role := n / 2 ^ 39 % 4, seed := n / 2 ^ 7 % 2 ^ 32, ack := bit n 6, pfc := bit n 5,
    crcOk := o.length == 8 && fld o 6 2 == crc16 (o.take 6) }

/-- S, 0x3D6B, as chips of −1 and +1, and its inverse. -/
def chipsS : List Int := (List.range 16).map (fun i => if bit 0x3D6B (15 - i) then 1 else -1)
def chipsInv : List Int := chipsS.map (fun x => -x)

/-- The 1,088 chips of a page: the marker, then a bit in 16 chips. -/
def pageChips (o : Octets) : List Int :=
  chipsS ++ chipsInv ++ chipsS ++ chipsInv ++
    (o.flatMap (fun x => (octetBits x).reverse)).flatMap (fun b => if b then chipsS else chipsInv)

/-- A burst of the wake pattern (R288): 24 runs of 32 symbols, +1 and −1 in turn. -/
def wakeBurst : List Int := (List.range 24).flatMap (fun i => List.replicate 32 (if i % 2 = 0 then 1 else -1))

/-! ## The OAM block (R281) -/

/-- Its 56 bits after the type, [55] first, the CRC-16 over [55:16]. -/
def oamBlock (kind tier snr uncorr seq : Nat) : CodeBlock :=
  let o := be 5 (kind % 16 * 2 ^ 36 + tier % 4 * 2 ^ 34 + snr % 1024 * 2 ^ 24 + uncorr % 256 * 2 ^ 16 + seq % 65536)
  let bits := (o ++ be 2 (crc16 o)).flatMap (fun x => (octetBits x).reverse)
  { sync := syncControl, payload := 0xD2#8 :: bitsPayload bits }

/-- An OAM block as it is received: its fields and the outcome of its CRC. -/
def oamOf (b : CodeBlock) : Oam :=
  let o := ((b.payload.drop 1).map (fun x => bitsOctet (octetBits x).reverse))
  let n := num (o.take 5)
  { kind := n / 2 ^ 36 % 16, tier := n / 2 ^ 34 % 4, snr := n / 2 ^ 24 % 1024, uncorr := n / 2 ^ 16 % 256, seq := n % 65536,
    crcOk := b.sync == syncControl && b.payload.getD 0 0 == 0xD2#8 && o.length == 7 && fld o 5 2 == crc16 (o.take 5) }

/-! ## Interleave groups (R276) and levels (R277) -/

/-- Depth d of a tier: 1 M100, 2 M1000, 3 M2500. -/
def depth (tier : Nat) : Nat := [1, 8, 4, 1].getD tier 1

/-- Durations of a codeword and of a group in ns. -/
def codewordNs (tier : Nat) : Nat := [0, 32000, 3200, 1280].getD tier 0
def groupNs (tier : Nat) : Nat := depth tier * codewordNs tier

/-- The instant of a frame on an interleaved line: that of the first symbol of its group and the share of the group before the bit
after its SFD, in 2^-16 ns. -/
def mdiInstant (tier : Nat) (group : Tick) (pos : Nat) : Tick := group + pos * (groupNs tier * nsT) / (3300 * depth tier)

/-- The symbols of a group in the order sent: C0[0], C1[0] … and back. -/
def interleave (cs : List (List Sym)) : List Sym := (List.range rsLen).flatMap (fun i => cs.map (fun c => c.getD i 0#10))
def deinterleave (d : Nat) (l : List Sym) : List (List Sym) :=
  (List.range d).map (fun k => (List.range rsLen).map (fun i => l.getD (i * d + k) 0#10))

/-- PAM-4: 00 → −3, 01 → −1, 11 → +1, 10 → +3. -/
def pam4 (l : List Bool) : Int :=
  match l.getD 0 false, l.getD 1 false with
  | false, false => -3
  | false, true => -1
  | true, true => 1
  | true, false => 3
def pam4Bits (x : Int) : List Bool := [decide (0 < x), x == -1 || x == 1]

/-- PAM-3, 3B2T: the ternary pair of three bits, and back; 0, 0 decodes as 000. -/
def pam3 (l : List Bool) : List Int :=
  [[-1, -1], [-1, 0], [-1, 1], [0, -1], [0, 1], [1, -1], [1, 0], [1, 1]].getD
    (4 * b2n (l.getD 0 false) + 2 * b2n (l.getD 1 false) + b2n (l.getD 2 false)) []
def pam3Bits (a b : Int) : List Bool :=
  let n := if a = 0 ∧ b = 0 then 0 else (3 * (a + 1) + (b + 1)).toNat - (if a = 1 ∨ (a = 0 ∧ b = 1) then 1 else 0)
  [bit n 2, bit n 1, bit n 0]

/-- The levels of the line bits of a tier. -/
def levels (tier : Nat) (l : List Bool) : List Int := if tier = 1 then (parts 3 l).flatMap pam3 else (parts 2 l).map pam4

/-- The line bits of levels, each with whether it is erased: a received 0, 0 erases both of its symbols. -/
def levelBits (tier : Nat) (l : List Int) : List (Bool × Bool) :=
  if tier = 1 then
    (parts 2 l).flatMap (fun x =>
      let a := x.getD 0 0
      let b := x.getD 1 0
      (pam3Bits a b).map (fun c => (c, a == 0 && b == 0)))
  else l.flatMap (fun x => (pam4Bits x).map (fun c => (c, false)))

/-- An interleave group of 50 × d blocks as it is sent. -/
def groupLevels (tier : Nat) (b : List CodeBlock) : List Int :=
  levels tier ((interleave ((parts 50 b).zipIdx.map (fun e => rsEncode e.2 (blocksInfo e.1)))).flatMap symBits)

/-- The codewords of a group received: each with its 50 blocks and the number of symbols put right, or none where it is
uncorrectable. -/
def groupReceived (tier : Nat) (l : List Int) : List (Option (List Sym × Nat)) :=
  let syms := (parts 10 (levelBits tier l)).map (fun x => (bitsSym (x.map Prod.fst), x.any Prod.snd))
  let d := depth tier
  (deinterleave d (syms.map Prod.fst)).zipIdx.map (fun e =>
    rsDecode (maskParity e.2 e.1) ((List.range rsLen).filter (fun i => (syms.map Prod.snd).getD (i * d + e.2) false)))

/-- The blocks of the codewords of a group received, each with whether it is uncorrectable: what a TrunkFrame holds of it. -/
def groupWords (tier : Nat) (l : List Int) : List (List CodeBlock × Bool) :=
  (groupReceived tier l).map (fun c => c.elim (List.replicate 50 errorBlock, true) (fun x => (infoBlocks x.1, false)))

/-- Block lock (R278): 64 consecutive valid sync headers in one alignment. -/
def blockLock (h : List (BitVec 2)) : Bool :=
  (List.range h.length).any (fun i => decide (i + 64 ≤ h.length) && ((h.drop i).take 64).all (fun x => x == syncData || x == syncControl))

/-- A group whose codewords all give zero syndrome under their masks, and codeword lock (R278): three such groups in a row. -/
def groupHolds (tier : Nat) (l : List Sym) : Bool :=
  l.length == rsLen * depth tier &&
    (deinterleave (depth tier) l).zipIdx.all (fun e => (syndromes (maskParity e.2 e.1)).all (· == 0#10))
def codewordLock (tier : Nat) (g : List (List Sym)) : Bool :=
  (List.range g.length).any (fun i => decide (i + 3 ≤ g.length) && ((g.drop i).take 3).all (groupHolds tier))

/-- Nothing counted. -/
def noTally : LineTally := { codewords := 0, corrected := 0, symbols := 0, uncorr := 0 }

def LineTally.add (a b : LineTally) : LineTally :=
  { codewords := a.codewords + b.codewords, corrected := a.corrected + b.corrected, symbols := a.symbols + b.symbols,
    uncorr := a.uncorr + b.uncorr }

def lineTally (tier : Nat) (groups : List (List Int)) : LineTally :=
  let c := groups.flatMap (groupReceived tier)
  let good := c.filterMap (fun x => x.map Prod.snd)
  { codewords := c.length, corrected := (good.filter (fun n => n != 0)).length, symbols := good.sum, uncorr := c.length - good.length }

/-- The counts of groups received at tiers 1 to 3. -/
def lineTallies (m100 m1000 m2500 : List (List Int)) : LineTally :=
  (lineTally 1 m100).add ((lineTally 2 m1000).add (lineTally 3 m2500))

end Sys2Proof.Machine
end

