-- ==== Sys2Proof/Machine/Keys.lean ====
section
/-! DEFINITION. What every protected message rests on: the pair stream (09 R308, R314), reserved counters (14 R463),
Binnacle's keys and their uses (11 R366, R377, R378, R380, R384, R388), and the replies of a session (02 R43, R44). -/
namespace Sys2Proof.Machine

/-! ## Reserved counters (R463) -/

/-- S of R463: 65,536 for sequences and references. -/
def seqStep : Nat := 65536
/-- S for use counts. -/
def useStep : Nat := 4096

def State.ceiling (s : State) (k : Nat) : Nat := ((s.lb.ceilings.find? (fun e => e.1 == k)).map (·.2)).getD 0
/-- A new ceiling is committed. -/
def State.setCeiling (s : State) (k n : Nat) : State :=
  ({ s with lb := { s.lb with ceilings := (k, n) :: s.lb.ceilings.filter (fun e => e.1 != k) } }.wearOut (wearCounter k)).bump
    Obj.LB_COMMITS
/-- A live value `n` that has reached ceiling − S/2 commits the ceiling n + S. -/
def State.reserveCounter (s : State) (k step n : Nat) : State :=
  if s.ceiling k ≤ n + step / 2 then s.setCeiling k (n + step) else s

/-! ## Keys (R366, R373–R384, R388) -/

def State.updBn (s : State) (f : Binnacle → Binnacle) : State := { s with bn := f s.bn }

/-- The kinds of R373. -/
def kJoin : Nat := 1
def kGroup : Nat := 2
def kAdmit : Nat := 3
def kPair : Nat := 4
def kOscore : Nat := 5

/-- Engines of each kind: eight. The number of AES engines is read from the targets of R475. -/
def engines : Nat := 8

/-- Binnacle can work: the root bank holds, and an engine of each kind is in service (R366, R394). -/
def State.binnacleSound (s : State) : Bool :=
  !s.bn.rootBad && decide (s.bn.aesOut.length < engines) && decide (s.bn.keccakOut.length < engines)
def State.binnacleOn (s : State) : Bool := s.binnacleSound && s.isOn 1

/-- The generations whose record an open PREPARE names (R378). -/
def State.opening (s : State) (kind id gen : Nat) : Bool :=
  s.bn.imports.any (fun r => r.prepared && r.new.kind == kind && r.new.keyId == id && r.new.gen == gen)

/-- The records of a key that unwrap now: sealed to the measurement in force, of the current boot where they expire
(R376). -/
def State.keyRecs (s : State) (kind id : Nat) : List KeyRec :=
  s.bn.records.filter (fun r => r.kind == kind && r.keyId == id && r.meas == s.getO Obj.BN_MEAS &&
    (!r.expire || r.bootEpoch == s.getN Obj.LB_BOOT_COUNT) && !s.opening kind id r.gen &&
    !s.bn.void.contains (kind, id, r.gen))

/-- The record in force: the valid record of the highest generation (R378). -/
def State.inForce (s : State) (kind id : Nat) : Option KeyRec :=
  (s.keyRecs kind id).foldl (fun m r =>
    match m with
    | none => some r
    | some b => if b.gen < r.gen then some r else some b) none

/-- The JOIN_PSK record that a node's join bound (R380). -/
def State.boundPsk (s : State) (n : Node) : Option KeyRec := (s.keyRecs kJoin n.keyId).find? (fun r => r.gen == n.keyGen)

/-- KEY_MISSING, at most once per second per kind; users 0 link, 1 group, 2 admission, 3 pair, 4 OSCORE. -/
def State.keyMissing (s : State) (kind id user : Nat) : State :=
  if (s.bn.missingAt.find? (fun e => e.1 == kind)).elim true (fun e => decide (e.2 + secC ≤ s.now)) then
    (s.updBn (fun b => { b with missingAt := (kind, s.now) :: b.missingAt.filter (fun e => e.1 != kind) })).raiseOn 0x2016 2
      0x9000 (be 1 kind ++ be 8 id ++ be 1 user)
  else s

/-- What a use is counted under: the kind, the KEY_ID and the generation. -/
def KeyRec.useId (r : KeyRec) : Nat × Nat × Nat := (r.kind, r.keyId, r.gen)

/-- The number under which the use count of a PERSIST_COUNT key is reserved in Logbook (R377, R463), and back. -/
def useCounter (e : Nat × Nat × Nat) : Nat := 2 ^ 104 + e.1 * 2 ^ 96 + e.2.2 * 2 ^ 64 + e.2.1
def useIdOf (k : Nat) : Nat × Nat × Nat := ((k - 2 ^ 104) / 2 ^ 96, k % 2 ^ 64, k % 2 ^ 96 / 2 ^ 64)

def State.usesOf (s : State) (i : Nat × Nat × Nat) : Nat := ((s.bn.uses.find? (fun e => e.1 == i)).map (·.2)).getD 0

def State.setUses (s : State) (i : Nat × Nat × Nat) (n : Nat) : State :=
  s.updBn (fun b => { b with uses := (i, n) :: b.uses.filter (fun e => e.1 != i) })

/-- One protect or check with a key (R377): false when its limit refuses it. -/
def State.useRec (s : State) (r : KeyRec) : State × Bool :=
  if s.binnacleOn = false ∨ s.bn.spent.contains r.useId then (s, false)
  else if r.limited = false then (s, true)
  else
    let n := s.usesOf r.useId
    if r.limit ≤ n then
      let s := if r.persist then s.updBn (fun b => { b with spent := r.useId :: b.spent })
        else s.setUses r.useId 0
      (s.raiseOn 0x2013 1 0x9000 (be 1 r.kind ++ be 8 r.keyId ++ be 4 r.gen ++ be 1 (b2n r.persist)), false)
    else
      let s := s.setUses r.useId (n + 1)
      (if r.persist then s.reserveCounter (useCounter r.useId) useStep (n + 1) else s, true)

/-- The PURPOSE of a key allows the use: PROTECT for what goes out (`out`), UNPROTECT for what comes in (R375). -/
def KeyRec.allows (r : KeyRec) (out : Bool) : Bool := if out then r.protect else r.check

/-- A use for a purpose: one that PURPOSE does not allow is refused, and not counted. -/
def State.useFor (s : State) (r : KeyRec) (out : Bool) : State × Bool := if r.allows out then s.useRec r else (s, false)

/-- The use of a resident key; one that is not held is missing. -/
def State.useKey (s : State) (kind id user : Nat) (out : Bool) : State × Bool :=
  match s.inForce kind id with
  | none => (s.keyMissing kind id user, false)
  | some r => s.useFor r out

/-- A message that verifies under the generation in force ends a kept generation (R384 step 5). -/
def State.retireOld (s : State) (kind id : Nat) : State :=
  s.updBn (fun b => { b with retained := b.retained.filter (fun r => !(r.old.kind == kind && r.old.keyId == id)) })

/-- The check of a message (R384 step 5): under the key in force, or, when it verifies under that one only, the generation
kept after a replacement. A message under the key in force ends the kept one. -/
def State.checkKey (s : State) (kind id user : Nat) (old ok : Bool) : State × Bool :=
  if old then
    match s.bn.retained.find? (fun r => r.old.kind == kind && r.old.keyId == id && decide (s.now < r.until')) with
    | none => (s, false)
    | some r =>
      let u := s.useFor r.old false
      (u.1, u.2 && ok)
  else
    let u := s.useKey kind id user false
    if u.2 ∧ ok then (u.1.retireOld kind id, true) else (u.1, false)

/-- ZK-LINK: the link key of a node, from the JOIN_PSK record that its join bound (R374, R380). -/
def linkKey (r : KeyRec) (eui gen : Nat) : Octets :=
  Config.shake256 16 ([0x5A, 0x4B, 0x2D, 0x4C, 0x49, 0x4E, 0x4B] ++ (slice r.material 4 32).take (fld r.material 0 1) ++ be 8 eui ++ be 4 gen)

/-- Entries of the node link-key cache. -/
def cacheMax : Nat := 4096

/-- The last entry that no frame handed to Helm pins goes (R381). -/
def State.cacheDrop (s : State) (l : List (Nat × Nat)) : List (Nat × Nat) :=
  let handed := fun (i : Nat) => s.helm.due.any (fun d => d.kind == 0 && d.node == i) ||
    s.helm.plans.any (fun g => g.frames.any (fun f => f.kind == 0 && f.node == i))
  match l.reverse.find? (fun e => !handed e.1) with
  | none => l.dropLast
  | some e => l.erase e

/-- A node's entry of the cache is used; a miss takes the place of the least recently used one (R381). -/
def State.cacheUse (s : State) (n : Node) : State :=
  let l := (n.idx, n.keyGen) :: s.bn.cache.filter (fun e => e.1 != n.idx)
  s.updBn (fun b => { b with cache := if cacheMax < l.length then s.cacheDrop l else l })

/-- The use of a node's link key: that of the JOIN_PSK record its join bound, whose purposes and uses hold for it (R377, R380, R381;
DEDUCED, log 25). -/
def State.useLink (s : State) (n : Node) (out : Bool) : State × Bool :=
  match s.boundPsk n with
  | none => (s.keyMissing kJoin n.keyId 0, false)
  | some r => (s.cacheUse n).useFor r out

/-- KEY_ID of a group key (R373). -/
def groupId (pan ix : Nat) : Nat := pan * 256 + ix

/-- The check of a frame under a group key of its PAN (R388). -/
def State.useGroupRx (s : State) (pan ix : Nat) : State × Bool :=
  match s.inForce kGroup (groupId pan ix) with
  | none => (s.keyMissing kGroup (groupId pan ix) 1, false)
  | some r => s.useFor r false

/-- The PAN's transmit key: that of the last completed switch, or the only key held before any (R388). -/
def State.groupTx (s : State) (pan : Nat) : Option Nat :=
  match s.bn.txKey.getD pan none with
  | some k => some k
  | none =>
    match (s.bn.records.filter (fun r => r.kind == kGroup && r.keyId / 256 == pan && r.meas == s.getO Obj.BN_MEAS)).map (·.keyId) with
    | [k] => some (k % 256)
    | _ => none

/-! ## The pair stream (R308, R312, R314) -/

/-- Key ID of the pair key. -/
def State.pairKey (s : State) : Nat := num (s.getO Obj.CS_PAIR_KEYID)

/-- The member is active in a pair whose partner is SHADOW or RESYNC: it streams. -/
def State.streams (s : State) : Bool :=
  s.getN Obj.CS_STATE == 2 && (s.getN Obj.CS_PAIRSEL == 1 || s.getN Obj.CS_PAIRSEL == 2) &&
    (s.getN Obj.CS_PARTNER_STATE == 3 || s.getN Obj.CS_PARTNER_STATE == 4)

/-- The 16 octets of an item (R316). -/
def itemOctets (x : Item) : Octets := be 1 x.band ++ be 1 x.kind ++ be 2 x.channel ++ be 4 x.instant ++ be 4 x.who ++ be 4 x.what

/-- Codes of the states (R198). -/
def nodeCode : NodeState → Nat
  | .joining => 0 | .active => 1 | .drifted => 2 | .stale => 3 | .lost => 4

/-- NODE_ENTRY_RAW: the 32 octets of R198. -/
def entryOctets (n : Node) : Octets :=
  be 8 n.eui ++ be 4 (n.idx + 2 ^ 18 * nodeCode n.state + 2 ^ 21 + 2 ^ 22 * b2n n.neighbour + 2 ^ 23 * b2n n.pinned + 2 ^ 24 * b2n n.auto)
    ++ be 4 n.lastHeard ++ be 2 (n.short.getD 0xFFFE) ++ be 1 n.pan ++ be 1 n.depth ++ be 4 n.parent ++ be 1 (n.lastSeq.getD 0)
    ++ be 1 (n.daoSeq.getD 0) ++ be 2 n.keySlot ++ be 4 (n.routeExpiry.getD 0xFFFFFFFF)

/-- A TIME64 of a message, all 0xFF where there is none (R255). -/
def admTime (t : Option Tick) : Octets := t.elim (List.replicate 12 0xFF) t64Octets

/-- RESULT of a reply by its detail (R256). -/
def detailRc (d : Nat) : Rc := if d = 0 then .ok else if d ≤ 5 then .refusedDeadline else if d = 13 then .oversize else .refusedCapacity

/-- The body of a REPLY (R255). -/
def replyBody (reqId detail attempts ref : Nat) (promise first : Option Tick) : Octets :=
  be 4 reqId ++ be 2 (detailRc detail).code ++ be 1 detail ++ be 1 attempts ++ be 8 ref ++ admTime promise ++ admTime first

/-- A picked instance in an admission record: the spec gives it no layout (log 41). -/
def instOctets (i : Inst) : Octets := be 1 i.pan ++ be 4 i.cell ++ be 5 i.asn ++ be 2 i.chanOff ++ t64Octets i.start

/-- KIND of a stream record (R314). -/
def recKind : StreamRec → Nat
  | .write .. => 1 | .start .. => 1 | .node .. => 2 | .admission _ => 3 | .refusal .. => 3 | .report .. => 4 | .plan .. => 5
  | .reserve .. => 6 | .mark _ => 7

/-- The body of a stream record (R314): what the table lists, in its order (log 41). -/
def recBody : StreamRec → Octets
  | .write ix sub _ v t => be 2 ix ++ be 1 sub ++ v.cbor ++ t64Octets t
  | .start ix v t b => be 2 ix ++ be 1 3 ++ v.cbor ++ t64Octets t ++ b.flatMap t64Octets
  | .node i n => n.elim (be 8 0 ++ be 4 i ++ be 20 0 ++ be 38 0) (fun n => entryOctets n ++ be 8 n.keyId ++ be 4 n.keyGen
      ++ fit 12 (n.parents.flatMap (be 4)) ++ be 2 n.drift ++ t64Octets (n.lastSync.getD 0))
  | .admission f => replyBody f.reqId 0 f.insts.length f.ref (some f.promise) (f.insts.head?.map (·.start))
      ++ f.insts.flatMap instOctets ++ be 2 f.flow ++ fit f.octets (Config.meshFrame f.ref)
  | .refusal _ reqId d p => replyBody reqId d 0 0 p none ++ be 2 0
  | .report ref st => be 8 ref ++ be 1 st
  | .plan t l => t64Octets t ++ l.flatMap (fun e => itemOctets e.1)
  | .reserve ctx n => be 2 ctx ++ be 8 n
  | .mark stop => be 1 (b2n stop)

/-- The object that selects what a write acts on: the cell, the flow or the node of its session. -/
def selectorOf (k : Nat) : Option Nat :=
  if k = Obj.CELL_ENTRY then some Obj.CELL_NUMBER
  else if k = Obj.FLOW_CONFIG then some Obj.FLOW_SELECT
  else if k = Obj.NODE_NOTE ∨ k = Obj.NODE_FPW ∨ k = Obj.NODE_FPH then some Obj.NODE_SELECT
  else none

/-- A record: KIND, a reserved octet, the length of its body, the body. A write that acts on a selected cell, flow or node follows the
write that selects it (log 41). -/
def recOctets (r : StreamRec) : Octets :=
  let one := fun (x : StreamRec) => be 1 (recKind x) ++ be 1 0 ++ be 2 (recBody x).length ++ recBody x
  match r with
  | .write ix sub sel _ t =>
    ((selectorOf (Obj.key ix sub)).elim [] (fun k => one (.write (k / 256) (k % 256) 0 (.int sel) t))) ++ one r
  | _ => one r

/-- Octets 0 to 15 of a Consort message (R312): TYPE 1 pulse, 2 stream. -/
def pairHead (type pairId member counter : Nat) : Octets :=
  be 1 type ++ be 1 1 ++ be 2 pairId ++ be 1 member ++ be 3 0 ++ be 8 counter

/-- The nonce of a Consort message (R312): MEMBER, TYPE, three octets of 0, COUNTER. -/
def pairNonce (type member counter : Nat) : Octets := be 1 member ++ be 1 type ++ be 3 0 ++ be 8 counter

/-- A Consort message with its tag under the key that CS_PAIR_KEYID names: an empty payload, the message as additional data (R312). -/
def State.pairOctets (s : State) (type pairId member counter : Nat) (body : Octets) : Octets :=
  let m := pairHead type pairId member counter ++ body
  m ++ fit 8 (Config.ccm kPair s.pairKey ((s.inForce kPair s.pairKey).elim 0 (·.gen)) (pairNonce type member counter) m [])

/-- The redundancy tag of a frame of the device with sequence number `n`, the same in both copies (R296). -/
def State.redTag (s : State) (p n : Nat) : RedTag :=
  if s.getN Obj.TRUNK_REDUNDANCY = 1 then .hsr (n % 65536) else .prp (n % 65536) p

/-- The EtherType of Consort messages. -/
def pairType : Nat := 0x88B5

/-- A Consort message goes out of every UP port as an IEEE 802.3 frame to TRUNK_PAIR_MAC, with priority code point 7 and the tag of
the redundancy mode, its copies with one sequence number (R296, R312). -/
def State.pairFrame (s : State) (o : Octets) : State :=
  let n := s.pilot.nextUp
  s.upPorts.foldl (fun s p =>
    (s.emit (.pairFrame p (frameOctets (s.getO Obj.TRUNK_PAIR_MAC) (s.getO Obj.TRUNK_MAC) (s.getN Obj.TRUNK_VLAN) 7 (s.redTag p n)
      pairType o))).bump (Obj.TT_FRAMES_TX p)) { s with pilot := { s.pilot with nextUp := n + 1 } }

/-- A stream message goes out under the pair key. -/
def State.sendStream (s : State) (n : Nat) (l : List StreamRec) : State :=
  if s.upPorts = [] then s
  else
    let u := s.useKey kPair s.pairKey 3 true
    if u.2 then
      (u.1.pairFrame (u.1.pairOctets 2 (s.getN Obj.CS_PAIR_ID) (s.getN Obj.CS_PAIRSEL) n (l.flatMap recOctets))).emit (.stream n l)
    else u.1

/-- The octets of the stream that the partner has not acknowledged. -/
def State.backlog (s : State) : State :=
  s.setN Obj.CS_STREAM_BACKLOG (min 16777216 ((s.cs.unacked.map (·.octets)).sum))

/-- Stream a record to the shadow: a message of its own, of header, record and tag. -/
def State.stream (s : State) (r : StreamRec) : State :=
  if s.streams then
    let n := s.cs.sent + 1
    let m : SentMsg := { seq := n, recs := [r], octets := 24 + (recOctets r).length, first := s.now, last := s.now }
    let s := { s with cs := { s.cs with sent := n, unacked := s.cs.unacked ++ [m] } }
    (s.sendStream n [r]).backlog
  else s

/-- Take the value of a reserved counter kept in an object and advance it; the reservation of an admission sequence is streamed
(R314). -/
def State.reserveSeq (s : State) (k step n : Nat) : State :=
  let c := s.ceiling k
  let s := s.reserveCounter k step n
  if Obj.ADMIT_SEQ_OUT 0 ≤ k ∧ k < Obj.ADMIT_SEQ_OUT 0 + 16 ∧ s.ceiling k ≠ c then
    s.stream (.reserve (k - Obj.ADMIT_SEQ_OUT 0) (s.ceiling k))
  else s

def State.takeCounter (s : State) (k step : Nat) : Nat × State :=
  let n := s.getN k
  (n, ((s.setN k (n + 1)).reserveSeq k step (n + 1)))

/-! ## Replies (R43, R44, R377) -/

/-- The counter of the device's sender sequence number under an OSCORE key (R390). -/
def oscoreCounter (id : Nat) : Nat := 2 ^ 73 + id

/-- Take the next sender sequence number of an OSCORE context. -/
def State.takeOscoreSeq (s : State) (id : Nat) : State :=
  let n := ((s.bn.oscoreSeq.find? (fun e => e.1 == id)).map (·.2)).getD 0
  (s.updBn (fun b => { b with oscoreSeq := (id, n + 1) :: b.oscoreSeq.filter (fun e => e.1 != id) })).reserveCounter
    (oscoreCounter id) seqStep (n + 1)

/-- Protect a message under an OSCORE key, KEY_ID `ctx`: false where the key does not allow it. -/
def State.protectMsg (s : State) (ctx : Nat) : State × Bool := s.useKey kOscore ctx 4 true

/-- Start the reply to a request: a Quay response for session 0; for any other a message on every trunk port that is UP (R14),
protected under the session's context, and piggybacked on the acknowledgement of a confirmable request (R41). -/
def State.reply (s : State) (sess : Nat) (t : Tok) (code : Nat) (p : Payload) : State :=
  if sess = 0 then s.quayFrame 2 t code p none
  else
    let u := s.protectMsg (s.session sess).ctx
    if u.2 ∧ u.1.upPorts ≠ [] then u.1.emit (.reply sess t code p u.1.upPorts) else u.1

/-- The refusal reply of R43: the detail is null except for BUSY_RETRY. -/
def State.replyRc (s : State) (sess : Nat) (t : Tok) (rc : Rc) (micros : Option Nat := none) : State :=
  s.reply sess t rc.coap (.detail rc micros)

end Sys2Proof.Machine
end

