-- ==== Sys2Proof/Machine/Operands.lean ====
section
/-! DEFINITION. Every form in which a request carries a value: the layouts several chapters share, TYPE and RANGE of R36, and how
a value reaches the dictionary, Logbook and the pair stream (spec 02, 09, 14, 16). -/
namespace Sys2Proof.Machine

/-! ## Layouts shared by several chapters -/

/-- A cell entry from its 16 octets (R156). -/
def Cell.ofOctets (o : Octets) : Cell :=
  let opt := fld o 1 1
  { sf := fld o 0 1, tx := bit opt 0, rx := bit opt 1, shared := bit opt 2, timekeeping := bit opt 3,
    advertise := bit opt 4, rxProtect := bit opt 5, valid := bit opt 6, slot := fld o 2 2, chanOff := fld o 4 2,
    port := fld o 6 1, node := fld o 8 4, tag := fld o 12 4 }

/-- The 16 octets of a cell entry (R156). -/
def Cell.octets (c : Cell) : Octets :=
  be 1 c.sf ++ be 1 (b2n c.tx + 2 * b2n c.rx + 4 * b2n c.shared + 8 * b2n c.timekeeping + 16 * b2n c.advertise
    + 32 * b2n c.rxProtect + 64 * b2n c.valid)
  ++ be 2 c.slot ++ be 2 c.chanOff ++ be 1 c.port ++ be 1 0 ++ be 4 c.node ++ be 4 c.tag

/-- The PORT of a cell entry is not the reserved code (R7, R156). -/
def cellEncodingOk (o : Octets) : Bool := decide (fld o 6 1 % 4 < 3)

/-- The default configuration of flows 1–4,095 (R269). -/
def Flow.dflt (n : Nat) : Flow :=
  { num := n, enabled := false, down := false, cls := 2, weight := 64, rate := 1000, burst := 8, attempts := 3,
    pendMax := 4096, tokens := 0, stamp := 0, next := 0 }

/-- The fixed configuration of flow 0 (R238). -/
def Flow.zero : Flow :=
  { num := 0, enabled := true, down := true, cls := 1, weight := 1024, rate := 1000000, burst := 1024, attempts := 3,
    pendMax := 65536, tokens := 1024 * 65536, stamp := 0, next := 0 }

/-- A flow of Pilot. -/
def State.flow (s : State) (n : Nat) : Flow :=
  (s.pilot.flows.find? (fun f => f.num == n)).getD (if n = 0 then Flow.zero else Flow.dflt n)

/-- FLOW_CONFIG of a flow (R237). -/
def Flow.octets (f : Flow) : Octets :=
  be 1 (b2n f.enabled + 2 * b2n f.down) ++ be 1 f.cls ++ be 2 f.weight ++ be 4 f.rate ++ be 2 f.burst
  ++ be 1 f.attempts ++ be 1 0 ++ be 4 f.pendMax

/-- The node with an index. -/
def State.node? (s : State) (i : Nat) : Option Node := s.alm.nodes.find? (fun n => n.idx == i)

/-- Change the node with an index. -/
def State.updNode (s : State) (i : Nat) (g : Node → Node) : State :=
  { s with alm := { s.alm with nodes := s.alm.nodes.map (fun n => if n.idx = i then g n else n) } }

/-- The node a session's NODE_SELECT names (R194, R234). -/
def State.selected (s : State) (sess : Nat) : Option Node := s.node? (s.session sess).nodeSelect

/-! ## Reserved fields (R7) -/

/-- The octets of a layout whose reserved bits are cleared: octet and the bits it keeps. -/
def keepBits (o : Octets) (l : List (Nat × Nat)) : Octets :=
  l.foldl (fun o e => o.modify e.1 (fun b => b &&& BitVec.ofNat 8 e.2)) o

/-- Which bits of which octets the layout of an object keeps, where it has reserved fields: CELL_ENTRY, FLOW_CONFIG, UPRULE, SX_SET,
CAL_ALARM and the arguments of NODE_ADD, TRUNK_LOOPBACK, TACK and SELFTEST_RUN (R156, R237, R239, R363, R357, R235, R303, R457,
R475). -/
def reservedOf (k : Nat) : List (Nat × Nat) :=
  if k = Obj.CELL_ENTRY then [(0, 0x3F), (1, 0x7F), (6, 3), (7, 0), (8, 0), (9, 3)]
  else if k = Obj.FLOW_CONFIG then [(0, 3), (1, 3), (11, 0)]
  else if k / 256 = 0x6200 then [(5, 3)]
  else if k = Obj.SX_SET then [(1, 0), (2, 0), (3, 0)]
  else if k = Obj.CAL_ALARM then [(7, 0x7F)]
  else if k = Obj.key Obj.NODE_ADD 3 then [(9, 1), (10, 0), (11, 0)]
  else if k = Obj.key Obj.TRUNK_LOOPBACK 3 then [(3, 0)]
  else if k = Obj.key Obj.TACK 3 then [(4, 0), (5, 0), (6, 0), (7, 0)]
  else if k = Obj.key Obj.SELFTEST_RUN 3 then [(2, 0), (3, 0)]
  else []

/-- The bits an integer object keeps: CC_PTAB entries, TT_TIERS, SYNTH_CALIBRATE, TRUNK_RETRAIN, the bitmaps and WW_MODES (R97, R304,
R120, R302, R150). -/
def reservedBits (k : Nat) : Option Nat :=
  let ix := k / 256
  if Obj.CC_PTAB 0 0 / 256 ≤ ix ∧ ix < 0x3043 ∧ 1 ≤ k % 256 then some 0xFFFFF
  else if (ix = 0x7000 ∨ ix = 0x7001) ∧ k % 256 = 2 then some 7
  else if k = Obj.key Obj.SYNTH_CALIBRATE 3 then some 7
  else if k = Obj.key Obj.TRUNK_RETRAIN 3 then some 3
  else
    match Obj.row k with
    | none => none
    | some r =>
      match r.rng with
      | .mask m => some m
      | .winModes => some 0xFFFE
      | _ => none

/-- A reader ignores the value of every reserved field, and what is stored holds 0 in it (R7). DEDUCED (log 55): R7 is read before the
Range columns, which list the reserved bits among the fields. Unsafe where hardware refuses such a value with RANGE. -/
def ignoreReserved (k : Nat) (v : Val) : Val :=
  match v with
  | .int i => match reservedBits k with
    | some m => .int ((i.toNat &&& m : Nat) : Int)
    | none => v
  | .octets o => .octets (keepBits o (reservedOf k))
  | _ => v

/-! ## TYPE and RANGE (R36) -/

/-- The value a CBOR item gives an object of type `t`: TYPE for a wrong form, RANGE for a value too wide. TACK_SEGMENT takes
5 to 65,540 octets (R446). -/
def Ty.read (t : Ty) (w : Wire) : Except Rc Val :=
  match t, w with
  | .bool, .bool b => .ok (.bool b)
  | .u n, .uint x => if x < 2 ^ n then .ok (.int x) else .error .range
  | .i n, .uint x => if x < 2 ^ (n - 1) then .ok (.int x) else .error .range
  | .i n, .nint x => if x < 2 ^ (n - 1) then .ok (.int (-1 - (x : Int))) else .error .range
  | .time64, .arr3 a b c =>
    if a < 2 ^ 48 ∧ b ≤ 999999999 ∧ c < 65536 then .ok (.time a b c) else .error .range
  | .octets 65540, .bytes o => if 5 ≤ o.length ∧ o.length ≤ 65540 then .ok (.octets o) else .error .type
  | .octets n, .bytes o => if o.length = n then .ok (.octets o) else .error .type
  | .utf8 n, .text o ok => if ok ∧ o.length ≤ n then .ok (.text o) else .error .type
  | _, _ => .error .type

/-- Minimum channel spacing of each mode code in kHz (R125); code 0 is reserved. -/
def modeSpacing (m : Nat) : Nat :=
  [0, 200, 200, 400, 400, 600, 100, 200, 400, 400, 600, 1200, 800, 400, 200, 5000].getD m 0

/-- The mode codes set in a bitmap. -/
def modesOf (m : Nat) : List Nat := (List.range 16).filter (fun i => bit m i)

/-- Whether IEEE 802.15.4-2020 permits an MCS for the OFDM option of a mode code 11–14: the table is the standard's and
not the spec's (log 10). -/
def mcsPermitted (mode mcs : Nat) : Bool := decide (mcs ≤ 6) && Config.mcsPermitted mode mcs

/-- The lowest MCS the standard permits for the option (R522). -/
def lowestMcs (mode : Nat) : Nat := ((List.range 7).find? (mcsPermitted mode)).getD 0

/-- The span of a window and the band of its port, in Hz (R123). -/
def windowInBand (w first spacing n : Nat) : Bool :=
  let half := spacing * 500
  let lo := first - half
  let hi := first + (n - 1) * spacing * 1000 + half
  let band := if w < 4 then (150000000, 960000000) else (2400000000, 2483500000)
  decide (half ≤ first ∧ band.1 ≤ lo ∧ hi ≤ band.2)

/-- An UPRULE in range (R239, R7): the ports of a rule for non-UDP datagrams are ignored. -/
def upruleOk (o : Octets) : Bool :=
  decide ((bit (fld o 5 1) 1 = true ∨ fld o 0 2 ≤ fld o 2 2) ∧ (fld o 4 1 < 64 ∨ fld o 4 1 = 255) ∧ fld o 5 1 < 4 ∧ fld o 6 2 ≤ 4095)

/-- The sum of the absolute tap values of TT_TX_FIR (R280). -/
def firSum (o : Octets) : Nat :=
  ((List.range 16).map (fun i => (numI (slice o (2 * i) 2)).natAbs)).sum

/-- Whether a value of a `special` range is one the object accepts: bounds that other objects set, and layouts. -/
def State.specialOk (s : State) (k : Nat) (v : Val) : Bool :=
  let ix := k / 256
  let i := v.toInt
  let n := i.toNat
  if k = Obj.JOURNAL_CURSOR then
    decide (n < 2 ^ 32 ∧ (n + 2 ^ 32 - s.journalTail) % 2 ^ 32 ≤ (s.journalHead + 2 ^ 32 - s.journalTail) % 2 ^ 32)
  else if Obj.CC_PTAB 0 0 / 256 ≤ ix ∧ ix < 0x3043 then n / 2 ^ 20 == 0
  else if k % 256 = 0x0A ∧ 0x4000 ≤ ix ∧ ix < 0x4004 then
    (if s.getN (Obj.PN_BAND (ix - 0x4000)) = 0 then decide (1 ≤ n ∧ n ≤ 14) else decide (1 ≤ n ∧ n ≤ 15))
  else if k % 256 = 0x10 ∧ 0x4000 ≤ ix ∧ ix < 0x4004 then decide (n ≤ 7 ∧ n ≤ s.getN (Obj.PN_MAX_BE (ix - 0x4000)))
  else if k % 256 = 0x11 ∧ 0x4000 ≤ ix ∧ ix < 0x4004 then
    decide (1 ≤ n ∧ n ≤ 7)
  else if k % 256 = 0x13 ∧ 0x4000 ≤ ix ∧ ix < 0x4004 then decide (n ≤ 6)
  else if 0x4100 ≤ ix ∧ ix < 0x4140 then true
  else if 0x4400 ≤ ix ∧ ix < 0x4410 then
    decide (150000000 ≤ n ∧ n ≤ 2483500000) &&
      (if k % 256 = 2 then true else decide (s.getN (Obj.SB_LOW (ix - 0x4400)) ≤ n))
  else if k = Obj.LEEWAY_MAX then decide (300 ≤ n ∧ n ≤ 50000)
  else if k = Obj.DRIFT_MISSES then decide (1 ≤ n ∧ n ≤ s.getN Obj.LOST_MISSES)
  else if k = Obj.LOST_MISSES then decide (2 ≤ n ∧ n ≤ 64)
  else if k = Obj.NODE_EVICT then decide (n = 0 ∨ (s.getN Obj.NODE_STALE ≤ n ∧ n ≤ 1261440000))
  else if k = Obj.SHORT_BASE then
    decide (2 ≤ n ∧ n ≤ 0x7FFE) &&
      (List.range 4).all (fun p => !decide (n ≤ s.getN (Obj.PN_SHORT_ADDR p) ∧ s.getN (Obj.PN_SHORT_ADDR p) ≤ n + 32767))
  else if k = Obj.PA_UDP_PORT then decide (1024 ≤ n ∧ n ≤ 65535 ∧ n ≠ 5683)
  else if ix = 0x6200 then upruleOk v.toOctets
  else if ix = 0x7000 ∨ ix = 0x7001 then
    (if k % 256 = 2 then decide (1 ≤ n ∧ n ≤ 7)
     else if k % 256 = 5 then decide (firSum v.toOctets ≤ 16384)
     else true)
  else if k = Obj.TRUNK_PAIR_MAC then fld v.toOctets 0 1 % 4 == 3
  else if k = Obj.SX_RATE then
    decide (i.natAbs * 1000000000 ≤ s.getN Obj.SX_RATE_LIMIT * 2 ^ 40)
  else if k = Obj.SX_RATE_LIMIT then decide (1000 ≤ n ∧ n ≤ 500000)
  else if k = Obj.SX_LOCK_NS then decide (10 ≤ n ∧ n ≤ 1000000)
  else if k = Obj.SX_LOSS_NS then decide (s.getN Obj.SX_LOCK_NS ≤ n ∧ n ≤ 100000000)
  else if k = Obj.LOOKOUT_WARN_TIME then decide (10 ≤ n ∧ n ≤ 1000 ∧ n < s.getN Obj.LOOKOUT_CORE_TIME)
  else if k = Obj.LOOKOUT_CORE_TIME then decide (100 ≤ n ∧ n ≤ 10000 ∧ s.getN Obj.LOOKOUT_WARN_TIME < n)
  else true

/-- RANGE of R36 for a value of the right type. -/
def State.rangeOk (s : State) (k : Nat) (r : Row) (v : Val) : Bool :=
  let i := v.toInt
  match r.rng with
  | .any => true
  | .iv lo hi => decide (lo ≤ i ∧ i ≤ hi)
  | .oneOf l => l.contains i
  | .step lo hi d => decide (lo ≤ i ∧ i ≤ hi ∧ i % d = 0)
  | .orZero lo hi => decide (i = 0 ∨ (lo ≤ i ∧ i ≤ hi))
  | .mask m => decide (i.toNat &&& m = i.toNat)
  | .isTrue => v == .bool true
  | .isFalse => v == .bool false
  | .octMax m => v.toOctets.all (fun b => decide (b.toNat ≤ m))
  | .gainStep => decide (0 ≤ i ∧ i ≤ (if k / 256 - r.ix < 2 then 4 else 1))
  | .winFirst =>
    if k / 256 - r.ix < 4 then decide (150000000 ≤ i ∧ i ≤ 960000000)
    else decide (2400000000 ≤ i ∧ i ≤ 2483500000)
  | .winSpacing => [100, 200, 400, 600, 800, 1200].contains i || (i == 5000 && decide (4 ≤ k / 256 - r.ix))
  | .winModes => decide (i.toNat % 2 = 0 ∧ 1 ≤ (modesOf i.toNat).length ∧ (modesOf i.toNat).length ≤ 4)
  | .special => s.specialOk k v

/-! ## Services and the pair (R155, R308, R310) -/

/-- A PAN is in service until its next slot boundary after PN_ENABLE became false (R155). -/
def State.panServed (s : State) (p : Nat) : Bool := s.getB (Obj.PN_ENABLE p) || (nth s.helm.pans p).stopping

/-- A pair-wide object (R308): one of the ranges, not PN_SHORT_ADDR, not per session. -/
def pairWide (k : Nat) : Bool :=
  let ix := k / 256
  decide ((0x3400 ≤ ix ∧ ix ≤ 0x37FF) ∨ (0x4000 ≤ ix ∧ ix ≤ 0x6FFF)) &&
  !(decide (0x4000 ≤ ix ∧ ix < 0x4004 ∧ k % 256 = 6)) &&
  !([Obj.CELL_NUMBER, Obj.NODE_SELECT, Obj.NODE_FIND_EUI, Obj.FLOW_SELECT].contains k)

/-- The member is SHADOW or RESYNC (R308, R310). -/
def State.shadowed (s : State) : Bool := s.getN Obj.CS_STATE == 3 || s.getN Obj.CS_STATE == 4

/-- A member that makes no transmission: PAIRING, SHADOW or RESYNC (R310). -/
def State.silent (s : State) : Bool := s.getN Obj.CS_STATE == 1 || s.shadowed

/-- A chip of a pair: PAIRSEL is not standalone. -/
def State.paired (s : State) : Bool := s.getN Obj.CS_PAIRSEL == 1 || s.getN Obj.CS_PAIRSEL == 2

/-- Messages to its own addresses reach the device, in a pair those to the pair's too (R293). -/
def State.hearsOn (s : State) (x : Svc) : Bool :=
  match x with
  | .own => true
  | .pair => s.paired
  | .other => false

/-- The addresses on which a member serves CoAP: its own, and the pair's while it drives the chains (R293, R310). -/
def State.answersOn (s : State) (x : Svc) : Bool := s.hearsOn x && (x != .pair || !s.silent)

/-! ## Logbook commits (R39, R460) -/

/-- One commit of a persistent value. -/
def State.lbCommit (s : State) (k : Nat) (v : Val) : State :=
  ({ s with lb := { s.lb with committed := Store.put k v s.lb.committed } }.wearOut k).bump Obj.LB_COMMITS

/-- Commit what waits in the Logbook write queue, in order. -/
def State.lbDrain (s : State) : State :=
  let s' := s.lb.queue.foldl (fun s e => s.lbCommit e.1 e.2) s
  { s' with lb := { s'.lb with queue := [] } }

/-- A persistent value and its journal record reach their commit instants together: the store and Logbook agree. -/
def State.setP (s : State) (k : Nat) (v : Val) : State :=
  let s := s.set k v
  if Obj.persistent k then s.lbCommit k v else s

/-- A persistent value the device itself changes: its commit joins the write queue (R460). -/
def State.setQ (s : State) (k : Nat) (v : Val) : State :=
  let s := s.set k v
  if Obj.persistent k then { s with lb := { s.lb with queue := s.lb.queue ++ [(k, v)] } } else s

/-- Count in a persistent counter. -/
def State.bumpQ (s : State) (k : Nat) : State :=
  s.setQ k (.int (((s.getN k + 1) % 2 ^ Obj.bits k : Nat) : Int))

/-! ## The pair stream (R308, R314) -/

/-- An accepted write of a pair-wide object is streamed. -/
def State.streamWrite (s : State) (sess ix sub : Nat) (v : Val) : State :=
  let k := Obj.key ix sub
  let x := s.session sess
  let sel := if k = Obj.CELL_ENTRY then x.cellNumber else if k = Obj.FLOW_CONFIG then x.flowSelect else x.nodeSelect
  if pairWide k then s.stream (.write ix sub sel v s.time) else s

/-- So is a procedure start, with the boundary instant computed. -/
def State.streamStart (s : State) (ix : Nat) (v : Val) : State :=
  if pairWide (Obj.key ix 3) then s.stream (.start ix v s.time [s.getT (Obj.key ix 4)]) else s

end Sys2Proof.Machine
end

