-- ==== Sys2Proof/Machine/Air.lean ====
section
/-! DEFINITION. Operations of the air that several chapters share: ports, chains and channels (03, 04), slots, air times
and leeway (05 R151, R154, R171, R172, R180, R522), the duty-cycle account (05 R187–R190), dropped receptions and the
capture FIFOs (14 R478–R480). -/
namespace Sys2Proof.Machine

/-! ## Ports, chains, bands, windows (R94, R119, R122) -/

/-- Band of a port: 0 LOW (LA, LB), 1 HIGH (HA, HB). -/
def bandOf (p : Nat) : Nat := p / 2
def bandPorts (b : Nat) : List Nat := [2 * b, 2 * b + 1]
/-- TL1 and TL2 serve LOW, TH1 serves HIGH. -/
def chainBand (c : Nat) : Nat := if c < 2 then 0 else 1
def bandChains (b : Nat) : List Nat := if b = 0 then [0, 1] else [2]
/-- PD12 TXL or PD13 TXH. -/
def chainDom (c : Nat) : Nat := if c < 2 then 12 else 13
/-- The other port of a band. -/
def otherPort (p : Nat) : Nat := if p % 2 = 0 then p + 1 else p - 1
/-- Whether CC_PORTS lets a chain drive a port. -/
def State.mayDrive (s : State) (c p : Nat) : Bool :=
  chainBand c == bandOf p && bit (s.getN (Obj.CC_PORTS c)) (p % 2)
/-- The chains that may drive a port. -/
def State.chainsOf (s : State) (p : Nat) : List Nat := (bandChains (bandOf p)).filter (fun c => s.mayDrive c p)

def State.port (s : State) (p : Nat) : Port := nth s.fe.ports p
def State.chain (s : State) (c : Nat) : Chain := nth s.fe.chains c
def State.updPort (s : State) (p : Nat) (f : Port → Port) : State :=
  { s with fe := { s.fe with ports := upd s.fe.ports p f } }
def State.updChain (s : State) (c : Nat) (f : Chain → Chain) : State :=
  { s with fe := { s.fe with chains := upd s.fe.chains c f } }

/-- Windows LA0 to HB0 and the port of each. -/
def winPort (w : Nat) : Nat := if w < 4 then w / 2 else w - 2
def bandWins (b : Nat) : List Nat := if b = 0 then [0, 1, 2, 3] else [4, 5]
def portWins (p : Nat) : List Nat := (List.range 6).filter (fun w => winPort w == p)

/-- Centre of channel `k` of a window in force, in Hz (R123). -/
def State.winCentre (s : State) (w k : Nat) : Nat :=
  s.getN (Obj.WW_FIRST_NOW w) + k * s.getN (Obj.WW_SPACING_NOW w) * 1000

/-- Whether a window in force covers an IEEE 802.15.4 channel number (R123). -/
def State.winCovers (s : State) (w n : Nat) : Bool :=
  s.getB (Obj.WW_ENABLE_NOW w) && decide (s.getN (Obj.WW_CHAN0_NOW w) ≤ n ∧
    n < s.getN (Obj.WW_CHAN0_NOW w) + s.getN (Obj.WW_CHANNELS_NOW w))

/-- Centre and occupied bandwidth of a channel number in a band, by the lowest window in force that covers it. The
occupied bandwidth is taken as the window's channel spacing (log 12). -/
def State.channel (s : State) (b n : Nat) : Option (Nat × Nat) :=
  ((bandWins b).find? (fun w => s.winCovers w n)).map (fun w =>
    (s.winCentre w (n - s.getN (Obj.WW_CHAN0_NOW w)), s.getN (Obj.WW_SPACING_NOW w) * 1000))

/-- The aerial mode in force: SPLIT blanks the transmitting port only (R108). -/
def State.split (s : State) (b : Nat) : Bool :=
  s.getN (if b = 0 then Obj.LOW_AERIAL_IN_FORCE else Obj.HIGH_AERIAL_IN_FORCE) == 1

/-- The ports a transmission on port `p` blanks whole (R108). -/
def State.blankPorts (s : State) (p : Nat) : List Nat := if s.split (bandOf p) then [p] else bandPorts (bandOf p)

/-- Two frequencies within 2 MHz of each other (R108). -/
def near2M (a b : Nat) : Bool := decide (a ≤ b + 2000000 ∧ b ≤ a + 2000000)

/-- The groups on air: those whose chain drives its port (R96, R311). -/
def State.onAir (s : State) : List Group := s.fe.chains.filterMap (fun c => if c.drv.isSome then c.group else none)

/-- The instant at a port's balls of an instant at the aerial port: earlier by PP_TX_DELAY (R114, R116). -/
def State.ballAt (s : State) (p : Nat) (t : Tick) : Tick := t - s.getN (Obj.PP_TX_DELAY p) * nsT

/-- A gain step takes effect: BYP follows it, and frames in progress on the port carry GAIN_STEP (R82, R83). -/
def State.stepGain (s : State) (p n : Nat) : State :=
  let s := (s.setN (Obj.PP_GAIN_STEP_NOW p) n).updPort p (fun x => x.lna (s.isOn (rxDom p)) n)
  { s with rx := { s.rx with recs := s.rx.recs.map (fun r => if winPort r.win = p then { r with gainStep := true } else r) } }

/-- The retune that uses chain `c`. -/
def State.retuneOn (s : State) (c : Nat) : Option RetuneRun :=
  (s.fe.ports.filterMap (·.retuneRun)).find? (fun r => r.chain == c)

/-- A chain of a transmit domain is at work: a group on air, the probes of a retune (R118) or a calibration (R100). -/
def State.txBusy (s : State) (d : Nat) : Bool :=
  [0, 1, 2].any (fun c => chainDom c == d && ((s.chain c).drv.isSome || (s.retuneOn c).isSome || (s.chain c).calRun.isSome))

/-- Whether channel `k` of window `w` is blanked: its port, or in SPLIT mode a carrier of the band's other port within
2 MHz (R108, R109). -/
def State.chanBlanked (s : State) (w k : Nat) : Bool :=
  (s.port (winPort w)).blanked || s.onAir.any (fun g =>
    bandOf g.port == bandOf (winPort w) && g.frames.any (fun f => near2M f.freq (s.winCentre w k)))

/-- The instant a chain's synthesiser will be LOCKED (R105, R107). -/
def State.chainReady (s : State) (c : Nat) : Count :=
  let d := chainDom c
  let st := s.getN (Obj.CC_SYNTH_STATE c)
  if s.cond d = .reset then
    ((s.rst.holds.findSome? (fun h => if h.source = 5 ∧ h.dom = d then h.until' else none)).getD s.now) + 60 * usC
  else if s.isOn d = false then s.now + 100 * usC
  else if st = 1 then (s.chain c).stateSince + 60 * usC
  else if st = 3 then (s.chain c).stateSince + 240 * usC
  else if st = 4 then s.now + 61 * usC
  else s.now + 60 * usC

/-! ## Slots (R151, R154) -/

def State.slotLen (s : State) (pan : Nat) : Tick := s.getN (Obj.PN_SLOT_DURATION pan) * usT
/-- The epoch in force of a PAN. A step can take it below 0: PN_EPOCH then holds it modulo 2^48 s (R152, log 23). -/
def State.epoch (s : State) (pan : Nat) : Int :=
  let t := s.getT (Obj.PN_EPOCH pan)
  if t < 2 ^ 47 * secT then t else (t : Int) - (2 ^ 48 * secT : Nat)
/-- ASN of a PAN at a Sextant time: a 40-bit value. -/
def State.asnAt (s : State) (pan : Nat) (t : Tick) : Nat :=
  ((t : Int) - s.epoch pan).toNat / max 1 (s.slotLen pan) % 2 ^ 40
def State.cellStart (s : State) (pan asn : Nat) : Tick := (s.epoch pan + (asn * s.slotLen pan : Nat)).toNat
/-- A slotframe in force. -/
def State.sf (s : State) (f : Nat) : Slotframe := nth s.helm.sfs f
/-- Lmax of a slotframe in µs (R154, R172). -/
def State.lmax (s : State) (f : Nat) : Nat :=
  min (s.getN Obj.LEEWAY_MAX) (min (s.getN (Obj.PN_SLOT_DURATION (s.sf f).pan) / 2) (s.sf f).txOffset)
/-- Wd of a slotframe in µs: min(2 × lmax, T) (R172). -/
def State.wd (s : State) (f : Nat) : Nat := min (2 * s.lmax f) (s.sf f).txOffset
/-- leeway(n, t) of R172 in µs, with Lmax of slotframe `f`. -/
def State.leeway (s : State) (n : Option Node) (f : Nat) (t : Tick) : Nat :=
  match n with
  | none => s.lmax f
  | some n =>
    match n.lastSync with
    | none => s.lmax f
    | some l => min (s.getN Obj.LEEWAY_BASE + cdiv (n.drift * (t - l)) (100 * secT)) (s.lmax f)
/-- The hopping sequence entry of a cell (R154). -/
def State.hop (s : State) (pan asn off : Nat) : Nat :=
  fld (s.getO (Obj.PN_HOP_SEQ pan)) (2 * ((asn + off) % max 1 (s.getN (Obj.PN_HOP_LEN pan)))) 2

/-- COUNT at a Sextant time: the inverse of R333. -/
def State.countAt (s : State) (t : Tick) : Count :=
  ((s.sx.base : Int) + (((t : Int) - s.sx.offset) * (2 ^ 24 : Int)) / ((2 ^ 40 : Int) + s.getI Obj.SX_RATE)).toNat

/-! ## Air times (R125, R180, R522) -/

/-- Data rate of a mode in kbit/s, 0 for the OFDM modes. -/
def modeRate (m : Nat) : Nat := [0, 50, 100, 150, 200, 300, 50, 100, 150, 200, 300, 0, 0, 0, 0, 250].getD m 0
/-- Whether a mode code names an OFDM option. -/
def isOfdm (m : Nat) : Bool := decide (11 ≤ m ∧ m ≤ 14)
/-- Preamble and SFD of a mode in octets: the PAN's preamble and 2 octets for FSK, 4 + 1 for O-QPSK (log 10). -/
def State.preOctets (s : State) (pan m : Nat) : Nat := if m = 15 then 5 else s.getN (Obj.PN_PREAMBLE pan) + 2
/-- Octets of the PHR. -/
def phrOctets (m : Nat) : Nat := if m = 15 then 1 else 2
/-- Octets on air as µs, rounded up. -/
def octetsUs (m n : Nat) : Nat := cdiv (n * 8000) (max 1 (modeRate m))
/-- Air time in µs of a PSDU in a PAN's transmit mode. -/
def State.airUs (s : State) (pan mcs psdu : Nat) : Nat :=
  let m := s.getN (Obj.PN_TX_MODE pan)
  if isOfdm m then Config.ofdmAir m mcs psdu else octetsUs m (s.preOctets pan m + phrOctets m + psdu)
/-- Preamble and SFD duration of a mode in µs (R171). -/
def State.preUs (s : State) (pan m : Nat) : Nat :=
  if isOfdm m then Config.ofdmPreamble m else octetsUs m (s.preOctets pan m)
/-- ack_airtime of R180, for a node's acknowledgement. -/
def State.ackUs (s : State) (pan : Nat) : Nat :=
  s.airUs pan (lowestMcs (s.getN (Obj.PN_TX_MODE pan))) (s.getN (Obj.PN_ACK_PSDU pan))
/-- Air time of an acknowledgement the device sends, at the MCS of the frame acknowledged (R522). -/
def State.ackTxUs (s : State) (pan mcs : Nat) : Nat := s.airUs pan mcs (s.getN (Obj.PN_ACK_PSDU pan))
/-- `need` of R180 in µs. -/
def State.needUs (s : State) (pan air : Nat) (ackReq : Bool) (lee : Nat) : Nat :=
  air + (if ackReq then s.getN (Obj.PN_ACK_DELAY pan) + s.ackUs pan else 0) + lee

/-! ## Duty cycle (R187–R190) -/

/-- Length of a bin of sub-band `b` in ns of COUNT: W / 64. -/
def State.binLen (s : State) (b : Nat) : Nat := s.getN (Obj.SB_WINDOW b) * 15625000
def State.binAt (s : State) (b : Nat) (c : Count) : Nat := c / max 1 (s.binLen b)
/-- A sub-band that a carrier's occupied bandwidth overlaps: a shared interval of non-zero width (R188). -/
def State.overlaps (s : State) (b freq bw : Nat) : Bool :=
  s.getB (Obj.SB_ENABLE b) &&
    decide (2 * s.getN (Obj.SB_LOW b) < 2 * freq + bw ∧ 2 * freq < 2 * s.getN (Obj.SB_HIGH b) + bw
      ∧ s.getN (Obj.SB_LOW b) < s.getN (Obj.SB_HIGH b))
/-- The sub-bands charged by a carrier. -/
def State.subBands (s : State) (freq bw : Nat) : List Nat := (List.range 16).filter (fun b => s.overlaps b freq bw)
/-- Charges and reservations in the 65 bins that end in bin `b`, less the own reservation. -/
def Duty.used (d : Duty) (b : Nat) (own : Option (Nat × Nat)) : Nat :=
  ((d.charges.filter (fun e => decide (e.1 ≤ (b : Int) ∧ (b : Int) ≤ e.1 + 64))).map (·.2)).sum +
  ((d.resv.filter (fun e => decide (e.bin ≤ b ∧ b ≤ e.bin + 64) && !(own == some (e.ref, e.inst)))).map (·.air)).sum
/-- The least `avail` of R189 over every window that holds bin `b0`. -/
def Duty.avail (d : Duty) (b0 cls : Nat) (own : Option (Nat × Nat)) : Int :=
  (List.range 65).foldl (fun m i =>
    min m ((d.limit : Int) - d.used (b0 + i) own - (if cls = 0 then 0 else (d.reserve : Int)))) (d.limit : Int)
/-- The first sub-band in which a charge of `x` µs at COUNT `c` fails the test, with its `avail` (R189). -/
def State.dutyFail (s : State) (freq bw : Nat) (c : Count) (x cls : Nat) (own : Option (Nat × Nat)) :
    Option (Nat × Int) :=
  (s.subBands freq bw).findSome? (fun b =>
    let a := (nth s.helm.duty b).avail (s.binAt b c) cls own
    if a < (x : Int) then some (b, a) else none)
def State.updDuty (s : State) (b : Nat) (f : Duty → Duty) : State :=
  { s with helm := { s.helm with duty := upd s.helm.duty b f } }
/-- DUTY_EXHAUSTED, at most once per sub-band per bin (R192). -/
def State.dutyWarn (s : State) (b cls : Nat) (a : Int) (x : Nat) : State :=
  let bin := s.binAt b s.now
  if (nth s.helm.duty b).warnedBin = some bin then s
  else (s.updDuty b (fun d => { d with warnedBin := some bin })).raiseOn 0x4006 2 (0x4400 + b)
    (be 1 b ++ be 1 cls ++ beI 4 a ++ be 4 x)
/-- Charge a carrier's air time at COUNT `c` (R188). -/
def State.dutyCharge (s : State) (freq bw : Nat) (c : Count) (x : Nat) : State :=
  (s.subBands freq bw).foldl (fun s b => s.updDuty b (fun d => { d with charges := ((s.binAt b c : Int), x) :: d.charges })) s
/-- COUNT has been set from `old` to another value: the bins of each sub-band go with it (R189, R349). -/
def State.rebinDuty (s : State) (old : Count) : State :=
  { s with helm := { s.helm with duty := (s.helm.duty.zipIdx).map (fun e =>
      let d : Int := (s.binAt e.2 s.now : Int) - (s.binAt e.2 old : Int)
      { e.1 with charges := e.1.charges.map (fun x => (x.1 + d, x.2)), bin := ((e.1.bin : Int) + d).toNat,
                 resv := e.1.resv.map (fun r => { r with bin := ((r.bin : Int) + d).toNat }) }) } }

/-- Enter a reservation (R259). -/
def State.dutyReserve (s : State) (freq bw : Nat) (c : Count) (x ref inst pan : Nat) : State :=
  (s.subBands freq bw).foldl (fun s b => s.updDuty b (fun d =>
    { d with resv := { ref := ref, inst := inst, pan := pan, bin := s.binAt b c, air := x } :: d.resv })) s
/-- The reservation of one instance is released. -/
def State.dutyDrop (s : State) (ref inst : Nat) : State :=
  { s with helm := { s.helm with duty := s.helm.duty.map (fun d =>
      { d with resv := d.resv.filter (fun e => !(e.ref == ref && e.inst == inst)) }) } }
/-- The reservations of a PAN's cells up to a slot are released at its end (R189). -/
def State.dutyCellEnd (s : State) (pan asn : Nat) : State :=
  { s with helm := { s.helm with duty := s.helm.duty.map (fun d =>
      { d with resv := d.resv.filter (fun e => !(e.pan == pan && decide (e.inst % 2 ^ 40 ≤ asn))) }) } }
/-- All reservations of a frame are released. -/
def State.dutyDropAll (s : State) (ref : Nat) : State :=
  { s with helm := { s.helm with duty := s.helm.duty.map (fun d => { d with resv := d.resv.filter (fun e => e.ref != ref) }) } }
/-- The key of an instance: cell and ASN. -/
def instKey (cell asn : Nat) : Nat := cell * 2 ^ 40 + asn

/-! ## The switches of a schedule (R159, R195) -/

/-- Lodestar serves, or is to serve, from its chart in place of the table in force. -/
def State.fromChart (s : State) : Bool := s.rst.lodestar || (s.getB Obj.LODESTAR_ACTIVE && s.getN Obj.POWER_STATE != 2)

/-- The table in force: while Lodestar serves from its chart, the one kept for the Attach (R194, R435). -/
def State.tableNow (s : State) : List Slotframe × List (Nat × Cell) :=
  if s.fromChart then s.rst.table else (s.helm.sfs, s.helm.cells)

/-- 2.1 s, the least time from validation to a switch (R159). -/
def switchLead : Tick := 2100 * msT

/-- The first boundary of a slotframe at or after a time, by the length it switches to. -/
def State.boundaryOf (s : State) (f : Slotframe) (t : Tick) : Tick :=
  let len := max 1 (f.length * s.slotLen f.pan)
  let ep := s.epoch f.pan
  if (t : Int) ≤ ep then ep.toNat else (ep + (cdiv ((t : Int) - ep).toNat len * len : Nat)).toNat

/-- The boundary at which a changed slotframe takes the new set (R159). -/
def State.switchAt (s : State) (c : Commit) (f : Nat) : Tick := s.boundaryOf (nth c.sfs f) (max c.applyAt (c.validated + switchLead))

/-- When the last slotframe that a commit changes switches (R64, R195). -/
def State.commitEnd (s : State) (c : Commit) : Tick := (c.left.map (s.switchAt c)).foldl max 0

/-! ## Receptions (R109, R129, R136) -/

/-- Two channels are paired: on the two ports of one band, at one frequency within 1 kHz (R123). -/
def pairedChans (p f q g : Nat) : Bool := decide (q = otherPort p ∧ f ≤ g + 1000 ∧ g ≤ f + 1000)

/-- Whether two receptions are on paired channels, in one mode, claimed within a quarter of the hunt latency (R130). -/
def huntLatencyNs (m : Nat) : Nat :=
  ([0, 320, 160, 107, 80, 54, 320, 160, 107, 80, 54, 240, 240, 240, 240, 64].getD m 0) * 1000

def isPair (p f m : Nat) (t : Count) (r : Recep) : Bool :=
  r.mode == m && pairedChans p f (winPort r.win) r.freq &&
    decide (r.fireAt ≤ t + huntLatencyNs m / 4 ∧ t ≤ r.fireAt + huntLatencyNs m / 4)

/-- When a first copy is released before its SFD its diversity second becomes a first copy (R130). -/
def promote (gone : Recep) (l : List Recep) : List Recep :=
  if gone.second ∨ gone.sfd.isSome then l
  else l.map (fun r =>
    if r.second ∧ isPair (winPort gone.win) gone.freq gone.mode gone.fireAt r then { r with second := false } else r)

/-- Release receptions that meet `p`. -/
def State.releaseRecs (s : State) (p : Recep → Bool) : State :=
  let gone := s.rx.recs.filter p
  let left := s.rx.recs.filter (fun r => !p r)
  let gates := (s.rx.gates.zipIdx).map (fun g =>
    if gone.any (fun r => winPort r.win == g.2) then { g.1 with lastUse := s.now } else g.1)
  { s with rx := { s.rx with recs := gone.foldl (fun l g => promote g l) left, gates := gates } }

/-- Drop receptions by blanking: each is counted in PP_BLANKED_RX of its port (R109). -/
def State.blankRecs (s : State) (p : Recep → Bool) : State :=
  let gone := s.rx.recs.filter p
  gone.foldl (fun s r => s.bump (Obj.PP_BLANKED_RX (winPort r.win))) (s.releaseRecs p)

/-- Receptions that a group on `port` with the given carriers blanks (R108). -/
def State.blankedBy (s : State) (port : Nat) (freqs : List Nat) (r : Recep) : Bool :=
  (s.blankPorts port).contains (winPort r.win) ||
    (bandOf (winPort r.win) == bandOf port && freqs.any (fun f => near2M f r.freq))

/-! ## Radio domains in RUN (R404) -/

/-- A port has an enabled window in force and PP_RX_ENABLE is true, or completes a reception under a window since changed (R147). -/
def State.rxWanted (s : State) (p : Nat) : Bool :=
  (s.getB (Obj.PP_RX_ENABLE p) && (portWins p).any (fun w => s.getB (Obj.WW_ENABLE_NOW w))) ||
    s.rx.recs.any (fun r => r.kept && winPort r.win == p)

/-- A band has an enabled PAN, or one whose service has not ended yet (R155). -/
def State.txWanted (s : State) (b : Nat) : Bool :=
  (List.range 4).any (fun p => (s.getB (Obj.PN_ENABLE p) || (nth s.helm.pans p).stopping) && s.getN (Obj.PN_BAND p) == b)

/-- A radio domain that is ON or OFF goes to the condition wanted. -/
def State.switch (s : State) (d : Nat) (on : Bool) : State :=
  if s.cond d = .off ∧ on then s.setCond d .on else if s.cond d = .on ∧ on = false then s.setCond d .off else s

/-- PD10 CHAN and PD11 DEMOD are ON with any of PD6–PD9 (R399). -/
def State.chanPower (s : State) : State :=
  let on := (List.range 4).any (fun p => s.isOn (rxDom p))
  (s.switch 10 on).switch 11 on

/-- In RUN a receive domain is ON while its port is wanted and a transmit domain while its band has an enabled PAN or a chain of it is
at work (R118); in every state one that is not wanted is OFF (R399). A receive domain that goes OFF takes its receptions with it; the
synthesisers of a transmit domain that is OFF read OFF. -/
def State.radioPower (s : State) : State :=
  let run := s.pwr.modeInForce = 0 ∧ s.getN Obj.POWER_STATE = 0
  let shut := (List.range 4).filter (fun p => !s.rxWanted p && s.isOn (rxDom p))
  let s := (List.range 4).foldl (fun s p => if run ∨ shut.contains p then s.switch (rxDom p) (s.rxWanted p) else s) s
  let gates := shut.foldl (fun l p => upd l p (fun (g : Gate) => { g with open' := false, listening := false })) s.rx.gates
  let s := { s with rx := { s.rx with gates := gates } }.chanPower
  let s := [0, 1].foldl (fun s b =>
    let want := s.txWanted b || s.txBusy (12 + b)
    if run ∨ want = false then s.switch (12 + b) want else s) s
  let s := s.releaseRecs (fun r => s.cond (rxDom (winPort r.win)) == .off)
  [0, 1, 2].foldl (fun s c => if s.cond (chainDom c) = .off then s.setN (Obj.CC_SYNTH_STATE c) 0 else s) s

/-- The body bias of a state is set; a domain that is on and whose bias or assist changes stands in BIAS_CHANGE (R401, R402). -/
def State.biasShift (s : State) (st : Nat) : State :=
  let ds := (List.range 16).filter (fun d => s.cond d == .on && s.biasOf st d != nth s.pwr.bias d)
  let s := (ds.foldl (fun s d => s.setCond d .biasChange) s).biasFor st
  if ds = [] then s else { s with pwr := { s.pwr with biasAt := some s.now } }

/-- The state in force changes (R403): causes 0 procedure, 1 wake, 2 POWER_MODE. -/
def State.stateChange (s : State) (after cause micros : Nat) : State :=
  let before := s.getN Obj.POWER_STATE
  let s := ((s.biasShift after).setN Obj.POWER_STATE after).set Obj.POWER_STATE_SINCE (t64 s.time)
  s.raiseOn 0x1101 0 0x2000 (be 1 before ++ be 1 after ++ be 1 cause ++ be 4 micros)

/-- The gating of the radio domains from here on: 0 always on while wanted, 1 per cell. A receive domain that is ON is
served to its end as a cell already powered (R404). -/
def State.gating (s : State) (m : Nat) : State :=
  let gates := (List.range 4).map (fun p =>
    let g := nth s.rx.gates p
    if m = 1 ∧ s.pwr.modeInForce = 0 ∧ s.isOn (rxDom p) then { g with open' := true, listening := true } else g)
  let s := { s with pwr := { s.pwr with modeInForce := m, modeFrom := none }, rx := { s.rx with gates := gates } }
  s.radioPower

/-- RUN and GATED by POWER_MODE (R403, R404). -/
def State.modeApply (s : State) : State :=
  let m := s.getN Obj.POWER_MODE
  let st := s.getN Obj.POWER_STATE
  match s.pwr.modeFrom with
  | none => s
  | some t =>
    if 2 ≤ st ∨ m = st then { s with pwr := { s.pwr with modeFrom := none } }
    else (s.stateChange m 2 ((s.now + msC - t) / usC)).gating m

/-- Length of a group in µs. -/
def Group.length (g : Group) : Nat := (g.frames.map (fun f => f.start + f.air)).foldl max 0

/-- The items of a group that the active's plan record carries (R316, R317). -/
def State.itemOf (s : State) (g : Group) (f : AirFrame) : Item :=
  { band := bandOf g.port, kind := if f.kind = 0 then 1 else if f.kind = 1 then 2 else 3,
    channel := ((bandWins (bandOf g.port)).findSome? (fun w => (List.range (s.getN (Obj.WW_CHANNELS_NOW w))).findSome? (fun k =>
      if s.winCentre w k = f.freq then some (s.getN (Obj.WW_CHAN0_NOW w) + k) else none))).getD 0,
    instant := (g.start + f.start * usT) / usT % 2 ^ 32, who := if 2 ≤ f.kind then f.pan else f.node,
    what := if f.kind = 0 then (if f.ref = 0 then f.mseq else f.ref % 2 ^ 32) else if f.kind = 1 then f.ref else f.asn % 2 ^ 32 }

/-- A carrier of a group goes on air: an item of the member's own output (R317). -/
def State.airItem (s : State) (g : Group) (f : AirFrame) : State :=
  let t := g.start + f.start * usT
  { s with cs := { s.cs with aired := (s.itemOf g f, t, t + f.air * usT) :: s.cs.aired } }

/-- A carrier planned after the freeze is streamed to the shadow. -/
def State.streamItem (s : State) (g : Group) (f : AirFrame) : State :=
  s.stream (.plan (g.start + f.start * usT) [(s.itemOf g f, f.air)])

/-- The items of a group that is cut end now. -/
def State.cutItems (s : State) (g : Group) : State :=
  { s with cs := { s.cs with aired := s.cs.aired.map (fun e =>
      if g.frames.any (fun f => s.itemOf g f == e.1) then (e.1, e.2.1, min e.2.2 s.time) else e) } }


/-! ## Capture (R478–R480) -/

/-- A capture FIFO holds 1 MiB. -/
def capBytes : Nat := 1048576

/-- RECORD_LEN: header, META and the octets kept, padded to a multiple of 4. -/
def CapRec.size (r : CapRec) : Nat := (32 + r.head.length + r.data.length + 3) / 4 * 4

/-- The newest records that leave `need` octets free. -/
def capFit (need : Nat) : List CapRec → List CapRec
  | [] => []
  | r :: t => if ((r :: t).map CapRec.size).sum + need ≤ capBytes then r :: t else capFit need t

/-- Write a record: the oldest whole records go until it fits and are counted in LOST. -/
def CapFifo.write (f : CapFifo) (r : CapRec) : CapFifo :=
  let r := { r with seq := f.nextSeq }
  let kept := capFit r.size f.recs
  { f with recs := kept ++ [r], lost := (f.lost + (f.recs.length - kept.length)) % 2 ^ 64,
           nextSeq := (f.nextSeq + 1) % 2 ^ 32 }

def State.updCap (s : State) (n : Nat) (g : CapFifo → CapFifo) : State :=
  { s with diag := { s.diag with caps := upd s.diag.caps n g } }

/-- Offer a frame to the four capture FIFOs (R479). `port` is the frame's port as CAPn_PORTS numbers it, `node` its
node, `ok` whether it is accepted. -/
def State.capture (s : State) (source port : Nat) (node : Option Nat) (ok crcOk : Bool) (t : Tick) (head frame : Octets) :
    State :=
  (List.range 4).foldl (fun s n =>
    if s.getB (Obj.CAP_ENABLE n) && bit (s.getN (Obj.CAP_SOURCES n)) source && bit (s.getN (Obj.CAP_PORTS n)) port
        && (s.getN (Obj.CAP_NODE n) == 0x3FFFF || some (s.getN (Obj.CAP_NODE n)) == node)
        && (ok || bit (s.getN (Obj.CAP_SOURCES n)) 4) then
      let snap := s.getN (Obj.CAP_SNAP n)
      s.updCap n (fun f => f.write
        { seq := 0, source := source, port := if port < 4 then port else port - 4, time := t, len := frame.length,
          flags := b2n (decide (snap < frame.length)) + 2 * b2n crcOk + 4 * b2n (!ok),
          node := node.getD 0xFFFFFFFF, head := head, data := frame.take snap })
    else s) s

/-- The octets of a record (R478). -/
def CapRec.octets (r : CapRec) : Octets :=
  fit r.size (be 2 r.size ++ be 1 r.source ++ be 1 r.port ++ be 4 r.seq ++ t64Octets r.time ++ be 2 r.len
    ++ be 2 r.data.length ++ be 1 r.head.length ++ be 1 r.flags ++ be 2 0 ++ be 4 r.node ++ r.head ++ r.data)

/-- How many whole records, oldest first, fit in `room` octets. -/
def capCount (room : Nat) : List CapRec → Nat
  | [] => 0
  | r :: t => if r.size ≤ room then capCount (room - r.size) t + 1 else 0

/-- What one read takes: the oldest whole records that fit in 65,536 octets, at least one (R480). -/
def capBatch (l : List CapRec) : Nat := max 1 (capCount 65536 l)

/-- The octets of a batch of records. -/
def capOctets (l : List CapRec) : Octets := l.flatMap CapRec.octets

/-! ## The geometry part of the Lodestar chart (13 R444) -/

/-- The chart holds at most 4,096 cells. -/
def chartCells : Nat := 4096

/-- The cells of the chart in order: ADVERTISE and SHARED cells of the enabled slotframes, then the RX cells of the
slotframes set in LODESTAR_SLOTFRAMES. -/
def State.chartList (s : State) : List (Nat × Cell) :=
  let on := fun (e : Nat × Cell) => e.2.valid && (nth s.tableNow.1 e.2.sf).enable
  let first := s.tableNow.2.filter (fun e => on e && (e.2.advertise || e.2.shared))
  let rest := s.tableNow.2.filter (fun e => on e && !(e.2.advertise || e.2.shared) && e.2.rx &&
    bit (s.getN Obj.LODESTAR_SLOTFRAMES) e.2.sf)
  first ++ rest

/-- The objects of the geometry part: the PANs' settings and windows LA0, LB0, HA0, HB0 as in force. -/
def State.chartObjs (s : State) : List (Nat × Val) :=
  let pans := (List.range 4).flatMap (fun p => ((List.range 14).map (fun i => 0x400001 + p * 256 + i)) ++ [Obj.PN_TX_MCS p])
  let wins := [0, 2, 4, 5].flatMap (fun w => (List.range 11).map (fun i => 0x341001 + w * 256 + i))
  (pans ++ wins).map (fun k => (k, s.get k))

/-- The geometry part is rewritten. -/
def State.chartGeometry (s : State) : State :=
  let l := s.chartList
  let cells := l.take chartCells
  let old := s.rst.chart
  let c : Chart := { gen := old.elim 0 (fun c => c.gen + 1), objs := s.chartObjs,
                     sfs := s.tableNow.1, cells := cells, leftOut := l.length - cells.length,
                     state := old.bind (·.state) }
  ({ s with rst := { s.rst with chart := some c } }).setP Obj.LODESTAR_CHART_TIME (t64 s.time)

/-- The window geometry of the chart is rewritten to the set in force; a chart that is absent is written whole (R444, R524). -/
def State.chartWindows (s : State) : State :=
  match s.rst.chart with
  | none => s.chartGeometry
  | some c =>
    let objs := c.objs.map (fun e => if 0x3410 ≤ e.1 / 256 ∧ e.1 / 256 < 0x3416 then (e.1, s.get e.1) else e)
    ({ s with rst := { s.rst with chart := some { c with gen := c.gen + 1, objs := objs } } }).setP Obj.LODESTAR_CHART_TIME (t64 s.time)

end Sys2Proof.Machine
end

