-- ==== Sys2Proof/Machine/Uplink.lean ====
section
/-! DEFINITION. Pilot's uplink side (spec 07 R239–R246): the flow of a datagram, the fair queues of the trunk ports,
displacement at a full share, and the spool. -/
namespace Sys2Proof.Machine

/-! ## Classification (R239) -/

/-- UPRULE `i` (from 0) matches a datagram and names an enabled uplink flow. -/
def State.ruleMatches (s : State) (i : Nat) (port : Option Nat) (dscp : Nat) : Bool :=
  let o := s.getO (Obj.UPRULE i)
  let en := fld o 5 1
  let f := s.flow (fld o 6 2)
  bit en 0 && f.enabled && !f.down &&
    (if bit en 1 then port.isNone else port.elim false (fun p => decide (fld o 0 2 ≤ p ∧ p ≤ fld o 2 2))) &&
    (fld o 4 1 == 0xFF || fld o 4 1 == dscp)

/-- The flow of an uplink datagram: the first rule of 1–64 that matches, else PA_UP_DEFAULT_FLOW. -/
def State.classify (s : State) (port : Option Nat) (dscp : Nat) : Nat :=
  match (List.range 64).find? (fun i => s.ruleMatches i port dscp) with
  | some i => fld (s.getO (Obj.UPRULE i)) 6 2
  | none => s.getN Obj.PA_UP_DEFAULT_FLOW

/-! ## Scheduler flows (R242, R243, R246) -/

/-- The spool flow of a class, the flow of replies and reports, and the pass-through flow of a ring (R298). -/
def spoolFlow (cls : Nat) : Nat := 4096 + cls
def replyFlow : Nat := 8192
def passFlow : Nat := 8193

/-- WEIGHT of a scheduler flow. -/
def State.flowWeight (s : State) (f : Nat) : Nat :=
  if f = replyFlow ∨ f = passFlow then 1024 else if 4096 ≤ f then s.getN Obj.PA_SPOOL_WEIGHT else (s.flow f).weight

/-- cost of R243. -/
def State.cost (s : State) (octets f : Nat) : Nat := cdiv (octets * 1024) (max 1 (s.flowWeight f))

/-- The later of two tags in serial order modulo 2^64 (R243). -/
def serialMax (a b : Nat) : Nat := if ((b : Int) - a).emod (2 ^ 64) < 2 ^ 63 then b else a
/-- Whether tag `a` comes before `b`. -/
def serialLt (a b : Nat) : Bool := decide (a ≠ b ∧ ((b : Int) - a).emod (2 ^ 64) < 2 ^ 63)

def State.sched (s : State) (p : Nat) : Sched := nth s.pilot.ports p
def State.updSched (s : State) (p : Nat) (f : Sched → Sched) : State :=
  { s with pilot := { s.pilot with ports := upd s.pilot.ports p f } }

def Sched.tag (x : Sched) (f cls : Nat) : Tags :=
  (x.tags.find? (fun t => t.flow == f && t.cls == cls)).getD { flow := f, cls := cls, start := 0, finish := 0, last := 0 }
def Sched.setTag (x : Sched) (t : Tags) : Sched :=
  { x with tags := t :: x.tags.filter (fun u => !(u.flow == t.flow && u.cls == t.cls)) }

/-- Frames leave a port's queues unsent. A class that this empties takes the largest finish tag issued in it as its virtual time
(R243). -/
def Sched.drop (x : Sched) (gone : UpFrame → Bool) : Sched :=
  let left := x.frames.filter (fun f => !gone f)
  let emptied := fun (c : Nat) => x.frames.any (fun f => f.cls == c) && !left.any (fun f => f.cls == c)
  { x with frames := left, vtime := x.vtime.zipIdx.map (fun e => if emptied e.2 then x.issued.getD e.2 0 else e.1) }

/-- Arrival of a frame at a port (R243). -/
def State.arrive (s : State) (p : Nat) (f : UpFrame) : State :=
  let x := s.sched p
  let x := if x.frames.any (fun g => g.flow == f.flow && g.cls == f.cls) then x
    else
      let t := x.tag f.flow f.cls
      let st := serialMax (x.vtime.getD f.cls 0) t.last
      let fin := (st + s.cost f.octets f.flow) % 2 ^ 64
      { x.setTag { t with start := st, finish := fin } with issued := upd x.issued f.cls (fun i => serialMax i fin) }
  s.updSched p (fun _ => { x with frames := x.frames ++ [f] })

/-- The frames held by both schedulers, each once. -/
def State.upQueued (s : State) : List UpFrame :=
  let a := (s.sched 0).frames
  a ++ (s.sched 1).frames.filter (fun f => !a.any (fun g => g.id == f.id))

/-- Buffer cells of a frame. -/
def cellsOf (octets : Nat) : Nat := cdiv octets 256

/-- The frames that hold descriptors and cells: spooled frames (R245) and those of the pass-through buffer (R298) lie outside that
pool. -/
def State.upHeld (s : State) : List UpFrame := s.upQueued.filter (fun f => !f.late && f.flow != passFlow)

/-- Cells of a list of frames. -/
def cellSum (l : List UpFrame) : Nat := (l.map (fun f => cellsOf f.octets)).sum

/-- Whether a frame of class `cls` finds a descriptor and its cells in the uplink share; what the reserve of ALARM holds no frame of
another class takes (R240, R244). -/
def State.upRoom (s : State) (cls octets : Nat) : Bool :=
  let alarms := s.upHeld.filter (fun f => f.cls == 0)
  let others := s.upHeld.filter (fun f => f.cls != 0)
  let keep := if cls = 0 then 0 else s.getN Obj.PA_UP_ALARM_RESERVE
  decide (others.length + 1 + max keep alarms.length + s.getN Obj.PA_DOWN_DESC_LIMIT ≤ 4194304
    ∧ cellSum others + cellsOf octets + max keep (cellSum alarms) + s.getN Obj.PA_DOWN_CELL_LIMIT ≤ 4194304)

/-- A dropped or removed uplink frame: counted, and reported at most once per second per class (R244). -/
def State.upDrop (s : State) (cls : Nat) : State :=
  let s := s.bump (Obj.UP_DROPS cls)
  let n := s.pilot.dropsSec.getD cls 0 + 1
  if (s.pilot.dropAt.getD cls none).elim true (fun t => decide (t + secC ≤ s.now)) then
    let s := s.raiseOn 0x5006 2 0x6000 (be 1 cls ++ be 4 n)
    { s with pilot := { s.pilot with dropsSec := upd s.pilot.dropsSec cls (fun _ => 0),
                                      dropAt := upd s.pilot.dropAt cls (fun _ => some s.now) } }
  else { s with pilot := { s.pilot with dropsSec := upd s.pilot.dropsSec cls (fun _ => n) } }

/-- The newest queued frame of the highest class number above `cls`. -/
def newestAbove (cls : Nat) (q : List UpFrame) : Option UpFrame :=
  q.foldl (fun m f =>
    if f.cls ≤ cls then m
    else
      match m with
      | none => some f
      | some b => if b.cls < f.cls ∨ (b.cls = f.cls ∧ b.id < f.id) then some f else some b) none

/-- A frame leaves every port queue. -/
def State.unqueue (s : State) (id : Nat) : State :=
  { s with pilot := { s.pilot with ports := s.pilot.ports.map (fun x => x.drop (fun f => f.id == id)) } }

/-- Room is made by removing newest frames of higher class numbers; false when none is left (R244). -/
def State.makeRoom (s : State) (cls octets : Nat) : Nat → State × Bool
  | 0 => (s, s.upRoom cls octets)
  | n + 1 =>
    if s.upRoom cls octets then (s, true)
    else
      match newestAbove cls s.upHeld with
      | none => (s, false)
      | some f => ((s.unqueue f.id).upDrop f.cls).makeRoom cls octets n

/-! ## The spool (R245) -/

/-- The spool holds 512 MiB. -/
def spoolBytes : Nat := 536870912

/-- A frame removed from or refused by the spool. -/
def State.spoolDiscard (s : State) : State :=
  let s := s.bump Obj.SPOOL_DISCARDS
  let n := s.pilot.spoolFullSec + 1
  let s := { s with pilot := { s.pilot with spoolLost := s.pilot.spoolLost + 1 } }
  if s.pilot.spoolFullAt.elim true (fun t => decide (t + secC ≤ s.now)) then
    let s := s.raiseOn 0x5005 2 0x6020 (be 4 n)
    { s with pilot := { s.pilot with spoolFullSec := 0, spoolFullAt := some s.now } }
  else { s with pilot := { s.pilot with spoolFullSec := n } }

/-- The oldest spooled frame of the highest class number at or above `cls`. -/
def oldestAt (cls : Nat) (q : List UpFrame) : Option UpFrame :=
  q.foldl (fun m f =>
    if f.cls < cls then m
    else
      match m with
      | none => some f
      | some b => if b.cls < f.cls then some f else some b) none

def spoolUsed (q : List UpFrame) : Nat := (q.map (·.octets)).sum

/-- Room in the spool, by removing its oldest frames of the highest class at or above the new one's. -/
def State.spoolRoom (s : State) (cls octets : Nat) : Nat → State × Bool
  | 0 => (s, decide (spoolUsed s.pilot.spool + octets ≤ spoolBytes))
  | n + 1 =>
    if spoolUsed s.pilot.spool + octets ≤ spoolBytes then (s, true)
    else
      match oldestAt cls s.pilot.spool with
      | none => (s, false)
      | some f =>
        let left := s.pilot.spool.filter (fun g => g.id != f.id)
        ({ s with pilot := { s.pilot with spool := left } }.spoolDiscard).spoolRoom cls octets n

/-- Lodestar holds at most 256 frames: the oldest gives way (R443). -/
def State.lodestarRoom (s : State) : State :=
  if s.rx.lodestar ∧ 256 ≤ s.pilot.spool.length then
    State.spoolDiscard { s with pilot := { s.pilot with spool := s.pilot.spool.drop 1 } }
  else s

/-- Write a frame to the spool, marked LATE (R245, R246). -/
def State.spoolWrite (s : State) (f : UpFrame) : State :=
  let r := s.lodestarRoom.spoolRoom f.cls f.octets 4096
  let s := r.1
  if r.2 then
    let q := s.pilot.spool ++ [{ f with late := true, flow := spoolFlow f.cls }]
    let s := { s with pilot := { s.pilot with spool := q, spooled := s.pilot.spooled + 1 } }
    ((s.setN Obj.SPOOL_FRAMES q.length).setN Obj.SPOOL_OCTETS (spoolUsed q)).setN Obj.SPOOL_STATE 1
  else s.spoolDiscard

/-! ## The Consort trailer (R323, R324) -/

/-- The trailer of a datagram: the 14 octets of its tag, FLAGS and MARK. -/
def UpTag.octets (t : UpTag) (late : Bool) : Octets :=
  be 2 t.pairId ++ be 3 t.node ++ be 1 t.seq ++ be 5 t.asn ++ fit 3 t.digest ++ be 1 (b2n late + 2 * b2n t.paired) ++ be 1 0xC5

/-- The trailer of a frame as it leaves: that of a datagram of the mesh, with LATE for a spooled one (R246). -/
def UpFrame.trailer (f : UpFrame) : Octets := f.tag.elim [] (fun t => t.octets f.late)

/-- The tag of a datagram of node `node`, completed by the frame with MAC sequence number `seq` in the cell at `asn`, from the
octets it came in. -/
def State.tagOf (s : State) (node seq asn : Nat) (gram : Octets) : UpTag :=
  { pairId := s.getN Obj.CS_PAIR_ID, node := node, seq := seq, asn := asn, digest := Config.shake256 3 (Config.datagram gram),
    paired := s.getN Obj.CS_PAIRSEL == 1 || s.getN Obj.CS_PAIRSEL == 2 }

/-! ## Enqueueing (R27, R243, R244) -/

/-- A priority of a trunk port is paused (R294). -/
def State.paused (s : State) (p prio : Nat) : Bool :=
  (nth s.tk.ports p).pauses.any (fun x => x.prio == prio && decide (s.now < x.until'))

/-- The priority code point of a class. -/
def State.classPcp (s : State) (cls : Nat) : Nat := ((s.getO Obj.PA_CLASS_PCP).getD cls 0).toNat

/-- Every port that is up has paused the priority of a class for more than 1 ms: an uplink frame of it is spooled (R27). -/
def State.blocked (s : State) (cls : Nat) : Bool :=
  s.upPorts.all (fun p => (nth s.tk.ports p).pauses.any (fun x =>
    x.prio == s.classPcp cls && decide (s.now < x.until') && decide (x.since + msC < s.now)))

/-- The ports that take uplink frames: those up, in Lodestar service only at M1000 or M2500 (R443). -/
def State.forwardPorts (s : State) : List Nat :=
  s.upPorts.filter (fun p => !s.rx.lodestar || decide (2 ≤ s.getN (Obj.TT_TIER_NOW p)))

/-- Lodestar forwards only on a port that is not paused (R443). -/
def State.lodestarBlocked (s : State) (cls : Nat) : Bool :=
  s.rx.lodestar && s.forwardPorts.all (fun p => s.paused p (s.classPcp cls))

/-- An uplink datagram is classified and queued on each port that is up, or spooled with both ports down; a full flow or a
full share drops it; one whose class both ports have blocked by pause is spooled too. A shadow's frames take the same path
(R27, R323). -/
def State.uplink (s : State) (tag : UpTag) (port : Option Nat) (dscp octets : Nat) : State :=
  let fl := s.classify port dscp
  let cls := (s.flow fl).cls
  let f : UpFrame := { id := s.pilot.nextUp, flow := fl, cls := cls, octets := octets, late := false, tag := some tag, arrived := s.now }
  let s := { s with pilot := { s.pilot with nextUp := s.pilot.nextUp + 1 } }
  if s.forwardPorts = [] ∨ s.blocked cls ∨ s.lodestarBlocked cls then s.spoolWrite f
  else if (s.flow fl).pendMax ≤ (s.upQueued.filter (fun g => g.flow == fl)).length then s.upDrop cls
  else
    let r := s.makeRoom cls octets 4096
    if r.2 then r.1.forwardPorts.foldl (fun s p => s.arrive p f) r.1 else r.1.upDrop cls

/-- A message of the device itself for the trunk, in class COMMAND on the flow of replies (R242). It is no uplink frame: it is
not spooled, and with both ports down it is not sent (R19, R245). -/
def State.sendOwn (s : State) (o : Out) (octets : Nat) : State :=
  if s.upPorts = [] then s
  else
    let f : UpFrame := { id := s.pilot.nextUp, flow := replyFlow, cls := 1, octets := octets, late := false, tag := none, arrived := s.now }
    let s := { s with pilot := { s.pilot with nextUp := s.pilot.nextUp + 1 } }
    s.upPorts.foldl (fun s p => s.arrive p f) (s.emit o)

/-- The nonce of a message of a context (R252): 0 from the head-end, 1 from the device. -/
def admNonce (dir ctx seq : Nat) : Octets := be 1 dir ++ be 2 ctx ++ be 4 0 ++ be 6 seq

/-- The octets of a message of the device (R251, R252): header, encrypted body and tag under the key of its context. -/
def State.admOctets (s : State) (type ctx seq : Nat) (body : Octets) : Octets :=
  let h := be 1 1 ++ be 1 type ++ be 2 ctx ++ be 6 seq ++ be 2 body.length
  let key := num (s.getO (Obj.ADMIT_CTX_KEYID ctx))
  h ++ fit (body.length + 8) (Config.ccm kAdmit key ((s.inForce kAdmit key).elim 0 (·.gen)) (admNonce 1 ctx seq) h body)

/-- The body of a REPORT and of a QUERY_REPLY (R263). -/
def Term.octets (t : Term) : Octets :=
  be 8 t.ref ++ be 4 t.reqId ++ be 8 t.eui ++ be 1 t.state ++ be 1 t.made ++ be 1 t.reason ++ be 1 0 ++ t64Octets t.promise
    ++ t64Octets t.time

/-- Key ID of a context. -/
def State.ctxKey (s : State) (ctx : Nat) : Nat := num (s.getO (Obj.ADMIT_CTX_KEYID ctx))

/-- A message of a context goes to the head-end: its octets and what they say. On a disabled context, or with its key not held, none can
be sealed and none goes (R252). -/
def State.sendAdm (s : State) (dst type ctx seq : Nat) (body : Octets) (o : Out) (octets : Nat) : State :=
  if s.upPorts = [] ∨ s.ctxKey ctx = 0 then s
  else
    let u := s.useKey kAdmit (s.ctxKey ctx) 2 true
    if u.2 then (u.1.emit (.udp dst (u.1.admOctets type ctx seq body))).sendOwn o octets else u.1

/-- Octets of a reply and of a report as IPv6 datagrams: headers 48, message 20, body (R251, R255, R263). -/
def replyOctets : Nat := 108
def reportOctets : Nat := 116

/-- The second port goes down: the frames queued move to the spool in queue order (R245). Those that pass through a ring lie in a buffer of
their own (R298). -/
def State.spoolStart (s : State) : State :=
  let q := s.upQueued.filter (fun f => f.flow != passFlow && !s.pilot.spool.any (fun g => g.id == f.id))
  let ports := s.pilot.ports.map (fun x => x.drop (fun _ => true))
  let fresh := s.getN Obj.SPOOL_STATE = 0
  let s := { s with pilot := { s.pilot with ports := ports, spooled := if fresh then 0 else s.pilot.spooled,
                                             spoolLost := if fresh then 0 else s.pilot.spoolLost,
                                             outageAt := if fresh then s.now else s.pilot.outageAt } }
  let s := q.foldl (fun s f => s.spoolWrite f) s
  (s.setN Obj.SPOOL_STATE 1).raiseOn 0x5003 2 0x6020 (be 4 q.length)

/-- A port leaves UP. With the other port still up its frames leave this queue, and those held nowhere else go to the
other port's. -/
def State.portDown (s : State) (p : Nat) : State :=
  if s.upPorts = [] then s.spoolStart
  else
    let o := 1 - p
    let only := (s.sched p).frames.filter (fun f => f.flow != passFlow && !(s.sched o).frames.any (fun g => g.id == f.id))
    only.foldl (fun s f => s.arrive o f) (s.updSched p (fun x => x.drop (fun _ => true)))

/-- A port that takes uplink frames trains while the spool holds some: they enter its schedule on the spool flows (R246). An outage that
spooled nothing is over. -/
def State.spoolDrain (s : State) (p : Nat) : State :=
  if s.forwardPorts.contains p = false then s
  else if s.pilot.spool = [] then s.setN Obj.SPOOL_STATE 0
  else
    let s := s.pilot.spool.foldl (fun s f => s.arrive p f) s
    s.setN Obj.SPOOL_STATE 2

/-- SPOOL_DRAINED when the last spooled frame has left. -/
def State.spoolEmpty (s : State) : State :=
  if s.pilot.spool = [] ∧ s.getN Obj.SPOOL_STATE = 2 then
    let ms := (s.now - s.pilot.outageAt) / msC
    (s.setN Obj.SPOOL_STATE 0).raiseOn 0x5004 0 0x6020 (be 8 s.pilot.spooled ++ be 4 s.pilot.spoolLost ++ be 4 ms)
  else s

end Sys2Proof.Machine
end

