-- ==== Sys2Proof/Machine/Ledger.lean ====
section
/-! DEFINITION. Operations on admitted frames and on the timing of neighbours that Helm and Pilot share: terminal
reports (07 R260–R263), misses (05 R183, R185), deferral (05 R167). -/
namespace Sys2Proof.Machine

/-! ## The ledger -/

def State.frame? (s : State) (ref : Nat) : Option Frame := s.pilot.frames.find? (fun f => f.ref == ref)
def State.updFrame (s : State) (ref : Nat) (g : Frame → Frame) : State :=
  { s with pilot := { s.pilot with frames := s.pilot.frames.map (fun f => if f.ref = ref then g f else f) } }
def State.setFrames (s : State) (l : List Frame) : State := { s with pilot := { s.pilot with frames := l } }

/-- Frames queued on a first hop: Q_DEPTH of R241. -/
def State.qDepth (s : State) (hop : Nat) : Nat := (s.pilot.frames.filter (fun f => f.hop == hop)).length

/-- The ring of terminal reports holds 1,048,576. -/
def reportRing : Nat := 1048576

/-- What a wheel entry is keyed by: handover and deadline of a frame. -/
def State.dropWheel (s : State) (p : Wheel → Bool) : State :=
  { s with pilot := { s.pilot with coarse := s.pilot.coarse.filter (fun w => !p w),
                                    fine := s.pilot.fine.filter (fun w => !p w) } }

/-- A terminal report is decided (R261–R263): states 2 DELIVERED, 3 NOT_ACKED, 4 UNREACHABLE. The frame's reservations
are released, it leaves the node queue and the wheel, and the report goes to the head-end, or for flow 0 to the control
plane; PA_REPORT_EVENTS chooses the event. -/
def State.report (s : State) (ref st : Nat) (t : Tick) : State :=
  match s.frame? ref with
  | none => s
  | some f =>
    let r : Term := { ref := ref, reqId := f.reqId, eui := (s.node? f.node).elim 0 (·.eui), state := st, made := f.made, reason := f.reason,
                      promise := f.promise, time := t }
    let s := s.setFrames (s.pilot.frames.filter (fun x => x.ref != ref))
    let s := (s.dutyDropAll ref).dropWheel (fun w => (w.kind == 0 || w.kind == 1) && w.key == ref)
    let due := s.helm.due.filter (fun d => !(d.kind == 0 && d.ref == ref))
    let s := { s with pilot := { s.pilot with reports := r :: s.pilot.reports.take (reportRing - 1) },
                      helm := { s.helm with due := due } }
    let s := s.bump (if st = 2 then Obj.REPORTS_DELIVERED else if st = 3 then Obj.REPORTS_NOT_ACKED
      else Obj.REPORTS_UNREACHABLE)
    let s : State :=
      if f.flow = 0 then (s.emit (.control 0 f.node)).stream (.report ref st)
      else if s.shadowed then s
      else
        let q := s.takeCounter (Obj.ADMIT_SEQ_OUT f.ctx) seqStep
        (q.2.sendAdm f.src 3 f.ctx q.1 r.octets (.admReport f.src f.ctx q.1 r.eui r) reportOctets).stream (.report ref st)
    let ev := s.getN Obj.PA_REPORT_EVENTS
    if ev = 2 ∨ (ev = 1 ∧ st ≠ 2) then
      s.raiseOn 0x5001 (if st = 2 then 0 else 1) 0x6100
        (be 8 ref ++ be 4 f.node ++ be 1 st ++ be 1 f.made ++ be 1 f.reason ++ be 2 f.flow ++ be 1 f.cls ++ t64Octets t)
    else s

/-- A reserved attempt ends with a reason of R260: counted as made, its instance no longer reserved. An acknowledged one (0) leaves the
reason of the last that was not (R263). Its duty-cycle reservation went
when the frame was sent, or goes at the end of the cell (R189). -/
def State.attemptEnds (s : State) (ref cell asn reason : Nat) : State :=
  s.updFrame ref (fun f =>
    let left := f.insts.filter (fun i => !(i.cell == cell && i.asn == asn))
    { f with made := f.made + 1, reason := if reason = 0 then f.reason else reason, insts := left })

/-- A deferral (R167): the counter of its reason and an attempt made and not acknowledged. In a shadow the attempt is the
active's. -/
def State.deferral (s : State) (ref cell asn reason : Nat) : State :=
  let s := s.bump (Obj.DEFER_BY_REASON (reason - 1))
  if s.shadowed then s else s.attemptEnds ref cell asn reason

/-! ## Changes of a node (R204, R230, R231, R314) -/

/-- The delta ring holds 16,384 records (R231). -/
def deltaMax : Nat := 16384

/-- A change of the node with an index is journaled to the delta ring (R231), and during a rehash to its own ring (R204). -/
def State.delta (s : State) (i : Nat) : State :=
  let r := if s.alm.rehash.phase = 1 ∨ s.alm.rehash.phase = 2 then { s.alm.rehash with delta := s.alm.rehash.delta + 1 }
    else s.alm.rehash
  { s with alm := { s.alm with ring := { idx := i, node := s.node? i } :: s.alm.ring.take (deltaMax - 1),
                               sinceCkpt := s.alm.sinceCkpt + 1, flushed := false, rehash := r } }

/-- Each move of an entry is logged to the ring of the build too (R204). -/
def State.deltaMoves (s : State) (n : Nat) : State :=
  if s.alm.rehash.phase = 1 ∨ s.alm.rehash.phase = 2 then
    { s with alm := { s.alm with rehash := { s.alm.rehash with delta := s.alm.rehash.delta + n } } }
  else s

/-- The DRAM mirror follows every change (R230). -/
def State.mirrorNodes (s : State) : State :=
  { s with alm := { s.alm with mirror := s.alm.nodes, mirrorTable := s.alm.table } }

/-- A record of the ring replayed over a table: what a record does not journal of a node that the checkpoint holds stays the checkpoint's
(R231, R232). -/
def DeltaRec.replay (copy : List Node) (r : DeltaRec) (l : List Node) : List Node :=
  let rest := l.filter (fun n => n.idx != r.idx)
  match r.node with
  | none => rest
  | some n =>
    rest ++ [(copy.find? (fun c => c.idx == n.idx && c.eui == n.eui)).elim n (fun c =>
      { n with lastHeard := c.lastHeard, lastSeq := c.lastSeq, drift := c.drift, lastSync := c.lastSync })]

/-- The table as the newer complete checkpoint and the delta ring give it (R232). -/
def State.storedNodes (s : State) : List Node :=
  let copy := s.alm.ckptA.elim [] (·.nodes)
  s.alm.ring.foldr (DeltaRec.replay copy) copy

/-- A change of a node is streamed to the shadow (R314). -/
def State.streamNode (s : State) (i : Nat) : State := s.stream (.node i (s.node? i))

/-- A change of a node reaches the delta ring, the mirror and the shadow. -/
def State.nodeChanged (s : State) (i : Nat) : State := ((s.delta i).mirrorNodes).streamNode i

/-! ## Misses (R183, R185) -/

/-- The node with an index changes its timing state. -/
def State.setNodeState (s : State) (i : Nat) (st : NodeState) : State :=
  (s.updNode i (fun n => { n with state := st })).nodeChanged i

/-- NODE_DRIFTED (R183, R192): `e` is 0x8000 for cause 1. -/
def State.drifted (s : State) (i cause : Nat) (e : Option Int) (lee tag : Nat) : State :=
  ((s.updNode i (fun n => { n with state := .drifted, resync := none })).nodeChanged i).raiseOn 0x4001 1 0x4C00
    (be 4 i ++ (e.elim (be 2 0x8000) (beI 2)) ++ be 1 cause ++ be 2 lee ++ be 4 tag)

/-- Entry to LOST: every admitted frame that waits on the node as first hop is reported UNREACHABLE at once (R185). -/
def State.lost (s : State) (i misses : Nat) : State :=
  let refs := (s.pilot.frames.filter (fun f => f.hop == i)).map (·.ref)
  let s := refs.foldl (fun s r => s.report r 4 s.time) (s.setNodeState i .lost)
  s.raiseOn 0x4002 1 0x4C00 (be 4 i ++ be 1 misses ++ be 4 refs.length)

/-- A miss (R183): a neighbour is DRIFTED at DRIFT_MISSES, LOST at LOST_MISSES. A node that is no neighbour keeps its state (R209). -/
def State.miss (s : State) (i sf tag : Nat) : State :=
  match s.node? i with
  | none => s
  | some n =>
    let m := min 64 (n.misses + 1)
    let s := s.updNode i (fun n => { n with misses := m })
    if n.neighbour = false then s
    else match n.state with
    | .active | .stale =>
      if s.getN Obj.DRIFT_MISSES ≤ m then s.drifted i 1 none (s.leeway (some n) sf s.time) tag else s
    | .drifted => if s.getN Obj.LOST_MISSES ≤ m then s.lost i m else s
    | _ => s

/-- TAG of a cell, for the events. -/
def State.cellTag (s : State) (cell : Nat) : Nat := ((s.helm.cells.find? (fun e => e.1 == cell)).map (·.2.tag)).getD 0

end Sys2Proof.Machine
end

