-- ==== Sys2Proof/Machine/AlmOps.lean ====
section
/-! DEFINITION. Operations on the node table and the neighbour tables that several commands share (spec 06): hashing and
cuckoo placement (R199, R202), Almanac seconds (R208), creation and removal of a node (R196, R209, R211, R215), routes
(R225) and learn requests (R217, R218). -/
namespace Sys2Proof.Machine

/-! ## Almanac seconds (R208) -/

/-- The current Almanac second: Sextant seconds less ALMANAC_SHIFT, modulo 2^32. -/
def State.almSec (s : State) : Nat := (((s.time / secT : Nat) : Int) - s.getI Obj.ALMANAC_SHIFT).emod (2 ^ 32) |>.toNat

/-- (now − LAST_HEARD) mod 2^32. -/
def State.ageOf (s : State) (t : Nat) : Nat := (((s.almSec : Nat) : Int) - (t : Int)).emod (2 ^ 32) |>.toNat

/-- LAST_HEARD is set; a STALE node becomes ACTIVE (R208, R209). -/
def State.heard (s : State) (i : Nat) : State :=
  let t := s.almSec
  let stale := (s.node? i).elim false (fun n => n.state == .stale)
  let s := s.updNode i (fun n => { n with lastHeard := t, state := if n.state = .stale then .active else n.state })
  if stale then s.nodeChanged i else s

def State.nodeByShort (s : State) (a : Nat) : Option Node := s.alm.nodes.find? (fun n => n.short == some a)
/-- The address of an EUI-64 under a prefix: the universal bit turned over, as RFC 4291 forms it (log 19). -/
def addrOf (pfx : Octets) (eui : Nat) : Octets :=
  let e := be 8 eui
  fit 8 pfx ++ [e.getD 0 0 ^^^ 0x02#8] ++ e.drop 1

/-! ## Hashing (R199) -/

def m64 : Nat := 2 ^ 64

/-- x before the bucket bits are taken. -/
def hash64 (seed k : Nat) : Nat :=
  let x := ((k ^^^ seed) % m64) * 0x9E3779B97F4A7C15 % m64
  let x := x ^^^ (x / 2 ^ 29)
  x * 0xBF58476D1CE4E5B9 % m64

/-- The two buckets of a key; `bits` is 16 for the node table and 12 for a neighbour table. -/
def buckets (bits : Nat) (seeds : Nat × Nat) (k : Nat) : Nat × Nat :=
  let b1 := hash64 seeds.1 k / 2 ^ (64 - bits)
  let b2 := hash64 seeds.2 k / 2 ^ (64 - bits)
  (b1, if b2 = b1 then b1 ^^^ 1 else b2)

/-- The node table's seeds (TABLE_SEEDS). -/
def State.tableSeeds (s : State) : Nat × Nat := (fld (s.getO Obj.TABLE_SEEDS) 0 8, fld (s.getO Obj.TABLE_SEEDS) 8 8)

/-! ## Cuckoo placement (R202) -/

def Cuckoo.at' (c : Cuckoo) (b w : Nat) : Option Nat := (c.slots.find? (fun e => e.1 == (b, w))).map (·.2)
def Cuckoo.freeWay (c : Cuckoo) (b : Nat) : Option Nat := [0, 1, 2, 3].find? (fun w => (c.at' b w).isNone)
def Cuckoo.put (c : Cuckoo) (b w e : Nat) : Cuckoo :=
  { c with slots := ((b, w), e) :: c.slots.filter (fun x => x.1 != (b, w)) }
def Cuckoo.clear (c : Cuckoo) (b w : Nat) : Cuckoo :=
  { c with slots := c.slots.filter (fun x => x.1 != (b, w)), moves := c.moves + 1 }
def Cuckoo.drop (c : Cuckoo) (e : Nat) : Cuckoo :=
  { c with slots := c.slots.filter (fun x => x.2 != e), stash := c.stash.filter (fun x => x != e) }

/-- The victim's way: the rotor's, or the next of the three others that is not in the path already. -/
def victimWay (path : List (Nat × Nat × Nat)) (b rotor : Nat) : Option Nat :=
  [rotor % 4, (rotor + 1) % 4, (rotor + 2) % 4, (rotor + 3) % 4].find? (fun w => !path.any (fun p => p.1 == b && p.2.1 == w))

/-- The search for a path of at most 32 victims: the rotor after it, and the path with the free way at its end. -/
def Cuckoo.search (c : Cuckoo) (hs : Nat → Nat × Nat) : Nat → Nat → List (Nat × Nat × Nat) → Nat →
    Nat × Option (List (Nat × Nat × Nat) × Nat)
  | 0, rotor, _, _ => (rotor, none)
  | n + 1, rotor, path, b =>
    let next := (rotor + 1) % 4
    match victimWay path b rotor with
    | none => (next, none)
    | some w =>
      let v := (c.at' b w).getD 0
      let alt := if (hs v).1 = b then (hs v).2 else (hs v).1
      let path := path ++ [(b, w, alt)]
      match c.freeWay alt with
      | some f => (next, some (path, f))
      | none => c.search hs n next path alt

/-- The moves of a path, from its free end: copy before clear. -/
def Cuckoo.relocate (c : Cuckoo) : List (Nat × Nat × Nat) → Nat → Cuckoo
  | [], _ => c
  | (b, w, alt) :: t, f => ((c.put alt f ((c.at' b w).getD 0)).clear b w).relocate t w

/-- Place a key in the buckets: the table after it, whether it was placed, and the relocations made. -/
def Cuckoo.place (c : Cuckoo) (hs : Nat → Nat × Nat) (e : Nat) : Cuckoo × Bool :=
  match c.freeWay (hs e).1 with
  | some w => (c.put (hs e).1 w e, true)
  | none =>
    match c.freeWay (hs e).2 with
    | some w => (c.put (hs e).2 w e, true)
    | none =>
      let r := c.search hs 32 c.rotor [] (hs e).1
      let c := { c with rotor := r.1 }
      match r.2 with
      | none => (c, false)
      | some (path, f) =>
        let c' := c.relocate path.reverse f
        match path with
        | [] => (c', false)
        | (b, w, _) :: _ => (c'.put b w e, true)

/-- The stash holds 64 entries. -/
def stashSize : Nat := 64

/-- The insertion of R202 into the node table: placed, in the stash, or refused. -/
def Cuckoo.insert (c : Cuckoo) (hs : Nat → Nat × Nat) (e : Nat) : Cuckoo × Bool :=
  let r := c.place hs e
  if r.2 then r
  else if r.1.stash.length < stashSize then ({ r.1 with stash := r.1.stash ++ [e] }, true)
  else (r.1, false)

def State.hashes (s : State) : Nat → Nat × Nat := buckets 16 s.tableSeeds

/-! ## Lookup (R201, R205) -/

/-- A key stands in a bucket of the table. -/
def Cuckoo.holds (c : Cuckoo) (b k : Nat) : Bool := c.slots.any (fun e => e.1.1 == b && e.2 == k)

/-- The lookup of R201: the first bucket with the stash, then the second. During MIGRATE that of R205: the old buckets that the pointer
has not reached, with the stash, then the new ones, from the layout where it has not reached them. -/
def State.keyFound (s : State) (k : Nat) : Bool :=
  let t := s.alm.table
  let r := s.alm.rehash
  let h := s.hashes k
  if r.phase = 3 then
    let o := buckets 16 r.oldSeeds k
    let kept := [o.1, o.2].filter (fun b => decide (r.pointer ≤ b))
    (!kept.isEmpty && t.stash.contains k) || kept.any (fun b => t.holds b k) ||
      [h.1, h.2].any (fun b => if b < r.pointer then t.holds b k else r.layout.any (fun e => e.1.1 == b && e.2 == k))
  else t.holds h.1 k || t.stash.contains k || t.holds h.2 k

/-- The node of an EUI-64 by a lookup. -/
def State.nodeByEui (s : State) (e : Nat) : Option Node :=
  if s.keyFound e then s.alm.nodes.find? (fun n => n.eui == e) else none

/-- Resolve a link source to a node: nothing resolves until the loader has finished (R232). -/
def State.nodeBySrc (s : State) (a : Addr) : Option Node :=
  if s.alm.loaded = false then none
  else
    match a with
    | .none => none
    | .short x => s.nodeByShort x
    | .long e => s.nodeByEui e

/-- A lookup that has not found its key by the second bucket reads the first again where MOVES has changed since it began: a key absent,
or one present that was just moved (R201). Whether a move of an entry by an insertion, or by the placement of a stash entry, falls in
its span of four cycles is a free value (log 33). -/
def State.reread (s : State) : State :=
  if (s.alm.queue = [] ∧ s.alm.table.stash = []) ∨ 2 ≤ s.alm.rehash.phase then s
  else
    let a := s.fresh
    if a.1 % 2 = 0 then a.2 else a.2.bump Obj.LOOKUP_REREADS

/-- The lookup that finds the source of a frame: by EUI-64 in the table, by a short address in the map of the pool (R201, R215). -/
def State.rereadSrc (s : State) (a : Addr) : State :=
  match a with
  | .long _ => if s.alm.loaded then s.reread else s
  | _ => s

/-- After each removal one stash entry is tried (R203). -/
def Cuckoo.unstash (c : Cuckoo) (hs : Nat → Nat × Nat) : Cuckoo :=
  match c.stash with
  | [] => c
  | e :: t =>
    let r := c.place hs e
    if r.2 then { r.1 with stash := t } else { c with rotor := r.1.rotor }

/-- An uncorrectable error of DRAM: counted, answered to the initiator of the access, DRAM_FAULT (R27). -/
def State.dramFault (s : State) (channel addr : Nat) (table : Bool) : State :=
  ((s.bump Obj.DRAM_ECC_UNCORRECTABLE).emit (.busError channel addr)).raise 0x800A 3 (be 1 channel ++ be 8 addr ++ be 1 (b2n table))

/-! ## Indices and short addresses -/

/-- The lowest number from `base` on that is not in the list. -/
def lowestFree (base : Nat) (used : List Nat) : Nat :=
  base + (((List.range (used.length + 1)).find? (fun i => !used.contains (base + i))).getD used.length)

/-- The lowest free index not released within 86,400 s (R196); 262,143 nodes at most (R197). -/
def State.newIndex (s : State) : Option Nat :=
  let held := (s.alm.freed.filter (fun e => decide (s.now < e.2 + 86400 * secC))).map (·.1)
  let i := lowestFree 0 (s.alm.nodes.map (·.idx) ++ held)
  if i < 262143 then some i else none

/-- The lowest address of the pool not released within SHORT_HOLD (R215). -/
def State.newShort (s : State) : Option Nat :=
  let base := s.getN Obj.SHORT_BASE
  let held := (s.alm.shorts.filter (fun e => decide (s.now < e.2 + s.getN Obj.SHORT_HOLD * secC))).map (·.1)
  let a := lowestFree base (s.alm.nodes.filterMap (·.short) ++ held)
  if a < base + 32768 then some a else none

/-- A node receives its short address, or SHORT_POOL_EMPTY is raised (R215). -/
def State.giveShort (s : State) (i : Nat) : State :=
  match s.node? i with
  | none => s
  | some n =>
    if n.short.isSome then s.updNode i (fun n => { n with shortClear := none })
    else
      match s.newShort with
      | some a => s.updNode i (fun n => { n with short := some a, shortClear := none })
      | none => s.raiseOn 0x6007 2 0x5010 (be 4 i)

/-- A new entry in JOINING (R209). Its parents and DAO_SEQ are absent, its drift unset. -/
def State.newNode (s : State) (i : Nat) (q : Insertion) : Node :=
  { idx := i, eui := q.eui, state := .joining, neighbour := false, pinned := q.pinned, auto := q.cause != 1,
    lastHeard := s.almSec, short := none, pan := q.pan, depth := 0, parent := 0x3FFFF, lastSeq := q.ident,
    lastDigest := q.digest, daoSeq := none, keySlot := 0xFFFF, routeExpiry := none, drift := 0, misses := 0, lastOffset := 0,
    lastSync := none, keyId := 0, keyGen := 0, parents := [], joined := 0, created := s.now, upFrames := 0,
    downFrames := 0, fpw := 0, fph := 0, closed := false, tokens := s.getN Obj.PA_NODE_FPW * 65536, stamp := s.now,
    lastRef := 0, note := List.replicate 64 0, shortClear := none, resync := none, response := none }

/-- An entry takes its place in the table by R202, and the node is listed; or nothing moves. -/
def State.seat (s : State) (n : Node) : State × Bool :=
  let r := s.alm.table.insert s.hashes n.eui
  let t := if r.2 then r.1 else { s.alm.table with rotor := r.1.rotor }
  let l := if r.2 then s.alm.nodes ++ [n] else s.alm.nodes
  ({ s with alm := { s.alm with table := t, nodes := l } }, r.2)

/-- An insertion by the engine: its relocations are counted, and logged during a build (R202, R204). -/
def State.insertNode (s : State) (n : Node) : State × Bool :=
  let r := s.seat n
  let moved := r.1.alm.table.moves - s.alm.table.moves
  (if r.2 then ((r.1.bump Obj.TABLE_INSERTS).bumpBy Obj.TABLE_RELOCATIONS moved).deltaMoves moved else r.1, r.2)

/-- Removing an entry (R211): table and record, the short address and the slot of the key cache released, the index held; then one
stash entry is tried (R203), but not in MIGRATE, when no entry moves (R205). -/
def State.removeNode (s : State) (i : Nat) : State :=
  match s.node? i with
  | none => s
  | some n =>
    let nodes := s.alm.nodes.filter (fun x => x.idx != i)
    let dropped := s.alm.table.drop n.eui
    let table := if s.alm.rehash.phase ≠ 3 then dropped.unstash s.hashes else dropped
    let layout := s.alm.rehash.layout.filter (fun e => e.2 != n.eui)
    let moved := table.moves - s.alm.table.moves
    let shorts := match n.short with
      | some a => (a, s.now) :: s.alm.shorts
      | none => s.alm.shorts
    let s := { s with alm := { s.alm with nodes := nodes, table := table, shorts := shorts,
                                           rehash := { s.alm.rehash with layout := layout },
                                           freed := (i, s.now) :: s.alm.freed } }
    let s := s.updBn (fun b => { b with cache := b.cache.filter (fun e => e.1 != i) })
    ((s.bumpBy Obj.TABLE_RELOCATIONS moved).deltaMoves moved).nodeChanged i

/-- The removal that NODE_REMOVE waits for is made, by whichever cause: the procedure is done (R235). -/
def State.removalDone (s : State) (i : Nat) : State :=
  if s.alm.removing.contains i then
    ({ s with alm := { s.alm with removing := s.alm.removing.filter (fun x => x != i) } }).procDone Obj.NODE_REMOVE .ok
  else s

/-- Entries in JOINING, with those that the insertion engine has still to make (R209). -/
def State.joiningCount (s : State) : Nat := (s.alm.nodes.filter (fun n => n.state == .joining)).length + s.alm.queue.length

/-! ## Join requests (R212) -/

/-- A datagram that is a join request: UDP to port 5683 with a CoAP POST to Uri-Path "j". -/
def isJoin (c : Lowpan) : Bool :=
  match c with
  | .dgram _ port _ _ post => port == some 5683 && post == some [[0x6A]]
  | _ => false

/-- A join request: an unprotected data frame with a long source address that carries one. -/
def joinRequest (f : MacFrame) : Bool :=
  !f.secured && f.ftype == 1 && isJoin f.content && (match f.src with
    | .long _ => true
    | _ => false)

/-! ## Insertion queue (R206) -/

/-- The insertion queue holds 256 requests. -/
def insertQueue : Nat := 256
def State.queueInsertion (s : State) (q : Insertion) : State := { s with alm := { s.alm with queue := s.alm.queue ++ [q] } }

/-! ## Routes (R225) -/

/-- The walk of R225: the hops from the node upwards, or the failure's cause. -/
def State.walk (s : State) : Nat → List Nat → Node → Except Nat (List Nat)
  | 0, _, _ => .error 2
  | n + 1, hops, cur =>
    if cur.neighbour then .ok hops
    else if cur.routeExpiry.elim false (fun t => decide (t ≤ s.almSec)) then .error 4
    else
      match s.node? cur.parent with
      | none => .error 0
      | some p =>
        if p.state = .lost then .error 3
        else if hops.contains p.idx then .error 1
        else if hops.length = 24 then .error 2
        else s.walk n (hops ++ [p.idx]) p

/-- DEPTH as a walk of a node's chain writes it: 25 for a chain that is too long and 0 where no route is known (R198). -/
def State.depthOf (s : State) (n : Node) : Nat :=
  match s.walk 25 [n.idx] n with
  | .ok hops => hops.length
  | .error c => if c = 2 then 25 else 0

/-- Instants of the last second, with the present one (R217, R225). -/
def State.lastSecond (s : State) (l : List Count) : List Count := s.now :: l.filter (fun t => decide (s.now < t + secC))

/-- The route to a node: its first hop and the hops below it, with DEPTH written; a failure counts in ROUTE_FAILS and is reported at most
once per second, with the failures of the last second. -/
def State.route (s : State) (n : Node) : State × Except Nat (Nat × List Nat) :=
  let d := s.depthOf n
  let t := s.updNode n.idx (fun n => { n with depth := d })
  match s.walk 25 [n.idx] n with
  | .ok hops => (t, .ok (hops.getLast?.getD n.idx, hops.reverse.tail))
  | .error c =>
    let s := t.bump Obj.ROUTE_FAILS
    let s : State := { s with alm := { s.alm with routeFails := s.lastSecond s.alm.routeFails } }
    if s.alm.routeFailAt.elim true (fun t => decide (t + secC ≤ s.now)) then
      let s := s.raiseOn 0x6008 1 0x5010 (be 4 n.idx ++ be 1 c ++ be 4 s.alm.routeFails.length)
      ({ s with alm := { s.alm with routeFailAt := some s.now } }, .error c)
    else (s, .error c)

/-! ## Neighbour tables (R217, R218, R221) -/

def State.pipe (s : State) (b : Nat) : Pipeline := if b = 0 then s.alm.low else s.alm.high
def State.updPipe (s : State) (b : Nat) (f : Pipeline → Pipeline) : State :=
  if b = 0 then { s with alm := { s.alm with low := f s.alm.low } } else { s with alm := { s.alm with high := f s.alm.high } }

/-- The learn queue holds 512 requests. -/
def learnQueue : Nat := 512

/-- The later Almanac second, in serial order modulo 2^32. -/
def laterSec (a b : Nat) : Nat := if ((b : Int) - a).emod (2 ^ 32) < 2 ^ 31 then b else a

/-- The merge of R218. -/
def mergeLearn (a b : NbEntry) : NbEntry :=
  let best := if a.lqi < b.lqi then b else if b.lqi < a.lqi then a else if a.second then b else a
  { a with second := best.second, lqi := best.lqi, stamp := laterSec a.stamp b.stamp }

/-- A learn request (R217): merged with a pending one, queued, or dropped at a full queue. -/
def State.learnRequest (s : State) (b : Nat) (e : NbEntry) : State :=
  let q := (s.pipe b).learn
  let s := s.bump (Obj.QQ_LEARN_REQUESTS b)
  if q.any (fun x => x.eui == e.eui) then
    (s.updPipe b (fun p => { p with learn := p.learn.map (fun x => if x.eui = e.eui then mergeLearn x e else x) })).bump
      (Obj.QQ_LEARN_MERGES b)
  else if q.length < learnQueue then s.updPipe b (fun p => { p with learn := p.learn ++ [e] })
  else
    let s := s.bump (Obj.QQ_LEARN_DROPS b)
    let l := s.lastSecond (s.pipe b).overflow
    let s := s.updPipe b (fun p => { p with overflow := l })
    if (s.pipe b).overflowAt.elim true (fun t => decide (t + secC ≤ s.now)) then
      (s.raiseOn 0x6009 2 (0x5040 + b) (be 1 b ++ be 4 l.length)).updPipe b (fun p => { p with overflowAt := some s.now })
    else s

/-- The port a neighbour was last heard on, for PORT 2 of a TX cell: that of the entry of its EUI-64 (R216, R221). -/
def State.heardPort (s : State) (b i : Nat) : Nat :=
  match (s.node? i).bind (fun n => (s.pipe b).nb.find? (fun e => e.eui == n.eui)) with
  | some e => 2 * b + b2n e.second
  | none => 2 * b


/-! ## Reassembly (R228) -/

/-- Each pipeline has 1,024 buffers of 2,048 octets. -/
def reasmBuffers : Nat := 1024

/-- Two parts of one datagram that overlap with different content. -/
def partsClash (off : Nat) (d : Octets) (parts : List (Nat × Octets)) : Bool :=
  parts.any (fun p => (List.range d.length).any (fun i =>
    decide (p.1 ≤ off + i ∧ off + i < p.1 + p.2.length) && (p.2.getD (off + i - p.1) 0 != d.getD i 0)))

/-- Whether the parts cover `size` octets. -/
def partsFull (size : Nat) (parts : List (Nat × Octets)) : Bool :=
  parts.any (fun p => decide (size ≤ p.1 + p.2.length)) &&
    (parts.all (fun p => p.1 == 0 || parts.any (fun q => decide (q.1 < p.1 ∧ p.1 ≤ q.1 + q.2.length)))) &&
    parts.any (fun p => p.1 == 0)

/-- Insert a part by its offset. -/
def partInsert (p : Nat × Octets) : List (Nat × Octets) → List (Nat × Octets)
  | [] => [p]
  | q :: t => if p.1 ≤ q.1 then p :: q :: t else q :: partInsert p t

/-- The octets of a whole datagram from its parts: each from where the ones before it end. -/
def partsOctets (parts : List (Nat × Octets)) : Octets :=
  (parts.foldl (fun l p => partInsert p l) []).foldl (fun (o : Octets) p => o ++ p.2.drop (o.length - p.1)) []

/-- A fragment in pipeline `b`: the whole datagram when it completes one. -/
def State.fragment (s : State) (b orig tag size off : Nat) (d : Octets) (port : Option Nat) (dscp : Nat) :
    State × Option Reasm :=
  let mine := fun (r : Reasm) => r.orig == orig && r.tag == tag && r.size == size
  let l := (s.pipe b).reasm
  match l.find? mine with
  | some r =>
    if partsClash off d r.parts then
      ((s.updPipe b (fun p => { p with reasm := p.reasm.filter (fun x => !mine x) })).bump Obj.REASSEMBLY_DROPS, none)
    else
      let r := { r with parts := (off, d) :: r.parts.filter (fun p => p.1 != off || decide (d.length < p.2.length)), last := s.now,
                        udpPort := if off = 0 then port else r.udpPort, dscp := if off = 0 then dscp else r.dscp }
      if partsFull size r.parts then (s.updPipe b (fun p => { p with reasm := p.reasm.filter (fun x => !mine x) }), some r)
      else (s.updPipe b (fun p => { p with reasm := p.reasm.map (fun x => if mine x then r else x) }), none)
  | none =>
    let r : Reasm := { orig := orig, tag := tag, size := size, parts := [(off, d)], udpPort := port, dscp := dscp, last := s.now }
    if partsFull size r.parts then (s, some r)
    else if l.length < reasmBuffers then (s.updPipe b (fun p => { p with reasm := p.reasm ++ [r] }), none)
    else ((s.updPipe b (fun p => { p with reasm := p.reasm.tail ++ [r] })).bump Obj.REASSEMBLY_DROPS, none)

end Sys2Proof.Machine
end

