-- ==== Sys2Proof/Machine/ConsortOps.lean ====
section
/-! DEFINITION. Consort's operations that several chapters use (spec 09): the member's state, takeover and yield (R320,
R321), the assertion slots (R327) and the both-active interval (R328). -/
namespace Sys2Proof.Machine

def State.updCs (s : State) (f : Consort → Consort) : State := { s with cs := f s.cs }

/-- The member enters a state (R310). -/
def State.csGo (s : State) (st : Nat) : State := (s.setN Obj.CS_STATE st).updCs (fun c => { c with since := s.now })

/-- The enabled PAN of a band with the shortest slot, the lowest number among equals (R166, R327). -/
def State.shortestPan (s : State) (b : Nat) : Option Nat :=
  ((List.range 4).filter (fun p => s.getB (Obj.PN_ENABLE p) && s.getN (Obj.PN_BAND p) == b)).foldl (fun m p =>
    match m with
    | none => some p
    | some q => if s.getN (Obj.PN_SLOT_DURATION p) < s.getN (Obj.PN_SLOT_DURATION q) then some p else some q) none

def State.updPan (s : State) (p : Nat) (f : Pan → Pan) : State :=
  { s with helm := { s.helm with pans := upd s.helm.pans p f } }

/-- A partner pulse ends the assertion slots: no assertion beacon that is due or planned is sent any more (R327). -/
def State.assertStop (s : State) : State :=
  let plans := (s.helm.plans.map (fun g => { g with frames := g.frames.filter (fun f => f.kind != 3) })).filter (fun g => g.frames != [])
  { s with helm := { s.helm with pans := s.helm.pans.map (fun x => { x with assertLeft := 0, assertFirst := none }),
                                  due := s.helm.due.filter (fun d => d.kind != 3), plans := plans } }

/-- Slot `asn` is one of the 64 assertion slots of a PAN. -/
def Pan.asserts (x : Pan) (asn : Nat) : Bool := x.assertFirst.elim false (fun a => decide (a ≤ asn ∧ asn < a + 64))

/-- Length of a window of the output comparison (R313). -/
def windowT : Tick := 100 * usT

/-- The transmit start of an item of a plan record. -/
def PlanRec.startOf (r : PlanRec) (x : Item) : Tick :=
  r.start + (((x.instant : Int) - (r.start / usT % 2 ^ 32 : Nat)).emod (2 ^ 32)).toNat * usT

/-- A carrier on air in [a, b) and the interval [t, te] meet in one window (R311). -/
def shareWindow (a b t te : Tick) : Bool := decide (a / windowT ≤ te / windowT ∧ t / windowT ≤ (b - 1) / windowT)

/-- A handover that was chosen does not come about: CONSORT_HANDOVER, where it asked for it, ends FAILED with INTERNAL (R325, R326). -/
def State.dropHandover (s : State) : State :=
  let asked := s.cs.handover.elim false (·.byProc)
  let s := s.updCs (fun c => { c with handover := none })
  if asked then s.procDone Obj.CONSORT_HANDOVER .internal else s

/-- The end of a both-active interval: counted and reported where the partner was active in it (R328). -/
def State.bothEnd (s : State) (was : Bool) : State :=
  match s.cs.bothSince with
  | none => s
  | some (t, cause) =>
    let us := (s.now - t) / usC
    let s := s.updCs (fun c => { c with bothSince := none })
    if was then (s.bumpBy Obj.CS_BOTH_ACTIVE_TIME us).raiseOn 0x7108 1 0x7410 (be 4 us ++ be 1 cause) else s

/-- Transmissions not yet on air are given up by a member that leaves ACTIVE for RESYNC (R310, R321). -/
def State.dropPlans (s : State) : State := { s with helm := { s.helm with plans := [], acks := [] } }

/-- Entry to RESYNC: nothing of the state transfer has been received. -/
def State.toResync (s : State) : State :=
  (((s.csGo 4).dropPlans).dropHandover).updCs (fun c => { c with full := 0, resyncRecs := 0, waiting := [], plans := [], run := [],
                                                                 holdSince := none, takeover := false })

/-- A yield (R321): causes 0 epoch mismatch, 1 partner TAKEOVER, 2 assertion beacon, 3 revert or handover, 4 both active at
pulse resumption. -/
def State.yieldTo (s : State) (st cause : Nat) : State :=
  let s := (s.bump Obj.CS_YIELDS).bothEnd (cause == 2 || cause == 4)
  let s := if st = 4 then s.toResync
    else ((s.csGo st).dropHandover).updCs (fun c =>
      { c with run := [], holdSince := none, takeover := false, waiting := [], plans := [], acked := c.pulse.elim c.acked (·.sent),
               sentAt := [] })
  (s.assertStop).raiseOn 0x7102 2 0x7410 (be 1 cause ++ be 1 st)

/-- Attempts whose transmit instant fell between Fault and now count under reason 14 (R321), and no acknowledgement of them is awaited. -/
def State.lostAttempts (s : State) (fault : Tick) : State × Nat :=
  let hit := s.pilot.frames.flatMap (fun f => (f.insts.filter (fun i => decide (fault ≤ i.start ∧ i.start < s.time))).map
    (fun i => (f.ref, i.cell, i.asn)))
  let s := { s with helm := { s.helm with waits := s.helm.waits.filter (fun w => !hit.contains (w.ref, w.cell, w.asn)) } }
  (hit.foldl (fun s x => s.attemptEnds x.1 x.2.1 x.2.2 14) s, hit.length)

/-- A member in RESYNC that takes over serves with the ledger it holds: LEDGER_LOST names the admissions that it may lack (R28, R320).
Which they are the member cannot know: the range runs from the first reference that it may have missed to the last that the counter
reservation allows, its count is that bound, its cause a free value, and references resume above it (DESIGN CHOICE, log 41). -/
def State.lackedLost (s : State) : State :=
  let low := if s.cs.full = 1 then 1 else s.getN Obj.NEXT_ADMISSION_REF
  let last := s.ceiling Obj.NEXT_ADMISSION_REF - 1
  let r := s.fresh
  (r.2.raiseOn 0x5002 2 0x6000 (be 8 low ++ be 8 last ++ be 4 (last + 1 - low) ++ be 1 0 ++ be 1 (r.1 % 256))).setN
    Obj.NEXT_ADMISSION_REF (max (s.getN Obj.NEXT_ADMISSION_REF) (last + 1))

/-- A takeover (R320, R321): causes 0 pulse loss, 1 SILENT, 2 DIFFERENT, 3 revert, 4 handover. Admission sequences resume
above the highest reservation received, plus 65,536 (R314). From here on both members are active until the partner yields (R328). -/
def State.takeOver (s : State) (cause : Nat) (fault : Tick) : State :=
  let before := s.getN Obj.CS_STATE
  let s := ((s.bump Obj.CS_TAKEOVERS).set Obj.CS_LAST_FAULT (t64 fault)).csGo 2
  let s := (s.cs.reserved.filter (fun e => decide (e.1 < 16))).foldl (fun s e =>
    let k := Obj.ADMIT_SEQ_OUT e.1
    if s.getN k ≤ e.2 + seqStep then (s.setN k (e.2 + seqStep + 1)).reserveSeq k seqStep (e.2 + seqStep + 1) else s) s
  let s := if before = 4 then s.lackedLost else s
  let both := if cause = 0 then some (s.now, 0) else if cause = 1 then some (s.now, 2) else if cause = 2 then none else some (s.now, 1)
  let s := (if 3 ≤ cause then s.updCs (fun c => { c with handover := none }) else s.dropHandover).updCs (fun c =>
    { c with run := [], waiting := [], plans := [], holdSince := none, takeover := cause == 1, bothSince := both })
  let r := s.lostAttempts fault
  r.1.raiseOn 0x7101 2 0x7410 (be 1 cause ++ be 1 before ++ t64Octets fault ++ be 4 ((s.time - fault) / usT) ++ be 2 r.2)

end Sys2Proof.Machine
end

