-- ==== Sys2Proof/Machine/HelmOps.lean ====
section
/-! DEFINITION. Helm's operations (spec 05): the cells of a slot (R157, R161), the tests of the freeze (R163–R165, R180,
R189), placement on chains (R94, R95, R163, R164), acknowledgement plans (R179) and beacons of the slot (R184, R186). -/
namespace Sys2Proof.Machine

/-! ## Cells (R153, R157, R161) -/

/-- A slotframe in force that is enabled. -/
def State.sfOn (s : State) (f : Nat) : Bool := (s.sf f).enable && decide (0 < (s.sf f).length)

/-- Lodestar serves the cells of its chart only (R442, R443). -/
def State.served (s : State) (e : Nat × Cell) : Bool :=
  !s.getB Obj.LODESTAR_ACTIVE || s.rst.chart.elim false (fun c => c.cells.contains e)

/-- A due frame that is bound to no cell yet, or to none at all. -/
def noCell : Nat := 0xFFFFFFFF

/-- A frame is due in a TX cell of a slot: handed over for it, planned or on air in it, awaited in it, or, for a SHARED cell, waiting
for one of the PAN with no cell left to skip (R157, R181). -/
def State.txDue (s : State) (e : Nat × Cell) (asn : Nat) : Bool :=
  let hit := fun (f : AirFrame) => f.kind == 0 && f.cell == e.1 && f.asn == asn
  s.helm.due.any (fun d => d.kind == 0 && d.cell == e.1 && d.asn == asn) ||
    s.helm.plans.any (fun g => g.frames.any hit) || (s.fe.chains.filterMap (·.group)).any (fun g => g.frames.any hit) ||
    s.helm.waits.any (fun w => w.cell == e.1 && w.asn == asn) ||
    (e.2.shared && s.helm.due.any (fun d => d.shared && d.cell == noCell && d.pan == (s.sf e.2.sf).pan &&
      ((s.helm.backoff.find? (fun b => b.1 == d.node)).map (·.2.2)).getD 0 == 0))

/-- A TX cell kept in its old form serves the reserved attempts that it still holds, and nothing else (R159). -/
def State.keptCells (s : State) (pan asn : Nat) : List (Nat × Cell) :=
  (s.helm.oldCells.filter (fun e => (s.sf e.2.sf).pan == pan && (s.txDue e asn ||
    s.pilot.frames.any (fun f => f.insts.any (fun i => i.cell == e.1 && i.asn == asn && i.pan == pan))))).map
    (fun e => (e.1, { e.2 with rx := false, advertise := false, rxProtect := false }))

/-- The cells of a PAN that fall in a slot. -/
def State.slotCells (s : State) (pan asn : Nat) : List (Nat × Cell) :=
  s.helm.cells.filter (fun e => e.2.valid && s.sfOn e.2.sf && (s.sf e.2.sf).pan == pan &&
    asn % max 1 (s.sf e.2.sf).length == e.2.slot && s.served e) ++ s.keptCells pan asn

/-- The order of R157: a TX cell with a frame due, an ADVERTISE cell, an RX or SHARED cell. -/
def State.cellRank (s : State) (e : Nat × Cell) (asn : Nat) : Nat :=
  if e.2.tx ∧ s.txDue e asn then 0
  else if e.2.advertise then 1
  else if e.2.rx ∨ e.2.shared then 2
  else 3

/-- The better of two cells by R157. -/
def State.betterCell (s : State) (asn : Nat) (a b : Nat × Cell) : Nat × Cell :=
  let ra := s.cellRank a asn
  let rb := s.cellRank b asn
  if ra < rb ∨ (ra = rb ∧ (a.2.sf < b.2.sf ∨ (a.2.sf = b.2.sf ∧ a.1 < b.1))) then a else b

/-- The one cell of each neighbour, and of "any node", used in a slot (R157). -/
def State.chosenCells (s : State) (pan asn : Nat) : List (Nat × Cell) :=
  let l := s.slotCells pan asn
  let nodes := (l.map (·.2.node)).eraseDups
  nodes.filterMap (fun n =>
    match l.filter (fun e => e.2.node == n) with
    | [] => none
    | h :: t => some (t.foldl (fun b e => s.betterCell asn b e) h))

/-- How many slots of a PAN the upcoming-cell list reaches after the current one: 2 s and the slot that runs (R161). -/
def State.reachSlots (s : State) (pan : Nat) : Nat := cdiv (2 * secT) (max 1 (s.slotLen pan)) + 1

/-- The instances of cells of a PAN in its reach, with their cell starts (R161). -/
def State.upcoming (s : State) (pan : Nat) : List (Tick × Nat × Nat) :=
  let asn := s.asnAt pan s.time
  (List.range (s.reachSlots pan + 1)).flatMap (fun i =>
    (s.slotCells pan (asn + i)).map (fun e => (s.cellStart pan (asn + i), e.1, asn + i)))

/-- Put an instance into a list sorted by cell start. -/
def startInsert (x : Tick × Nat × Nat) : List (Tick × Nat × Nat) → List (Tick × Nat × Nat)
  | [] => [x]
  | y :: t => if x.1 < y.1 then x :: y :: t else y :: startInsert x t

/-- The horizon that a list rebuilt at the last slot boundary of every running PAN holds now, in ms (R161). -/
def State.horizon (s : State) : Nat :=
  let ends := ((List.range 4).filter (fun p => (nth s.helm.pans p).running)).map (fun p =>
    s.cellStart p (s.getN (Obj.PN_ASN p) + s.reachSlots p + 1))
  match ends with
  | [] => 0
  | e :: l => (l.foldl min e - s.time) / msT

/-- BE and the SHARED cells still to skip of a neighbour (R181). -/
def State.beOf (s : State) (node pan : Nat) : Nat × Nat :=
  ((s.helm.backoff.find? (fun e => e.1 == node)).map (·.2)).getD (s.getN (Obj.PN_MIN_BE pan), 0)

def State.setBe (s : State) (node be skip : Nat) : State :=
  { s with helm := { s.helm with backoff := (node, be, skip) :: s.helm.backoff.filter (fun e => e.1 != node) } }

/-- Add a frame to those due. -/
def State.addDue (s : State) (d : Due) : State := { s with helm := { s.helm with due := s.helm.due ++ [d] } }

/-- An unacknowledged attempt in a SHARED cell: BE rises, 0 to 2^BE − 1 cells are skipped by a free draw, and the frame
waits for another cell while it has attempts left (R181). -/
def State.sharedMiss (s : State) (w : AckWait) : State :=
  let b := s.beOf w.node w.pan
  let be := min (s.getN (Obj.PN_MAX_BE w.pan)) (b.1 + 1)
  let r := s.fresh
  let s := r.2.setBe w.node be (r.1 % 2 ^ be)
  let tries := w.tries + 1
  if tries < min 8 (1 + s.getN (Obj.PN_MAX_RETRIES w.pan)) then
    s.addDue { kind := 0, ref := w.ref, node := w.node, pan := w.pan, cls := w.cls, promise := 0, air := w.air, ackReq := true,
               req := 0, sf := 0, cell := noCell, asn := 0, chanOff := 0, port := 2, start := 0, shared := true, tries := tries,
               mseq := w.mseq }
  else s

/-- A SHARED-cell frame that is turned away waits for the next one (R167, R181). -/
def AirFrame.again (f : AirFrame) : Due :=
  { kind := 0, ref := f.ref, node := f.node, pan := f.pan, cls := f.cls, promise := 0, air := f.air, ackReq := f.ackReq,
    req := 0, sf := 0, cell := noCell, asn := 0, chanOff := 0, port := 2, start := 0, shared := true, tries := f.tries, mseq := f.mseq }

/-- Centre and bandwidth of the channel of a due frame (R154); the spec states no channel offset for an assertion beacon
(log 16). -/
def State.dueFreq' (s : State) (d : Due) : Option (Nat × Nat) :=
  s.channel (s.getN (Obj.PN_BAND d.pan)) (s.hop d.pan d.asn (if d.kind = 3 then Config.assertOffset d.asn else d.chanOff))

/-- Half-width L of the listen window of a cell (R172). -/
def State.listenHalf (s : State) (c : Cell) (t : Tick) : Nat :=
  if c.node = 0x3FFFF then s.lmax c.sf
  else
    let n := s.node? c.node
    if n.elim false (fun n => n.state == .drifted) then s.wd c.sf else s.leeway n c.sf t

/-- The listen windows of a band that overlap an interval: PAN, cell number, ASN, the cell. -/
def State.listenWins (s : State) (b : Nat) (t0 t1 : Tick) : List (Nat × Nat × Nat × Cell) :=
  (List.range 4).flatMap (fun pan =>
    if s.getN (Obj.PN_BAND pan) = b ∧ (nth s.helm.pans pan).running then
      let a0 := s.asnAt pan t0
      let n := s.asnAt pan t1 - a0
      (List.range (n + 1)).flatMap (fun i =>
        ((s.chosenCells pan (a0 + i)).filter (fun e => s.cellRank e (a0 + i) == 2 &&
          (let mid := s.cellStart pan (a0 + i) + (s.sf e.2.sf).txOffset * usT
           let l := s.listenHalf e.2 mid * usT
           decide (mid ≤ t1 + l ∧ t0 ≤ mid + l)))).map (fun e => (pan, e.1, a0 + i, e.2)))
    else [])

/-- Whether carriers `cars`, each with its port, blank the listen window of a cell: every window that hears its channel is on a port they
blank whole, or near a carrier (R108, R165). -/
def State.coversWin (s : State) (b : Nat) (cars : List (Nat × Nat)) (w : Nat × Nat × Nat × Cell) : Bool :=
  let n := s.hop w.1 w.2.2.1 w.2.2.2.chanOff
  ((bandWins b).filter (fun x => s.winCovers x n)).all (fun x => cars.any (fun c => (s.blankPorts c.1).contains (winPort x) ||
    near2M (s.winCentre x (n - s.getN (Obj.WW_CHAN0_NOW x))) c.2))

/-- The listen windows in [t0, t1] that carriers blank. -/
def State.winsBlanked (s : State) (b : Nat) (cars : List (Nat × Nat)) (t0 t1 : Tick) : List (Nat × Nat × Nat × Cell) :=
  (s.listenWins b t0 t1).filter (s.coversWin b cars)

/-! ## Blanking (R165) -/

/-- Whether a group on `port` with carriers at `freqs` would drop a reception past its SFD that has no copy continuing where neither
it nor another group blanks, `others` their ports and carriers; the demodulators in `ending` finish before the blanking. -/
def State.wouldDrop (s : State) (others : List (Nat × Nat)) (port : Nat) (freqs : List Nat) (ending : List Nat) : Bool :=
  let spared := fun (q : Recep) => !s.blankedBy port freqs q && !others.any (fun o => s.blankedBy o.1 [o.2] q)
  s.rx.recs.any (fun r => r.sfd.isSome && !ending.contains r.demod && s.blankedBy port freqs r &&
    !s.rx.recs.any (fun q => isPair (winPort r.win) r.freq r.mode r.fireAt q && spared q))

/-- Ports and carriers of groups. -/
def blankingOf (gs : List Group) : List (Nat × Nat) := gs.flatMap (fun g => g.frames.map (fun f => (g.port, f.freq)))

/-! ## Carriers in a window (R95, R164) -/

/-- R95 for one carrier at a synthesiser frequency. -/
def carrierOk (f : Nat) (c : Nat × Nat) : Bool :=
  decide (300000 ≤ ((c.1 : Int) - f).natAbs ∧ ((c.1 : Int) - f).natAbs ≤ 20000000 ∧
    2 * ((c.1 : Int) - f).natAbs + c.2 ≤ 40000000)

/-- The carrier nearest to a frequency. -/
def nearestTo (m : Nat) (cs : List Nat) : Nat :=
  cs.foldl (fun (b c : Nat) => if ((c : Int) - (m : Int)).natAbs < ((b : Int) - (m : Int)).natAbs then c else b) (cs.headD m)

/-- REFCLK in Hz by CLKMODE (R430). -/
def refHz (mode : Nat) : Nat := [40000000, 38400000, 10000000, 25000000].getD mode 40000000

/-- The multiple of the synthesiser's step, REFCLK / 2^24, nearest to a frequency, in whole Hz (03, R164). -/
def synthStep (mode f : Nat) : Nat := (2 * f * 2 ^ 24 + refHz mode) / (2 * refHz mode) * refHz mode / 2 ^ 24

/-- The synthesiser frequency of a group (R164); none when R95 cannot hold. -/
def groupFreq (mode : Nat) (cs : List (Nat × Nat)) : Option Nat :=
  let fs := cs.map (·.1)
  let mid := synthStep mode ((fs.foldl min (fs.headD 0) + fs.foldl max 0) / 2)
  let n := nearestTo mid fs
  let ok := fun (f : Nat) => cs.all (carrierOk f)
  if 300000 ≤ ((n : Int) - mid).natAbs then (if ok mid then some mid else none)
  else
    let away := if n < mid then mid + 500000 else mid - 500000
    let toward := if n < mid then mid - 500000 else mid + 500000
    if ok away then some away else if ok toward then some toward else none

/-- The carriers of a group. -/
def Group.carriers (g : Group) : List (Nat × Nat) := g.frames.map (fun f => (f.freq, f.bw))

/-! ## Ports and chains (R94, R163) -/

/-- A port that may transmit: not SEVERE, nor treated so by the safe mode of R433, with a chain allowed on it. -/
def State.portServes (s : State) (p : Nat) : Bool :=
  s.getN (Obj.PP_MATCH_STATE p) != 2 && !bit (s.getN Obj.TRIM_STATUS) 4 && !(s.chainsOf p).isEmpty

/-- The port of a frame by its cell's PORT field (R163, R221); none for PORT_INHIBITED. -/
def State.pickPort (s : State) (b : Nat) (pref : Nat) (node : Nat) : Option Nat :=
  let p := if pref = 0 then 2 * b else if pref = 1 then 2 * b + 1 else s.heardPort b node
  if s.portServes p then some p else if s.portServes (otherPort p) then some (otherPort p) else none

/-- An inserted quiet slot overlaps [t, te]. -/
def State.quietOver (s : State) (q : Quiet) (t te : Tick) : Bool :=
  decide (s.cellStart q.pan q.asn < te ∧ t < s.cellStart q.pan (q.asn + 1))
/-- An inserted quiet slot holds chain `c`, or port `p`, in [t, te] (R166). -/
def State.quietChain (s : State) (c : Nat) (t te : Tick) : Bool :=
  s.helm.quiet.any (fun q => q.chain == c && s.quietOver q t te)
def State.quietPort (s : State) (p : Nat) (t te : Tick) : Bool :=
  s.helm.quiet.any (fun q => q.kind == 1 && q.port == p && s.quietOver q t te)

/-- Carriers on air at one time, at most, over a set of air intervals (R96). -/
def peak (l : List (Nat × Nat)) : Nat :=
  (l.map (fun x => (l.filter (fun y => decide (y.1 ≤ x.1 ∧ x.1 < y.2))).length)).foldl max 0

/-- When the frames of a group are on air. -/
def Group.spans (g : Group) : List (Tick × Tick) :=
  g.frames.map (fun f => (g.start + f.start * usT, g.start + (f.start + f.air) * usT))

/-- The groups of every chain, on air or planned. -/
def State.groups (s : State) : List Group := s.fe.chains.filterMap (·.group) ++ s.helm.plans

/-- A group overlaps [t, te], with 30 µs for the tail of one and the lead of the other (R114). -/
def Group.over (g : Group) (t te : Tick) : Bool :=
  decide (g.start < te + 30 * usT ∧ t < g.start + (g.length + 30) * usT)

/-- Acknowledgements assigned to a chain that overlap an interval (R164). -/
def State.acksIn (s : State) (c : Nat) (t te : Tick) : List AckPlan :=
  s.helm.acks.filter (fun a => a.chain == c && decide (a.start < te ∧ t < a.start + a.air * usT))

/-- A carrier of the schedule on one chain: its air interval and its requested index. -/
structure Carrier where
  start : Tick
  stop : Tick
  req : Nat
deriving DecidableEq, Repr, Inhabited

/-- The requested index of a frame for a node on chain `c`: Helm supplies it from the node's record, capped at CC_MAX_INDEX (R99). -/
def State.reqIndex (s : State) (c node : Nat) : Nat := min (s.getN (Obj.CC_MAX_INDEX c)) (Config.requestedIndex node)

/-- The carriers of a group. -/
def State.ownCarriers (s : State) (g : Group) : List Carrier :=
  g.frames.map (fun f => { start := g.start + f.start * usT, stop := g.start + (f.start + f.air) * usT,
                           req := min f.req (s.getN (Obj.CC_MAX_INDEX g.chain)) })

/-- What else the schedule has for the chain of a group: groups planned there and acknowledgements assigned to it. -/
def State.laterCarriers (s : State) (g : Group) : List Carrier :=
  (s.helm.plans.filter (fun x => x.chain == g.chain && x != g)).flatMap s.ownCarriers ++
    (s.helm.acks.filter (fun a => a.chain == g.chain)).map (fun a =>
      { start := a.start, stop := a.start + a.air * usT, req := s.reqIndex g.chain a.node })

/-- Two carriers belong to one group: they overlap, or no tail and lead of R114 fit between them. -/
def Carrier.meets (a b : Carrier) : Bool := decide (a.start < b.stop + 30 * usT ∧ b.start < a.stop + 30 * usT)

/-- The carriers that belong with `mine`, directly or through other frames (R96). -/
def joined : Nat → List Carrier → List Carrier → List Carrier
  | 0, mine, _ => mine
  | n + 1, mine, rest =>
    let hit := rest.filter (fun x => mine.any x.meets)
    if hit = [] then mine else joined n (mine ++ hit) (rest.filter (fun x => !mine.any x.meets))

/-- The whole transmission group that a group starts, as the schedule has it (R96). -/
def State.wholeGroup (s : State) (g : Group) : List Carrier :=
  let later := s.laterCarriers g
  joined later.length (s.ownCarriers g) later

/-- N_PLAN of a group (R96, R164): the most carriers on air at once during it, CC_CARRIER_LIMIT at most. -/
def State.nPlan (s : State) (g : Group) : Nat :=
  min (s.getN (Obj.CC_CARRIER_LIMIT g.chain)) (peak ((s.wholeGroup g).map (fun x => (x.start, x.stop))))

/-- max(req) of a group (R99). -/
def State.topReq (s : State) (g : Group) : Nat := ((s.wholeGroup g).map (·.req)).foldl max 0

/-- When chain `c` has a carrier on air by the groups `gs` and by the acknowledgements assigned to it. -/
def State.chainSpans (s : State) (c : Nat) (gs : List Group) : List (Tick × Tick) :=
  (gs.filter (fun g => g.chain == c)).flatMap (·.spans) ++
    ((s.helm.acks.filter (fun a => a.chain == c)).map (fun a => (a.start, a.start + a.air * usT)))

/-- The chain for a carrier on port `p` in [t, te], or the reason there is none: the order of R163. Groups of another instant that
overlap it fix the chain's port and frequency (R96); a port is driven by one chain at a time (R94). -/
def State.pickChain (s : State) (gs : List Group) (p : Nat) (t te : Tick) (car : Nat × Nat) : Except Nat Nat :=
  let cs := s.chainsOf p
  let free := cs.filter (fun c => !s.quietChain c t te)
  let of := fun (c : Nat) => gs.find? (fun g => g.chain == c)
  let before := fun (c : Nat) => s.groups.filter (fun g => g.chain == c && g.over t te)
  let cars := fun (c : Nat) => ((of c).elim [] (·.carriers)) ++ [car]
  let full := fun (c : Nat) => decide (s.getN (Obj.CC_CARRIER_LIMIT c) < peak (s.chainSpans c (s.groups ++ gs) ++ [(t, te)]))
  let usable := fun (c : Nat) => !full c && (before c ++ (of c).toList).all (fun g => g.port == p) &&
    !(s.groups ++ gs).any (fun g => g.port == p && g.chain != c && g.over t te) &&
    (if before c = [] then (groupFreq s.sx.clkMode (cars c)).isSome
     else (before c).all (fun g => (cars c).all (carrierOk g.freq)))
  let ok := free.filter usable
  let locked := fun (c : Nat) => s.getN (Obj.CC_SYNTH_STATE c) == 2 && (cars c).all (carrierOk (s.getN (Obj.CC_SYNTH_FREQ c)))
  match ok.find? locked with
  | some c => .ok c
  | none =>
    match ok.find? (fun c => (of c).isNone && (before c).isEmpty) with
    | some c => .ok c
    | none =>
      match ok.head? with
      | some c => .ok c
      | none =>
        if free = [] ∧ cs ≠ [] then .error 10
        else if free.any full then .error 4 else .error 5

/-- The synthesiser frequency of a group planned at the freeze: that of R164, or the one its chain holds for the groups it joins. -/
def State.planFreq (s : State) (g : Group) : Nat :=
  match s.groups.find? (fun x => x.chain == g.chain && x.over g.start (g.start + g.length * usT)) with
  | some x => x.freq
  | none => (groupFreq s.sx.clkMode g.carriers).getD 0

/-! ## The tests of the freeze (R163, R180, R184, R189) -/

/-- What a due frame needs of its cell (R180). The spec gives no test for a beacon, which expects no acknowledgement: its air time
alone, with no leeway (DESIGN CHOICE, log 18). -/
def State.dueNeed (s : State) (d : Due) (t : Tick) : Nat :=
  if d.kind = 0 then s.needUs d.pan d.air d.ackReq (s.leeway (s.node? d.node) d.sf t) else d.air

/-- The class a due frame is charged and ranked as: beacons as COMMAND, assertion beacons as ALARM (R188, R327). -/
def Due.charge (d : Due) : Nat := if d.kind = 2 then 1 else if d.kind = 3 then 0 else d.cls

/-- The order of R163: assertion beacons (R327), ALARM, beacons, COMMAND, BULK, BACKGROUND. -/
def Due.order (d : Due) : Nat :=
  if d.kind = 3 then 0 else if d.kind = 2 then 2 else if d.cls = 0 then 1 else d.cls + 2

def Due.before (a b : Due) : Bool :=
  decide (a.order < b.order ∨ (a.order = b.order ∧ (a.promise < b.promise ∨ (a.promise = b.promise ∧ a.node < b.node))))

def dueInsert (d : Due) : List Due → List Due
  | [] => [d]
  | h :: t => if d.before h then d :: h :: t else h :: dueInsert d t

/-- Member B keeps the SFD instants of assertion beacons clear for 64 slots (R327). -/
def State.guardsAssertion (s : State) (b : Nat) (t te : Tick) : Bool :=
  s.getN Obj.CS_PAIRSEL == 2 && s.getN Obj.CS_PARTNER_STATE == 0xFF && (List.range 4).any (fun pan =>
    s.getN (Obj.PN_BAND pan) == b &&
    (let f := ((List.range 64).find? (fun f => s.sfOn f && (s.sf f).pan == pan)).getD 0
     (List.range (s.asnAt pan te - s.asnAt pan t + 1)).any (fun i =>
      (nth s.helm.pans pan).asserts (s.asnAt pan t + i) &&
      let at' := s.cellStart pan (s.asnAt pan t + i) + ((s.sf f).txOffset + s.preUs pan (s.getN (Obj.PN_TX_MODE pan))) * usT
      decide (t ≤ at' + 20 * usT ∧ at' ≤ te + 10 * usT))))

/-- The first test a due frame fails at the freeze, or its place: port, chain, channel. DUTY_EXHAUSTED is told apart by
the sub-band it names. -/
def State.placeDue (s : State) (gs : List Group) (d : Due) (t : Tick) (ending : List Nat) :
    Except (Nat × Option (Nat × Int)) (Nat × Nat × Nat × Nat) :=
  let b := s.getN (Obj.PN_BAND d.pan)
  let te := t + d.air * usT
  if d.kind = 0 ∧ (s.node? d.node).elim false (fun n => n.state == .drifted || n.state == .lost) then .error (11, none)
  else if s.cellStart d.pan (d.asn + 1) < t + s.dueNeed d t * usT then .error (1, none)
  else
    match s.dueFreq' d with
    | none => .error (5, none)
    | some (f, bw) =>
      match s.dutyFail f bw (s.countAt t) (d.air + 4) d.charge (some (d.ref, instKey d.cell d.asn)) with
      | some e => .error (2, some e)
      | none =>
        match s.pickPort b d.port d.node with
        | none => .error (7, none)
        | some p =>
          if s.wouldDrop (blankingOf (s.groups ++ gs)) p [f] ending then .error (8, none)
          else if (s.winsBlanked b ((p, f) :: blankingOf gs) (t - 20 * usT) (te + 10 * usT)).any (·.2.2.2.rxProtect) then
            .error (9, none)
          else if s.quietPort p t te ∨ s.guardsAssertion b t te then .error (10, none)
          else
            match s.pickChain gs p t te (f, bw) with
            | .error r => .error (r, none)
            | .ok c =>
              let req := s.reqIndex c d.node
              let top := (gs.filter (fun g => g.chain == c)).foldl (fun m g => max m ((g.frames.map (·.req)).foldl max 0)) 0
              if req + 60 < top then .error (6, none) else .ok (p, c, f, bw)

/-- The CCM* nonce of a frame the device sends in slot `asn`: its own EUI-64, then the ASN (R176, R307). -/
def State.nonceOf (s : State) (asn : Nat) : Octets := s.getO Obj.DEVICE_EUI64 ++ be 5 asn

/-- Source address and protection of a frame of PAN `pan` in slot `asn`: the member's own PN_SHORT_ADDR, of an assertion beacon its
EUI-64. Beacons carry no security (R178, R186, R307, R327). -/
def State.guardOf (s : State) (kind pan asn : Nat) : Guard :=
  let secured := decide (kind < 2)
  { src := if kind = 3 then .long (num (s.getO Obj.DEVICE_EUI64)) else .short (s.getN (Obj.PN_SHORT_ADDR pan)), level := if secured then s.getN (Obj.PN_SEC_LEVEL pan) else 0,
    nonce := if secured then s.nonceOf asn else [] }

/-- The frame on air of a due frame. -/
def State.airOf (s : State) (d : Due) (c f bw : Nat) : AirFrame :=
  { kind := d.kind, ref := d.ref, node := d.node, pan := d.pan, cls := d.charge,
    req := s.reqIndex c d.node, freq := f, bw := bw, start := 0, air := d.air,
    ackReq := d.kind == 0 && d.ackReq, sf := d.sf, cell := d.cell, asn := d.asn, shared := d.shared, tries := d.tries,
    ack := none, guard := s.guardOf d.kind d.pan d.asn, mseq := d.mseq }

/-- Add a carrier to the group of its chain. -/
def addCarrier (gs : List Group) (c p : Nat) (t : Tick) (x : AirFrame) : List Group :=
  if gs.any (fun g => g.chain == c) then gs.map (fun g => if g.chain = c then { g with frames := g.frames ++ [x] } else g)
  else gs ++ [{ chain := c, port := p, start := t, nplan := 1, freq := 0, entry := 0, top := 0, frames := [x] }]

/-- A due frame that fails at the freeze: a beacon is skipped, data is deferred with its reason (R167, R186). A frame of a
SHARED cell waits for another one (R181). -/
def State.deferDue (s : State) (d : Due) (r : Nat) : State :=
  if d.kind ≠ 0 then s.bump Obj.BEACONS_SKIPPED
  else if d.shared then
    let s := s.bump (Obj.DEFER_BY_REASON (r - 1))
    { s with helm := { s.helm with due := s.helm.due ++ [{ d with cell := noCell }] } }
  else s.deferral d.ref d.cell d.asn r

/-! ## Acknowledgements (R164, R179) -/

/-- The frequency of a group of acknowledgements alone: that of R164 for every one assigned to the chain that overlaps it. -/
def State.ackFreq (s : State) (a : AckPlan) : Option Nat :=
  groupFreq s.sx.clkMode ((a.freq, a.bw) ::
    ((s.acksIn a.chain a.start (a.start + a.air * usT)).filter (fun x => x != a)).map (fun x => (x.freq, x.bw)))

/-- Chain `c` can carry an acknowledgement on port `q` in [t, te]: in the groups it holds there, or LOCKED for it in time. -/
def State.ackFits (s : State) (q c : Nat) (t te : Tick) (car : Nat × Nat) : Bool :=
  let mine := s.groups.filter (fun g => g.chain == c && g.over t te)
  let lim := ((s.chain c).group.filter (fun g => g.over t te)).elim (s.getN (Obj.CC_CARRIER_LIMIT c)) (·.nplan)
  let own := groupFreq s.sx.clkMode (car :: (s.acksIn c t te).map (fun a => (a.freq, a.bw)))
  !s.quietChain c t te && s.mayDrive c q && mine.all (fun g => g.port == q && carrierOk g.freq car) &&
    !s.groups.any (fun g => g.port == q && g.chain != c && g.over t te) &&
    decide (peak (s.chainSpans c s.groups ++ [(t, te)]) ≤ lim) &&
    (!mine.isEmpty || (own.isSome &&
      ((s.getN (Obj.CC_SYNTH_STATE c) == 2 && own == some (s.getN (Obj.CC_SYNTH_FREQ c))) ||
        ((s.chain c).group.elim true (fun g => decide (g.start + (g.length + 84) * usT ≤ t)) &&
          decide (s.timeAt (s.chainReady c) + (20 * usT : Nat) ≤ (t : Int))))))

/-- The chain and port that can carry an acknowledgement: on the kept copy's port, or the other port of the band. In a quiet slot it
goes on another chain of its own port or is withheld (R166). -/
def State.ackPlace (s : State) (p : Nat) (t te : Tick) (car : Nat × Nat) : Option (Nat × Nat) :=
  let quiet := s.quietPort p t te || (s.chainsOf p).any (fun c => s.quietChain c t te)
  (if quiet then [p] else [p, otherPort p]).findSome? (fun q =>
    if s.portServes q && !s.quietPort q t te then ((s.chainsOf q).find? (fun c => s.ackFits q c t te car)).map (fun c => (c, q))
    else none)

/-- The listen windows that the groups blank are lost for the slot, each counted once (R165). -/
def State.countBlanked (s : State) (b : Nat) (gs : List Group) : State :=
  gs.foldl (fun s g =>
    (s.winsBlanked b (blankingOf gs) (g.start - 20 * usT) (g.start + (g.length + 10) * usT)).foldl (fun s w =>
      if s.helm.blankedWin.contains (w.2.1, w.2.2.1) then s
      else ({ s with helm := { s.helm with blankedWin := (w.2.1, w.2.2.1) :: s.helm.blankedWin } }).bump Obj.CELLS_BLANKED) s) s

/-- What the beacon of a frame carries (R186). -/
def State.beaconOf (s : State) (f : AirFrame) : Beacon :=
  { src := f.guard.src, asn := f.asn, join := 0, txOffset := (s.sf f.sf).txOffset, ackDelay := s.getN (Obj.PN_ACK_DELAY f.pan),
    slot := s.getN (Obj.PN_SLOT_DURATION f.pan), hop := (s.getO (Obj.PN_HOP_SEQ f.pan)).take (2 * s.getN (Obj.PN_HOP_LEN f.pan)),
    frames := ((List.range 64).filter (fun i => s.sfOn i && (s.sf i).pan == f.pan && s.getB (Obj.SS_IN_EB i))).map (fun i =>
      (i, (s.sf i).length, (s.helm.cells.filter (fun e => e.2.valid && e.2.sf == i && (e.2.shared || e.2.advertise))).map (·.2))) }

end Sys2Proof.Machine
end

