-- ==== Sys2Proof/Machine/SextantOps.lean ====
section
/-! DEFINITION. Operations of Sextant and the Chronometer that several chapters use (spec 10): rate changes and steps
(R334), the states (R338), the servo (R339), the PTP port states (R341), the calendar (R351, R352, R356, R357). -/
namespace Sys2Proof.Machine

def State.updSx (s : State) (f : Sextant → Sextant) : State := { s with sx := f s.sx }

/-! ## OFFSET, BASE and RATE (R334) -/

/-- The mirrors in PD0 AON follow every change while the PLL runs (R346). -/
def State.mirrorSx (s : State) : State :=
  let r := s.getI Obj.SX_RATE
  s.updSx (fun x => { x with pair := { x.pair with offset := x.offset, base := x.base, rate := r } })

/-- The largest RATE that SX_RATE_LIMIT allows, in 2^-40. -/
def State.rateMax (s : State) : Int := (s.getN Obj.SX_RATE_LIMIT * 2 ^ 40 / 1000000000 : Nat)

/-- A rate change: time is continuous and the slope changes at this counter value. -/
def State.setRate (s : State) (r : Int) : State :=
  let t := s.timeAt s.now
  ((s.updSx (fun x => { x with offset := t, base := s.now })).setI Obj.SX_RATE (clampI (-s.rateMax) s.rateMax r)).mirrorSx

/-- An integer division rounded to nearest, halves up. -/
def roundDiv (a b : Int) : Int := (2 * a + b) / (2 * b)

/-- RATE of a correction in 2^-16 ppb (R339). -/
def rateOf (r : Int) : Int := roundDiv (r * 2 ^ 24) 1000000000

/-- The correction in 2^-16 ppb of a RATE (R339). -/
def freqOf (rate : Int) : Int := roundDiv (rate * 1000000000) (2 ^ 24)

/-- A Sextant time moved by a step. -/
def moveT (d : Int) (t : Tick) : Tick := ((t : Int) + d).toNat
def moveInst (d : Int) (i : Inst) : Inst := { i with start := moveT d i.start, cellEnd := moveT d i.cellEnd }

/-- Helm absorbs a step (R152): the epochs move with it, so every slot keeps its counter value, and so does every instant
that is bound to a slot. A SCHEDULE_COMMIT that runs reports the new instant of its last switch (R64, R195). -/
def State.moveSlots (s : State) (d : Int) : State :=
  let s := (List.range 4).foldl (fun s p =>
    s.setQ (Obj.PN_EPOCH p) (t64 ((s.epoch p + d).emod (2 ^ 48 * secT : Nat)).toNat)) s
  let h := s.helm
  let h := { h with
    due := h.due.map (fun x => { x with start := moveT d x.start, promise := moveT d x.promise }),
    plans := h.plans.map (fun g => { g with start := moveT d g.start }),
    acks := h.acks.map (fun a => { a with start := moveT d a.start }),
    waits := h.waits.map (fun w => { w with opens := moveT d w.opens, latestSfd := moveT d w.latestSfd }),
    commit := h.commit.map (fun c => { c with validated := moveT d c.validated }) }
  let chains := s.fe.chains.map (fun c => { c with group := c.group.map (fun g => { g with start := moveT d g.start }) })
  let frames := s.pilot.frames.map (fun f =>
    { f with insts := f.insts.map (moveInst d), promise := moveT d f.promise })
  let nodes := s.alm.nodes.map (fun n => { n with lastSync := n.lastSync.map (moveT d), resync := n.resync.map (moveT d) })
  let cs := s.cs
  let cs := { cs with
    plans := cs.plans.map (fun x => { x with start := moveT d x.start }),
    handover := cs.handover.map (fun x => { x with at' := moveT d x.at' }),
    aired := cs.aired.map (fun x => (x.1, moveT d x.2.1, moveT d x.2.2)) }
  let s := { s with helm := h, fe := { s.fe with chains := chains }, pilot := { s.pilot with frames := frames },
                    alm := { s.alm with nodes := nodes }, cs := cs }
  match s.helm.commit with
  | some c => if s.procRunning Obj.SCHEDULE_COMMIT then s.procEst Obj.SCHEDULE_COMMIT (s.commitEnd c) else s
  | none => s

/-- ASN_REBASE, once for each PAN that is enabled (R152). -/
def State.rebase (s : State) (ns : Int) : State :=
  (List.range 4).foldl (fun s p =>
    if s.getB (Obj.PN_ENABLE p) then s.raiseOn 0x4007 2 (0x4000 + p) (be 1 p ++ beI 8 ns) else s) s

/-- A step by `d` (2^-16 ns), causes 0 servo and 1 SX_SET: counted, TIME_STEP, absorbed by Helm (R152) and, truncated to
whole seconds, by ALMANAC_SHIFT (R208). -/
def State.stepTime (s : State) (d : Int) (cause : Nat) : State :=
  let t := s.timeAt s.now
  let ns := d / 65536
  let last := s.sx.ppsLast.map (moveT d)
  let s := s.updSx (fun x => { x with offset := t + d, base := s.now, ppsLast := last })
  let s := ((s.mirrorSx).bump Obj.SX_STEPS).setI Obj.SX_LAST_STEP ns
  let s := s.raiseOn 0x7202 2 0x8000 (beI 8 ns ++ be 8 s.now ++ be 1 cause)
  let s := (s.moveSlots d).rebase ns
  s.setQ Obj.ALMANAC_SHIFT (.int (s.getI Obj.ALMANAC_SHIFT + d.tdiv (secT : Int)))

/-! ## The states (R338, R344) -/

/-- PPS_OUT may be high: enabled and, with SX_PPS_OUT_GATE, LOCKED (R343). -/
def State.ppsMay (s : State) : Bool :=
  s.getB Obj.SX_PPS_OUT_ENABLE && (!s.getB Obj.SX_PPS_OUT_GATE || s.getN Obj.SX_STATE == 2)

/-- PPS_OUT is held low where it may not be high. -/
def State.ppsHold (s : State) : State := if s.ppsMay then s else s.updSx (fun x => { x with ppsOut := false })

/-- Sextant enters a state: 0 FREE, 1 ACQUIRING, 2 LOCKED, 3 RECKONING (FREE with SX_SOURCE 0); `unc` is the uncertainty
it enters RECKONING or FREE with. RECKONING holds f, and the source has to qualify again. -/
def State.sxGo (s : State) (want cause unc : Nat) : State :=
  let st := if want = 3 ∧ s.getN Obj.SX_SOURCE = 0 then 0 else want
  let old := s.getN Obj.SX_STATE
  let held := s.timeUnc
  let s := s.setN Obj.SX_STATE st
  let s : State :=
    if st = 3 then
      let s := (s.setRate (rateOf s.sx.f)).set Obj.SX_RECKON_SINCE (t64 s.time)
      let s := s.updSx (fun x => { x with u0 := unc, since := s.now, recent := [], uncHeld := false, syncs := 0, ppsEdges := 0 })
      [0, 1].foldl (fun s p => if s.getN (Obj.TT_PTP_STATE p) = 9 then s.setN (Obj.TT_PTP_STATE p) 8 else s) s
    else if st = 0 then
      s.updSx (fun x => { x with u0 := unc, since := s.now, recent := [], uncHeld := false })
    else if st = 1 then
      if old = 2 then s.updSx (fun x => { x with recent := [], uncHeld := true, u0 := held })
      else s.updSx (fun x => { x with recent := [], uncHeld := false })
    else s.setB Obj.SX_TIME_VALID true
  let s := s.updSx (fun x => { x with lockRun := 0, lossRun := 0 })
  let s := s.ppsHold
  if old = st then s
  else s.raiseOn 0x7201 (if st = 3 then 2 else 0) 0x8000 (be 1 old ++ be 1 st ++ be 4 s.timeUnc ++ be 1 cause)

/-- The source is lost (cause 3) or its master changed (cause 4): RECKONING. -/
def State.sxLost (s : State) (cause : Nat) : State :=
  if s.getN Obj.SX_STATE = 1 ∨ s.getN Obj.SX_STATE = 2 then s.sxGo 3 cause s.timeUnc else s

/-- The source has qualified: ACQUIRING. -/
def State.sxQualified (s : State) : State :=
  if s.getN Obj.SX_STATE = 3 then s.sxGo 1 0 s.timeUnc else s

/-! ## The servo (R339) -/

/-- One measurement `o`, own time less source time in ns, at an interval of 2^`logInt` s. -/
def State.measure (s : State) (o logInt : Int) : State :=
  let st := s.getN Obj.SX_STATE
  if ¬(st = 1 ∨ st = 2) then s
  else
    let s := s.updSx (fun x => { x with recent := (o.natAbs :: x.recent).take 16 })
    let thr := s.getN Obj.SX_STEP_THRESHOLD
    if st = 1 ∧ thr ≠ 0 ∧ thr < o.natAbs then (s.stepTime (-o * 65536) 0).updSx (fun x => { x with lockRun := 0 })
    else
      let lim : Int := (s.getN Obj.SX_RATE_LIMIT * 65536 : Nat)
      let e : Int := o * (2 ^ (16 - logInt).toNat : Nat)
      let f := clampI (-lim) lim (s.sx.f - e / (2 ^ s.getN Obj.SX_KI_SHIFT : Nat))
      let r := clampI (-lim) lim (f - e / (2 ^ s.getN Obj.SX_KP_SHIFT : Nat))
      let s := s.setRate (rateOf r)
      let run := if o.natAbs ≤ s.getN Obj.SX_LOCK_NS then s.sx.lockRun + 1 else 0
      let loss := if s.getN Obj.SX_LOSS_NS < o.natAbs then s.sx.lossRun + 1 else 0
      let s := s.updSx (fun x => { x with f := f, lockRun := run, lossRun := if st = 2 then loss else 0 })
      if st = 1 ∧ 16 ≤ run then s.sxGo 2 1 0
      else if st = 2 ∧ 4 ≤ loss then s.sxGo 1 2 0
      else s

/-! ## PTP ports (R341) -/

def State.updPtp (s : State) (p : Nat) (f : PtpPort → PtpPort) : State := s.updSx (fun x => { x with ptp := upd x.ptp p f })

/-- 2^`logInt` s in ns of COUNT. -/
def logNs (logInt : Int) : Nat := secC * 2 ^ (logInt + 16).toNat / 65536

/-- The port measured the selected master within its last 3 Sync intervals. -/
def State.ptpFresh (s : State) (p : Nat) : Bool :=
  let x := nth s.sx.ptp p
  x.lastSync.elim false (fun t => decide (s.now < t + 3 * x.syncInt))

/-- The MDI stamp of a received frame, by where its first bit stands in the interleave group (R299, R335). -/
def State.mdiRx (s : State) (p : Nat) (group : Tick) (pos : Nat) : Tick :=
  mdiInstant (s.getN (Obj.TT_TIER_NOW p)) group pos - s.getN (Obj.TT_MDI_RX_DELAY p) * nsT

/-- The MDI stamp of a frame that leaves in the interleave group whose first symbol is sent now (R299): where the first bit after its
SFD stands in the group is open, a free value. -/
def State.mdiTx (s : State) (p : Nat) : Tick × State :=
  let r := s.fresh
  let tier := s.getN (Obj.TT_TIER_NOW p)
  (mdiInstant tier s.time (r.1 % (3300 * depth tier)) + s.getN (Obj.TT_MDI_TX_DELAY p) * nsT, r.2)

/-- A path delay measurement ends, in 2^-16 ns: the half of the round trip. -/
def State.pathDelay (s : State) (p : Nat) (trip : Int) : State :=
  s.updPtp p (fun x => { x with delays := (trip / 131072).toNat :: x.delays.take 63 })

/-- The mean of the last PTP_DELAY_AVG path delay measurements of a port. -/
def State.ptpMean (s : State) (p : Nat) : Nat :=
  let l := (nth s.sx.ptp p).delays.take (s.getN Obj.PTP_DELAY_AVG)
  l.sum / max 1 l.length

/-- The port has heard no Sync for 3 Sync intervals, counted from its last one or from when it took its role. -/
def State.ptpSilent (s : State) (p : Nat) : Bool :=
  let x := nth s.sx.ptp p
  x.since.elim false (fun t => decide (t + 3 * x.syncInt ≤ s.now))

/-- The port holds the selected master no longer: with the other port PASSIVE and measuring, that port takes over at its
next measurement; otherwise the master is lost. `st` is the state the port enters. A port that lost it by no Sync holds it again only
once it hears one. -/
def State.ptpPortLoss (s : State) (p st : Nat) : State :=
  let silent := st = 4 ∧ s.ptpSilent p
  let was := s.getN (Obj.TT_PTP_STATE p)
  let q := 1 - p
  let s := (s.setN (Obj.TT_PTP_STATE p) st).updSx (fun x =>
    { x with masters := x.masters.filter (fun m => m.port != p),
             ptp := upd x.ptp p (fun y => { y with lastSync := none, asked := none, askedAt := none, since := none,
                                                   silent := decide silent }) })
  if was < 7 then s
  else
    let other := s.getN (Obj.TT_PTP_STATE q)
    if 8 ≤ other ∨ (other = 7 ∧ s.ptpFresh q) then s
    else
      let s := (s.updSx (fun x => { x with selected := none, syncs := 0 })).setN Obj.PTP_MASTER_PORT 0xFF
      let s := s.set Obj.PTP_MASTER_ID (.octets (List.replicate 10 0))
      let s : State := if other = 7 then s.setN (Obj.TT_PTP_STATE q) 4 else s
      if s.getN Obj.SX_SOURCE = 1 then s.sxLost 3 else s

/-- A trunk port enters or leaves UP. -/
def State.ptpLink (s : State) (p : Nat) (up : Bool) : State :=
  if up then (if s.getN (Obj.TT_PTP_STATE p) = 3 then s.setN (Obj.TT_PTP_STATE p) 4 else s)
  else if s.getN (Obj.TT_PTP_STATE p) = 3 then s
  else s.ptpPortLoss p 3

/-- A Pdelay_Req is answered on a port that measures by peers (R340): a Pdelay_Resp of one or two steps with the two stamps of the
turnaround, in the domain and over the transport of the device. -/
def State.pdelayAnswer (s : State) (p : Nat) (t2 : Tick) : State :=
  if s.getN (Obj.TT_PTP_DELAY_MECH p) ≠ 1 then s
  else
    let t3 := s.mdiTx p
    t3.2.emit (.line 7 p [b2n (s.getB Obj.PTP_PDELAY_TWO_STEP), s.getN Obj.PTP_TRANSPORT, s.getN Obj.PTP_DOMAIN, t2, t3.1])

/-- A PTP message that arrives in a trunk frame, stamped `t` at the MDI (R335, R340). -/
def State.ptpRx (s : State) (p : Nat) (m : PtpMsg) (t : Tick) : State :=
  match m with
  | .none | .ignored => s
  | .event => s.bump (Obj.TT_PTP_RX_EVENT p)
  | .dropped => s.bump (Obj.TT_PTP_DROPPED p)
  | .pdelayReq => (s.bump (Obj.TT_PTP_RX_EVENT p)).pdelayAnswer p t
  | .delayResp t4 log =>
    match (nth s.sx.ptp p).asked with
    | none => s
    | some t3 =>
      if s.getN (Obj.TT_PTP_DELAY_MECH p) = 1 ∨ s.getN (Obj.TT_PTP_STATE p) < 7 then s
      else (s.pathDelay p ((nth s.sx.ptp p).diff + t4 - t3)).updPtp p (fun x => { x with asked := none, askLog := log })
  | .pdelayResp turn =>
    let s := s.bump (Obj.TT_PTP_RX_EVENT p)
    match (nth s.sx.ptp p).asked with
    | none => s
    | some t1 =>
      if s.getN (Obj.TT_PTP_DELAY_MECH p) ≠ 1 then s
      else
        let s := (s.pathDelay p ((t : Int) - t1 - turn)).updPtp p (fun x => { x with asked := none })
        s.setN (Obj.TT_PTP_PEER_DELAY p) (min 0xFFFFFFFF (s.ptpMean p))

/-! ## The calendar (R351, R352, R356) -/

def leap (y : Nat) : Bool := y % 4 == 0 && (y % 100 != 0 || y % 400 == 0)
def yearDays (y : Nat) : Nat := if leap y then 366 else 365
def monthDays (y m : Nat) : Nat :=
  if m = 2 then (if leap y then 29 else 28) else if m = 4 ∨ m = 6 ∨ m = 9 ∨ m = 11 then 30 else 31

/-- Days from 2000-01-01 to the first of January of a year. -/
def daysTo (y : Nat) : Nat := ((List.range (y - 2000)).map (fun i => yearDays (2000 + i))).sum

/-- Days from 2000-01-01 to a date. -/
def dayNo (y m d : Nat) : Nat := daysTo y + ((List.range (m - 1)).map (fun i => monthDays y (i + 1))).sum + (d - 1)

/-- Weekday of a day number: 2000-01-01 is a Saturday. -/
def weekdayOf (n : Nat) : Nat := (n + 5) % 7 + 1

/-- The year of a day number, and the days left in it. -/
def splitYear : Nat → Nat → Nat → Nat × Nat
  | 0, y, d => (y, d)
  | k + 1, y, d => if d < yearDays y then (y, d) else splitYear k (y + 1) (d - yearDays y)

/-- The month, and the days left in it. -/
def splitMonth : Nat → Nat → Nat → Nat → Nat × Nat
  | 0, _, m, d => (m, d)
  | k + 1, y, m, d => if d < monthDays y m then (m, d) else splitMonth k y (m + 1) (d - monthDays y m)

/-- Year, month, day, hour, minute, second and weekday of a calendar second count (R360). -/
def calFields (c : Nat) : List Nat :=
  let n := c / 86400
  let yd := splitYear 1000 2000 n
  let md := splitMonth 11 yd.1 1 yd.2
  [yd.1, md.1, md.2 + 1, c % 86400 / 3600, c % 3600 / 60, c % 60, weekdayOf n]

/-- The fields as they stand, year to weekday. -/
def State.calNow (s : State) : List Nat :=
  [Obj.CAL_YEAR, Obj.CAL_MONTH, Obj.CAL_DAY, Obj.CAL_HOUR, Obj.CAL_MINUTE, Obj.CAL_SECOND, Obj.CAL_WEEKDAY].map s.getN

/-- Fields in the CAL_SET layout (R352). -/
def calOctets (l : List Nat) : Octets := be 2 (nth l 0) ++ (l.drop 1).flatMap (be 1)

/-- Write the seven fields. -/
def State.setCal (s : State) (l : List Nat) : State :=
  ([Obj.CAL_YEAR, Obj.CAL_MONTH, Obj.CAL_DAY, Obj.CAL_HOUR, Obj.CAL_MINUTE, Obj.CAL_SECOND, Obj.CAL_WEEKDAY].zip l).foldl
    (fun s e => s.setN e.1 e.2) s

/-- A date that exists, and a weekday of 0 or of that date (R352). -/
def dateOk (l : List Nat) : Bool :=
  let y := nth l 0
  let m := nth l 1
  let d := nth l 2
  decide (2000 ≤ y ∧ y ≤ 2999 ∧ 1 ≤ m ∧ m ≤ 12 ∧ 1 ≤ d ∧ d ≤ monthDays y m ∧ nth l 3 ≤ 23 ∧ nth l 4 ≤ 59 ∧ nth l 5 ≤ 59) &&
    (nth l 6 == 0 || nth l 6 == weekdayOf (dayNo y m d))

/-- The fields of CAL_SET's octets. -/
def calParse (o : Octets) : List Nat := [fld o 0 2, fld o 2 1, fld o 3 1, fld o 4 1, fld o 5 1, fld o 6 1, fld o 7 1]

/-- The sessions' frozen copies are released (R354). -/
def State.calRelease (s : State) : State :=
  { s with mg := { s.mg with sessions := s.mg.sessions.map (fun x => { x with shadow := none }) } }

/-- CAL_CHANGED: causes 0 CAL_SET, 1 HALT release, 2 CAL_FROM_SEXTANT. -/
def State.calChanged (s : State) (cause : Nat) (old : List Nat) : State :=
  s.raiseOn 0x1404 0 0x2400 (be 1 cause ++ calOctets s.calNow ++ calOctets old)

/-- The calendar is set as a whole (R352): weekday computed where it is 0, sub-seconds and CAL_END cleared. -/
def State.calApply (s : State) (l : List Nat) (cause : Nat) : State :=
  let old := s.calNow
  let l := l.take 6 ++ [weekdayOf (dayNo (nth l 0) (nth l 1) (nth l 2))]
  let s := (((s.setCal l).setN Obj.CAL_SUBSEC 0).setB Obj.CAL_END false).updSx (fun x => { x with withheld := 0 })
  (s.calRelease).calChanged cause old

/-- The Chronometer counts: its crystal runs, and neither HALT nor the end of the calendar holds it. -/
def State.calCounts (s : State) : Bool := s.sx.calRun && !s.getB Obj.CAL_HALT && !s.getB Obj.CAL_END

/-- The alarm matches the fields (R357). -/
def State.alarmHit (s : State) : Bool :=
  let o := s.getO Obj.CAL_ALARM
  let l := s.calNow
  (fld o 0 2 == 0xFFFF || fld o 0 2 == nth l 0) &&
    (List.range 5).all (fun i => fld o (i + 2) 1 == 0xFF || fld o (i + 2) 1 == nth l (i + 1)) &&
    bit (fld o 7 1) (nth l 6 - 1)

/-- A carry into the next second, with `sub` sub-seconds: the alarm (R357), or the end of the calendar (R356). -/
def State.calSecond (s : State) (sub : Nat) : State :=
  let l := s.calNow
  let c := dayNo (nth l 0) (nth l 1) (nth l 2) * 86400 + nth l 3 * 3600 + nth l 4 * 60 + nth l 5 + 1
  if 31556995200 ≤ c then ((s.setN Obj.CAL_SUBSEC 32767).setB Obj.CAL_END true).raiseOn 0x1403 2 0x2400 []
  else
    let s := (s.setCal (calFields c)).setN Obj.CAL_SUBSEC sub
    if s.getB Obj.CAL_ALARM_ENABLE ∧ s.alarmHit then
      let s := (s.setB Obj.CAL_ALARM_FIRED true).raiseOn 0x1402 0 0x2400 (calOctets s.calNow)
      if s.getB Obj.CAL_ALARM_WAKE then s.wakeSource 3 else s
    else s

/-- CAL_OSF is set: causes 0 first power-up, 1 missing periods, 2 AON_LOST (R355). -/
def State.setOsf (s : State) (cause : Nat) : State :=
  let stopped := s.sx.oscStopped || !s.sx.pll
  let s := (s.setB Obj.CAL_OSF true).updSx (fun x => { x with oscStopped := stopped })
  s.raiseOn 0x1401 2 0x2400 (be 1 cause)

end Sys2Proof.Machine
end

