-- ==== Sys2Proof/Machine/View.lean ====
section
/-! DEFINITION. What a read of an object gives where the value follows from other state: the counts and gauges of chapters 04
to 08, the node and flow records of R193, R198, R200, R241 and R270, CAL_NOW and the list of running procedures. -/
namespace Sys2Proof.Machine

/-! ## The schedule (R159, R194) -/

/-- SCHED_DIGEST of an epoch with the slotframes and cells in force, the entries in order of cell number (R159). -/
def schedDigest (epoch : Nat) (sfs : List Slotframe) (cells : List (Nat × Cell)) : Octets :=
  let l := sfs.flatMap (fun f => be 1 (b2n f.enable) ++ be 1 f.pan ++ be 2 f.length ++ be 4 f.txOffset)
  Config.shake256 8 (be 4 epoch ++ l ++ cells.flatMap (fun e => e.2.octets))

/-- SCHED_DIGEST: that of the last commit; with none ever made, that of the slotframes and cells of a new device (R159, R193). -/
def State.digestNow (s : State) : Octets :=
  ((Store.find s.obj Obj.SCHED_DIGEST).map (·.toOctets)).getD (schedDigest (s.getN Obj.SCHED_EPOCH) noSfs [])

/-- The value in force of a staged slotframe object 0x41ss:01–04. -/
def State.sfInForce (s : State) (k : Nat) : Option Val :=
  let ix := k / 256
  let f := nth s.tableNow.1 (ix - 0x4100)
  if ix < 0x4100 ∨ 0x4140 ≤ ix then none
  else
    match k % 256 with
    | 1 => some (.bool f.enable)
    | 2 => some (.int f.pan)
    | 3 => some (.int f.length)
    | 4 => some (.int f.txOffset)
    | _ => none

/-- Staged changes: cell entries, and slotframe values that differ from those in force (R194). -/
def State.stagedCount (s : State) : Nat :=
  let keys := (List.range 64).flatMap (fun f => [Obj.SS_ENABLE f, Obj.SS_PAN f, Obj.SS_LENGTH f, Obj.SS_TX_OFFSET f])
  s.helm.staged.length + (keys.filter (fun k => s.sfInForce k != some (s.get k))).length

/-- At most 65,536 staged changes (R194). -/
def stagedMax : Nat := 65536

/-! ## Reading an object (R37, R40, R194, R234, R271) -/

/-- The value an object holds for a session: per-session values, values kept in a table, and the rest in the
dictionary. -/
def State.readVal (s : State) (sess k : Nat) : Val :=
  let x := s.session sess
  if k = Obj.SESSION_COUNT then .int s.mg.sessions.length
  else if k = Obj.SESSION_ID then .int sess
  else if k = Obj.JOURNAL_HEAD then .int s.journalHead
  else if k = Obj.JOURNAL_TAIL then .int s.journalTail
  else if k = Obj.JOURNAL_CURSOR then .int x.cursor
  else if k = Obj.CELL_NUMBER then .int x.cellNumber
  else if k = Obj.CELL_ENTRY then
    .octets (((s.helm.staged ++ s.tableNow.2).find? (fun e => e.1 == x.cellNumber)).elim (List.replicate 16 0)
      (fun e => e.2.octets))
  else if k = Obj.CELL_STAGED then .bool (s.helm.staged.any (fun e => e.1 == x.cellNumber))
  else if k = Obj.SCHED_STAGED_COUNT then .int s.stagedCount
  else if k = Obj.SCHED_DIGEST then .octets s.digestNow
  else if k = Obj.UPCOMING_HORIZON then .int s.horizon
  else if k = Obj.NODE_SELECT then .int x.nodeSelect
  else if k = Obj.NODE_FIND_EUI then .octets x.findEui
  else if k = Obj.FLOW_SELECT then .int x.flowSelect
  else if k = Obj.FLOW_CONFIG then .octets (s.flow x.flowSelect).octets
  else if k = Obj.BN_STATEMENT then .octets x.statement
  else if k = Obj.NODE_NOTE then .octets ((s.selected sess).elim [] (·.note))
  else if k = Obj.NODE_FPW then .int ((s.selected sess).elim 0 (·.fpw))
  else if k = Obj.NODE_FPH then .int ((s.selected sess).elim 0 (·.fph))
  else if k = Obj.PROC_RUNNING_COUNT then .int s.mg.running.length
  else if 0x1200 ≤ k / 256 ∧ k / 256 < 0x1208 ∧ k % 256 = 2 then .int (nth s.mg.fifos (k / 256 - 0x1200)).recs.length
  else if 0x1200 ≤ k / 256 ∧ k / 256 < 0x1208 ∧ k % 256 = 3 then .int (nth s.mg.fifos (k / 256 - 0x1200)).lost
  else if 0x1200 ≤ k / 256 ∧ k / 256 < 0x1208 ∧ k % 256 = 5 then .int (nth s.mg.fifos (k / 256 - 0x1200)).flushed
  else if 0x1200 ≤ k / 256 ∧ k / 256 < 0x1208 ∧ k % 256 = 6 then .int (nth s.mg.fifos (k / 256 - 0x1200)).nextSeq
  else if k = Obj.SEXTANT_NOW then t64 s.time
  else if k = Obj.TIME_UNC_NS then .int s.timeUnc
  else if k = Obj.SX_COUNTER then .int s.now
  else if k = Obj.SX_REF_STABILITY then .int s.refStability
  else if k = Obj.SX_REF_AGEING then .int s.refAgeing
  else if k / 256 = 0x2010 ∧ 1 ≤ k % 256 then .int (s.condCode (k % 256 - 1))
  else if k = Obj.LB_WEAR_MAX then .int s.wearMax
  else if 0xB500 ≤ k / 256 ∧ k / 256 < 0xB504 ∧ k % 256 = 2 then .int (nth s.diag.caps (k / 256 - 0xB500)).recs.length
  else if 0xB500 ≤ k / 256 ∧ k / 256 < 0xB504 ∧ k % 256 = 3 then .int (nth s.diag.caps (k / 256 - 0xB500)).lost
  else if 0xB500 ≤ k / 256 ∧ k / 256 < 0xB504 ∧ k % 256 = 5 then .int (nth s.diag.caps (k / 256 - 0xB500)).flushed
  else if 0xB500 ≤ k / 256 ∧ k / 256 < 0xB504 ∧ k % 256 = 6 then .int (nth s.diag.caps (k / 256 - 0xB500)).nextSeq
  else s.get k

/-! ## Token buckets (R247, R249) -/

/-- A token bucket after its refill: tokens in 1/65,536, the rate as a fraction of tokens per ns, the burst. -/
structure Bucket where
  tokens : Int
  num : Nat
  den : Nat
  cap : Nat
deriving DecidableEq, Repr, Inhabited

/-- Tokens after a refill over `dt` ns, held to the burst. -/
def refill (tokens : Int) (num den cap dt : Nat) : Int := min ((cap * 65536 : Nat) : Int) (tokens + ((num * 65536 * dt / den : Nat) : Int))

/-- Nanoseconds until a bucket holds `goal`. -/
def Bucket.wait (b : Bucket) (goal : Int) : Nat :=
  if goal ≤ b.tokens then 0 else cdiv ((goal - b.tokens).toNat * b.den) (max 1 (b.num * 65536))

/-- One token less would pass −B. -/
def Bucket.spent (b : Bucket) : Bool := decide (b.tokens - 65536 < -((b.cap * 65536 : Nat) : Int))

/-- 1 − B tokens: what an admission needs. -/
def Bucket.need (b : Bucket) : Int := 65536 - ((b.cap * 65536 : Nat) : Int)

/-- The bucket of a downlink flow: RATE / 1,000 packets/s, burst BURST. -/
def Flow.bucket (f : Flow) (t : Count) : Bucket :=
  { tokens := refill f.tokens f.rate (1000 * secC) f.burst (t - f.stamp), num := f.rate, den := 1000 * secC, cap := f.burst }

/-- Frames per wake and per hour of a node. -/
def State.fpw (s : State) (n : Node) : Nat := if n.fpw = 0 then s.getN Obj.PA_NODE_FPW else n.fpw
def State.fph (s : State) (n : Node) : Nat := if n.fph = 0 then s.getN Obj.PA_NODE_FPH else n.fph

/-- The hour bucket of a node: FPH / 3,600 frames/s, burst FPW. -/
def State.hourBucket (s : State) (n : Node) (t : Count) : Bucket :=
  { tokens := refill n.tokens (s.fph n) (3600 * secC) (s.fpw n) (t - n.stamp), num := s.fph n, den := 3600 * secC,
    cap := s.fpw n }

/-- Frames of a flow, queued or pending. -/
def State.flowPending (s : State) (n : Nat) : Nat :=
  (s.pilot.frames.filter (fun f => f.flow == n)).length + (s.upQueued.filter (fun f => f.flow == n)).length

/-! ## Node records (R198, R200, R241) -/

/-- The frames on the queue of a node as first hop, in order of admission. -/
def State.nodeQueue (s : State) (hop : Nat) : List Frame := s.pilot.frames.filter (fun f => f.hop == hop)

/-- Admitted frames for a node without a terminal report. -/
def State.nodePending (s : State) (i : Nat) : Nat := (s.pilot.frames.filter (fun f => f.node == i)).length

/-- The PILOT area of an extended record (R241). -/
def State.pilotOctets (s : State) (n : Node) : Octets :=
  let q := s.nodeQueue n.idx
  let tail' := fun (f : Option Frame) => f.elim 0xFFFFFFFF (fun f => Config.descriptor f.ref)
  fit 64 (be 4 (tail' q.head?) ++ be 4 (tail' q.getLast?) ++ be 2 q.length ++ be 1 n.fpw ++ be 1 (b2n n.closed) ++ be 2 n.fph
    ++ be 2 0 ++ beI 4 n.tokens ++ be 8 n.stamp ++ be 2 (s.nodePending n.idx) ++ be 2 0 ++ be 8 n.lastRef)

/-- NODE_EXT_RAW: the 256 octets of R200. -/
def State.extOctets (s : State) (n : Node) : Octets :=
  be 8 n.eui ++ be 2 n.drift ++ be 1 n.misses ++ be 1 (nodeCode n.state) ++ beI 4 n.lastOffset ++ t64Octets (n.lastSync.getD 0)
    ++ fit 8 n.lastDigest ++ be 8 n.keyId ++ be 4 n.keyGen ++ fit 12 (n.parents.flatMap (be 4)) ++ be 1 n.parents.length
    ++ be 3 0 ++ t64Octets n.joined ++ be 4 n.upFrames ++ be 4 n.downFrames ++ List.replicate 44 0 ++ s.pilotOctets n ++ fit 64 n.note

/-- NODE_LEEWAY_NOW: R172 at the present time, with Lmax of the lowest slotframe enabled for the node's PAN. -/
def State.leewayNow (s : State) (n : Node) : Nat :=
  let f := ((List.range 64).find? (fun f => (s.sf f).enable && (s.sf f).pan == n.pan)).getD 0
  s.leeway (some n) f s.time

/-! ## Flow records (R270) -/

/-- STATE of a flow: 0 disabled, 1 idle, 2 active, 3 in debt, 4 suspended. -/
def State.flowState (s : State) (f : Flow) : Nat :=
  if f.enabled = false then 0
  else if f.down ∧ f.rate = 0 then 4
  else if f.down ∧ (f.bucket s.now).tokens < 0 then 3
  else if s.flowPending f.num ≠ 0 then 2
  else 1

/-- FLOW_STATE: the 48 octets of R270. -/
def State.flowOctets (s : State) (f : Flow) : Octets :=
  let finish := fun (p : Nat) => ((s.sched p).tags.find? (fun t => t.flow == f.num)).elim 0 (·.last)
  (if f.down then beI 8 (f.bucket s.now).tokens ++ t64Octets (s.timeAt f.next).toNat else List.replicate 20 0)
    ++ be 4 (s.flowPending f.num) ++ (if f.down then List.replicate 16 0 else be 8 (finish 0) ++ be 8 (finish 1))
    ++ be 1 (s.flowState f) ++ List.replicate 7 0

/-! ## The view -/

/-- When the last frame pending will have its report (R405). -/
def State.lastPromise (s : State) : Tick := (s.pilot.frames.map (·.promise)).foldl max s.time

/-- When a calibration of chain `c` that is commanded now, or is queued, will start (R64, R104): after the group on air, a calibration
that runs and those queued ahead, and a retune's probes. -/
def State.calStartOf (s : State) (c : Nat) : Tick :=
  let x := s.chain c
  let ahead := (x.calQueue.takeWhile (fun q => q != 0)).length
  let run := if x.calRun.isSome then x.stateSince + 180 * usC else 0
  let tune := (s.retuneOn c).elim 0 (fun r => r.start + 230 * usC)
  max (x.group.elim s.time (fun g => max s.time (g.start + g.length * usT)))
    ((s.timeAt (max s.now (max run tune))).toNat + ahead * 180 * usT)

/-- I:04 of a commanded calibration that has not begun: the first of its chains to start (R64, R120). -/
def State.calEst (s : State) (cs : List Nat) : Tick :=
  (cs.map s.calStartOf).foldl min ((cs.head?.map s.calStartOf).getD s.time)

/-- I:04 of a commanded retune for which a quiet slot is inserted: the start of that slot (R64, R166). -/
def State.retuneEst (s : State) : Option Tick :=
  (s.helm.quiet.find? (fun q => q.kind == 1 && (s.port q.port).retuneReq.any (fun r => r.cause == 2))).map
    (fun q => s.cellStart q.pan q.asn)

/-- At most 38 previous generations are kept at once (R379). -/
def keptMax : Nat := 38
def State.keptNow (s : State) : Nat := (s.bn.retained.filter (fun r => decide (s.now < r.until'))).length

/-- A replacement of an ADMIT, PAIR or OSCORE key that would need a 39th kept generation waits before its PREPARE. -/
def State.keyWaits (s : State) (replace : Bool) (kind : Nat) : Bool :=
  replace && (kind == kAdmit || kind == kPair || kind == kOscore) && decide (keptMax ≤ s.keptNow)

/-- When the work of a replacement is expected to start (R64, R379). -/
def State.keyEst (s : State) (replace : Bool) (kind : Nat) : Tick :=
  if s.keyWaits replace kind then
    (s.timeAt (((s.bn.retained.map (·.until')).filter (fun t => decide (s.now < t))).foldl min
      (s.now + s.getN Obj.BN_GRACE * secC))).toNat
  else s.time

/-- I:04 of a procedure that waits, where the estimate moves with the state (R64). -/
def State.estNow (s : State) (ix : Nat) : Option Tick :=
  if ix = Obj.POWER_STATE_SET ∧ s.pwr.holdWait then some s.lastPromise
  else if ix = Obj.SYNTH_CALIBRATE ∧ s.fe.calProc ≠ [] ∧ s.fe.calBegan = false then some (s.calEst s.fe.calProc)
  else if ix = Obj.BN_REPLACE then (s.bn.imports.find? (fun r => r.replace && !r.prepared)).map (fun r => s.keyEst true r.new.kind)
  else if ix = Obj.BEARING_RETUNE then s.retuneEst
  else if ix = Obj.TACK ∧ (s.getN Obj.TACK_STAGE_NOW = 4 ∨ (1 ≤ s.getN Obj.TACK_STAGE_NOW ∧ s.getN Obj.TACK_STAGE_NOW ≤ 3 ∧ s.rst.attachAt ≠ 0)) then
    some (max s.rst.attachAt s.time)
  else none


/-- The value that a read of an object gives in a session; of a FIFO or of the journal, what a read would give now, nothing where it
would stall or be refused. I:04 of a procedure that waits follows the estimate (R64). NODE_ENTRY_RAW and its like read nothing while NODE_SELECT names no
node: the read itself is refused with RANGE (R234, R271). -/
def State.view (s : State) (sess k : Nat) : Val :=
  let nodes := fun (p : Node → Bool) => Val.int (s.alm.nodes.filter p).length
  let ofNode := fun (f : Node → Val) (none' : Val) => (s.selected sess).elim none' f
  let ix := k / 256
  let sub := k % 256
  if k = Obj.DOWN_PENDING then .int s.pilot.frames.length
  else if k = Obj.UP_QUEUED then .int s.upQueued.length
  else if k = Obj.NODES_IN_TABLE then .int s.alm.nodes.length
  else if k = Obj.NODES_JOINING then nodes (fun n => n.state == .joining)
  else if k = Obj.NODES_STALE then nodes (fun n => n.state == .stale)
  else if k = Obj.NODES_LOST then nodes (fun n => n.state == .lost)
  else if k = Obj.STASH_USED then .int s.alm.table.stash.length
  else if k = Obj.SHORT_ADDR_USED then nodes (fun n => n.short.isSome)
  else if k = Obj.DEMOD_BUSY_NOW then .int s.rx.recs.length
  else if 0x4400 ≤ ix ∧ ix < 0x4410 ∧ sub = 7 then
    let d := nth s.helm.duty (ix - 0x4400)
    .int ((d.charges.filter (fun e => decide (e.1 ≤ (s.binAt (ix - 0x4400) s.now : Int) ∧ (s.binAt (ix - 0x4400) s.now : Int) ≤ e.1 + 64))).map
      (·.2)).sum
  else if 0x4400 ≤ ix ∧ ix < 0x4410 ∧ sub = 8 then .int ((nth s.helm.duty (ix - 0x4400)).resv.map (·.air)).sum
  else if 0x5040 ≤ ix ∧ ix < 0x5042 ∧ sub = 1 then .int (s.pipe (ix - 0x5040)).nb.length
  else if 0x5040 ≤ ix ∧ ix < 0x5042 ∧ sub = 2 then .int (s.pipe (ix - 0x5040)).learn.length
  else if 0x5200 ≤ ix ∧ ix < 0x5204 ∧ sub = 9 then
    nodes (fun n => n.pan == ix - 0x5200 && decide (1 ≤ s.depthOf n ∧ s.depthOf n ≤ 24))
  else if 0x7010 ≤ ix ∧ ix < 0x7012 ∧ sub = 5 then
    .int (if s.getN (Obj.TT_LINK_STATE (ix - 0x7010)) = 4 then (s.now - (nth s.tk.ports (ix - 0x7010)).since) / secC else 0)
  else if k = Obj.NODE_TIMING_STATE then ofNode (fun n => .int (nodeCode n.state)) (.int 0)
  else if k = Obj.NODE_DRIFT then ofNode (fun n => .int n.drift) (.int 0)
  else if k = Obj.NODE_LAST_SYNC then ofNode (fun n => t64 (n.lastSync.getD 0)) (t64 0)
  else if k = Obj.NODE_LEEWAY_NOW then ofNode (fun n => .int (s.leewayNow n)) (.int 0)
  else if k = Obj.NODE_MISSES then ofNode (fun n => .int n.misses) (.int 0)
  else if k = Obj.NODE_LAST_OFFSET then ofNode (fun n => .int n.lastOffset) (.int 0)
  else if k = Obj.NODE_ENTRY_RAW then ofNode (fun n => .octets (entryOctets { n with depth := s.depthOf n })) (.octets [])
  else if k = Obj.NODE_EXT_RAW then ofNode (fun n => .octets (s.extOctets n)) (.octets [])
  else if k = Obj.NODE_QUEUE_DEPTH then ofNode (fun n => .int (s.nodeQueue n.idx).length) (.int 0)
  else if k = Obj.NODE_PENDING then ofNode (fun n => .int (s.nodePending n.idx)) (.int 0)
  else if k = Obj.NODE_ENERGY_TOKENS then ofNode (fun n => .int (s.hourBucket n s.now).tokens) (.int 0)
  else if k = Obj.FLOW_STATE then .octets (s.flowOctets (s.flow (s.session sess).flowSelect))
  else if k = Obj.FLOW_STATS then
    .octets (((s.pilot.flowStats.find? (fun e => e.1 == (s.session sess).flowSelect)).map (·.2)).getD (List.replicate 104 0))
  else if k = Obj.JOURNAL_RECORD then
    .octets ((s.lb.journal.find? (fun j => j.seq == (s.session sess).cursor)).elim [] JRec.octets)
  else if 0x1200 ≤ ix ∧ ix < 0x1208 ∧ sub = 1 then .octets (((nth s.mg.fifos (ix - 0x1200)).recs.take batch).flatMap EvRec.octets)
  else if 0xB500 ≤ ix ∧ ix < 0xB504 ∧ sub = 1 then
    let l := (nth s.diag.caps (ix - 0xB500)).recs
    .octets (capOctets (l.take (capBatch l)))
  else if sub = 4 ∧ (s.estNow ix).isSome then t64 ((s.estNow ix).getD 0)
  else if k = Obj.CAL_NOW then .octets (calOctets s.calNow ++ be 2 (s.getN Obj.CAL_SUBSEC))
  else if ix = 0xF000 ∧ 1 ≤ sub ∧ sub ≤ 64 then .int (s.mg.running.getD (sub - 1) 0)
  else s.readVal sess k

/-- OLD of a journal record: the value in force, nothing for an object that is absent or write-only (R59). -/
def State.oldOf (s : State) (sess k : Nat) : Octets :=
  match Obj.row k with
  | none => []
  | some r => if r.acc = .wo then [] else (s.view sess k).cbor

end Sys2Proof.Machine
end

