-- ==== Sys2Proof/Machine/Requests.lean ====
section
/-! DEFINITION. A dictionary request: the checks in the order of R520 (deduplication and OSCORE with Echo, BUSY_RETRY,
SESSION_LIMIT, existence, access class, state, sleeping domain, TYPE, RANGE, the rest), block-wise transfers, and the frames of a
read, of a write and of a procedure start (spec 02, 16). -/
namespace Sys2Proof.Machine

/-! ## Causes that depend on state (R520 step 5) -/

/-- Whether the service of an RWS object runs (R519). -/
def State.serviceRuns (s : State) (k : Nat) : Bool :=
  let ix := k / 256
  if 0x4000 ≤ ix ∧ ix < 0x4004 then s.panServed (ix - 0x4000)
  else if 0x4400 ≤ ix ∧ ix < 0x4410 then s.getB (Obj.SB_ENABLE (ix - 0x4400))
  else if k = Obj.SHORT_BASE then (List.range 4).any (fun p => s.getB (Obj.PN_ENABLE p))
  else if 0x5200 ≤ ix ∧ ix < 0x5204 then s.getB (Obj.PN_ENABLE (ix - 0x5200))
  else if k = Obj.TRUNK_REDUNDANCY then s.getB (Obj.TT_ENABLE 0) || s.getB (Obj.TT_ENABLE 1)
  else false

/-- The first cause of R520 step 5 that meets a write of `k` by session `sess`. -/
def State.stateCause (s : State) (sess k : Nat) (r : Row) : Option Rc :=
  if r.acc = .rws ∧ s.serviceRuns k then some .serviceRunning
  else if pairWide k && s.shadowed then some .notPermittedNow
  else if k = Obj.SX_SET ∧ s.getN Obj.SX_SOURCE = 1 then some .notPermittedNow
  else if k = Obj.SX_RATE ∧ s.getN Obj.SX_SOURCE ≠ 0 then some .notPermittedNow
  else if (k = Obj.NODE_NOTE ∨ k = Obj.NODE_FPW ∨ k = Obj.NODE_FPH) ∧ (s.selected sess).isNone then some .range
  else if (k = Obj.CS_PAIR_ID ∨ k = Obj.CS_PARTNER_EUI ∨ k = Obj.CS_PAIR_KEYID)
      ∧ ¬ (s.getN Obj.CS_STATE ≤ 1 ∨ s.getN Obj.CS_PARTNER_STATE = 0xFF) then some .stateConflict
  else if k = Obj.CAL_TRIM ∧ s.getB Obj.CAL_TRIM_AUTO then some .stateConflict
  else if k = Obj.TACK_SEGMENT ∧ s.getN Obj.TACK_STAGE_NOW ≠ 1 then some .stateConflict
  else if k = Obj.TACK_CONFIRM ∧ s.getN Obj.TACK_STAGE_NOW ≠ 5 then some .stateConflict
  else none

/-- A Tack is between STAGE and CONFIRM (R405, R407, R455). -/
def State.tackUnderWay (s : State) : Bool := decide (1 ≤ s.getN Obj.TACK_STAGE_NOW ∧ s.getN Obj.TACK_STAGE_NOW ≤ 5)

/-- The causes of R520 step 5 that meet a start of the procedure at `ix`: those of R308, R62, R445 and R455, and an aborted commit of the
schedule that still completes (R160; DESIGN CHOICE, log 57). -/
def State.startCause (s : State) (ix : Nat) : Option Rc :=
  if pairWide (Obj.key ix 3) && s.shadowed then some .notPermittedNow
  else if s.procRunning ix then some .stateConflict
  else if ix = Obj.SCHEDULE_COMMIT ∧ s.helm.commit.isSome then some .stateConflict
  else if ix = Obj.TACK ∧ s.getN Obj.TACK_STAGE_NOW ≠ 0 then some .stateConflict
  else if ix = Obj.DOMAIN_RESET ∧ s.tackUnderWay then some .stateConflict
  else if ix = Obj.TACK ∧ (s.getN Obj.POWER_STATE = 2 ∨ (s.getB Obj.LODESTAR_ACTIVE ∧ s.rst.image ≠ some 3)) then some .notPermittedNow
  else none

/-- The causes of R520 step 9 for the objects that OBJECT_WRITE serves (R194, R240). -/
def State.lateCause (s : State) (k : Nat) (v : Val) : Option Rc :=
  let n := v.toInt.toNat
  let dd := if k = Obj.PA_DOWN_DESC_LIMIT then n else s.getN Obj.PA_DOWN_DESC_LIMIT
  let dc := if k = Obj.PA_DOWN_CELL_LIMIT then n else s.getN Obj.PA_DOWN_CELL_LIMIT
  let ar := if k = Obj.PA_UP_ALARM_RESERVE then n else s.getN Obj.PA_UP_ALARM_RESERVE
  if k = Obj.PA_DOWN_DESC_LIMIT ∨ k = Obj.PA_DOWN_CELL_LIMIT ∨ k = Obj.PA_UP_ALARM_RESERVE then
    if 4194304 - dd < ar + 65536 ∨ 4194304 - dc < ar + 65536 then some .range
    else if (k = Obj.PA_DOWN_DESC_LIMIT ∧ n < s.pilot.frames.length)
        ∨ (k = Obj.PA_DOWN_CELL_LIMIT ∧ n < (s.pilot.frames.map (·.cells)).sum) then some .stateConflict
    else none
  else if (s.sfInForce k).elim false (fun x => s.get k == x && v != x) ∧ stagedMax ≤ s.stagedCount then some .refusedCapacity
  else none

/-- Checks 3 to 9 of R520 for a write of `k`: the value it applies, or the code it is refused with. BOOT_IMAGE reads
NO_OBJECT outside the boot ROM (R439, R514). `late` are the causes a defining chapter adds. -/
def State.checkWrite (s : State) (sess ix sub : Nat) (w : Wire) (late : Val → Option Rc) : Except Rc Val :=
  let k := Obj.key ix sub
  if Obj.hasIndex ix = false ∨ k = Obj.BOOT_IMAGE then .error .noObject
  else
    match Obj.row k with
    | none => .error .noSubindex
    | some r =>
      if r.acc = .ro then .error .readOnly
      else if k = Obj.FLOW_CONFIG ∧ (s.session sess).flowSelect = 0 then .error .readOnly
      else
        match s.stateCause sess k r with
        | some rc => .error rc
        | none =>
          if s.isOn (Obj.owner k) = false then .error .domainAsleep
          else
            match r.ty.read w with
            | .error rc => .error rc
            | .ok x =>
              let v := ignoreReserved k x
              if s.rangeOk k r v = false then .error .range
              else
                match late v with
                | some rc => .error rc
                | none => .ok v

/-! ## The gate of a request (R41, R44, R52, R53, R70, R408) -/

/-- The replay window of 32 sequence numbers (R44). -/
def State.oscoreFresh (s : State) (ctx seq : Nat) : Bool :=
  match s.mg.oscore.find? (fun o => o.ctx == ctx) with
  | none => true
  | some o => decide (o.high < seq) || (decide (o.high < seq + 32) && !o.seen.contains seq)

/-- Note an accepted sequence number. The request that returns the Echo value sets the window anew (R390). -/
def State.oscoreNote (s : State) (ctx seq : Nat) (anew : Bool) : State :=
  let kept := if anew then none else s.mg.oscore.find? (fun o => o.ctx == ctx)
  let old := kept.getD { ctx := ctx, high := 0, seen := [] }
  let s := s.updBn (fun b => { b with echo := b.echo.filter (fun c => c != ctx) })
  let high := max old.high seq
  let new : Oscore := { ctx := ctx, high := high, seen := (seq :: old.seen).filter (fun x => decide (high < x + 32)) }
  { s with mg := { s.mg with oscore := new :: s.mg.oscore.filter (fun o => o.ctx != ctx) } }

/-- The lowest free trunk session number (R52). -/
def State.freeSession (s : State) : Option Nat :=
  ((List.range 15).map (· + 1)).find? (fun n => (s.session? n).isNone)

/-- The detail of BUSY_RETRY: microseconds, rounded up, to the latest Attach (R70). -/
def State.busyDetail (s : State) : Nat :=
  match s.mg.attachBy with
  | none => 1500000
  | some t => cdiv (t - s.now) 1000

/-- What a request asks: its KIND in the journal (0 for a read, which leaves no record), index, subindex and NEW. -/
structure Ask where
  kind : Nat
  ix : Nat
  sub : Nat
  new : Octets
deriving DecidableEq, Repr, Inhabited

/-- A read of an object. -/
def Ask.get (ix sub : Nat) : Ask := { kind := 0, ix := ix, sub := sub, new := [] }

def Ask.key (a : Ask) : Nat := Obj.key a.ix a.sub

/-- The journal record of a refused request; reads leave none (R59). -/
def State.journalAsk (s : State) (ask : Ask) (sess : Nat) (rc : Rc) : State :=
  if ask.kind = 0 then s
  else s.journal ask.kind sess ask.ix ask.sub rc (if ask.kind = 1 then s.oldOf sess ask.key else []) ask.new

/-- Refuse a request: a journal record and the reply of R43. -/
def State.refuse (s : State) (ask : Ask) (sess : Nat) (r : Req) (rc : Rc) (micros : Option Nat := none) : State :=
  (s.journalAsk ask sess rc).replyRc sess (r.answers ask.key) rc micros

/-- The same towards an OSCORE context, where no session may be open yet. -/
def State.refuseTo (s : State) (ask : Ask) (ctx sess : Nat) (r : Req) (rc : Rc) (micros : Option Nat := none) : State :=
  let u := (s.journalAsk ask sess rc).protectMsg ctx
  if u.2 ∧ u.1.upPorts ≠ [] then u.1.emit (.reply sess (r.answers ask.key) rc.coap (.detail rc micros) u.1.upPorts) else u.1

/-- 4.01 with no result payload: the request opens no session, is not journaled and is counted where `count` (R44). -/
def State.turnOff (s : State) (ask : Ask) (r : Req) (count : Bool) : State :=
  let s := if count then s.bump Obj.UNPROTECTED_REJECTS else s
  if s.upPorts = [] then s else s.emit (.reject (r.answers ask.key) coapUnauthorized s.upPorts)

/-! ## CoAP messages (R41, R42) -/

/-- The UDP port of the CoAP server. -/
def coapPort : Nat := 5683

/-- EXCHANGE_LIFETIME and NON_LIFETIME of RFC 7252: how long a message ID is remembered. PRESUMED (log 54): the spec names the
RFC and not the times, which are those of its default parameters. -/
def heardFor (con : Bool) : Count := if con then 247 * secC else 145 * secC

/-- Whether the message has been received before. -/
def State.heardBefore (s : State) (m : CoapMsg) : Bool :=
  s.mg.heard.any (fun h => h.peer == m.peer && h.mid == m.mid && decide (s.now < h.at' + heardFor m.con))

/-- Note a message received. -/
def State.noteHeard (s : State) (m : CoapMsg) : State :=
  let left := s.mg.heard.filter (fun h => decide (s.now < h.at' + heardFor true))
  { s with mg := { s.mg with heard := { peer := m.peer, mid := m.mid, at' := s.now } :: left } }

/-- A repeated message takes no effect; the acknowledgement of a confirmable one is sent again. -/
def State.absorb (s : State) (m : CoapMsg) : State :=
  if m.con ∧ s.upPorts ≠ [] then s.emit (.again m.peer m.mid s.upPorts) else s

/-- What the gate of a request answers: the request is over, or it goes on in a session. -/
inductive Gate' where
  | stop (s : State)
  | go (sess : Nat) (s : State)
deriving DecidableEq, Repr

/-- Open a trunk session at the first verified request of its context (R52, R58). -/
def State.openSession (s : State) (n ctx : Nat) (sender : Octets) : State :=
  let s := { s with mg := { s.mg with sessions := s.mg.sessions ++ [s.newSession n ctx sender] } }
  (s.journal 4 n 0 0 .ok [] []).raise 0x2001 0 (be 1 n ++ be 1 sender.length ++ fit 16 sender)

/-- The ninth outstanding request, a method that is not served (R42), and the use of a session. CORE wakes from retention (R53,
R406). -/
def State.enter (s : State) (ask : Ask) (sess : Nat) (r : Req) : Gate' :=
  if 8 ≤ s.outstanding sess then .stop (s.refuse ask sess r .sessionLimit)
  else
    let s := s.coreWake
    let s := { s with pwr := { s.pwr with lastRequest := s.now } }
    let s := s.updSession sess (fun x => { x with lastReq := s.now })
    if r.other then .stop (s.reply sess (r.answers ask.key) coapMethod .none) else .go sess s

/-- A request that has passed OSCORE: its session, opened where none is (R52). -/
def State.admitTo (s : State) (ask : Ask) (ctx : Nat) (sender : Octets) (r : Req) (free : Bool) : Gate' :=
  let open? := s.mg.sessions.find? (fun x => x.ctx == ctx && x.num != 0)
  let n := open?.elim 0xFF (·.num)
  if s.mg.busy then .stop (s.refuseTo ask ctx n r .busyRetry (some s.busyDetail))
  else if s.pwr.entry.isSome ∧ free = false then .stop (s.refuseTo ask ctx n r .notPermittedNow)
  else
    match open? with
    | some x => s.enter ask x.num r
    | none =>
      match s.freeSession with
      | none =>
        .stop ((s.refuseTo ask ctx 0xFF r .sessionLimit).raise 0x2003 1
          (be 2 Rc.sessionLimit.code ++ be 1 sender.length ++ fit 16 sender))
      | some m => (s.openSession m ctx sender).enter ask m r

/-- Steps 1 and 2 of R520 in front of the session: `free` requests (PROC_ABORT and reads) pass during STANDBY entry. The recovery
image serves the dictionary on the Quay port only, once it has attached (R70, R439). -/
def State.gate (s : State) (r : Req) (ask : Ask) (free : Bool) : Gate' :=
  if s.cond 1 = .reset ∨ s.cond 1 = .off ∨ s.pwr.off ∨ s.pwr.standby ∨ s.pwr.anchor.isSome then .stop s
  else
    match r.via with
    | .quay =>
      if s.mg.busy then .stop (s.refuse ask 0 r .busyRetry (some s.busyDetail))
      else if s.pwr.entry.isSome ∧ free = false then .stop (s.refuse ask 0 r .notPermittedNow)
      else s.enter ask 0 r
    | .trunk m ctx sender authentic old echo seq =>
      if (s.rst.image = some 3 ∧ s.mg.busy = false) ∨ m.udp ≠ coapPort ∨ s.answersOn m.svc = false then .stop s
      else if s.heardBefore m then .stop (s.absorb m)
      else
        let s := s.noteHeard m
        if m.prot = false then .stop (s.turnOff ask r true)
        else
          let u := if s.oscoreFresh ctx seq ∨ echo then s.checkKey kOscore ctx 4 old authentic else (s, false)
          let s := u.1
          if u.2 = false then .stop (s.turnOff ask r true)
          else if s.bn.echo.contains ctx ∧ echo = false then .stop (s.turnOff ask r false)
          else (s.oscoreNote ctx seq (s.bn.echo.contains ctx)).admitTo ask ctx sender r free

/-! ## Block-wise transfer (R45) -/

/-- What one block does: the reply that ends the request, or the whole value. -/
inductive Block where
  | stop (s : State)
  | whole (w : Wire) (s : State)
deriving DecidableEq, Repr

/-- The session a request belongs to, if it is open. -/
def State.sessionOf (s : State) (r : Req) : Nat :=
  match r.via with
  | .quay => 0
  | .trunk _ ctx _ _ _ _ _ => (s.mg.sessions.find? (fun x => x.ctx == ctx && x.num != 0)).elim 0xFF (·.num)

/-- What a write of `k` says so far: its item, or in a block-wise transfer what the blocks up to this one carry of it. The rows that
share an object are told apart by it (log 3). -/
def State.itemSoFar (s : State) (r : Req) (k : Nat) (w : Wire) : Wire :=
  match r.blk with
  | none => w
  | some (num, _) =>
    let mine := fun (t : Transfer) => t.sess == s.sessionOf r && t.key == k
    let o := (if num = 0 then [] else (s.mg.transfers.find? mine).elim [] (·.data)) ++ w.cbor
    match Wire.ofCbor o, cborArg o with
    | .other _, some (2, _, t) => .bytes t
    | x, _ => x

/-- Take one block of a write of `k`: the blocks carry the octets of the encoding in order, and the last one gives the whole item. A
block that does not follow what has come, or that is not the last and not a whole block, is out of order. DESIGN CHOICE (log 54): so
is a block 0 while a transfer of the same object by the session is under way, which RFC 7959 would let begin it anew: both are
discarded. Safe: nothing is written, and the manager begins again. -/
def State.block (s : State) (r : Req) (sess k : Nat) (w : Wire) : Block :=
  match r.blk with
  | none => .whole w s
  | some (num, more) =>
    let piece := w.cbor
    let mine := fun (t : Transfer) => t.sess == sess && t.key == k
    let got := (s.mg.transfers.find? mine).elim [] (·.data)
    let rest := s.mg.transfers.filter (fun t => !mine t)
    if num * r.blockOctets ≠ got.length ∨ (num ≠ 0 ∧ (s.mg.transfers.find? mine).isNone) ∨ r.blockOctets < piece.length
        ∨ (more ∧ piece.length ≠ r.blockOctets) then
      .stop ({ s with mg := { s.mg with transfers := rest } }.reply sess (r.answers k) coapIncomplete .none)
    else if more then
      .stop ({ s with mg := { s.mg with transfers := { sess := sess, key := k, data := got ++ piece, last := s.now } :: rest } }.reply
        sess (r.answers k) coapContinue .none)
    else .whole (Wire.ofCbor (got ++ piece)) { s with mg := { s.mg with transfers := rest } }

/-- The reply to a read: a payload longer than one block, or one that a block is asked of, goes in blocks by Block2. The encoding
is composed once, with its first block, and kept until its last. -/
def State.replyAsked (s : State) (a : Asked) (sess : Nat) (t : Tok) (p : Payload) : State :=
  if a.blk2 = none ∧ p.cbor.length ≤ a.size then s.reply sess t coapContent p
  else
    let n := a.blk2.getD 0
    let o := p.cbor
    let more := decide ((n + 1) * a.size < o.length)
    let rest := s.mg.sending.filter (fun x => !(x.sess == sess && x.key == t.key))
    { s with mg := { s.mg with sending := if more then { sess := sess, key := t.key, data := o } :: rest else rest } }.reply sess
      t coapContent (.block n more a.szx ((o.drop (n * a.size)).take a.size))

/-- The answer to a read in its own step. -/
def State.replyRead (s : State) (r : Req) (sess k : Nat) (p : Payload) : State := s.replyAsked r.asked sess (r.answers k) p

/-- The encoding a further block of a read is taken from. -/
def State.sendingOf (s : State) (r : Req) (sess k : Nat) : Option Octets :=
  if (r.blk2.getD 0) = 0 then none else (s.mg.sending.find? (fun t => t.sess == sess && t.key == k)).map (·.data)

/-! ## The frame of a write and of a procedure start -/

/-- A dictionary write of `ix:sub`: gate, block, the checks of R520, the journal record, the effect, the reply 2.04.
`late` are the chapter's own refusals, `eff` what the accepted value does before the reply, `post` what it does after
it. DESIGN CHOICE (log 54): the blocks of a block-wise write are answered 2.31 and the checks of R520 are made of the whole value,
at its last block. Safe: a refused write changes nothing. -/
def State.writeThen (s : State) (r : Req) (ix sub : Nat) (w : Wire) (late : State → Nat → Val → Option Rc)
    (eff post : State → Nat → Val → State) : State :=
  match s.gate r { kind := 1, ix := ix, sub := sub, new := w.cbor } false with
  | .stop s => s
  | .go sess s =>
    match s.block r sess (Obj.key ix sub) w with
    | .stop s => s
    | .whole w s =>
      match s.checkWrite sess ix sub w (late s sess) with
      | .error rc => s.refuse { kind := 1, ix := ix, sub := sub, new := w.cbor } sess r rc
      | .ok v =>
        let s := s.lbDrain
        let s := s.journal 1 sess ix sub .ok (s.oldOf sess (Obj.key ix sub)) w.cbor
        post (((eff s sess v).streamWrite sess ix sub v).reply sess (r.answers (Obj.key ix sub)) coapChanged .none) sess v

/-- A dictionary write with nothing left to do after its reply. -/
def State.write (s : State) (r : Req) (ix sub : Nat) (w : Wire)
    (late : State → Nat → Val → Option Rc) (eff : State → Nat → Val → State) : State :=
  s.writeThen r ix sub w late eff (fun s _ _ => s)

/-- Checks 3 to 9 of R520 for a start of the procedure at `ix`: RUNNING gives STATE_CONFLICT before the owning domain,
the type and the range are looked at (R62). -/
def State.checkStart (s : State) (sess ix : Nat) (w : Wire) (bad : State → Nat → Val → Option Rc) : Except Rc Val :=
  match procTable.find? (fun p => p.ix == ix) with
  | none => .error .noObject
  | some p =>
    match s.startCause ix with
    | some rc => .error rc
    | none =>
    if s.isOn p.own = false then .error .domainAsleep
    else
      let t := match w with
        | .bytes o => if p.lens.contains o.length ∨ (p.args = Ty.octets 0 ∧ 34 ≤ o.length ∧ (o.length - 34) % 9 = 0)
            then Ty.octets o.length else p.args
        | _ => p.args
      match t.read w with
      | .error rc => .error rc
      | .ok x =>
        let v := ignoreReserved (Obj.key ix 3) x
        match bad s sess v with
        | some rc => .error rc
        | none => .ok v

/-- The start of the procedure at `ix` (R62–R65): refused, or journaled with its start count, RUNNING, answered with
its handle, and `eff` is done. -/
def State.start (s : State) (r : Req) (ix : Nat) (w : Wire) (bad : State → Nat → Val → Option Rc)
    (est : State → Val → Tick) (eff : State → Nat → Val → State) : State :=
  match s.gate r { kind := 2, ix := ix, sub := 3, new := w.cbor } false with
  | .stop s => s
  | .go sess s =>
    match s.block r sess (Obj.key ix 3) w with
    | .stop s => s
    | .whole w s =>
      match s.checkStart sess ix w bad with
      | .error rc => s.refuse { kind := 2, ix := ix, sub := 3, new := w.cbor } sess r rc
      | .ok v =>
        let s := (s.lbDrain).journal 2 sess ix 3 .ok [] w.cbor
        let s := s.procBegin ix (est s v)
        let s := s.reply sess (r.answers (Obj.key ix 3)) coapChanged (.handle (s.procHandle ix))
        (eff s sess v).streamStart ix v

/-! ## Reads (R37, R38, R42, R68, R520) -/

/-- The objects that act on the node NODE_SELECT names: a read is refused while it names none (R194, R234, R271). -/
def ofNodeSelect (k : Nat) : Bool :=
  decide ((k / 256 = 0x4C00 ∧ 2 ≤ k % 256 ∧ k % 256 ≤ 7) ∨ (k / 256 = 0x6300 ∧ 1 ≤ k % 256 ∧ k % 256 ≤ 5)) ||
    [Obj.NODE_ENTRY_RAW, Obj.NODE_EXT_RAW, Obj.NODE_NOTE].contains k

/-- The two wake-on-access objects (R516). -/
def wakeOnAccess (k : Nat) : Bool := k == Obj.SEXTANT_NOW || k == Obj.TIME_UNC_NS

/-- Checks 3 to 6 of R520 for a read: the code it is refused with. BOOT_IMAGE reads NO_OBJECT (R439, R514). -/
def State.checkRead (s : State) (sess ix sub : Nat) : Option Rc :=
  let k := Obj.key ix sub
  if Obj.hasIndex ix = false ∨ k = Obj.BOOT_IMAGE then some .noObject
  else
    match Obj.row k with
    | none => some .noSubindex
    | some r =>
      if r.acc = .wo then some .writeOnly
      else if ofNodeSelect k ∧ (s.selected sess).isNone then some .range
      else if k = Obj.BN_STATEMENT ∧ (s.session sess).statement = [] then some .stateConflict
      else if s.isOn (Obj.owner k) = false ∧ wakeOnAccess k = false then some .domainAsleep
      else none

/-- A read of `ix:sub`: gate, the next block of a read under way, refusal or answer; nothing is journaled. -/
def State.read (s : State) (r : Req) (ix sub : Nat) (eff : State → Nat → State) : State :=
  match s.gate r (Ask.get ix sub) true with
  | .stop s => s
  | .go sess s =>
    match s.sendingOf r sess (Obj.key ix sub) with
    | some o => s.replyRead r sess (Obj.key ix sub) (.block 0 false 6 o)
    | none => eff s sess

/-- The read refused by its checks, or answered by `eff`. -/
def State.readChecked (s : State) (r : Req) (ix sub : Nat) (eff : State → Nat → State) : State :=
  s.read r ix sub (fun s sess =>
    match s.checkRead sess ix sub with
    | some rc => s.replyRc sess (r.answers (Obj.key ix sub)) rc
    | none => eff s sess)

end Sys2Proof.Machine
end

