-- ==== Sys2Proof/Machine/Manage.lean ====
section
/-! DEFINITION. The commands of chapter 02: dictionary writes, the Quay port, sessions, event FIFOs, the change journal. -/
namespace Sys2Proof.Machine

/-! ## Closing a session (R54) -/

/-- SESSION_IDLE of a session counts from here: a request, or the end of a stalled read or of an observation (R54). -/
def State.touch (s : State) (n : Nat) : State := s.updSession n (fun x => { x with lastReq := s.now })

/-- The stalled reads of a session are answered ABORTED. -/
def State.dropStalled (s : State) (sess : Nat) : State :=
  let gone := (s.mg.fifos.flatMap (·.stalled) ++ s.diag.caps.flatMap (·.stalled)).filter (fun x => x.sess = sess)
  let s := gone.foldl (fun s x => s.replyRc x.sess x.tok .aborted) s
  let fifos := s.mg.fifos.map (fun f => { f with stalled := f.stalled.filter (fun x => x.sess ≠ sess) })
  let caps := s.diag.caps.map (fun f => { f with stalled := f.stalled.filter (fun x => x.sess ≠ sess) })
  { s with mg := { s.mg with fifos := fifos }, diag := { s.diag with caps := caps } }

/-- The observations of a session end. -/
def State.dropObservers (s : State) (sess : Nat) : State :=
  let fifos := s.mg.fifos.map (fun f =>
    if f.observer.elim false (fun o => o.sess == sess) then { f with observer := none } else f)
  { s with mg := { s.mg with fifos := fifos } }

/-- Close a trunk session: causes 0 idle, 1 SESSION_CLOSE, 2 context removed, 3 a reset (R54). -/
def State.closeSession (s : State) (n cause closing : Nat) : State :=
  let s := (s.dropStalled n).dropObservers n
  let sessions := s.mg.sessions.filter (fun x => x.num ≠ n)
  let transfers := s.mg.transfers.filter (fun t => t.sess ≠ n)
  let sending := s.mg.sending.filter (fun t => t.sess ≠ n)
  let s := { s with mg := { s.mg with sessions := sessions, transfers := transfers, sending := sending } }
  (s.journal 5 n 0 0 .ok [] []).raise 0x2002 0 (be 1 n ++ be 1 cause ++ be 1 closing)

/-! ## OBJECT_WRITE (R36–R40, R56, R59) -/

/-- The objects whose write is a command of its own, and the arguments of the procedures. -/
def ownRow (k : Nat) : Bool :=
  [Obj.SESSION_CLOSE, Obj.PROC_ABORT, Obj.CELL_ENTRY, Obj.SCHED_DISCARD, Obj.NODE_FIND_EUI, Obj.SX_SOURCE, Obj.SX_RATE,
    Obj.SX_SET, Obj.CAL_SET, Obj.CAL_HALT, Obj.CAL_OSF, Obj.CAL_ALARM, Obj.FLOW_CONFIG, Obj.CS_FAULT_CLEAR,
    Obj.POWER_MODE, Obj.TACK_SEGMENT, Obj.TACK_CONFIRM].contains k ||
  decide ((0x1200 ≤ k / 256 ∧ k / 256 < 0x1208 ∧ k % 256 = 4) ∨ (0xB500 ≤ k / 256 ∧ k / 256 < 0xB504 ∧ k % 256 = 4)
    ∨ (0x4000 ≤ k / 256 ∧ k / 256 < 0x4004 ∧ k % 256 = 1) ∨ (0x7000 ≤ k / 256 ∧ k / 256 < 0x7002 ∧ k % 256 = 1)
    ∨ (k / 256 = 0x7030 ∧ 2 ≤ k % 256 ∧ k % 256 ≤ 0x0B) ∨ (k / 256 = 0x6500 ∧ 1 ≤ k % 256 ∧ k % 256 ≤ 16)) ||
  (procTable.any (fun p => p.ix == k / 256) && k % 256 == 3)

/-- The fixed gain step of a port in the safe mode of the receive trim: G2 on LA and LB, G1 on HA and HB (R433). -/
def safeStep (p : Nat) : Nat := if p < 2 then 2 else 1

/-- The gain step a port is held at with PP_GAIN_MODE 1 (R82), or in safe mode (R433); frozen while the port is blanked (R84). -/
def State.holdGain (s : State) (p : Nat) : State :=
  if bit (s.getN Obj.TRIM_STATUS) 3 then
    if s.getN (Obj.PP_GAIN_STEP_NOW p) = safeStep p then s else s.stepGain p (safeStep p)
  else if s.getN (Obj.PP_GAIN_MODE p) = 1 ∧ (nth s.fe.ports p).blanked = false then
    (if s.getN (Obj.PP_GAIN_STEP_NOW p) = s.getN (Obj.PP_GAIN_FIXED p) then s else s.stepGain p (s.getN (Obj.PP_GAIN_FIXED p)))
  else s

/-- What an accepted write of an object without a row of its own does. -/
def State.applyWrite (s : State) (sess k : Nat) (v : Val) : State :=
  let n := v.toInt.toNat
  if k = Obj.JOURNAL_CURSOR then s.updSession sess (fun x => { x with cursor := n })
  else if k = Obj.CELL_NUMBER then s.updSession sess (fun x => { x with cellNumber := n })
  else if k = Obj.NODE_SELECT then s.updSession sess (fun x => { x with nodeSelect := n })
  else if k = Obj.FLOW_SELECT then s.updSession sess (fun x => { x with flowSelect := n })
  else if k = Obj.NODE_NOTE then s.updNode (s.session sess).nodeSelect (fun x => { x with note := v.toOctets })
  else if k = Obj.NODE_FPW then s.updNode (s.session sess).nodeSelect (fun x => { x with fpw := n })
  else if k = Obj.NODE_FPH then s.updNode (s.session sess).nodeSelect (fun x => { x with fph := n })
  else
    let was := s.get k
    let s := s.setP k v
    let ix := k / 256
    if k = Obj.LOW_AERIAL_MODE then { s with fe := { s.fe with modeWrite := upd s.fe.modeWrite 0 (fun _ => true) } }
    else if k = Obj.HIGH_AERIAL_MODE then
      { s with fe := { s.fe with modeWrite := upd s.fe.modeWrite 1 (fun _ => true) } }
    else if 0x3000 ≤ ix ∧ ix < 0x3004 ∧ (k % 256 = 2 ∨ k % 256 = 3) then s.holdGain (ix - 0x3000)
    else if 0x3000 ≤ ix ∧ ix < 0x3004 ∧ k % 256 = 1 then s.radioPower
    else if k = Obj.LODESTAR_SLOTFRAMES then s.chartGeometry
    else if k = Obj.SX_RATE_LIMIT then
      let lim : Int := (n * 65536 : Nat)
      let s := s.updSx (fun x => { x with f := clampI (-lim) lim x.f })
      if s.rateMax < (s.getI Obj.SX_RATE).natAbs then s.setRate (s.getI Obj.SX_RATE) else s
    else if k = Obj.SX_PPS_OUT_GATE ∨ k = Obj.SX_PPS_OUT_ENABLE then s.ppsHold
    else if 0x4400 ≤ ix ∧ ix < 0x4410 ∧ k % 256 = 1 ∧ v = .bool true ∧ was ≠ v then
      let b := ix - 0x4400
      let lim := s.getN (Obj.SB_LIMIT b) * s.getN (Obj.SB_WINDOW b)
      let d : Duty := { charges := [], resv := [], limit := lim,
                        reserve := lim * s.getN (Obj.SB_ALARM_RESERVE b) / 100, warnedBin := none, bin := s.binAt b s.now }
      { s with helm := { s.helm with duty := upd s.helm.duty b (fun _ => d) } }
    else s

/-- OBJECT_WRITE: a write of an object with a row of its own is that row's command and does nothing here (log 3). -/
def execObjectWrite (r : Req) (ix sub : Nat) (w : Wire) (s : State) : Res :=
  if ownRow (Obj.key ix sub) then .next s
  else .next (s.write r ix sub w (fun s _ v => s.lateCause (Obj.key ix sub) v)
    (fun s sess v => s.applyWrite sess (Obj.key ix sub) v))

/-- The objects whose read is a command of its own. -/
def ownRead (k : Nat) : Bool :=
  [Obj.JOURNAL_RECORD, Obj.VSENSE_MIN].contains k ||
  decide ((0x1200 ≤ k / 256 ∧ k / 256 < 0x1208 ∧ k % 256 = 1) ∨ (0xB500 ≤ k / 256 ∧ k / 256 < 0xB504 ∧ k % 256 = 1)
    ∨ (k / 256 = 0x2400 ∧ 1 ≤ k % 256 ∧ k % 256 ≤ 8))

/-- What a read of an object does beside its answer: a read of a node's entry builds its route (R225). -/
def State.readEffect (s : State) (sess k : Nat) : State :=
  if k = Obj.NODE_ENTRY_RAW then (s.selected sess).elim s (fun n => (s.route n).1) else s

/-- WAKE_ON_ACCESS_READ (R37, R38, R42, R68, R516): a read of an object. For SEXTANT_NOW and TIME_UNC_NS the domain is powered for
the read and returns to its policy state; for any other object of a domain that is not on, the answer is DOMAIN_ASLEEP. DESIGN
CHOICE (log 54): the table has no row for a read of any other object, and this row carries it; a read that has a row of its own
does nothing here (log 3). -/
def execWakeOnAccessRead (r : Req) (o : ObjAddr) (s : State) : Res :=
  let k := Obj.key o.ix o.sub
  if ownRead k then .next s
  else
    .next (s.readChecked r o.ix o.sub (fun s sess => (s.readEffect sess k).replyRead r sess k (.value (s.view sess k))))

/-- BLOCK_TRANSFER_TIMEOUT (R45): transfers of the session with no block for 60 s are discarded. -/
def execBlockTransferTimeout (sess : Nat) (s : State) : Res :=
  let left := s.mg.transfers.filter (fun t => !(t.sess == sess && decide (t.last + 60 * secC ≤ s.now)))
  .next { s with mg := { s.mg with transfers := left } }

/-! ## The Quay port (R46–R51) -/

/-- What hunting makes of the octets at hand: nothing yet, a frame to discard with the octets after its SYNC, or the BODY of a
good frame with the octets after it (R47). -/
inductive Hunt where
  | wait (o : Octets)
  | discard (rest : Octets)
  | good (body rest : Octets)
deriving DecidableEq, Repr

def quayHunt (o : Octets) : Hunt :=
  match o.dropWhile (fun b => b != 0xA5) with
  | [] => .wait []
  | sync :: t =>
    if t.length < 2 then .wait (sync :: t)
    else
      let len := fld t 0 2
      if len < 10 ∨ 1034 < len then .discard t
      else if t.length < len + 4 then .wait (sync :: t)
      else if crc16 (t.take (len + 2)) ≠ fld t (len + 2) 2 then .discard t
      else if fld t 2 1 = 0 ∨ 4 < fld t 2 1 then .discard t
      else .good (slice t 2 len) (t.drop (len + 4))

def State.setQuay (s : State) (g : Quay → Quay) : State := { s with mg := { s.mg with quay := g s.mg.quay } }

/-- The frames of the two queues in order of composition. -/
def composed : Nat → List QuayFrame → List QuayFrame → List QuayFrame
  | 0, _, _ => []
  | _, [], l => l
  | _, l, [] => l
  | n + 1, a :: s, b :: t => if a.ord < b.ord then a :: composed n s (b :: t) else b :: composed n (a :: s) t

/-- The octets the device drives while the host clocks `n`: its pending frames in order of composition, from where it stands, and
0xFF when it has none (R48). -/
def Quay.driven (q : Quay) (n : Nat) : Octets :=
  let o := (((composed (q.notifications.length + q.responses.length) q.notifications q.responses).flatMap QuayFrame.octets).drop q.sent).take n
  o ++ List.replicate (n - o.length) 0xFF

/-- The host clocks `n` octets out of the device. -/
def State.clockOut (s : State) (n : Nat) : State :=
  let q := s.mg.quay
  let held := ((q.notifications ++ q.responses).map (fun f => f.octets.length)).sum
  (s.setQuay (fun q => { q with sent := min held (q.sent + n) })).emit (.quay (q.driven n))

/-- The opcodes of quad mode (R48). -/
def opIn : Nat := 0x38
def opOut : Nat := 0xEB

/-- Octets clocked by the host reach the hunter: all of them in single mode and on the UART; in quad mode those after the opcode
0x38, while 0xEB turns the lines round. Before a wake completes they are discarded (R48, R51). -/
def State.quayIn (s : State) (raw : Octets) : Octets × State :=
  let q := s.mg.quay
  if s.pwr.standby ∨ s.pwr.wakeAt.isSome ∨ q.wakeWait then ([], s)
  else if q.uart then (raw, s)
  else if q.quad = false then (raw, s.clockOut raw.length)
  else
    match q.opcode, raw with
    | none, [] => ([], s)
    | none, b :: t =>
      let s := s.setQuay (fun q => { q with opcode := some b.toNat })
      if b.toNat = opIn then (t, s) else if b.toNat = opOut then ([], s.clockOut t.length) else ([], s)
    | some op, _ => if op = opIn then (raw, s) else if op = opOut then ([], s.clockOut raw.length) else ([], s)

/-- QUAY_UART_ENTRY (R50): sixteen 0xA5 octets with QUAY_CS_N high, at 115,200 to 3,000,000 baud. -/
def execQuayUartEntry (octets : Octets) (baud : Nat) (s : State) : Res :=
  if octets = List.replicate 16 0xA5 ∧ 115200 ≤ baud ∧ baud ≤ 3000000 then
    .next (s.setQuay (fun q => { q with uart := true, baud := baud }))
  else .next s

/-- QUAY_CS_FALL (R48, R50, R51): mode 0 or 3 by the clock level, a pending QUAY_MODE in force, UART left, and in
STANDBY, or in step 5 of its entry (R409), a wake source whose wake ends with the ready frame. -/
def execQuayCsFall (clkHigh : Bool) (s : State) : Res :=
  let quad := s.getN Obj.QUAY_MODE == 1
  let wait := s.pwr.standby || s.pwr.entry.elim false (fun e => decide (5 ≤ e.step))
  let mode := if clkHigh then 3 else 0
  let s := s.setQuay (fun q =>
    { q with uart := false, spiMode := mode, quad := quad, opcode := none, wakeWait := q.wakeWait || wait })
  .next (s.wakeSource 5)

/-- Records up to the one with SEQ `last` leave a FIFO, those still in it (R77). -/
def Fifo.leave (f : Fifo) (last : Nat) : Fifo :=
  if f.recs.any (fun r => r.seq == last) then
    { f with recs := (f.recs.dropWhile (fun r => r.seq != last)).tail }
  else f

/-- The observer has no notification outstanding any more. -/
def Fifo.settle (f : Fifo) : Fifo := { f with observer := f.observer.map (fun o => { o with outstanding := none }) }

/-- The frame clocked out first: the older of the two queues' heads (R49). -/
def Quay.first (q : Quay) : Option QuayFrame :=
  match q.notifications.head?, q.responses.head? with
  | none, r => r
  | n, none => n
  | some a, some b => if a.ord < b.ord then some a else some b

/-- A response that waited takes the place that has become free (R49). -/
def Quay.refill (q : Quay) : Quay :=
  match q.waiting with
  | [] => q
  | f :: t => if q.responses.length < responsePlaces then { q with responses := q.responses ++ [f], waiting := t } else q

/-- QUAY_FRAME_SENT (R49, R77): the frame leaves its queue; the records of a notification leave their FIFO, while its observation
stands. -/
def execQuayFrameSent (s : State) : Res :=
  match s.mg.quay.first with
  | none => .next s
  | some fr =>
    let s := s.setQuay (fun q =>
      Quay.refill { q with notifications := q.notifications.filter (fun x => x.ord != fr.ord),
                           responses := q.responses.filter (fun x => x.ord != fr.ord), sent := q.sent - fr.octets.length })
    match fr.takes with
    | none => .next s
    | some (n, last) =>
      if (nth s.mg.fifos n).observer = some { sess := 0, tok := fr.tok, outstanding := some last } then
        .next (s.updFifo n (fun f => (f.leave last).settle))
      else .next s

/-! ## Sessions (R54) -/

/-- SESSION_IDLE_TIMEOUT: SESSION_IDLE has passed with no request, no stalled read and no observation. -/
def execSessionIdleTimeout (n : Nat) (s : State) : Res :=
  match s.session? n with
  | none => .next s
  | some x =>
    if n ≠ 0 ∧ x.lastReq + s.getN Obj.SESSION_IDLE * secC ≤ s.now ∧ s.outstanding n = 0
        ∧ s.mg.fifos.all (fun f => f.observer.elim true (fun o => o.sess != n)) then
      .next (s.closeSession n 0 0xFF)
    else .next s

/-- SESSION_CLOSE: the writer's own session is answered first and then closed; a number that is not open is refused. -/
def execSessionClose (r : Req) (w : Wire) (s : State) : Res :=
  .next (s.writeThen r 0x1102 0 w
    (fun s _ v => if (s.session? v.toInt.toNat).isNone then some .stateConflict else none)
    (fun s sess v => if v.toInt.toNat = sess then s else s.closeSession v.toInt.toNat 1 sess)
    (fun s sess v => if v.toInt.toNat = sess then s.closeSession sess 1 sess else s))

/-! ## Event FIFOs (R75–R78) -/

/-- The session's observation of a FIFO ends where the read cancels it (R46). -/
def State.cancelObserve (s : State) (r : Req) (sess n : Nat) : State :=
  if r.cancel then
    s.updFifo n (fun f => { f with observer := f.observer.filter (fun o => o.sess != sess) })
  else s

/-- EVT_RECORDS_READ: the oldest 1–15 records, or a stalled read, behind those stalled already; an observed FIFO is refused. -/
def execEvtRecordsRead (r : Req) (n : Nat) (s : State) : Res :=
  .next (s.readChecked r (0x1200 + n) 1 (fun s sess =>
    let s := s.cancelObserve r sess n
    let f := nth s.mg.fifos n
    let k := Obj.key (0x1200 + n) 1
    if f.observer.isSome then s.replyRc sess (r.answers k) .stateConflict
    else if f.recs = [] ∨ f.stalled ≠ [] then
      s.updFifo n (fun f => { f with stalled := f.stalled ++ [{ sess := sess, tok := r.answers k, asked := r.asked }] })
    else (s.updFifo n (fun f => { f with recs := f.recs.drop batch })).replyRead r sess k (.records (f.recs.take batch))))

/-- The oldest stalled read of capture FIFO `n` is answered (R480). -/
def State.capServe (s : State) (n : Nat) : State :=
  let f := nth s.diag.caps n
  match f.stalled, f.recs with
  | x :: rest, _ :: _ =>
    let k := capBatch f.recs
    ((s.updCap n (fun f => { f with stalled := rest, recs := f.recs.drop k })).replyAsked x.asked x.sess x.tok
      (.octets (capOctets (f.recs.take k)))).touch x.sess
  | _, _ => s

/-- STALLED_READ_SERVED: the oldest stalled read of FIFO `n` is answered with what has arrived; 8–11 are CAP0–CAP3. -/
def execStalledReadServed (n : Nat) (s : State) : Res :=
  if 8 ≤ n then .next (s.capServe (n - 8))
  else
  let f := nth s.mg.fifos n
  match f.stalled, f.recs with
  | x :: rest, _ :: _ =>
    .next (((s.updFifo n (fun f => { f with stalled := rest, recs := f.recs.drop batch })).replyAsked x.asked x.sess x.tok
      (.records (f.recs.take batch))).touch x.sess)
  | _, _ => .next s

/-- EVT_OBSERVE_REGISTER: the single observer of the FIFO; a second registration is refused. DESIGN CHOICE (log 53): reads that are
stalled on the FIFO do not refuse the registration; they stay stalled and are served by the next records, notified or not. Unsafe
for which of the two gets a record. -/
def execEvtObserveRegister (r : Req) (n : Nat) (s : State) : Res :=
  .next (s.readChecked r (0x1200 + n) 1 (fun s sess =>
    if (nth s.mg.fifos n).observer.isSome then s.replyRc sess (r.answers (Obj.key (0x1200 + n) 1)) .stateConflict
    else s.updFifo n (fun f => { f with observer := some { sess := sess, tok := r.tok, outstanding := none } })))

/-- OBSERVE_NOTIFY: records present and none outstanding; on the Quay port a notification place must be free (R49), on the trunk a
port must be UP, and the notification leaves on every one that is (R14). -/
def execObserveNotify (n : Nat) (s : State) : Res :=
  let f := nth s.mg.fifos n
  match f.observer, f.recs.take batch with
  | some o, r0 :: rs =>
    if o.outstanding.isSome then .next s
    else
      let last := ((r0 :: rs).getLast?.map (·.seq)).getD r0.seq
      let mark := fun (s : State) =>
        s.updFifo n (fun f => { f with observer := some { o with outstanding := some last } })
      if o.sess = 0 then
        if notificationPlaces ≤ s.mg.quay.notifications.length then .next s
        else .next (mark (s.quayFrame 3 { tok := o.tok, key := Obj.key (0x1200 + n) 1, ack := none } coapContent (.records (r0 :: rs))
          (some (n, last))))
      else
        let ctx := (s.session o.sess).ctx
        let u := if s.upPorts = [] then (s, false) else s.protectMsg ctx
        if u.2 = false then .next u.1
        else
          .next (mark ((u.1.takeOscoreSeq ctx).emit (.notify o.sess o.tok (r0 :: rs) s.upPorts)))
  | _, _ => .next s

/-- NOTIFICATION_ACK: the records of the acknowledged notification leave the FIFO. -/
def execNotificationAck (n : Nat) (s : State) : Res :=
  match (nth s.mg.fifos n).observer with
  | some o =>
    match o.outstanding with
    | some last => if o.sess = 0 then .next s else .next (s.updFifo n (fun f => (f.leave last).settle))
    | none => .next s
  | none => .next s

/-- NOTIFICATION_TIMEOUT: the observation ends and the records stay. -/
def execNotificationTimeout (n : Nat) (s : State) : Res :=
  match (nth s.mg.fifos n).observer with
  | some o =>
    if o.sess ≠ 0 ∧ o.outstanding.isSome then .next ((s.updFifo n (fun f => { f with observer := none })).touch o.sess) else .next s
  | none => .next s

/-- EVT_FLUSH: every record present is discarded and counted in FLUSHED; LOST and the stalled reads stay. -/
def execEvtFlush (r : Req) (n : Nat) (w : Wire) (s : State) : Res :=
  .next (s.write r (0x1200 + n) 4 w (fun _ _ _ => none) (fun s _ _ =>
    s.updFifo n (fun f => { f with recs := [], flushed := (f.flushed + f.recs.length) % 2 ^ 64 })))

/-! ## The change journal (R60) -/

/-- JOURNAL_RECORD_READ: the record at the session's cursor, and the cursor moves on; RANGE for any other cursor. -/
def execJournalRecordRead (r : Req) (s : State) : Res :=
  .next (s.readChecked r 0x1112 0 (fun s sess =>
    match s.lb.journal.find? (fun j => j.seq == (s.session sess).cursor) with
    | none => s.replyRc sess (r.answers Obj.JOURNAL_RECORD) .range
    | some j =>
      (s.updSession sess (fun x => { x with cursor := (x.cursor + 1) % 2 ^ 32 })).replyRead r sess Obj.JOURNAL_RECORD
        (.octets j.octets)))

end Sys2Proof.Machine
end

