-- ==== Sys2Proof/Machine/Front.lean ====
section
/-! DEFINITION. The commands of chapter 03, Compass Rose: gain steps, transmission groups, match state and retunes,
synthesisers and their calibration, aerial modes. -/
namespace Sys2Proof.Machine

/-! ## Gain steps (R82–R84) -/

/-- Top gain step of a port: G4 on LA and LB, G1 on HA and HB. -/
def topStep (p : Nat) : Nat := if p < 2 then 4 else 1

/-- GAIN_STEP_DOWN (R82): 16 or more samples at −1 dBFS within 1 µs, at most one step per µs. -/
def execGainStepDown (p samples : Nat) (s : State) : Res :=
  let now := s.getN (Obj.PP_GAIN_STEP_NOW p)
  if p < 4 ∧ s.isOn (rxDom p) ∧ s.getN (Obj.PP_GAIN_MODE p) = 0 ∧ bit (s.getN Obj.TRIM_STATUS) 3 = false ∧ (s.port p).blanked = false ∧ 16 ≤ samples ∧ 0 < now
      ∧ (s.port p).clipAt + usC ≤ s.now then
    .next (((s.stepGain p (now - 1)).bump (Obj.PP_CLIP_EVENTS p)).updPort p (fun x => { x with clipAt := s.now }))
  else .next s

/-- GAIN_STEP_UP (R82): the peak below −20 dBFS for PP_GAIN_UP_HOLD. -/
def execGainStepUp (p heldMs : Nat) (s : State) : Res :=
  let now := s.getN (Obj.PP_GAIN_STEP_NOW p)
  if p < 4 ∧ s.isOn (rxDom p) ∧ s.getN (Obj.PP_GAIN_MODE p) = 0 ∧ bit (s.getN Obj.TRIM_STATUS) 3 = false ∧ (s.port p).blanked = false
      ∧ s.getN (Obj.PP_GAIN_UP_HOLD p) ≤ heldMs ∧ now < topStep p then
    .next (s.stepGain p (now + 1))
  else .next s

/-! ## FEM controls (R114, R117) -/

/-- LNA_EN and BYP of a port as its receive domain and its gain step have them. -/
def State.lna (s : State) (p : Nat) (x : Port) : Port := x.lna (s.isOn (rxDom p)) (s.getN (Obj.PP_GAIN_STEP_NOW p))

/-- The FEM controls of a transmitting port. -/
def State.femTransmit (s : State) (p mode pabias : Nat) : State :=
  s.updPort p (fun x => s.lna p { x with paEn := true, tr := true, mode := mode, pabias := pabias })

/-- The FEM controls of a receiving port. -/
def State.femReceive (s : State) (p : Nat) : State :=
  s.updPort p (fun x => s.lna p { x with paEn := false, tr := false, mode := 0, pabias := 0 })

/-- The lead of a transmission on port `p` with a power-table entry (R97, R114), `t0` its Transmit start: the FEM controls are
driven and the driver ramps up, each edge at the balls earlier by PP_TX_DELAY. -/
def State.femLead (s : State) (p : Nat) (t0 : Tick) (word : Nat) : State :=
  let at' := fun (us : Nat) => s.ballAt p (t0 - us * usT)
  let mode := word / 2 ^ 18 % 4
  let bias := word / 256 % 1024
  (s.femTransmit p mode bias).emit
    (.fem p [(.lead mode, at' 20), (.paOn, at' 16), (.bias bias, at' 14), (.rampUp (word % 256), at' 4)])

/-- The tail of a transmission that ends, or whose forced ramp begins, at `te` (R114, R115). -/
def State.femTail (s : State) (p : Nat) (te : Tick) : State :=
  let at' := fun (us : Nat) => s.ballAt p (te + us * usT)
  (s.femReceive p).emit (.fem p [(.rampDown, at' 4), (.paOff, at' 5), (.receive, at' 8)])

/-- Ports still blanked by a group on air or a retune. -/
def State.blankers (s : State) : List Nat :=
  s.onAir.flatMap (fun g => s.blankPorts g.port) ++ (List.range 4).filter (fun p => (s.port p).retuneRun.isSome)

/-- Blanking ends on the ports that nothing blanks any more; a fixed gain step comes into force (R84, R109). -/
def State.unblank (s : State) (ps : List Nat) : State :=
  ps.foldl (fun s p =>
    if s.blankers.contains p then s else (s.updPort p (fun x => { x with blanked := false })).holdGain p) s

/-! ## Transmission groups (R96, R99, R105, R108, R114) -/

/-- Back-off B in table steps for N_PLAN carriers (R99). -/
def backoff (n : Nat) : Nat := [0, 0, 11, 14, 17, 18, 20, 21, 23].getD n 23

/-- A frame the chain does not take: data deferred, an acknowledgement withheld, a beacon skipped (R165, R167, R182, R186). A
frame of a SHARED cell waits for another one (R181). -/
def State.refuseFrame (s : State) (f : AirFrame) (reason : Nat) : State :=
  if f.kind = 0 then
    if f.shared then (s.bump (Obj.DEFER_BY_REASON (reason - 1))).addDue f.again else s.deferral f.ref f.cell f.asn reason
  else if f.kind = 1 then s.bump (if reason = 8 then Obj.ACK_WITHHELD_BLANK else Obj.ACK_WITHHELD_CHAIN)
  else s.bump Obj.BEACONS_SKIPPED

/-- When a frame of a group is on air, in µs after the group's transmit instant. -/
def AirFrame.span (f : AirFrame) : Nat × Nat := (f.start, f.start + f.air)

/-- The frames that keep at most `n` carriers on air at one time, and those refused with CARRIER_LIMIT (R96). -/
def splitLimit (n : Nat) (fs : List AirFrame) : List AirFrame × List AirFrame :=
  fs.foldl (fun acc f =>
    if peak ((acc.1 ++ [f]).map (·.span)) ≤ n then (acc.1 ++ [f], acc.2) else (acc.1, acc.2 ++ [f])) ([], [])

/-- The wait for the acknowledgement of a frame (R168). -/
def State.ackWait (s : State) (g : Group) (f : AirFrame) : AckWait :=
  let st := g.start + f.start * usT
  let te := st + f.air * usT
  let d := s.getN (Obj.PN_ACK_DELAY f.pan)
  let lee := s.leeway (s.node? f.node) f.sf st
  { ref := f.ref, node := f.node, pan := f.pan, sf := f.sf, cell := f.cell, asn := f.asn,
    opens := te + d * usT - s.getN Obj.LEEWAY_BASE * usT,
    latestSfd := te + (d + lee + s.preUs f.pan (s.getN (Obj.PN_TX_MODE f.pan))) * usT, shared := f.shared,
    air := f.air, cls := f.cls, tries := f.tries, freq := f.freq, mseq := f.mseq, own := !s.silent }

/-- The acknowledgements of frames are awaited: a shadow awaits those of the frames that the active sends (R325). -/
def State.awaitAcks (s : State) (g : Group) (fs : List AirFrame) : State :=
  { s with helm := { s.helm with waits := s.helm.waits ++ (fs.filter (fun f => f.kind == 0 && f.ackReq)).map (s.ackWait g) } }

/-- The frames of a group go on air: counters, waits, the content of beacons, capture. -/
def State.sendFrames (s : State) (g : Group) (psdus : List Octets) : State :=
  (g.frames.zipIdx).foldl (fun s e =>
    let f := e.1
    let s := s.bump (if f.kind = 0 then Obj.TX_ATTEMPTS else if f.kind = 1 then Obj.ACKS_SENT else Obj.BEACONS_SENT)
    let s := s.awaitAcks g [f]
    let s := if 2 ≤ f.kind then s.emit (.beacon f.pan (s.beaconOf f)) else s
    let s := if f.kind = 3 then s.updPan f.pan (fun x => { x with assertLeft := x.assertLeft - 1 }) else s
    s.capture 1 g.port (some f.node) true true (g.start + f.start * usT) [] (psdus.getD e.2 [])) s

/-- The carriers of a group that R96 and R99 take, and those refused with their reasons. -/
def State.chainTakes (s : State) (g : Group) : List AirFrame × List (AirFrame × Nat) :=
  let cap := s.getN (Obj.CC_MAX_INDEX g.chain)
  let lim := splitLimit g.nplan (g.frames.map (fun f => { f with req := min f.req cap }))
  let top := s.topReq g
  (lim.1.filter (fun f => !decide (f.req + 60 < top)),
    lim.2.map (fun f => (f, 4)) ++ (lim.1.filter (fun f => decide (f.req + 60 < top))).map (fun f => (f, 6)))

/-- The carriers of a group on air start: blanking drops receptions, and they are items of the member's own output. -/
def State.carriersOn (s : State) (g : Group) (fs : List AirFrame) (psdus : List Octets) : State :=
  let s := s.blankRecs (s.blankedBy g.port (fs.map (·.freq)))
  fs.foldl (fun s f => s.airItem g f) (s.sendFrames { g with frames := fs } psdus)

/-- A group whose chain is LOCKED starts (R96–R99, R109, R114): N_PLAN is supplied, refused carriers leave it, the FEM controls
are driven with the group's table entry, which is read once, and blanking begins. A group that would drop a reception past its SFD
does not start (R165). A silent member drives nothing (R310, R311). -/
def State.startGroup (s : State) (g : Group) (psdus : List Octets) : State :=
  let g := { g with nplan := s.nPlan g }
  let r := s.chainTakes g
  let s := r.2.foldl (fun s e => s.refuseFrame e.1 e.2) s
  if r.1 = [] then s
  else if s.silent = false ∧ s.wouldDrop (blankingOf s.onAir) g.port (r.1.map (·.freq)) [] then r.1.foldl (fun s f => s.refuseFrame f 8) s
  else if s.guardsAssertion (bandOf g.port) g.start (g.start + g.length * usT) then r.1.foldl (fun s f => s.refuseFrame f 10) s
  else
    let m := if s.getN (Obj.PP_MATCH_STATE g.port) = 1 then 6 else 0
    let e := s.topReq g - backoff g.nplan - m
    let word := s.getN (Obj.CC_PTAB g.chain e)
    let g := { g with frames := r.1, entry := e, top := s.topReq g }
    let s := s.updChain g.chain (fun c => { c with group := some g, drv := if s.silent then none else some (word % 256) })
    if s.silent then s.awaitAcks g r.1
    else
      let s := s.femLead g.port g.start word
      let s := (s.blankPorts g.port).foldl (fun s p => s.updPort p (fun x => { x with blanked := true })) s
      ((s.carriersOn g r.1 psdus).bump (Obj.CC_TX_GROUPS g.chain)).emit (.air g (s.ballAt g.port g.start))

/-- A frame joins the group on air on its chain, at its own start (R96): beyond R95, N_PLAN or R99 it is refused. The group's entry
stands, so a frame assigned since the group started is sent at most at the group's max(req) (DESIGN CHOICE, log 57). After a yield
no frame joins a group that the member drives: it is the new active's (R321, R325). -/
def State.joinGroup (s : State) (g : Group) (x : AirFrame) (psdus : List Octets) : State :=
  let top := g.top
  let x := { x with req := min top (min x.req (s.getN (Obj.CC_MAX_INDEX g.chain))) }
  if carrierOk g.freq (x.freq, x.bw) = false then s.refuseFrame x 5
  else if g.nplan < peak ((g.frames ++ [x]).map (·.span)) then s.refuseFrame x 4
  else if x.req + 60 < top then s.refuseFrame x 6
  else
    let drives := (s.chain g.chain).drv.isSome
    if drives ∧ s.silent then s
    else if drives ∧ s.wouldDrop (blankingOf s.onAir) g.port [x.freq] [] then s.refuseFrame x 8
    else
      let s := s.updChain g.chain (fun c => { c with group := some { g with frames := g.frames ++ [x] } })
      if drives then (s.carriersOn g [x] psdus).emit (.air { g with frames := [x] } (s.ballAt g.port (g.start + x.start * usT)))
      else s.awaitAcks g [x]

/-- R105 at a FEM lead that finds the chain not ready before `ready`, the instant its synthesiser is LOCKED: the frames that still
fit their cell wait for it, the others are deferred; acknowledgements never start late. What the later start blanks is tested and counted
again (R165). A port that another chain or a retune
still drives counts as not ready (DESIGN CHOICE, log 57). -/
def State.delayGroup (s : State) (g : Group) (ready : Tick) : State :=
  let start := max g.start (ready + 20 * usT)
  let fits := fun (f : AirFrame) => f.kind != 1 &&
    decide (s.needUs f.pan f.air f.ackReq (if f.kind = 0 then s.leeway (s.node? f.node) f.sf start else 0) * usT
      + start + f.start * usT ≤ s.cellStart f.pan (f.asn + 1))
  let kept := g.frames.filter fits
  let s := (g.frames.filter (fun f => !fits f)).foldl (fun s f => s.refuseFrame f 3) s
  let g := { g with start := start, frames := kept }
  if kept = [] then s
  else if s.silent = false ∧ (s.winsBlanked (bandOf g.port) (blankingOf [g]) (start - 20 * usT) (start + (g.length + 10) * usT)).any
      (·.2.2.2.rxProtect) then kept.foldl (fun s f => s.refuseFrame f 9) s
  else
    let s : State := { s with helm := { s.helm with plans := g :: s.helm.plans } }
    if s.silent then s else s.countBlanked (bandOf g.port) [g]

/-- The plan of a chain that starts first. -/
def State.planOf (s : State) (c : Nat) : Option Group :=
  (s.helm.plans.filter (fun g => g.chain == c)).foldl (fun m g =>
    match m with
    | none => some g
    | some x => if g.start < x.start then some g else some x) none

def State.dropPlan (s : State) (g : Group) : State :=
  { s with helm := { s.helm with plans := s.helm.plans.filter (fun x => x != g) } }

/-- Until when something else holds a port or a chain from a new group: a retune there (R89), another chain's group on the port
(R94), or a group of the chain that the new one cannot join. -/
def State.heldUntil (s : State) (g : Group) : Option Tick :=
  let tunes := (s.fe.ports.zipIdx.filterMap (fun e => (e.1.retuneRun.filter (fun r => e.2 == g.port || r.chain == g.chain)).map
    (fun r => s.timeAt r.start + (230 * usT : Nat)))).map Int.toNat
  let groups := ((s.fe.chains.filterMap (·.group)).filter (fun x => x.port == g.port || x.chain == g.chain)).map
    (fun x => x.start + (x.length + 10) * usT)
  match tunes ++ groups with
  | [] => none
  | l => some (l.foldl max 0)

/-- TX_GROUP_START: the FEM lead of the chain's next planned group. A group whose frames overlap one on air on the chain joins
it (R96). -/
def execTxGroupStart (c : Nat) (psdus : List Octets) (s : State) : Res :=
  match s.planOf c with
  | none => .next s
  | some g =>
    let s := s.dropPlan g
    if s.getN (Obj.PP_MATCH_STATE g.port) = 2 then
      .next (g.frames.foldl (fun s f => s.refuseFrame f 7) s)
    else
      match (s.chain c).group with
      | some x =>
        if x.port = g.port ∧ x.freq = g.freq then
          .next ((g.frames.zipIdx).foldl (fun s e =>
            let y := (s.chain c).group.getD x
            s.joinGroup y { e.1 with start := e.1.start + (g.start - y.start) / usT } [psdus.getD e.2 []]) s)
        else .next (s.delayGroup g ((s.heldUntil g).getD s.time + 60 * usT))
      | none =>
        match s.heldUntil g with
        | some t => .next (s.delayGroup g t)
        | none =>
          if s.isOn (chainDom c) ∧ s.getN (Obj.CC_SYNTH_STATE c) = 2 ∧ s.getN (Obj.CC_SYNTH_FREQ c) = g.freq then
            .next (s.startGroup g psdus)
          else .next (s.delayGroup g (s.timeAt (s.chainReady c)).toNat)

/-- A group leaves the air at `te`: ramp-down, FEM controls back to receive, blanking ends (R114, R115), and a transmit domain kept
on for it may go off (R118). -/
def State.groupOff (s : State) (g : Group) (te : Tick) : State :=
  let drives := (s.chain g.chain).drv.isSome
  let s := s.updChain g.chain (fun c => { c with group := none, drv := none, lastGroupEnd := s.now })
  if drives then ((s.femTail g.port te).unblank (s.blankPorts g.port)).radioPower else s

/-- The charges of a group: the air time of each frame to the end of ramp-down, `cut` at most (R188). The reservations
of its frames are released. -/
def State.chargeGroup (s : State) (g : Group) (cut : Option Nat) : State :=
  g.frames.foldl (fun s f =>
    let s := if f.kind = 0 then s.dutyDrop f.ref (instKey f.cell f.asn) else s
    if cut.elim false (fun c => decide (c ≤ f.start)) then s
    else s.dutyCharge f.freq f.bw (s.countAt (g.start + f.start * usT)) (cut.elim f.air (fun c => min f.air (c - f.start)) + 4)) s

/-- The chains that may drive a port are none: it has no retune (R93). -/
def State.retunable (s : State) (p : Nat) : Bool := !(s.chainsOf p).isEmpty

/-- Queue a retune: one of the same port that is queued takes it in, and a commanded one notes what it has absorbed (R93, R121). -/
def State.queueRetune (s : State) (p cause : Nat) : State :=
  if s.retunable p = false then s
  else
    match (s.port p).retuneReq with
    | none =>
      s.updPort p (fun x => { x with retuneReq := some { cause := cause, absorbed := none, set := none, since := s.now },
                                     holdoff := none })
    | some q =>
      if q.cause = 2 ∧ q.absorbed = none then
        s.updPort p (fun x => { x with retuneReq := some { q with absorbed := some (cause, s.now) }, holdoff := none })
      else s

/-- The average of the return loss over a group that ran for `us` µs is written and judged; a group shorter than 60 µs is not
measured (R85, R86, R88). -/
def State.judgeMatch (s : State) (g : Group) (us rl : Nat) : State :=
  let p := g.port
  if us < 60 then s
  else
    let s := s.setN (Obj.PP_RETURN_LOSS p) (min 400 rl)
    if rl < 60 ∧ s.getN (Obj.PP_MATCH_STATE p) = 0 ∧ s.retunable p then
      ((s.setN (Obj.PP_MATCH_STATE p) 1).raiseOn 0x3001 2 (0x3000 + p) (be 1 p ++ be 2 rl ++ be 1 g.chain)).queueRetune p 0
    else s

/-- The isolation of a SPLIT band is measured on every group; the fourth below 45.0 dB puts the band in SAME (R110). -/
def State.judgeIsolation (s : State) (g : Group) (iso : Nat) : State :=
  let b := bandOf g.port
  if s.split b then
    let s := s.setN (if b = 0 then Obj.LOW_ISOLATION else Obj.HIGH_ISOLATION) (min 1000 iso)
    let n := if iso < 450 then (s.port (2 * b)).badIso + 1 else 0
    let s := s.updPort (2 * b) (fun x => { x with badIso := n })
    if 4 ≤ n then
      (s.setN (if b = 0 then Obj.LOW_AERIAL_IN_FORCE else Obj.HIGH_AERIAL_IN_FORCE) 0).raiseOn 0x3008 2 0x3020
        (be 1 b ++ be 2 iso)
    else s
  else s

/-- Frames sent without an acknowledgement request are delivered at the end of their attempt (R253, R261). -/
def State.deliverUnacked (s : State) (g : Group) (fs : List AirFrame) : State :=
  fs.foldl (fun s f =>
    if f.kind = 0 ∧ f.ackReq = false then
      (s.attemptEnds f.ref f.cell f.asn 0).report f.ref 2 (g.start + (f.start + f.air) * usT)
    else s) s

/-- TX_GROUP_END: the last frame of the chain's group ends; `rl` and `iso` are the group's return loss and isolation in
0.1 dB. -/
def execTxGroupEnd (c rl iso : Nat) (s : State) : Res :=
  match (s.chain c).group with
  | none => .next s
  | some g =>
    let te := g.start + g.length * usT
    if (s.chain c).drv = none then .next ((s.groupOff g te).chargeGroup g none)
    else .next (((((s.judgeMatch g g.length rl).judgeIsolation g iso).groupOff g te).chargeGroup g none).deliverUnacked g g.frames)

/-- How long a group has been on air, in µs. -/
def State.airedUs (s : State) (g : Group) : Nat := (s.time - g.start) / usT

/-- The frames of a group on air that a ramp-down now ends: those whose air interval has begun and is not over (R87, R106). -/
def State.ended (s : State) (g : Group) : List AirFrame :=
  g.frames.filter (fun f => decide (f.start ≤ s.airedUs g ∧ s.airedUs g < f.start + f.air))

/-- A group is cut on air (R87, R106): what was sent is charged, and every data frame it ends is an attempt made and not
acknowledged, with no acknowledgement awaited. Frames that were over before stand as sent. -/
def State.cutGroup (s : State) (g : Group) : State :=
  let us := s.airedUs g
  let gone := s.ended g
  let aired := g.frames.filter (fun f => decide (f.start + f.air ≤ us))
  let s := (((s.cutItems g).groupOff g s.time).chargeGroup g (some us)).deliverUnacked g aired
  let waits := s.helm.waits.filter (fun w => !(gone.any (fun f => f.kind == 0 && f.cell == w.cell && f.asn == w.asn
    && f.node == w.node)))
  let s := { s with helm := { s.helm with waits := waits } }
  gone.foldl (fun s f =>
    if f.kind = 0 then
      let s := if f.shared ∧ f.ackReq then s.sharedMiss (s.ackWait g f)
        else s.attemptEnds f.ref f.cell f.asn 15
      if f.ackReq then s.miss f.node f.sf (s.cellTag f.cell) else s
    else s) s

/-- MISMATCH_SEVERE (R85–R87): the running 20 µs average of the chain's port, which starts 20 µs after Transmit start, falls to
`rl`, below 3.5 dB. -/
def execMismatchSevere (c : Nat) (m : CutMeasure) (s : State) : Res :=
  match (s.chain c).group with
  | none => .next s
  | some g =>
    if 35 ≤ m.rl ∨ (s.chain c).drv = none ∨ s.airedUs g < 40 then .next s
    else
      let n := (s.ended g).length
      let s := ((s.setN (Obj.PP_MATCH_STATE g.port) 2).judgeMatch g (s.airedUs g) m.avg).judgeIsolation g m.iso
      .next (((s.cutGroup g).raiseOn 0x3002 3 (0x3000 + g.port)
        (be 1 g.port ++ be 2 m.rl ++ be 1 c ++ be 1 n)).queueRetune g.port 1)

/-! ## Retunes (R89–R93, R120) -/

/-- A chain LOCKED and free. -/
def State.lockedFree (s : State) (c : Nat) : Bool :=
  s.isOn (chainDom c) && s.getN (Obj.CC_SYNTH_STATE c) == 2 && (s.chain c).group.isNone && (s.chain c).calRun.isNone
    && (s.retuneOn c).isNone

/-- The quiet slot inserted for a port that is on now (R166). -/
def State.inQuiet (s : State) (kind ix : Nat) : Bool :=
  s.helm.quiet.any (fun q => q.kind == kind && (if kind = 0 then q.chain == ix else q.port == ix) &&
    q.asn == s.asnAt q.pan s.time)

/-- Nothing is to be sent, by a frozen plan or as an acknowledgement, on what the two picks name for 250 µs from now. -/
def State.quietFor (s : State) (plan : Group → Bool) (ack : AckPlan → Bool) : Bool :=
  s.helm.plans.all (fun g => !plan g || decide (s.time + 250 * usT ≤ g.start)) &&
    s.helm.acks.all (fun a => !ack a || decide (s.time + 250 * usT ≤ a.start))

/-- No frame handed to Helm falls due on port `p` within 250 µs. -/
def State.noneDue (s : State) (p : Nat) : Bool :=
  s.helm.due.all (fun d => d.cell == noCell || d.start < s.time || decide (s.time + 250 * usT ≤ d.start) ||
    s.getN (Obj.PN_BAND d.pan) != bandOf p || s.pickPort (bandOf p) d.port d.node != some p)

/-- Nothing else uses the quiet window that a chain is in: one window carries a calibration or a retune, never both (R103). -/
def State.windowFree (s : State) (c : Nat) : Bool := (s.chain c).window.elim true (fun t => decide (t ≤ s.now))

/-- The work of a retune begins: its port is blanked and driven with entry 0 of the chain's table for its probes, the first
20 µs from now (R90, R91, R114). -/
def State.beginRetune (s : State) (p winUs : Nat) (run : RetuneRun) : State :=
  let s := s.updPort p (fun x => { x with retuneReq := none, retuneRun := some run, blanked := true })
  let s := s.updChain run.chain (fun x => { x with window := some (s.now + winUs * usC) })
  (s.femLead p (s.time + 20 * usT) (s.getN (Obj.CC_PTAB run.chain 0))).blankRecs (fun r => winPort r.win == p)

/-- RETUNE_RUN (R89, R90): the first quiet window of at least 250 µs on port `p`, with chain `c` locked and free. A pending
calibration of the chain comes first (R103). -/
def execRetuneRun (p c winUs : Nat) (s : State) : Res :=
  match (s.port p).retuneReq with
  | none => .next s
  | some q =>
    let quiet := s.inQuiet 1 p
    if s.silent = false ∧ 250 ≤ winUs ∧ (s.chainsOf p).contains c ∧ s.lockedFree c ∧ (s.port p).retuneRun.isNone
        ∧ s.getB (Obj.CC_CAL_PENDING c) = false ∧ (s.chain c).calQueue = [] ∧ s.windowFree c
        ∧ s.quietFor (fun g => g.port == p || g.chain == c) (fun a => a.port == p || a.chain == c) ∧ (quiet ∨ s.noneDue p)
        ∧ s.fe.chains.all (fun x => x.group.elim true (fun g => g.port != p))
        ∧ s.rx.recs.all (fun r => r.sfd.isNone || winPort r.win != p) then
      let run : RetuneRun :=
        { req := q, chain := c, inserted := quiet, rlBefore := s.getN (Obj.PP_RETURN_LOSS p), start := s.now, lost := [] }
      let s := if q.cause = 2 then s.procEst Obj.BEARING_RETUNE s.time else s
      let x : Item := { band := bandOf p, kind := 4, channel := 0, instant := s.time / usT % 2 ^ 32, who := p, what := 0 }
      let s := { s with cs := { s.cs with aired := (x, s.time, s.time + 250 * usT) :: s.cs.aired } }
      .next ((s.stream (.plan s.time [(x, 250)])).beginRetune p winUs run)
    else .next s

/-- The search of R91: codes, their return loss, probes made, results still to come. -/
structure Search where
  c1 : Nat
  c2 : Nat
  rl : Nat
  probes : Nat
  left : List Nat
  improved : Bool
deriving DecidableEq, Repr

/-- One direction: a candidate clamped to 0–63, one probe, taken when it is better by more than 0.2 dB. -/
def Search.try (st : Search) (d1 d2 : Int) : Search :=
  let a := (clampI 0 63 (st.c1 + d1)).toNat
  let b := (clampI 0 63 (st.c2 + d2)).toNat
  if st.probes = 40 ∨ (a = st.c1 ∧ b = st.c2) then st
  else
    let rl := st.left.headD 0
    let st := { st with probes := st.probes + 1, left := st.left.tail }
    if st.rl + 2 < rl then { st with c1 := a, c2 := b, rl := rl, improved := true } else st

/-- The passes with one step width, while the last pass improved. -/
def Search.passes (step : Int) : Nat → Search → Search
  | 0, st => st
  | n + 1, st =>
    if st.improved ∧ st.probes < 40 then
      let st := { st with improved := false }
      Search.passes step n ((((st.try step 0).try (-step) 0).try 0 step).try 0 (-step))
    else st

/-- The whole search from codes `c1`, `c2` with the probes' results in order. -/
def retuneSearch (c1 c2 : Nat) (rls : List Nat) : Search :=
  let st : Search := { c1 := c1, c2 := c2, rl := rls.headD 0, probes := 1, left := rls.tail, improved := true }
  [8, 4, 2, 1].foldl (fun st step => Search.passes step 40 { st with improved := true }) st

/-- The frequency of the probe: 1 MHz above the chain's synthesiser. -/
def State.probeFreq (s : State) (c : Nat) : Nat := s.getN (Obj.CC_SYNTH_FREQ c) + 1000000

/-- Probes a retune has begun by now: 5 µs each, the first 20 µs after its start, 40 at most (R91). -/
def State.probesSent (s : State) (run : RetuneRun) : Nat := min 40 (cdiv (s.now - (run.start + 20 * usC)) (5 * usC))

/-- A retune on port `p` leaves the air after `n` probes, done or cut short: their air time is charged (R90, R188), the FEM
controls return and blanking ends. -/
def State.retuneOff (s : State) (p : Nat) (run : RetuneRun) (n : Nat) : State :=
  let s := if n = 0 then s else s.dutyCharge (s.probeFreq run.chain) 2 (run.start + 20 * usC) (n * 5)
  ((s.updPort p (fun x => { x with retuneRun := none })).femTail p (s.timeAt (run.start + (20 + n * 5) * usC)).toNat).unblank [p]

/-- The state and events of a retune's result (R86, R92): entry to SEVERE is reported as such too. -/
def State.retuneResult (s : State) (p c rl : Nat) (param : Octets) : State :=
  let old := s.getN (Obj.PP_MATCH_STATE p)
  let s := s.setN (Obj.PP_MATCH_STATE p) (if 60 ≤ rl then 0 else if 35 ≤ rl then 1 else 2)
  let s := s.raiseOn (if 35 ≤ rl then 0x3004 else 0x3005) (if 35 ≤ rl then 0 else 2) (0x3000 + p) param
  let s := if rl < 35 ∧ old ≠ 2 then s.raiseOn 0x3002 3 (0x3000 + p) (be 1 p ++ be 2 rl ++ be 1 c ++ be 1 0) else s
  let s := if 60 ≤ rl ∧ old ≠ 0 then s.raiseOn 0x3003 0 (0x3000 + p) (be 1 p ++ be 2 rl) else s
  if rl < 60 then
    s.updPort p (fun x => { x with holdoff := some (s.now + s.getN (Obj.PP_RETUNE_HOLDOFF p) * secC) })
  else s.updPort p (fun x => { x with holdoff := none })

/-- RETUNE_DONE (R91, R92): `rls` are the probes' return losses in order, in 0.1 dB. -/
def execRetuneDone (p : Nat) (rls : List Nat) (s : State) : Res :=
  match (s.port p).retuneRun with
  | none => .next s
  | some run =>
    let b1 := s.getN (Obj.PP_TUNE_C1 p)
    let b2 := s.getN (Obj.PP_TUNE_C2 p)
    let r : Search := match run.req.set with
      | some (a, b) => { c1 := a, c2 := b, rl := rls.headD 0, probes := 1, left := [], improved := false }
      | none => retuneSearch b1 b2 rls
    let s := (s.setQ (Obj.PP_TUNE_C1 p) (.int r.c1)).setQ (Obj.PP_TUNE_C2 p) (.int r.c2)
    let s := (s.setN (Obj.PP_RETURN_LOSS p) (min 400 r.rl)).bump (Obj.PP_RETUNE_COUNT p)
    let s := (s.retuneOff p run r.probes).retuneResult p run.chain r.rl (be 1 p ++ be 1 run.req.cause ++ be 1 b1 ++ be 1 b2
      ++ be 1 r.c1 ++ be 1 r.c2 ++ be 2 run.rlBefore ++ be 2 r.rl ++ be 1 r.probes ++ be 1 (b2n run.inserted))
    let s := if run.req.cause = 2 then s.procDone Obj.BEARING_RETUNE .ok else s
    .next s.radioPower

/-- RETUNE_HOLDOFF_EXPIRY (R92). -/
def execRetuneHoldoffExpiry (p : Nat) (s : State) : Res :=
  match (s.port p).holdoff with
  | none => .next s
  | some t =>
    let st := s.getN (Obj.PP_MATCH_STATE p)
    if t ≤ s.now ∧ st ≠ 0 then .next ((s.updPort p (fun x => { x with holdoff := none })).queueRetune p (st - 1))
    else .next s

/-- Arguments of BEARING_RETUNE outside R120 are refused with RANGE. -/
def badRetune (v : Val) : Option Rc :=
  let o := v.toOctets
  if fld o 0 1 < 4 ∧ ((fld o 1 1 = 0 ∧ fld o 2 2 = 0) ∨ (fld o 1 1 = 1 ∧ fld o 2 1 < 64 ∧ fld o 3 1 < 64)) then none
  else some .range

/-- A commanded retune: NOT_PERMITTED_NOW on a port no chain may use; a queued automatic one is absorbed (R93). -/
def State.commandRetune (s : State) (o : Octets) : State :=
  let p := fld o 0 1
  if s.retunable p = false then s.procDone Obj.BEARING_RETUNE .notPermittedNow
  else
    let set := if fld o 1 1 = 1 then some (fld o 2 1, fld o 3 1) else none
    s.updPort p (fun x =>
      let since := x.retuneReq.elim s.now (·.since)
      { x with retuneReq := some { cause := 2, absorbed := x.retuneReq.map (fun q => (q.cause, q.since)), set := set, since := since } })

/-- The MODE octet of BEARING_RETUNE_ARGS, which tells the two rows of the table apart. -/
def retuneMode (w : Wire) : Nat :=
  match w with
  | .bytes o => if o.length = 4 then fld o 1 1 else 0
  | _ => 0

/-- The estimated start of work that waits for the schedule is a free value (log 13). -/
def State.freeEst (s : State) : Tick := Config.freeValue s.free
def State.tookFree (s : State) : State := { s with free := s.free + 1 }

/-- BEARING_RETUNE_SEARCH: a start of BEARING_RETUNE with MODE 0, or with arguments that no mode takes. -/
def execBearingRetuneSearch (r : Req) (w : Wire) (s : State) : Res :=
  if retuneMode (s.itemSoFar r (Obj.key Obj.BEARING_RETUNE 3) w) = 1 then .next s
  else .next (s.start r Obj.BEARING_RETUNE w (fun _ _ v => badRetune v) (fun s _ => s.freeEst)
    (fun s _ v => s.tookFree.commandRetune v.toOctets))

/-- BEARING_RETUNE_SET: a start of BEARING_RETUNE with MODE 1. -/
def execBearingRetuneSet (r : Req) (w : Wire) (s : State) : Res :=
  if retuneMode (s.itemSoFar r (Obj.key Obj.BEARING_RETUNE 3) w) = 1 then
    .next (s.start r Obj.BEARING_RETUNE w (fun _ _ v => badRetune v) (fun s _ => s.freeEst)
      (fun s _ v => s.tookFree.commandRetune v.toOctets))
  else .next s

/-! ## Synthesisers (R100–R107) -/

/-- The chain enters a synthesiser state. -/
def State.synth (s : State) (c st : Nat) : State :=
  (s.setN (Obj.CC_SYNTH_STATE c) st).updChain c (fun x => { x with stateSince := s.now })

/-- The chains a SYNTH_CALIBRATE_ARGS names. -/
def calChains (n : Nat) : List Nat := (List.range 3).filter (fun c => bit n c)

/-- SYNTH_CALIBRATE (R104, R120): a calibration of each named chain is queued. -/
def execSynthCalibrate (r : Req) (w : Wire) (s : State) : Res :=
  .next (s.start r Obj.SYNTH_CALIBRATE w
    (fun _ _ v => if 1 ≤ v.toInt ∧ v.toInt < 8 then none else some .range)
    (fun s v => s.calEst (calChains v.toInt.toNat))
    (fun s _ v =>
      let cs := calChains v.toInt.toNat
      let s := cs.foldl (fun s c => s.updChain c (fun x => { x with calQueue := x.calQueue ++ [0] })) s
      { s with fe := { s.fe with calProc := cs, calBegan := false } }))

/-- SYNTH_TEMP_SAMPLE (R102): the temperature-triggered calibration becomes pending. -/
def execSynthTempSample (c : Nat) (temp : Int) (s : State) : Res :=
  if c < 3 ∧ s.getN (Obj.CC_CAL_DELTA_T c) * 10 ≤ (temp - s.getI (Obj.CC_CAL_TEMP c)).natAbs
      ∧ s.getB (Obj.CC_CAL_PENDING c) = false then
    .next ((s.setB (Obj.CC_CAL_PENDING c) true).updChain c (fun x => { x with pendingSince := some s.now }))
  else .next s

/-- A calibration of chain `c` begins: a pending temperature-triggered one of the chain is cleared, the value of a chain whose
domain was off counts from its 40 µs (R107), and I:04 of the procedure takes the start of its first chain (R64). -/
def State.beginCal (s : State) (c cause : Nat) (until' : Option Count) : State :=
  let run : CalRun := { cause := cause, tempBefore := s.getI (Obj.CC_CAL_TEMP c), inserted := cause == 1 && s.inQuiet 0 c,
                        handle := cause == 0 }
  let cold := !s.isOn (chainDom c)
  let s := ((if cold then s.setCond (chainDom c) .on else s).synth c 3).setB (Obj.CC_CAL_PENDING c) false
  let s := s.updChain c (fun y =>
    { y with calQueue := y.calQueue.drop (if cause = 1 then 0 else 1), calRun := some run, pendingSince := none,
             stateSince := if cold then s.now + 40 * usC else s.now, window := if until'.isSome then until' else y.window })
  if cause = 0 ∧ s.fe.calBegan = false then
    { s with fe := { s.fe with calBegan := true } }.procEst Obj.SYNTH_CALIBRATE s.time
  else s

/-- SYNTH_CAL_START (R100, R103, R104): a commanded or unlock-triggered calibration starts once the group on air has
ended; a pending one needs a quiet window of 250 µs on the chain. A transmit domain that is off is powered first. Of two that are
queued on one chain both run, the one queued first first, and each waits for a retune that probes with the chain (DESIGN CHOICE,
log 57). -/
def execSynthCalStart (c winUs : Nat) (s : State) : Res :=
  let x := s.chain c
  let d := chainDom c
  let free := x.group.isNone && x.calRun.isNone && s.cond d != .reset && !s.pwr.off && !s.pwr.standby && decide (c < 3) &&
    (s.retuneOn c).isNone
  match x.calQueue with
  | cause :: _ => if free then .next (s.beginCal c cause none) else .next s
  | [] =>
    if free ∧ s.getB (Obj.CC_CAL_PENDING c) ∧ 250 ≤ winUs ∧ s.windowFree c
        ∧ s.quietFor (fun g => g.chain == c) (fun a => a.chain == c) then
      .next (s.beginCal c 1 (some (s.now + winUs * usC)))
    else .next s

/-- SYNTH_CAL_END (R100, R101): 180 µs after entry, into LOCKING; the values and the temperature go to Logbook. A domain kept on for
the calibration alone goes off (R404). -/
def execSynthCalEnd (c : Nat) (temp : Int) (s : State) : Res :=
  match (s.chain c).calRun with
  | none => .next s
  | some run =>
    if (s.chain c).stateSince + 180 * usC ≤ s.now then
      let s := (s.synth c (if s.isOn (chainDom c) then 1 else 0)).updChain c (fun x => { x with calRun := none })
      let s := (s.setQ (Obj.CC_CAL_TEMP c) (.int temp)).setQ (Obj.CC_CAL_TIME c) (t64 s.time)
      let s := s.raiseOn 0x3006 0 (0x3030 + c)
        (be 1 c ++ be 1 run.cause ++ beI 2 temp ++ beI 2 run.tempBefore ++ be 1 (b2n run.inserted))
      if run.handle then
        let left := s.fe.calProc.filter (fun x => x != c)
        let s := { s with fe := { s.fe with calProc := left } }
        .next (if left = [] then s.procDone Obj.SYNTH_CALIBRATE .ok else s).radioPower
      else .next s.radioPower
    else .next s

/-- SYNTH_LOCK (R100). A synthesiser that has lost its lock is LOCKING within 1 µs. -/
def execSynthLock (c : Nat) (s : State) : Res :=
  let st := s.getN (Obj.CC_SYNTH_STATE c)
  if c < 3 ∧ s.isOn (chainDom c) ∧ (st = 1 ∨ (st = 4 ∧ (s.chain c).stateSince + usC ≤ s.now)) then
    let f := s.getN (Obj.CC_SYNTH_FREQ c)
    .next ((s.synth c 2).updChain c (fun x => { x with lastLocked := some f }))
  else .next s

/-- SYNTH_UNLOCK (R100, R106): the lock detector falls while LOCKED; a group on air is cut and measured, and the synthesiser is
UNLOCKED until it re-enters LOCKING. -/
def execSynthUnlock (u : LockLoss) (s : State) : Res :=
  let c := u.c
  if c < 3 ∧ s.getN (Obj.CC_SYNTH_STATE c) = 2 then
    let x := s.chain c
    let second := x.lastUnlock.elim false (fun t => decide (s.now ≤ t + secC))
    let air := if x.drv.isSome then x.group else none
    let n := air.elim 0 (fun g => (s.ended g).length)
    let s : State := match air with
      | none => s
      | some g => (((s.judgeMatch g (s.airedUs g) u.rl).judgeIsolation g u.iso).cutGroup g).bump (Obj.CC_TX_UNLOCK_ABORTS c)
    let s := s.raiseOn 0x3007 (if second then 3 else 2) (0x3030 + c)
      (be 1 c ++ be 1 (b2n air.isSome) ++ be 1 n ++ be 4 (s.getN (Obj.CC_SYNTH_FREQ c)))
    let s := (s.synth c 4).updChain c (fun y => { y with lastUnlock := some s.now })
    .next (if second ∧ (s.chain c).calQueue.contains 2 = false then
      s.updChain c (fun y => { y with calQueue := y.calQueue ++ [2] }) else s)
  else .next s

/-- An UNLOCKED synthesiser enters LOCKING by itself (R100). -/
def State.synthRelock (s : State) : State :=
  (List.range 3).foldl (fun s c => if s.getN (Obj.CC_SYNTH_STATE c) = 4 then s.synth c 1 else s) s

/-- A synthesiser LOCKED and free with nothing due on its chain within SYNTH_LEAD goes OFF (R100); an inserted quiet slot
keeps its chain. -/
def State.synthRest (s : State) : State :=
  (List.range 3).foldl (fun s c =>
    if s.lockedFree c ∧ (s.chain c).calQueue = [] ∧ s.helm.quiet.all (fun q => q.chain != c)
        ∧ s.helm.plans.all (fun g => g.chain != c || decide (s.time + 110 * usT < g.start))
        ∧ s.helm.acks.all (fun a => a.chain != c || decide (s.time + 110 * usT < a.start)) then s.synth c 0
    else s) s

/-- The lock frequency for a retune in an inserted quiet slot (R89). -/
def State.quietFreq (s : State) (c p : Nat) : Nat :=
  match (s.chain c).lastLocked with
  | some f => f
  | none =>
    match (portWins p).find? (fun w => s.getB (Obj.WW_ENABLE_NOW w)) with
    | some w => s.winCentre w 0 + (s.getN (Obj.WW_CHANNELS_NOW w) - 1) * s.getN (Obj.WW_SPACING_NOW w) * 500
    | none => if p < 2 then 555000000 else 2441750000

/-- The acknowledgement assigned to a chain that starts first, outside the groups planned on it. -/
def State.nextAck (s : State) (c : Nat) : Option AckPlan :=
  (s.helm.acks.filter (fun a => a.chain == c && !s.helm.plans.any (fun g => g.chain == c && g.start ≤ a.start &&
    decide (a.start < g.start + g.length * usT)))).foldl (fun m a =>
    match m with
    | none => some a
    | some x => if a.start < x.start then some a else some x) none

/-- The frequency a chain is to be started at: that of its next plan or acknowledgement, or of an inserted retune slot. -/
def State.dueFreq (s : State) (c : Nat) : Option Nat :=
  let ack := (s.nextAck c).map (fun a => (a.start, (s.ackFreq a).getD 0))
  match (s.planOf c).map (fun g => (g.start, g.freq)), ack with
  | some g, some a => some (if a.1 < g.1 then a.2 else g.2)
  | some g, none => some g.2
  | none, some a => some a.2
  | none, none => (s.helm.quiet.find? (fun q => q.kind == 1 && q.chain == c)).map (fun q => s.quietFreq c q.port)

/-- CHAIN_POWER_UP (R89, R101, R107): the domain on, the synthesiser started at the frequency due. The 40 µs of the
domain count before LOCKING. A shadow does the same (R311). -/
def execChainPowerUp (c : Nat) (s : State) : Res :=
  let d := chainDom c
  match s.dueFreq c with
  | none => .next s
  | some f =>
    if 3 ≤ c ∨ s.cond d = .reset ∨ (s.chain c).group.isSome ∨ (s.chain c).calRun.isSome ∨ s.pwr.off ∨ s.pwr.standby then
      .next s
    else
      let cold := !s.isOn d
      let s := if cold then s.setCond d .on else s
      let st := s.getN (Obj.CC_SYNTH_STATE c)
      if cold ∨ st = 0 ∨ s.getN (Obj.CC_SYNTH_FREQ c) ≠ f then
        let s := (s.setN (Obj.CC_SYNTH_FREQ c) f).synth c 1
        .next (if cold then s.updChain c (fun x => { x with stateSince := s.now + 40 * usC }) else s)
      else .next s

/-- TX_DOMAIN_OFF (R404): in GATED a transmit domain goes off 50 µs after its last group unless a transmit instant lies
within 1 ms; its synthesisers read OFF (R100). -/
def execTxDomainOff (d : Nat) (s : State) : Res :=
  let cs := if d = 12 then [0, 1] else if d = 13 then [2] else []
  if cs ≠ [] ∧ s.pwr.modeInForce = 1 ∧ s.isOn d
      ∧ cs.all (fun c => (s.chain c).group.isNone && (s.chain c).calRun.isNone
          && decide ((s.chain c).lastGroupEnd + 50 * usC ≤ s.now)
          && (s.retuneOn c).isNone)
      ∧ s.helm.plans.all (fun g => !cs.contains g.chain || decide (s.time + msT < g.start))
      ∧ s.helm.acks.all (fun a => !cs.contains a.chain || decide (s.time + msT < a.start)) then
    .next (cs.foldl (fun s c => s.synth c 0) (s.setCond d .off))
  else .next s

/-! ## Aerial modes (R110, R111) -/

/-- AERIAL_MODE_APPLY: the first instant after the write with no group on air in the band. -/
def execAerialModeApply (b : Nat) (s : State) : Res :=
  if b < 2 ∧ s.fe.modeWrite.getD b false ∧ s.onAir.all (fun g => bandOf g.port != b) then
    let v := s.getN (if b = 0 then Obj.LOW_AERIAL_MODE else Obj.HIGH_AERIAL_MODE)
    let s := s.setN (if b = 0 then Obj.LOW_AERIAL_IN_FORCE else Obj.HIGH_AERIAL_IN_FORCE) v
    let s := { s with fe := { s.fe with modeWrite := upd s.fe.modeWrite b (fun _ => false) } }
    .next (s.updPort (2 * b) (fun x => { x with badIso := 0 }))
  else .next s

end Sys2Proof.Machine
end

