-- ==== Sys2Proof/Machine/Receive.lean ====
section
/-! DEFINITION. The commands of chapter 04, the receive chain: claim rounds, SFDs, reports, selection diversity, gated
reception and the change of band windows. -/
namespace Sys2Proof.Machine

/-! ## Timers of the modes (R125) -/

/-- SFD timeout of a mode in ns, with WW_PREAMBLE_MAX of the window in force. -/
def sfdTimeoutNs (m pmax : Nat) : Nat :=
  (if isOfdm m then 960 else if m = 15 then 160 else cdiv ((pmax + 1) * 8000) (max 1 (modeRate m))) * 1000

/-- PSDU maximum of a mode in octets. -/
def psduMax (m : Nat) : Nat := if m = 15 then 127 else 2047

/-! ## Hunters and the claim rule (R128–R135, R146) -/

/-- The modes a hunter of window `w` correlates against: modes 11–15 and the second windows are left out in Lodestar
service (R146). -/
def State.huntModes (s : State) (w : Nat) : List Nat :=
  let l := modesOf (s.getN (Obj.WW_MODES_NOW w))
  if s.rx.lodestar then (if w = 1 ∨ w = 3 then [] else l.filter (fun m => decide (m ≤ 10))) else l

/-- Whether the hunter of channel `k` of window `w` is ARMED but for blanking (R129, R144). -/
def State.hunting (s : State) (w k : Nat) : Bool :=
  let p := winPort w
  decide (w < 6) && s.getB (Obj.WW_ENABLE_NOW w) && decide (k < s.getN (Obj.WW_CHANNELS_NOW w)) &&
    s.getB (Obj.PP_RX_ENABLE p) && s.isOn (rxDom p) && !(s.rx.heldWin.getD w false) &&
    !(s.rx.heldPort.getD p false) &&
    (s.pwr.modeInForce != 1 || (nth s.rx.gates p).listening)

/-- Whether the hunter of channel `k` of window `w` is ARMED (R129). -/
def State.armed (s : State) (w k : Nat) : Bool := s.hunting w k && !s.chanBlanked w k

/-- The mode a hunter fires with: the highest Q at or above WW_HUNT_Q, the lowest code on equal Q (R128). -/
def State.fireMode (s : State) (x : Sense) : Option (Nat × Nat) :=
  let hq := s.getN (Obj.WW_HUNT_Q_NOW x.win)
  ((x.qs.filter (fun e => (s.huntModes x.win).contains e.1 && decide (hq ≤ e.2)))).foldl (fun m e =>
    match m with
    | none => some e
    | some b => if b.2 < e.2 ∨ (b.2 = e.2 ∧ e.1 < b.1) then some e else some b) none

/-- A fire of the round. -/
structure Cand where
  win : Nat
  k : Nat
  mode : Nat
  q : Nat
  second : Bool
deriving DecidableEq, Repr, Inhabited

def Cand.rank (c : Cand) : Int := (c.q : Int) - (if c.second then 256 else 0)
def Recep.rank (r : Recep) : Int := (r.q : Int) - (if r.second then 256 else 0)
/-- Hunter number: window × 200 + k. -/
def Cand.hunter (c : Cand) : Nat := c.win * 200 + c.k

/-- The fire a hunter gives in this round. A starved candidate is repeated on Q alone until one SFD timeout of its mode
has passed from its first fire (R134). DESIGN CHOICE (log 57): the repeat carries the instant of its own round as its fire instant too,
for the diversity test and for the start of the preamble; the spec says only that it carries the current Q. Unsafe for which of two
copies is the second. -/
def State.cand (s : State) (x : Sense) : Option Cand :=
  if s.armed x.win x.k = false then none
  else
    match s.fireMode x with
    | none => none
    | some (m, q) =>
      let cand : Cand := { win := x.win, k := x.k, mode := m, q := q,
                           second := s.rx.recs.any (isPair (winPort x.win) (s.winCentre x.win x.k) m s.now) }
      match s.rx.starved.find? (fun e => e.win == x.win && e.k == x.k && e.mode == m) with
      | some e =>
        if s.now ≤ e.first + sfdTimeoutNs m (s.getN (Obj.WW_PREAMBLE_MAX_NOW x.win)) then some cand else none
      | none => if s.getI (Obj.WW_HUNT_ENERGY_NOW x.win) ≤ x.energy then some cand else none

/-- Insert into the order of R135: rank descending, then hunter number ascending. -/
def candInsert (c : Cand) : List Cand → List Cand
  | [] => [c]
  | h :: t => if h.rank < c.rank ∨ (h.rank = c.rank ∧ c.hunter < h.hunter) then c :: h :: t else h :: candInsert c t

/-- A candidate that finds no demodulator (R134, R135): counted once, repeated while its correlation lasts (log 14). -/
def State.starve (s : State) (c : Cand) : State :=
  if s.rx.starved.any (fun e => e.win == c.win && e.k == c.k && e.mode == c.mode) then s
  else
    let b := bandOf (winPort c.win)
    let s := s.bump (Obj.PP_DEMOD_STARVED (winPort c.win))
    let e : Starved := { win := c.win, k := c.k, mode := c.mode, first := s.now }
    let cnt := upd s.rx.starvedCount b (· + 1)
    { s with rx := { s.rx with starved := s.rx.starved ++ [e], starvedCount := cnt } }

/-- The reception of the lowest rank before its SFD: ties to the earliest claim, then the lowest demodulator (R135). -/
def weakest (l : List Recep) : Option Recep :=
  l.foldl (fun m r =>
    if r.sfd.isSome then m
    else
      match m with
      | none => some r
      | some b =>
        if r.rank < b.rank ∨ (r.rank = b.rank ∧ (r.claimedAt < b.claimedAt ∨ (r.claimedAt = b.claimedAt ∧ r.demod < b.demod)))
        then some r else some b) none

/-- Demodulators in use: all 128, or 0–15 in Lodestar service (R146). -/
def State.poolSize (s : State) : Nat := if s.rx.lodestar then 16 else 128

def State.freeDemod (s : State) : Option Nat :=
  (List.range s.poolSize).find? (fun d => s.rx.recs.all (fun r => r.demod != d))

/-- Claim demodulator `d` for a candidate. Of two copies claimed in one round the one on LA or HA is the first (R130). -/
def State.claim (s : State) (c : Cand) (d : Nat) (again : Bool) : State :=
  let p := winPort c.win
  let f := s.winCentre c.win c.k
  let mated := fun (r : Recep) => r.claimedAt == s.now && isPair p f c.mode s.now r
  let mate := s.rx.recs.any mated
  let r : Recep := { demod := d, win := c.win, k := c.k, mode := c.mode, q := c.q, second := c.second || (mate && p % 2 == 1),
                     fireAt := s.now, claimedAt := s.now, hunt := c.q, secondClaim := again, gainStep := false,
                     sfd := none, freq := f, bw := s.getN (Obj.WW_SPACING_NOW c.win) * 1000,
                     num := s.getN (Obj.WW_CHAN0_NOW c.win) + c.k, kept := false }
  let recs := if mate ∧ p % 2 = 0 then
      s.rx.recs.map (fun x => if mated x then { x with second := true } else x)
    else s.rx.recs
  let left := s.rx.starved.filter (fun e => !(e.win == c.win && e.k == c.k && e.mode == c.mode))
  let recs := recs ++ [r]
  { s with rx := { s.rx with recs := recs, starved := left, peakBusy := max s.rx.peakBusy recs.length } }

/-- The pool claim of R135: a free demodulator, or by pre-emption that of the weakest reception of lower rank. -/
def State.poolClaim (s : State) (c : Cand) (again : Bool) : State × Bool :=
  match s.freeDemod with
  | some d => (s.claim c d again, true)
  | none =>
    if c.second then (s.starve c, false)
    else
      match weakest s.rx.recs with
      | none => (s.starve c, false)
      | some v =>
        if c.rank ≤ v.rank then (s.starve c, false)
        else
          let s := (s.releaseRecs (fun r => r == v)).bump (Obj.PP_PREEMPTED (winPort v.win))
          let cnt := upd s.rx.preemptCount (bandOf (winPort v.win)) (· + 1)
          let s := { s with rx := { s.rx with preemptCount := cnt } }
          (s.claim c v.demod again, true)

/-- The weaker of two receptions of a channel (R131). -/
def weaker (a b : Recep) : Recep :=
  if a.rank < b.rank then a
  else if b.rank < a.rank then b
  else if a.claimedAt < b.claimedAt then b
  else if b.claimedAt < a.claimedAt then a
  else if a.demod < b.demod then b else a

/-- One candidate of the round by the channel-state table of R131. DESIGN CHOICE (log 57): the channel is told by its window and index, so
a reception kept past its SFD through an apply (R147) holds the new channel of that number LOCKED. Unsafe for a fire on it. -/
def State.candidate (s : State) (c : Cand) : State :=
  let p := winPort c.win
  let margin : Int := s.getN (Obj.WW_Q_MARGIN_NOW c.win)
  let mine := s.rx.recs.filter (fun r => r.win == c.win && r.k == c.k)
  let s := { s with rx := { s.rx with gates := upd s.rx.gates p (fun g => { g with fired := true, lastUse := s.now }) } }
  if mine.any (fun r => r.sfd.isSome) then s.bump (Obj.PP_LOCKED_FIRES p)
  else
    match mine with
    | [] => (s.poolClaim c false).1
    | [a] =>
      if a.rank + margin < c.rank then
        let x := s.poolClaim c true
        if x.2 then x.1.bump (Obj.PP_SECOND_CLAIMS p) else x.1
      else s
    | a :: b :: _ =>
      let w := weaker a b
      if w.rank + margin < c.rank then (s.releaseRecs (fun r => r == w)).claim c w.demod true else s

/-- A reception begins on a port that a retune blanks: it is lost, and counted once per channel (R90). -/
def State.loseFire (s : State) (x : Sense) : State :=
  let p := winPort x.win
  match (s.port p).retuneRun with
  | none => s
  | some run =>
    if s.hunting x.win x.k ∧ (s.fireMode x).isSome ∧ s.getI (Obj.WW_HUNT_ENERGY_NOW x.win) ≤ x.energy
        ∧ run.lost.contains (x.win, x.k) = false then
      (s.updPort p (fun y => { y with retuneRun := some { run with lost := (x.win, x.k) :: run.lost } })).bump (Obj.PP_BLANKED_RX p)
    else s

def State.updGate (s : State) (p : Nat) (g : Gate → Gate) : State :=
  { s with rx := { s.rx with gates := upd s.rx.gates p g } }

/-- A cell for which a gated port listens: its start, its listen window and the guard end (R144). -/
structure GateCell where
  start : Tick
  opens : Tick
  closes : Tick
  guard : Tick
deriving DecidableEq, Repr

/-- The hunt tail H of a port in ns: the longest hunt latency among the modes of its enabled windows (R144). -/
def State.huntTail (s : State) (p : Nat) : Nat :=
  ((((portWins p).filter (fun w => s.getB (Obj.WW_ENABLE_NOW w))).flatMap s.huntModes).map huntLatencyNs).foldl max 0

/-- The cells of a PAN in a slot in which some node may transmit. -/
def State.cellGates (s : State) (pan asn : Nat) (tail : Tick) : List GateCell :=
  ((s.chosenCells pan asn).filter (fun e => e.2.rx || e.2.shared)).map (fun e =>
    let mid := s.cellStart pan asn + (s.sf e.2.sf).txOffset * usT
    let l := s.listenHalf e.2 mid * usT
    { start := s.cellStart pan asn, opens := mid - l, closes := mid + l, guard := mid + l + tail })

/-- The cells for which a port listens, from the slot before the current one to the next: those of its band's PANs, and the waits
for acknowledgements (R144, R404). A wait's cell starts as the wait opens (DEDUCED, log 57). -/
def State.gateCells (s : State) (p : Nat) : List GateCell :=
  let b := bandOf p
  let tail := s.huntTail p * nsT
  let pans := (List.range 4).filter (fun q => (s.getB (Obj.PN_ENABLE q) || (nth s.helm.pans q).stopping) && s.getN (Obj.PN_BAND q) == b)
  let cells := pans.flatMap (fun q =>
    let a := s.asnAt q s.time
    (([a - 1, a, a + 1].eraseDups).filter (fun n => s.getB (Obj.PN_ENABLE q) || decide (n ≤ a))).flatMap (fun n => s.cellGates q n tail))
  let waits := (s.helm.waits.filter (fun w => s.getN (Obj.PN_BAND w.pan) == b)).map (fun w =>
    ({ start := w.opens, opens := w.opens, closes := w.latestSfd, guard := w.latestSfd + tail } : GateCell))
  cells ++ waits

/-- The listen window that is open on a gated port has seen energy (R144). -/
def State.markEnergy (s : State) (x : Sense) : State :=
  let p := winPort x.win
  if s.armed x.win x.k ∧ s.getI (Obj.WW_HUNT_ENERGY_NOW x.win) ≤ x.energy ∧ (nth s.rx.gates p).listening
      ∧ (s.gateCells p).any (fun c => decide (c.opens ≤ s.time ∧ s.time ≤ c.closes)) then
    s.updGate p (fun g => { g with energy := true })
  else s

/-- CLAIM_ROUND (R135): `senses` is what the hunters compute in the round, `quals` the running preamble quality of the
demodulators before their SFD (R130). -/
def execClaimRound (senses : List Sense) (quals : List (Nat × Nat)) (s : State) : Res :=
  let recs := s.rx.recs.map (fun r =>
    if r.sfd.isSome then r else { r with q := ((quals.find? (fun e => e.1 == r.demod)).map (·.2)).getD r.q })
  let live := s.rx.starved.filter (fun e => senses.any (fun x => x.win == e.win && x.k == e.k &&
    x.qs.any (fun q => q.1 == e.mode && decide (s.getN (Obj.WW_HUNT_Q_NOW e.win) ≤ q.2))))
  let s := { s with rx := { s.rx with recs := recs, starved := live } }
  let cands := (senses.filterMap s.cand).foldl (fun l c => candInsert c l) []
  let s := cands.foldl (fun s c => s.candidate c) (senses.foldl (fun s x => s.loseFire x) s)
  .next (senses.foldl (fun s x => s.markEnergy x) s)

/-! ## From the SFD to the report (R127, R132, R133, R137–R141) -/

def State.recOf (s : State) (d : Nat) : Option Recep := s.rx.recs.find? (fun r => r.demod == d)

/-- A reception before its SFD is a false preamble: released and counted (R132, R133). -/
def State.falsePreamble (s : State) (r : Recep) : State :=
  let s := (s.releaseRecs (fun x => x == r)).bump (Obj.PP_FALSE_PREAMBLE (winPort r.win))
  { s with rx := { s.rx with falseCount := upd s.rx.falseCount r.win (· + 1) } }

/-- RSSI in 0.25 dB from the power at the balls in 0.05 dB, less the offset of the gain step in force (R138). DESIGN CHOICE, log 57: it
is rounded down. -/
def State.rssiAt (s : State) (p step : Nat) (raw : Int) : Int :=
  (raw - 2 * s.getI (if p < 2 ∨ step = 0 then Obj.PP_RSSI_OFFSET p else Obj.PP_RSSI_OFFSET_EXT p)) / 5

/-- The frequency offset range of a reception's mode in units of 10 Hz (R125): 0.25 S for SUN FSK, 40 ppm of the channel centre for
SUN OFDM, 100 kHz for O-QPSK. -/
def Recep.offsetOk (r : Recep) (off : Int) : Bool :=
  if isOfdm r.mode then decide (250000 * off.natAbs ≤ r.freq)
  else if r.mode = 15 then decide (off.natAbs ≤ 10000)
  else decide (40 * off.natAbs ≤ r.bw)

/-- SFD_FOUND (R116, R132, R138, R140): `rssi` is the mean power over the SFD in 0.05 dB at the balls, `freqOff` the offset
in 10 Hz. `both` are the two figures of the channel's other reception where it finds its SFD in the same sample. A node outside its
mode's range is not decoded: its SFD is not found. -/
def execSfdFound (d : Nat) (rssi freqOff : Int) (both : Option (Int × Int)) (s : State) : Res :=
  match s.recOf d with
  | none => .next s
  | some r =>
    let mate := if r.sfd.isSome then none else s.rx.recs.find? (fun x => x.win == r.win && x.k == r.k && x.demod != d)
    let all := (r, rssi, freqOff) :: (mate.bind (fun m => both.map (fun b => (m, b.1, b.2)))).toList
    match all.filter (fun e => e.1.sfd.isNone && e.1.offsetOk e.2.2) with
    | [] => .next s
    | e :: l =>
      let (win, rssi, freqOff) := l.foldl (fun (b x : Recep × Int × Int) => if weaker b.1 x.1 == b.1 then x else b) e
      let s : State := match mate with
        | some m => s.falsePreamble (if win == r then m else r)
        | none => s
      let p := winPort r.win
      let step := s.getN (Obj.PP_GAIN_STEP_NOW p)
      let stamp := s.time - s.getN (Obj.PP_RX_DELAY p) * nsT
      let mark := some (stamp, s.now, s.rssiAt p step rssi, freqOff, step)
      let s := s.updCs (fun c => { c with sfdAt := upd c.sfdAt (bandOf p) (fun _ => some s.now) })
      .next { s with rx := { s.rx with recs := s.rx.recs.map (fun x => if x.demod = win.demod then { x with sfd := mark } else x) } }

/-- SFD_TIMEOUT (R133). -/
def execSfdTimeout (d : Nat) (s : State) : Res :=
  match s.recOf d with
  | none => .next s
  | some r =>
    if r.sfd.isNone ∧ r.claimedAt + sfdTimeoutNs r.mode (s.getN (Obj.WW_PREAMBLE_MAX_NOW r.win)) ≤ s.now then
      .next (s.falsePreamble r)
    else .next s

/-- PHR_ERROR (R127): the check failed, mode switch, a frame over the PSDU maximum, or an MCS the option does not permit. -/
def execPhrError (d : Nat) (failed modeSwitch : Bool) (len mcs : Nat) (s : State) : Res :=
  match s.recOf d with
  | none => .next s
  | some r =>
    if r.sfd.isSome ∧ (failed ∨ modeSwitch ∨ psduMax r.mode < len ∨ (isOfdm r.mode ∧ mcsPermitted r.mode mcs = false)) then
      .next ((s.releaseRecs (fun x => x == r)).bump (Obj.PP_PHR_ERROR (winPort r.win))).radioPower
    else .next s

/-- LQI from SNR in 0.1 dB (R139). -/
def lqiOf (snr : Int) : Nat := (clampI 0 255 ((8 * snr + 165) / 10)).toNat

/-- Air time in ns of PHR and PSDU (R141). -/
def tailNs (m mcs len : Nat) : Nat :=
  if isOfdm m then (Config.ofdmAir m mcs len - Config.ofdmPreamble m) * 1000
  else (phrOctets m + len) * 8000000 / max 1 (modeRate m)

/-- Match window of R142 in ns. -/
def matchNs (m : Nat) : Nat := if m ≤ 10 then 3000 else if m ≤ 14 then 1000 else 500

/-- Copies of one frame (R142). -/
def copies (a b : Report) : Bool :=
  pairedChans a.port a.freq b.port b.freq && a.mode == b.mode && a.crcOk && b.crcOk && a.psdu == b.psdu &&
    decide (a.sfdTime ≤ b.sfdTime + matchNs a.mode * nsT ∧ b.sfdTime ≤ a.sfdTime + matchNs a.mode * nsT)

/-- The octets of a receive report (R137). -/
def Report.octets (r : Report) : Octets :=
  be 4 (r.sfdTime / nsT) ++ be 2 r.len ++ be 1 (r.mode + 16 * r.mcs) ++ be 1 (r.port + 4 * r.win) ++ be 1 r.chan
    ++ be 1 r.demod ++ beI 2 r.rssi ++ be 1 r.lqi ++ be 1 r.huntQ ++ beI 2 r.freqOff
    ++ be 2 (b2n r.crcOk + 2 * b2n r.fec + 4 * b2n r.gainStep + 8 * b2n r.divPaired + 16 * b2n r.secondClaim + 32 * b2n r.fcs32)
    ++ beI 2 r.snr ++ be 1 r.gain ++ be 3 0 ++ be 4 (r.endTime / nsT) ++ be 4 r.rxSeq

/-- A report goes to Helm. Reports passed in the last second are kept for late copies (R143). -/
def State.toHelm (s : State) (r : Report) : State :=
  let passed := r :: s.rx.passed.filter (fun x => decide (s.time ≤ x.endTime + secT))
  { s with rx := { s.rx with toHelm := s.rx.toHelm ++ [r], passed := passed } }

/-- A diversity duplicate is counted in its band; its report is offered to the capture FIFOs as one not accepted (R137, R143). -/
def State.dup (s : State) (r : Report) : State :=
  (s.bump (if bandOf r.port = 0 then Obj.LOW_DIVERSITY_DUP else Obj.HIGH_DIVERSITY_DUP)).capture 0 r.port none false r.crcOk
    r.sfdTime r.octets r.psdu

/-- The kept copy of two: the higher LQI, on equal LQI the one from LA or HA (R143). -/
def keptCopy (a b : Report) : Report :=
  if b.lqi < a.lqi ∨ (a.lqi = b.lqi ∧ a.port % 2 = 0) then a else b

/-- The report of a reception at the end of its frame (R137). -/
def State.compose (s : State) (r : Recep) (x : Tick × Count × Int × Int × Nat) (f : RxFrame) : Report :=
  { sfdTime := x.1, len := f.psdu.length, mode := r.mode, mcs := if isOfdm r.mode then f.mcs else 0, port := winPort r.win,
    win := r.win, chan := r.k, demod := r.demod, rssi := x.2.2.1, lqi := lqiOf f.snr, huntQ := r.hunt, freqOff := x.2.2.2.1,
    crcOk := f.crcOk, fec := f.fec, gainStep := r.gainStep, divPaired := false, secondClaim := r.secondClaim,
    fcs32 := f.fcs32, snr := f.snr, gain := x.2.2.2.2, endTime := x.1 + tailNs r.mode f.mcs f.psdu.length * nsT,
    rxSeq := s.rx.rxSeq, freq := r.freq, bw := r.bw, num := r.num, psdu := f.psdu }

/-- What becomes of a composed report (R143): it settles a held copy, waits for its paired reception, is a late copy of a
report already passed, or goes to Helm. DESIGN CHOICE, log 57: a late copy is discarded also where the report passed was never held. -/
def State.settle (s : State) (r : Recep) (rep : Report) : State :=
  match s.rx.held.find? (fun h => h.pairDemod == r.demod && pairedChans rep.port rep.freq h.rep.port h.rep.freq) with
  | some h =>
    let s := { s with rx := { s.rx with held := s.rx.held.filter (fun x => x != h) } }
    if copies h.rep rep then
      let k := keptCopy h.rep rep
      let other := if k == rep then h.rep else rep
      (s.toHelm { k with divPaired := true }).dup other
    else (s.toHelm h.rep).toHelm rep
  | none =>
    if rep.crcOk ∧ s.rx.passed.any (fun x => copies x rep) then s.dup rep
    else
      match (if rep.crcOk then s.rx.recs.find? (isPair rep.port r.freq r.mode r.fireAt) else none) with
      | some m => { s with rx := { s.rx with held := s.rx.held ++ [{ rep := rep, pairDemod := m.demod, since := s.now }] } }
      | none => s.toHelm rep

/-- RX_FRAME_END (R126, R136, R137, R143): the report is composed and the demodulator freed. A frame that fails its FCS is
known not to be accepted and is offered to the capture FIFOs here (log 15). DESIGN CHOICE, log 57: PP_RX_FRAMES counts every frame past
its PHR. -/
def execRxFrameEnd (d : Nat) (f : RxFrame) (s : State) : Res :=
  match s.recOf d with
  | none => .next s
  | some r =>
    match r.sfd with
    | none => .next s
    | some x =>
      let p := winPort r.win
      let rep := s.compose r x f
      let s := s.releaseRecs (fun y => y.demod == d)
      let s := { s with rx := { s.rx with rxSeq := (s.rx.rxSeq + 1) % 2 ^ 32 } }
      let s := (s.bump (Obj.PP_RX_FRAMES p)).bump Obj.RX_REPORTS
      let s := if f.crcOk then s else
        (s.bump (Obj.PP_RX_CRC_FAIL p)).capture 0 p none false false rep.sfdTime rep.octets f.psdu
      .next (s.settle r rep).radioPower

/-- DIVERSITY_HOLD_END (R143): the paired reception is gone, or 50 µs have passed since the report. -/
def execDiversityHoldEnd (i : Nat) (s : State) : Res :=
  match s.rx.held[i]? with
  | none => .next s
  | some h =>
    if (s.recOf h.pairDemod).isNone ∨ h.since + 50 * usC ≤ s.now then
      .next ({ s with rx := { s.rx with held := s.rx.held.filter (fun x => x != h) } }.toHelm h.rep)
    else .next s

/-! ## Gated reception (R144, R145) -/

/-- The receive domains of a band stay on for more than their cells in [t, te]: in a shadow while its plan holds a carrier there in a
100 µs window (R311), in member B across the SFD instants of assertion beacons (R327). -/
def State.bandKept (s : State) (b : Nat) (t te : Tick) : Bool :=
  let groups := (s.groups.filter (fun g => bandOf g.port == b)).map (fun g => (g.start, g.start + g.length * usT))
  let acks := (s.helm.acks.filter (fun a => bandOf a.port == b)).map (fun a => (a.start, a.start + a.air * usT))
  let recs := s.cs.plans.flatMap (fun r => (r.items.filter (fun e => e.1.band == b)).map (fun e =>
    (r.startOf e.1, r.startOf e.1 + e.2 * usT)))
  (s.shadowed && (groups ++ acks ++ recs).any (fun e => shareWindow e.1 e.2 t te)) || s.guardsAssertion b t te

/-- The 120 µs of a receive domain's power-up (R144). -/
def gateLead : Tick := 120 * usT

/-- RX_GATE_OPEN: in GATED, 120 µs before a cell in which a node may transmit to the port. -/
def execRxGateOpen (p : Nat) (s : State) : Res :=
  let due := (s.gateCells p).any (fun c => decide (c.start ≤ s.time + gateLead ∧ s.time < c.guard)) ||
    s.bandKept (bandOf p) s.time (s.time + gateLead)
  if p < 4 ∧ s.pwr.modeInForce = 1 ∧ s.rxWanted p ∧ s.cond (rxDom p) = .off ∧ s.pwr.off = false ∧ s.pwr.standby = false ∧ due then
    let s := (s.setCond (rxDom p) .on).chanPower
    .next ((s.updGate p (fun _ => { open' := true, listening := false, fired := false, energy := false, since := 0,
                                    lastUse := s.now })).bump (Obj.PP_GATE_OPENS p))
  else .next s

/-- A listen window of a port is over: one that saw energy, by `more` or by what its hunters marked, and no fire is counted (R144). -/
def State.judgeWindow (s : State) (p : Nat) (more : Bool) : State :=
  let g := nth s.rx.gates p
  if g.listening ∧ g.fired = false ∧ (more ∨ g.energy) then s.bump (Obj.PP_GATE_ENERGY_ONLY p) else s

/-- LISTEN_WINDOW_OPEN: from T − L of a cell to the end of its window the hunters are ARMED (R144, R170). Where a further window opens
before the domain is off, the one before it is judged. -/
def execListenWindowOpen (p : Nat) (s : State) : Res :=
  let due := (s.gateCells p).filter (fun c => decide (c.opens ≤ s.time ∧ s.time ≤ c.closes))
  let g := nth s.rx.gates p
  let latest := (due.map (·.opens)).foldl max 0
  if p < 4 ∧ s.isOn (rxDom p) ∧ g.open' ∧ (due ≠ [] ∨ s.bandKept (bandOf p) s.time s.time) ∧ (g.listening = false ∨ g.since < latest) then
    .next ((s.judgeWindow p false).updGate p (fun g =>
      { g with listening := true, fired := false, energy := false, since := max g.since latest }))
  else .next s

/-- RX_GATE_CLOSE: 2 µs after the guard end of every cell begun, with no reception on the port and no fire or release for 2 µs.
`energy` is the most that the last listen window of the port saw, in 0.1 dBm, and `w` the band window that saw it. A domain whose next power-up comes within 300 µs stays on
(R145); its hunters are HELD until the next listen window opens (DESIGN CHOICE, log 57). -/
def execRxGateClose (p w : Nat) (energy : Int) (s : State) : Res :=
  let g := nth s.rx.gates p
  let cells := s.gateCells p
  let past := cells.all (fun c => decide (s.time + gateLead < c.start ∨ c.guard + 2 * usT ≤ s.time))
  let till := s.time + gateLead + 300 * usT
  let next' := cells.any (fun c => decide (s.time + gateLead < c.start ∧ c.start < till)) || s.bandKept (bandOf p) s.time till
  if p < 4 ∧ s.pwr.modeInForce = 1 ∧ g.open' ∧ past ∧ g.lastUse + 2 * usC ≤ s.now ∧ s.rx.recs.all (fun r => winPort r.win != p) then
    let seen := decide (w < 6 ∧ winPort w = p) && s.getB (Obj.WW_ENABLE_NOW w) && decide (s.getI (Obj.WW_HUNT_ENERGY_NOW w) ≤ energy)
    let s := (s.judgeWindow p seen).updGate p (fun g => { g with open' := next', listening := false, fired := false, energy := false })
    .next (if next' then s else (s.setCond (rxDom p) .off).chanPower)
  else .next s

/-! ## Intervals (R149 events) -/

/-- STARVATION_INTERVAL_END: the peak of the interval, and DEMOD_STARVED for a band with a starved candidate. -/
def execStarvationIntervalEnd (s : State) : Res :=
  let peak := s.rx.peakBusy
  let s := s.setN Obj.DEMOD_BUSY_PEAK peak
  let s := [0, 1].foldl (fun s b =>
    let n := s.rx.starvedCount.getD b 0
    if n = 0 then s
    else s.raiseOn 0x3010 2 0x3420 (be 1 b ++ be 4 n ++ be 4 (s.rx.preemptCount.getD b 0) ++ be 1 peak)) s
  .next { s with rx := { s.rx with starvedCount := [0, 0], preemptCount := [0, 0], peakBusy := s.rx.recs.length } }

/-- FALSE_PREAMBLE_CHECK: the count of the last second against WW_FALSE_LIMIT, at most one event per 60 s per window. -/
def execFalsePreambleCheck (w : Nat) (s : State) : Res :=
  let n := s.rx.falseCount.getD w 0
  let lim := s.getN (Obj.WW_FALSE_LIMIT_NOW w)
  let clear := upd s.rx.falseCount w (fun _ => 0)
  let s := { s with rx := { s.rx with falseCount := clear } }
  if w < 6 ∧ lim ≠ 0 ∧ lim < n ∧ (s.rx.falseEventAt.getD w none).elim true (fun t => decide (t + 60 * secC ≤ s.now)) then
    let at' := upd s.rx.falseEventAt w (fun _ => some s.now)
    .next ({ s with rx := { s.rx with falseEventAt := at' } }.raiseOn 0x3012 1 (0x3400 + w)
      (be 1 w ++ be 4 n ++ be 1 (s.getN (Obj.WW_HUNT_Q_NOW w))))
  else .next s

/-! ## Window settings (R122–R124, R147–R149, R524) -/

/-- Staged keys 0x340w:01–0B. -/
def stagedKeys : List Nat := (List.range 6).flatMap (fun w => (List.range 11).map (fun i => 0x340001 + w * 256 + i))
/-- The key in force of a staged key. -/
def nowKey (k : Nat) : Nat := k + 0x1000
/-- A set's value. -/
def valN (l : List (Nat × Val)) (k : Nat) : Nat := (Store.find l k).elim 0 (·.toInt.toNat)
def valB (l : List (Nat × Val)) (k : Nat) : Bool := (Store.find l k).elim false (·.toBool)

/-- The staged set as it stands. -/
def State.stagedSet (s : State) : List (Nat × Val) := stagedKeys.map (fun k => (k, s.get k))

/-- Twice the lower and upper edge of a window's span, in kHz × 1,000. -/
def spanOf (l : List (Nat × Val)) (w : Nat) : Nat × Nat :=
  let f := 2 * valN l (Obj.WW_FIRST w)
  let sp := valN l (Obj.WW_SPACING w) * 1000
  (f - sp, f + 2 * (valN l (Obj.WW_CHANNELS w) - 1) * sp + sp)

/-- R123 and R124 for one enabled window of a set. -/
def windowOk (l : List (Nat × Val)) (w : Nat) : Bool :=
  let sp := valN l (Obj.WW_SPACING w)
  let n := valN l (Obj.WW_CHANNELS w)
  let modes := modesOf (valN l (Obj.WW_MODES w))
  decide (n * sp ≤ 40000) && windowInBand w (valN l (Obj.WW_FIRST w)) sp n &&
    decide (1 ≤ modes.length ∧ modes.length ≤ 4) &&
    modes.all (fun m => decide (1 ≤ m ∧ modeSpacing m ≤ sp) && (m != 15 || decide (4 ≤ w)))

/-- Two windows of one port whose spans overlap (R123). -/
def spansMeet (l : List (Nat × Val)) (a b : Nat) : Bool :=
  valB l (Obj.WW_ENABLE a) && valB l (Obj.WW_ENABLE b) &&
    decide ((spanOf l a).1 < (spanOf l b).2 ∧ (spanOf l b).1 < (spanOf l a).2)

/-- A window of a set that covers a channel number. -/
def setCovers (l : List (Nat × Val)) (w n : Nat) : Bool :=
  valB l (Obj.WW_ENABLE w) &&
    decide (valN l (Obj.WW_CHAN0 w) ≤ n ∧ n < valN l (Obj.WW_CHAN0 w) + valN l (Obj.WW_CHANNELS w))

/-- The entries of a hopping sequence in use. -/
def State.hopEntries (s : State) (pan : Nat) : List Nat :=
  (List.range (s.getN (Obj.PN_HOP_LEN pan))).map (fun i => fld (s.getO (Obj.PN_HOP_SEQ pan)) (2 * i) 2)

/-- The first failing case of R148, over the slotframes of the table in force. -/
def State.windowsFail (s : State) (l : List (Nat × Val)) : Option Rc :=
  let on := (List.range 6).filter (fun w => valB l (Obj.WW_ENABLE w))
  if !(on.all (windowOk l)) ∨ spansMeet l 0 1 ∨ spansMeet l 2 3 then some .range
  else if 640 < (on.map (fun w => valN l (Obj.WW_CHANNELS w))).sum then some .range
  else if s.tableNow.1.any (fun f => f.enable && !((s.hopEntries f.pan).all (fun n =>
      (bandWins (s.getN (Obj.PN_BAND f.pan))).any (fun w => setCovers l w n)))) then some .stateConflict
  else none

/-- Bring a set into force. -/
def State.forceSet (s : State) (l : List (Nat × Val)) : State :=
  let s := l.foldl (fun s e => s.set (nowKey e.1) e.2) s
  let n := (((List.range 6).filter (fun w => valB l (Obj.WW_ENABLE w))).map (fun w => valN l (Obj.WW_CHANNELS w))).sum
  s.setN Obj.HUNTERS_IN_FORCE n

/-- WINDOW_APPLIED. -/
def State.windowApplied (s : State) (changed : List Nat) (released : Nat) (rc : Rc) (handle : Nat) : State :=
  s.raiseOn 0x3011 (if rc = .ok then 0 else 2) 0x3420
    (be 1 ((changed.map (fun w => 2 ^ w)).sum) ++ be 2 (s.getN Obj.HUNTERS_IN_FORCE) ++ be 2 released ++ be 2 rc.code
      ++ be 4 handle)

/-- A TIME64 argument more than 3,600 s ahead. -/
def State.farAhead (s : State) (t : Tick) : Bool := decide (s.time + 3600 * secT < t)

/-- The staged set is validated and waits for its apply time; the re-arm of an aborted apply goes on beside it (R149). -/
def State.windowStart (s : State) (t : Tick) : State :=
  let l := s.stagedSet
  let h := s.procHandle Obj.RX_WINDOW_APPLY
  match s.windowsFail l with
  | some rc => (s.procDone Obj.RX_WINDOW_APPLY rc).windowApplied [] 0 rc h
  | none =>
    let a : WinApply := { staged := l, at' := t, handle := h, aborted := false, rearm := none }
    { s with rx := { s.rx with apply := some a, rearming := s.rx.rearming ++ s.rx.apply.toList } }

/-- RX_WINDOW_APPLY (R147–R149). -/
def execRxWindowApply (r : Req) (w : Wire) (s : State) : Res :=
  .next (s.start r Obj.RX_WINDOW_APPLY w
    (fun s _ v => if s.farAhead v.toTick then some .range else none)
    (fun s v => if v.toTick = 0 then s.time else v.toTick)
    (fun s _ v => s.windowStart v.toTick))

/-- The windows of which a set changes a value in force. -/
def State.changedWindows (s : State) (l : List (Nat × Val)) : List Nat :=
  (List.range 6).filter (fun w => l.any (fun e =>
    decide (0x340001 + w * 256 ≤ e.1 ∧ e.1 < 0x340100 + w * 256) && e.2 != s.get (nowKey e.1)))

/-- WINDOW_APPLY_BOUNDARY (R147): changed windows are held and take the set; receptions before their SFD on them are
released, those past it complete under the old filter; the chart's geometry follows (R444). -/
def execWindowApplyBoundary (s : State) : Res :=
  match s.rx.apply with
  | none => .next s
  | some a =>
    if a.rearm.isSome ∨ s.time < a.at' then .next s
    else
      let changed := s.changedWindows a.staged
      let hit := fun (r : Recep) => changed.contains r.win && r.sfd.isNone
      let n := (s.rx.recs.filter hit).length
      let s := s.releaseRecs hit
      let recs := s.rx.recs.map (fun r => if changed.contains r.win then { r with kept := true } else r)
      let held := (List.range 6).map (fun w => changed.contains w || s.rx.heldWin.getD w false)
      let s := { s with rx := { s.rx with recs := recs, heldWin := held, apply := some { a with rearm := some (changed, n) } } }
      .next ((s.forceSet a.staged).radioPower).chartGeometry

/-- The windows that a re-arm under way holds. -/
def State.rearmHolds (s : State) : List Nat := (s.rx.rearming ++ s.rx.apply.toList).flatMap (fun a => a.rearm.elim [] (·.1))

/-- A re-arm has taken its place in the state no more: the windows it changed are ARMED, the others are not disturbed. -/
def State.rearmEnd (s : State) (a : WinApply) (changed : List Nat) (n : Nat) : State :=
  let held := (s.rx.heldWin.zipIdx).map (fun e => e.1 && (!changed.contains e.2 || s.rearmHolds.contains e.2))
  ({ s with rx := { s.rx with heldWin := held } }).windowApplied changed n (if a.aborted then .aborted else .ok) a.handle

/-- WINDOW_REARM_DONE (R147, R149): the hunters of the new set are ARMED; the oldest re-arm is done first. -/
def execWindowRearmDone (s : State) : Res :=
  match s.rx.rearming with
  | a :: l =>
    let s : State := { s with rx := { s.rx with rearming := l } }
    .next (a.rearm.elim s (fun r => s.rearmEnd a r.1 r.2))
  | [] =>
    match s.rx.apply with
    | none => .next s
    | some a =>
      match a.rearm with
      | none => .next s
      | some (changed, n) =>
        let s := ({ s with rx := { s.rx with apply := none } }).rearmEnd a changed n
        .next (if a.handle = 0 then s else s.procDone Obj.RX_WINDOW_APPLY .ok)

end Sys2Proof.Machine
end

