-- ==== Sys2Proof/Machine/Helm.lean ====
section
/-! DEFINITION. The commands of chapter 05, Helm: slots and their plans, frames heard and acknowledged, the duty-cycle
bins, PAN service and the schedule. -/
namespace Sys2Proof.Machine

/-! ## Slots (R151, R157, R161, R181, R184, R186, R327) -/

/-- Frames of a PAN that wait for a SHARED cell, in order of rank. -/
def State.sharedWaiting (s : State) (pan : Nat) : List Due :=
  (s.helm.due.filter (fun d => d.shared && d.cell == noCell && d.pan == pan)).foldl (fun l d => dueInsert d l) []

/-- A SHARED TX cell carries the first waiting frame whose backoff has run out; every waiting neighbour's backoff counts
the cell (R181). -/
def State.bindShared (s : State) (pan asn : Nat) : State :=
  match (s.chosenCells pan asn).find? (fun e => e.2.shared && e.2.tx) with
  | none => s
  | some (n, c) =>
    let l := s.sharedWaiting pan
    let pick := l.find? (fun d => (s.beOf d.node pan).2 == 0)
    let s := ((l.map (·.node)).eraseDups).foldl (fun s i =>
      let b := s.beOf i pan
      if b.2 = 0 then s else s.setBe i b.1 (b.2 - 1)) s
    match pick with
    | none => s
    | some d =>
      let st := s.cellStart pan asn + (s.sf c.sf).txOffset * usT
      let d' := { d with cell := n, asn := asn, sf := c.sf, chanOff := c.chanOff, port := c.port, start := st }
      { s with helm := { s.helm with due := d' :: s.helm.due.filter (fun x => x != d) } }

/-- The DRIFTED neighbours with a cell in a slotframe (R184). -/
def State.driftedIn (s : State) (f : Nat) : List Node :=
  s.alm.nodes.filter (fun n => n.state == .drifted && s.helm.cells.any (fun e => e.2.valid && e.2.sf == f && e.2.node == n.idx))

/-- A beacon of a slot (R186) or an assertion beacon (R327): `psdu` octets at the lowest MCS (R522). -/
def State.beacon (s : State) (kind pan asn psdu f cell chanOff port : Nat) : Due :=
  { kind := kind, ref := 0, node := 0x3FFFF, pan := pan, cls := if kind = 3 then 0 else 1, promise := 0,
    air := s.airUs pan (lowestMcs (s.getN (Obj.PN_TX_MODE pan))) psdu, ackReq := false, req := 0, sf := f, cell := cell,
    asn := asn, chanOff := chanOff, port := port, start := s.cellStart pan asn + (s.sf f).txOffset * usT, shared := false,
    tries := 0 }

/-- The beacon of an ADVERTISE cell: every PN_EB_PERIOD-th cycle, and always with a DRIFTED neighbour (R184, R186). -/
def State.advertise (s : State) (pan asn psdu : Nat) (e : Nat × Cell) : State :=
  let f := e.2.sf
  let cycle := asn / max 1 (s.sf f).length
  if s.cellRank e asn = 1 ∧ (cycle % max 1 (s.getN (Obj.PN_EB_PERIOD pan)) = 0 ∨ s.driftedIn f ≠ []) then
    s.addDue (s.beacon 2 pan asn psdu f e.1 e.2.chanOff e.2.port)
  else s

/-- A resynchronisation beacon cell of a DRIFTED neighbour: no frame accepted since the last one is a miss (R183). -/
def State.resyncCell (s : State) (asn : Nat) (e : Nat × Cell) : State :=
  if s.cellRank e asn = 1 then
    (s.driftedIn e.2.sf).foldl (fun s n =>
      let missed := n.resync.elim false (fun t => n.lastSync.elim true (fun l => decide (l ≤ t)))
      let s := if missed then s.miss n.idx e.2.sf e.2.tag else s
      s.updNode n.idx (fun n => { n with resync := some s.time })) s
  else s

/-- The lowest enabled slotframe of a PAN. -/
def State.firstSf (s : State) (pan : Nat) : Option Nat := (List.range 64).find? (fun f => s.sfOn f && (s.sf f).pan == pan)

/-- One of the 64 assertion slots: member A's attempt (R327). -/
def State.assertSlot (s : State) (pan asn psdu : Nat) : State :=
  let x := nth s.helm.pans pan
  if x.asserts asn = false ∨ x.assertLeft = 0 then s
  else (s.firstSf pan).elim s (fun f => s.addDue (s.beacon 3 pan asn psdu f noCell 0 2))

/-- The first slot of a PAN whose freeze falls after now (R327). -/
def State.assertFrom (s : State) (pan : Nat) : Nat :=
  if (s.time : Int) < s.epoch pan then 0
  else
    let a := s.asnAt pan s.time
    let freeze : Int := (s.cellStart pan a : Int) + ((s.sf ((s.firstSf pan).getD 0)).txOffset * usT : Nat) - (150 * usT : Nat)
    if (s.time : Int) < freeze then a else a + 1

/-- ACTIVE without a partner pulse: 64 slots of each band's shortest-slot PAN from the first freeze on, in which A sends up to 8
assertion beacons and B keeps their instants clear (R327). -/
def State.assertStart (s : State) : State :=
  let n := if s.getN Obj.CS_PAIRSEL = 1 then 8 else 0
  [0, 1].foldl (fun s b =>
    match s.shortestPan b with
    | none => s
    | some p =>
      let a := s.assertFrom p
      let s := s.updPan p (fun x => { x with assertLeft := n, assertFirst := some a })
      if (nth s.helm.pans p).running ∧ a = s.asnAt p s.time then s.assertSlot p a (nth s.helm.pans p).psdu else s) s

/-- The quiet slots of a PAN that have ended: QUIET_SLOT_INSERTED carries what fell in them (log 17). -/
def State.quietEnd (s : State) (pan asn : Nat) : State :=
  let gone := s.helm.quiet.filter (fun q => q.pan == pan && decide (q.asn < asn))
  let left := s.helm.quiet.filter (fun q => !(q.pan == pan && decide (q.asn < asn)))
  gone.foldl (fun s q => s.raiseOn 0x4005 0 (0x4000 + pan)
    (be 1 q.kind ++ be 1 (if q.kind = 0 then q.chain else q.port) ++ be 1 pan ++ be 5 q.asn ++ be 2 q.deferred
      ++ be 1 q.withheld)) { s with helm := { s.helm with quiet := left } }

/-- The upcoming-cell list of every running PAN, sorted by cell start: up to 65,536 instances (R161). -/
def State.lookAhead (s : State) : State :=
  let l := (List.range 4).flatMap (fun p => if (nth s.helm.pans p).running then s.upcoming p else [])
  let l := (l.foldl (fun m x => startInsert x m) []).take 65536
  ({ s with helm := { s.helm with upcoming := l.map Prod.snd } }).setN Obj.UPCOMING_DEPTH l.length

/-- The service of a PAN ends: what was to be sent for it from here on is not. Pilot reports the frames at the end of their cells
(R155, R261); a frame of a SHARED cell waits on. -/
def State.panEnd (s : State) (pan : Nat) : State :=
  let due := (s.helm.due.filter (fun d => d.pan != pan || d.shared)).map (fun d => if d.pan = pan then { d with cell := noCell } else d)
  let plans := (s.helm.plans.map (fun g => { g with frames := g.frames.filter (fun f => f.pan != pan || f.kind == 1) })).filter
    (fun g => g.frames != [])
  let back := s.helm.plans.flatMap (fun g => (g.frames.filter (fun f => f.pan == pan && f.shared)).map AirFrame.again)
  let s : State := { s with helm := { s.helm with due := due ++ back, plans := plans } }
  ((s.updPan pan (fun x => { x with running := false, stopping := false })).lookAhead).radioPower

/-- SLOT_BOUNDARY: `ebPsdu` is the length of the PAN's Enhanced Beacon. -/
def execSlotBoundary (pan ebPsdu : Nat) (s : State) : Res :=
  let x := nth s.helm.pans pan
  if 4 ≤ pan ∨ s.isOn 3 = false then .next s
  else if x.stopping then
    .next (s.panEnd pan)
  else if s.getB (Obj.PN_ENABLE pan) = false ∨ (s.time : Int) < s.epoch pan then .next s
  else
    let asn := s.asnAt pan s.time
    let s := if s.pwr.modeFrom.elim false (fun t => decide (t + 120 * usC ≤ s.now)) then s.modeApply else s
    let s := (s.updPan pan (fun x => { x with running := true, psdu := ebPsdu })).setN (Obj.PN_ASN pan) asn
    let s := (s.quietEnd pan asn).lookAhead
    let s := { s with helm := { s.helm with blankedWin := s.helm.blankedWin.filter (fun e => decide (asn ≤ e.2 + 1)) } }
    let l := s.chosenCells pan asn
    let s := l.foldl (fun s e => s.resyncCell asn e) s
    let s := l.foldl (fun s e => s.advertise pan asn ebPsdu e) s
    .next ((s.bindShared pan asn).assertSlot pan asn ebPsdu)

/-! ## The freeze (R162–R167) -/

/-- A quiet slot counts a frame deferred in it. -/
def State.quietCount (s : State) (t : Tick) (acks : Bool) : State :=
  { s with helm := { s.helm with quiet := s.helm.quiet.map (fun q =>
      if q.asn = s.asnAt q.pan t then
        (if acks then { q with withheld := q.withheld + 1 } else { q with deferred := q.deferred + 1 })
      else q) } }

/-- The key of a frame handed for transmission is used (R377): a node's link key, or the PAN's group key for a broadcast;
beacons carry no security. -/
def State.protect (s : State) (d : Due) : State × Bool :=
  if d.kind ≠ 0 then (s, true)
  else
    match s.node? d.node with
    | some n => s.useLink n true
    | none =>
      match s.groupTx d.pan with
      | none => (s, false)
      | some ix => s.useKey kGroup (groupId d.pan ix) 1 true

/-- One due frame at the freeze: it joins a group, or is deferred with the first test it fails. A frame whose key refuses
the protection is not sent: its attempt ends as made and not acknowledged (log 18). -/
def State.freezeOne (s : State) (gs : List Group) (d : Due) (t : Tick) (ending : List Nat) : State × List Group :=
  match s.placeDue gs d t ending with
  | .error (r, duty) =>
    let s := match duty with
      | some (b, a) => s.dutyWarn b d.charge a (d.air + 4)
      | none => s
    let s := if r = 10 then s.quietCount t false else s
    (s.deferDue d r, gs)
  | .ok (p, c, f, bw) =>
    let u := s.protect d
    if u.2 then (u.1, addCarrier gs c p t (s.airOf d c f bw))
    else (if d.shared then u.1 else u.1.attemptEnds d.ref d.cell d.asn 15, gs)

/-- Helm uses one cell of a neighbour in a slot: a frame handed over for another one is not sent, and its attempt ends unused with the
cell (R157, R189). -/
def State.inChosen (s : State) (d : Due) : Bool :=
  d.kind != 0 || d.shared || (s.chosenCells d.pan d.asn).any (fun e => e.1 == d.cell)

/-- PLAN_FREEZE: the frames due in band `b` at transmit instant `t`, frozen 150 µs before it. `ending` are the
demodulators whose receptions end before the blanking begins. A member in PAIRING or RESYNC makes no transmission, nor does a PAN
whose service has ended (R155). -/
def execPlanFreeze (b : Nat) (t : Tick) (ending : List Nat) (s : State) : Res :=
  let mine := fun (d : Due) => d.start == t && d.cell != noCell && s.getN (Obj.PN_BAND d.pan) == b ||
    (d.kind == 3 && d.start == t && s.getN (Obj.PN_BAND d.pan) == b)
  let due := (s.helm.due.filter (fun d => mine d && s.panServed d.pan && s.inChosen d)).foldl (fun l d => dueInsert d l) []
  if 2 ≤ b ∨ s.isOn 3 = false ∨ t < s.time ∨ s.time + 150 * usT < t ∨ due = [] then .next s
  else
    let s := { s with helm := { s.helm with due := s.helm.due.filter (fun d => !mine d) } }
    if s.getN Obj.CS_STATE = 1 ∨ s.getN Obj.CS_STATE = 4 then .next s
    else
      let r := due.foldl (fun (a : State × List Group) d => a.1.freezeOne a.2 d t ending) (s, [])
      let s := r.1
      let gs := r.2.map (fun g =>
        { g with freq := s.planFreq g, nplan := s.nPlan g })
      let s := { s with helm := { s.helm with plans := s.helm.plans ++ gs } }
      let s := if s.silent then s else s.countBlanked b gs
      .next (if gs = [] then s
        else s.stream (.plan t (gs.flatMap (fun g => g.frames.map (fun f => (s.itemOf g f, f.air))))))

/-! ## Quiet slots (R166) -/

/-- A chain with nothing on air, no calibration and no retune. -/
def State.chainFree (s : State) (c : Nat) : Bool :=
  (s.chain c).group.isNone && (s.chain c).calRun.isNone && (s.retuneOn c).isNone

/-- QUIET_SLOT_INSERT: kind 0, a calibration of chain `ix`, or 1, a retune of port `ix`, has waited 2 s. A
retune takes a chain of its port that is LOCKED and free, else a free one (R89); the slot is its new expected start (R64). -/
def execQuietSlotInsert (kind ix : Nat) (s : State) : Res :=
  let since := if kind = 0 then (s.chain ix).pendingSince else (s.port ix).retuneReq.map (·.since)
  let cs := s.chainsOf ix
  let c := if kind = 0 then ix
    else (((cs.find? s.lockedFree).orElse (fun _ => cs.find? s.chainFree)).orElse (fun _ => cs.head?)).getD 3
  let b := chainBand c
  match since, s.shortestPan b with
  | some t0, some p =>
    if (kind = 0 ∧ 3 ≤ ix) ∨ (kind ≠ 0 ∧ 4 ≤ ix) ∨ 3 ≤ c ∨ s.now < t0 + 2 * secC
        ∨ (s.helm.lastQuiet.getD c none).elim false (fun t => decide (s.now < t + 2 * secC))
        ∨ s.helm.quiet.any (fun q => q.kind == kind && (if kind = 0 then q.chain == ix else q.port == ix)) then .next s
    else
      let asn := cdiv (((s.time + msT : Nat) : Int) - s.epoch p).toNat (max 1 (s.slotLen p))
      let q : Quiet := { kind := kind, chain := c, port := if kind = 0 then 4 else ix, pan := p, asn := asn, deferred := 0,
                         withheld := 0 }
      let last := upd s.helm.lastQuiet c (fun _ => some s.now)
      let s := { s with helm := { s.helm with quiet := s.helm.quiet ++ [q], lastQuiet := last } }.bump Obj.QUIET_SLOTS
      .next (if kind ≠ 0 ∧ (s.port ix).retuneReq.elim false (fun r => r.cause == 2) then
        s.procEst Obj.BEARING_RETUNE (s.cellStart p asn) else s)
  | _, _ => .next s

/-! ## Hearing a frame (R171–R178) -/

/-- Preamble and SFD of a mode in ns (R171). -/
def State.preNs (s : State) (pan m : Nat) : Nat :=
  if isOfdm m then Config.ofdmPreamble m * 1000 else s.preOctets pan m * 8000000 / max 1 (modeRate m)

/-- The enabled PAN of the band a frame is addressed to (R175). -/
def State.heardPan (s : State) (b : Nat) (f : MacFrame) : Option Nat :=
  (List.range 4).find? (fun p => s.getB (Obj.PN_ENABLE p) && s.getN (Obj.PN_BAND p) == b && s.getN (Obj.PN_PAN_ID p) == f.dstPan)

/-- The destination addresses of R175. -/
def State.addrOk (s : State) (pan : Nat) (a : Addr) : Bool :=
  match a with
  | .none => false
  | .short x => x == s.getN (Obj.PN_SHORT_ADDR pan) || (x == 0 && s.paired) || x == 0xFFFF
  | .long e => e == num (s.getO Obj.DEVICE_EUI64)

def unicast : Addr → Bool
  | .none => false
  | .short x => x != 0xFFFF
  | .long _ => true

/-- A dropped frame: offered to the capture FIFOs as not accepted. -/
def State.dropFrame (s : State) (r : Report) (node : Option Nat) : State :=
  s.capture 0 r.port node false r.crcOk r.sfdTime r.octets r.psdu

/-- Offset e of a transmission that started at `st` in a cell, in µs (R171). The spec gives no rounding: downward to a whole
microsecond (DESIGN CHOICE, log 37). -/
def State.offsetOf (s : State) (st : Tick) (pan asn f : Nat) : Int :=
  ((st : Int) - (s.cellStart pan asn + (s.sf f).txOffset * usT : Nat)) / (usT : Int)

/-- The cell a frame belongs to (R173): its number, entry, ASN and the offset e; the earlier cell takes a frame that two
windows hold. -/
def State.rxCell (s : State) (r : Report) (pan : Nat) (sender : Option Node) (st : Tick) : Option (Nat × Cell × Nat × Int) :=
  let chan := r.num
  let a := s.asnAt pan st
  [a - 1, a, a + 1].findSome? (fun asn =>
    ((s.chosenCells pan asn).filter (fun e => e.2.rx || e.2.shared)).findSome? (fun e =>
      let off := s.offsetOf st pan asn e.2.sf
      let wide := sender.elim false (fun n => n.state == .drifted)
      let lim := if wide then max (s.wd e.2.sf) (s.lmax e.2.sf) else s.lmax e.2.sf
      if (e.2.node = 0x3FFFF ∨ sender.elim false (fun n => n.idx == e.2.node)) ∧ s.hop pan asn e.2.chanOff = chan
          ∧ off.natAbs ≤ lim then some (e.1, e.2, asn, off)
      else none))

/-- The drift estimate after a frame at `t` with offset `e` (R174), in 0.01 ppm, saturating. -/
def driftAfter (s : State) (n : Node) (t : Tick) (e : Int) : Nat :=
  match n.lastSync with
  | none => s.getN Obj.DRIFT_INIT
  | some l =>
    let dt := t - l
    if dt < secT then n.drift
    else
      let sample := cdiv (e.natAbs * 100 * secT) dt
      let d := if n.drift ≤ sample then sample else n.drift - cdiv (n.drift - sample) 4
      min 65535 (max d (s.getN Obj.DRIFT_FLOOR))

/-- Timing after an accepted frame of node `i` at `t` in a cell of slotframe `f` (R174, R183, R208). -/
def State.timing (s : State) (i f : Nat) (t : Tick) (e : Int) (tag : Nat) : State :=
  match s.node? i with
  | none => s
  | some n =>
    let lee := s.leeway (some n) f t
    let d := driftAfter s n t e
    let s := (s.heard i).updNode i (fun n => { n with drift := d, lastSync := some t, lastOffset := e, misses := 0 })
    if n.neighbour = false then s
    else
      match n.state with
      | .active | .stale => if lee < e.natAbs then s.drifted i 0 (some e) lee tag else s
      | .drifted =>
        if e.natAbs ≤ lee then
          (s.setNodeState i .active).raiseOn 0x4003 0 0x4C00 (be 4 i ++ beI 2 e ++ be 1 2)
        else s
      | .lost => (s.setNodeState i .active).raiseOn 0x4003 0 0x4C00 (be 4 i ++ beI 2 e ++ be 1 4)
      | .joining => s

/-- The class of a frame's content: that of its uplink flow (R239); what the control plane takes counts as COMMAND. -/
def State.contentClass (s : State) (c : Lowpan) : Nat :=
  if isJoin c then 1
  else match c with
  | .dgram _ port dscp _ _ => (s.flow (s.classify port dscp)).cls
  | .frag _ _ _ _ _ port dscp => (s.flow (s.classify port dscp)).cls
  | _ => 1

/-- Plan or withhold the acknowledgement of a frame (R178, R179); `who` is the MAC sequence number acknowledged and `dst` its sender.
One that would cover an instant that member B keeps clear (R327) is withheld as one that blanks. The blanking test is made on the port the acknowledgement would go on. -/
def State.planAck (s : State) (r : Report) (pan node who : Nat) (dst : Addr) (cell : Nat × Cell × Nat × Int) (cls : Nat)
    (ending : List Nat) : State :=
  let e := cell.2.2.2
  let t := r.endTime + s.getN (Obj.PN_ACK_DELAY pan) * usT
  let air := s.ackTxUs pan r.mcs
  let te := t + air * usT
  let f := r.freq
  let bw := r.bw
  let place := s.ackPlace r.port t te (f, bw)
  let port := place.elim (if s.portServes r.port then r.port else otherPort r.port) (·.2)
  if s.getN Obj.CS_STATE = 1 ∨ s.getN Obj.CS_STATE = 4 then s
  else if s.wouldDrop (blankingOf s.groups) port [f] ending ∨ s.guardsAssertion (bandOf port) t te then s.bump Obj.ACK_WITHHELD_BLANK
  else
    match s.dutyFail f bw (s.countAt t) (air + 4) cls none with
    | some (b, a) => (s.dutyWarn b cls a (air + 4)).bump Obj.ACK_WITHHELD_DUTY
    | none =>
      match place with
      | none => (s.quietCount t true).bump Obj.ACK_WITHHELD_CHAIN
      | some (c, p) =>
        let a : AckPlan := { node := node, pan := pan, port := p, chain := c, start := t, air := air, cls := cls,
                             corr := clampI (-2047) 2047 (-e), freq := f, bw := bw, pending := none, who := who, dst := dst, asn := cell.2.2.1 }
        { s with helm := { s.helm with acks := s.helm.acks ++ [a] } }

/-- Hand a datagram of an originator to Pilot (R227), with its Consort tag over the octets it came in. -/
def State.forward (s : State) (orig seq asn : Nat) (port : Option Nat) (dscp octets : Nat) (gram : Octets) : State :=
  let s := s.reread
  match s.nodeByEui orig with
  | none => s.bump Obj.LOWPAN_DROPS
  | some n =>
    ((s.heard n.idx).updNode n.idx (fun n => { n with upFrames := (n.upFrames + 1) % 2 ^ 32 })).uplink (s.tagOf n.idx seq asn gram) port dscp octets

/-- The headers that a pipeline supports (R226). -/
def lowTaken (h : LowHead) : Bool := !h.mesh && !h.broadcast && !h.plain && h.context == 0 && !h.sumElided

/-- The uplink stage for a new frame (R226–R228): kinds of control-plane items 1 join request, 2 RPL. A frame with a header that is not
supported is dropped. -/
def State.pipeline (s : State) (b node seq asn : Nat) (payload : Octets) (h : LowHead) (c : Lowpan) : State :=
  if lowTaken h = false then s.bump Obj.LOWPAN_DROPS
  else if isJoin c then s.emit (.control 1 node)
  else match c with
  | .rpl orig dio =>
    let s := s.reread
    match s.nodeByEui orig with
    | none => s.bump Obj.LOWPAN_DROPS
    | some n =>
      let s := if dio then { s with alm := { s.alm with rpl := upd s.alm.rpl n.pan (fun x => { x with counter := x.counter + 1 }) } } else s
      ((s.heard n.idx).updNode n.idx (fun n => { n with upFrames := (n.upFrames + 1) % 2 ^ 32 })).emit (.control 2 n.idx)
  | .dgram orig port dscp octets _ => s.forward orig seq asn port dscp octets payload
  | .frag orig tag size off data port dscp =>
    let x := s.fragment b orig tag size off data port dscp
    match x.2 with
    | none => x.1
    | some whole => x.1.forward orig seq asn whole.udpPort whole.dscp whole.size (partsOctets whole.parts)

/-- The Lodestar limits on a new frame: only ALARM uplink is acknowledged and forwarded (R443). -/
def State.lodestarHolds (s : State) (c : Lowpan) : Bool :=
  s.getB Obj.LODESTAR_ACTIVE && s.contentClass c != 0

/-- The identity of a frame, its digest and the class of R177 against the last accepted one: 0 new, 1 repeat, 2 replay. -/
def frameClass (last : Option Nat) (digest : Octets) (ident : Nat) (dig : Octets) : Nat :=
  match last with
  | none => 0
  | some l =>
    if l = ident then (if dig = digest then 1 else 0)
    else
      let d := ((l : Int) - ident).emod 256
      if 1 ≤ d ∧ d ≤ 127 then 2 else 0

/-- An acknowledgement of a node's last frame that starts after `t` is planned: still to be composed, in a plan or in a group (R177). A
sender that is not in the table is told by its address. -/
def State.ackServes (s : State) (node : Nat) (src : Addr) (t : Tick) : Bool :=
  let same := fun (n : Nat) (a : Addr) => n == node && (node != 0x3FFFF || a == src)
  s.helm.acks.any (fun a => same a.node a.dst && decide (t < a.start)) ||
    s.groups.any (fun g => g.frames.any (fun f => f.kind == 1 && f.ack.elim false (fun h => same f.node h.dst) &&
      decide (t < g.start + f.start * usT)))

/-- The learn request of a frame (R217). -/
def State.learnOf (s : State) (r : Report) (eui idx pan : Nat) : State :=
  s.learnRequest (bandOf r.port) { eui := eui, idx := idx, second := r.port % 2 == 1, pan := pan, lqi := r.lqi, stamp := s.almSec }

/-- A frame that passed R175, R173 and R176 from node `n`: repeat, replay or new (R177). -/
def State.fromNode (s : State) (r : Report) (f : MacFrame) (pan : Nat) (n : Node) (cell : Nat × Cell × Nat × Int) (st : Tick)
    (ending : List Nat) : State :=
  let ident := f.seqNo.getD 0
  let dig := Config.shake256 8 f.payload
  let cls := s.contentClass f.content
  let e := cell.2.2.2
  let wants := f.ackReq && unicast f.dst
  let learn := fun (s : State) => if joinRequest f then s else s.learnOf r n.eui n.idx pan
  match frameClass n.lastSeq n.lastDigest ident dig with
  | 2 => (s.bump Obj.REPLAY_DROPS).dropFrame r (some n.idx)
  | 1 =>
    let serves := s.ackServes n.idx f.src r.endTime
    let s := (s.timing n.idx cell.2.1.sf st e cell.2.1.tag).bump Obj.DUP_RX
    let s := learn s
    let s := if wants ∧ serves = false ∧ s.lodestarHolds f.content = false then s.planAck r pan n.idx ident f.src cell cls ending else s
    s.dropFrame r (some n.idx)
  | _ =>
    let s := s.timing n.idx cell.2.1.sf st e cell.2.1.tag
    if s.getB Obj.LODESTAR_ACTIVE ∧ (cls ≠ 0 ∨ isJoin f.content) then
      (if isJoin f.content then s else s.bump Obj.LODESTAR_UP_WITHHELD).dropFrame r (some n.idx)
    else
      let s := (s.updNode n.idx (fun n => { n with lastSeq := some ident, lastDigest := dig })).bump Obj.RX_ACCEPTED
      let s := learn s
      let s := s.capture 0 r.port (some n.idx) true r.crcOk r.sfdTime r.octets r.psdu
      let s := if wants then s.planAck r pan n.idx ident f.src cell cls ending else s
      let s := if s.getB Obj.LODESTAR_ACTIVE then s.bump Obj.LODESTAR_UP_FORWARDED else s
      s.pipeline (bandOf r.port) n.idx ident cell.2.2.1 f.payload f.head f.content

/-- A join request of an EUI-64 that is not in the table is accepted, and goes through the uplink stage: its entry is to be made, or the
one that waits takes it as the last frame (R177, R209, R227). The shadow's entries are the active's (R196). -/
def State.joinAccepted (s : State) (r : Report) (f : MacFrame) (pan : Nat) (q : Insertion) (cell : Nat × Cell × Nat × Int)
    (ending : List Nat) : State :=
  let s := (s.bump Obj.RX_ACCEPTED).capture 0 r.port none true r.crcOk r.sfdTime r.octets r.psdu
  let s := if f.ackReq ∧ unicast f.dst then s.planAck r pan 0x3FFFF (f.seqNo.getD 0) f.src cell 1 ending else s
  let mine := fun (x : Insertion) => x.eui == q.eui && x.cause != 1
  let s : State :=
    if lowTaken f.head = false ∨ s.shadowed then s
    else if s.alm.queue.any mine then
      { s with alm := { s.alm with queue := s.alm.queue.map (fun x =>
          if mine x then { x with ident := q.ident, digest := q.digest } else x) } }
    else s.queueInsertion q
  s.pipeline (bandOf r.port) 0x3FFFF (f.seqNo.getD 0) cell.2.2.1 f.payload f.head f.content

/-- A join request from an EUI-64 that is not in the table: one that R209 turns into a JOINING entry is accepted (R212); a
full insertion queue drops it (R206). While its entry waits for the insertion engine, its frames are classed against the last one
(R177). -/
def State.joinUnknown (s : State) (r : Report) (f : MacFrame) (pan eui : Nat) (cell : Nat × Cell × Nat × Int)
    (ending : List Nat) : State :=
  let ident := f.seqNo.getD 0
  let dig := Config.shake256 8 f.payload
  let q : Insertion := { eui := eui, pan := pan, pinned := false, cause := 0, sess := 0, ident := some ident, digest := dig }
  if s.getB Obj.LODESTAR_ACTIVE ∨ s.alm.loaded = false ∨ bit (s.getN Obj.JOIN_ENABLE) pan = false then
    (s.bump Obj.CCM_FAIL).dropFrame r none
  else
    match s.alm.queue.find? (fun x => x.eui == eui && x.cause != 1) with
    | none =>
      if s.getN Obj.JOIN_LIMIT ≤ s.joiningCount then (s.bump Obj.CCM_FAIL).dropFrame r none
      else if insertQueue ≤ s.alm.queue.length then s.dropFrame r none
      else s.joinAccepted r f pan q cell ending
    | some x =>
      match frameClass x.ident x.digest ident dig with
      | 2 => (s.bump Obj.REPLAY_DROPS).dropFrame r none
      | 1 =>
        let serves := s.ackServes 0x3FFFF f.src r.endTime
        let s := s.bump Obj.DUP_RX
        let s := if f.ackReq ∧ unicast f.dst ∧ serves = false then s.planAck r pan 0x3FFFF ident f.src cell 1 ending else s
        s.dropFrame r none
      | _ => s.joinAccepted r f pan q cell ending

/-- A data or command frame (R173, R176). -/
def State.dataFrame (s : State) (r : Report) (f : MacFrame) (pan : Nat) (ending : List Nat) : State :=
  let sender := s.nodeBySrc f.src
  let s := s.rereadSrc f.src
  let s := match f.src with
    | .long e => if joinRequest f then s.learnOf r e (sender.elim 0x3FFFF (·.idx)) pan else s
    | _ => s
  let st := r.sfdTime - s.preNs pan r.mode * nsT
  match s.rxCell r pan sender st with
  | none => (s.bump Obj.OUT_OF_CELL).dropFrame r (sender.map (·.idx))
  | some cell =>
    if f.secured ∧ f.level = s.getN (Obj.PN_SEC_LEVEL pan) then
      match sender with
      | none => (s.bump Obj.CCM_FAIL).dropFrame r none
      | some n =>
        let u := match f.keyIx with
          | none => s.useLink n false
          | some ix => s.useGroupRx pan ix
        if u.2 ∧ f.ccmOk then u.1.fromNode r f pan n cell st ending else (u.1.bump Obj.CCM_FAIL).dropFrame r (some n.idx)
    else if joinRequest f then
      match sender, f.src with
      | some n, .long _ =>
        if n.state = .joining then s.fromNode r f pan n cell st ending else (s.bump Obj.CCM_FAIL).dropFrame r (some n.idx)
      | none, .long e => s.joinUnknown r f pan e cell ending
      | _, _ => (s.bump Obj.CCM_FAIL).dropFrame r none
    else (s.bump Obj.CCM_FAIL).dropFrame r (sender.map (·.idx))

/-- An acknowledgement (R169, R174, R183, R208): one whose SFD falls in the wait for its sender delivers the attempt. A shadow, which may
have sent the frame before it yielded (R325), keeps the outcome in its ledger, and the active reports. -/
def State.ackFrame (s : State) (r : Report) (f : MacFrame) (pan : Nat) : State :=
  let sender := s.nodeBySrc f.src
  let s := s.rereadSrc f.src
  match s.helm.waits.find? (fun w => w.pan == pan && sender.elim false (fun n => n.idx == w.node) &&
      decide (w.opens ≤ r.sfdTime ∧ r.sfdTime ≤ w.latestSfd)), sender with
  | some w, some n =>
    let u := s.useLink n false
    if f.secured = false ∨ f.level ≠ s.getN (Obj.PN_SEC_LEVEL pan) ∨ u.2 = false ∨ f.ccmOk = false then (u.1.bump Obj.CCM_FAIL).dropFrame r (some n.idx)
    else
      let st := r.sfdTime - s.preNs pan r.mode * nsT
      let s := u.1.capture 0 r.port (some n.idx) true r.crcOk r.sfdTime r.octets r.psdu
      let s := (s.heard n.idx).updNode n.idx (fun n => { n with lastSync := some st, misses := 0 })
      let s := { s with helm := { s.helm with waits := s.helm.waits.filter (fun x => x != w) } }
      let s := s.bump Obj.ACKS_RECEIVED
      if w.shared then s.setBe n.idx (s.getN (Obj.PN_MIN_BE pan)) 0
      else
        let s := s.attemptEnds w.ref w.cell w.asn 0
        if s.shadowed then s else s.report w.ref 2 r.sfdTime
  | _, _ => (s.bump Obj.OUT_OF_CELL).dropFrame r (sender.map (·.idx))

/-- A beacon: dropped, or the partner's that Consort takes, which is offered to the capture FIFOs as accepted (R137, R175, R327). Member B without a partner pulse yields to it. -/
def State.beaconFrame (s : State) (r : Report) (f : MacFrame) : State :=
  if s.getN Obj.CS_STATE = 2 ∧ s.paired ∧ f.src = .long (num (s.getO Obj.CS_PARTNER_EUI)) then
    let s := s.capture 0 r.port none true r.crcOk r.sfdTime r.octets r.psdu
    if s.getN Obj.CS_PAIRSEL = 2 ∧ s.getN Obj.CS_PARTNER_STATE = 0xFF then s.yieldTo 4 2 else s
  else (s.bump Obj.ADDR_FILTERED).dropFrame r none

/-- FRAME_DECISION: the outcome for the oldest report at Helm, 60 µs after it (R381). `f` is the frame its PSDU holds,
`ending` the demodulators whose receptions end before an acknowledgement of it would start. -/
def execFrameDecision (f : MacFrame) (ending : List Nat) (s : State) : Res :=
  match s.rx.toHelm with
  | [] => .next s
  | r :: rest =>
    let s := { s with rx := { s.rx with toHelm := rest } }
    if r.crcOk = false then .next (s.bump Obj.ADDR_FILTERED)
    else
      match s.heardPan (bandOf r.port) f with
      | none => .next ((s.bump Obj.ADDR_FILTERED).dropFrame r none)
      | some pan =>
        if f.version ≠ 2 ∨ 3 < f.ftype then .next ((s.bump Obj.ADDR_FILTERED).dropFrame r none)
        else if f.ftype = 0 then .next (s.beaconFrame r f)
        else if s.addrOk pan f.dst = false then .next ((s.bump Obj.ADDR_FILTERED).dropFrame r none)
        else if f.ftype = 2 then .next (s.ackFrame r f pan)
        else .next (s.dataFrame r f pan ending)

/-! ## Acknowledgements (R169, R178, R181, R182) -/

/-- An acknowledgement as a frame of a group. -/
def State.ackAir (s : State) (a : AckPlan) (pend : Bool) (start : Nat) : AirFrame :=
  { kind := 1, ref := a.who, node := a.node, pan := a.pan, cls := a.cls,
    req := s.reqIndex a.chain a.node, freq := a.freq, bw := a.bw,
    start := start, air := a.air, ackReq := false, sf := 0, cell := noCell, asn := 0, shared := false, tries := 0,
    ack := some { corr := a.corr, pending := pend, dst := a.dst }, guard := s.guardOf 1 a.pan a.asn }

/-- A group of its own for an acknowledgement: R164 gives its frequency. -/
def State.ackGroup (s : State) (a : AckPlan) (pend : Bool) : Group :=
  { chain := a.chain, port := a.port, start := a.start, nplan := 1 + (s.acksIn a.chain a.start (a.start + a.air * usT)).length,
    freq := (s.ackFreq a).getD 0, entry := 0, top := 0, frames := [s.ackAir a pend 0] }

/-- A composed acknowledgement is planned: in the group planned on its chain that it overlaps, where R95 holds, else in a group of its
own, which joins one on air at its start (R96). The listen windows it blanks are lost (R165). -/
def State.placeAck (s : State) (a : AckPlan) (pend : Bool) : State :=
  if s.guardsAssertion (bandOf a.port) a.start (a.start + a.air * usT) then s.bump Obj.ACK_WITHHELD_BLANK
  else match s.helm.plans.find? (fun g => g.chain == a.chain && g.port == a.port && decide (g.start ≤ a.start ∧
      a.start < g.start + g.length * usT)) with
  | some g =>
    let x := s.ackAir a pend ((a.start - g.start) / usT)
    if carrierOk g.freq (x.freq, x.bw) = false then s.bump Obj.ACK_WITHHELD_CHAIN
    else
      let g' := { g with frames := g.frames ++ [x] }
      let s := { s with helm := { s.helm with plans := s.helm.plans.map (fun y => if y = g then g' else y) } }
      ((if s.silent then s else s.countBlanked (bandOf g.port) [{ g' with frames := [x] }])).streamItem g x
  | none =>
    let g := s.ackGroup a pend
    let g := match (s.chain a.chain).group with
      | some x => if x.over a.start (a.start + a.air * usT) then { g with freq := x.freq } else g
      | none => g
    let s := { s with helm := { s.helm with plans := s.helm.plans ++ [g] } }
    (if s.silent then s else s.countBlanked (bandOf g.port) [g]).streamItem g (s.ackAir a pend 0)

/-- ACK_COMPOSE: 40 µs before its start the acknowledgement takes its Frame Pending bit and its place in a group. Its key
is used, but for a joining node's (R212). -/
def execAckCompose (i : Nat) (s : State) : Res :=
  match s.helm.acks[i]? with
  | none => .next s
  | some a =>
    if s.time + 40 * usT < a.start then .next s
    else
      let s := { s with helm := { s.helm with acks := s.helm.acks.eraseIdx i } }
      let pend := s.getB Obj.LODESTAR_ACTIVE = false ∧ s.qDepth a.node ≠ 0
      let u := match s.node? a.node with
        | some n => if n.state = NodeState.joining then (s, true) else s.useLink n true
        | none => (s, true)
      .next (if u.2 then u.1.placeAck a pend else u.1)

/-- A reception that began in the wait for an acknowledgement, on its channel, is not released yet, or its report not decided
(R169). -/
def State.waitBusy (s : State) (w : AckWait) : Bool :=
  let near := fun (f : Nat) => decide (f ≤ w.freq + 1000 ∧ w.freq ≤ f + 1000)
  s.rx.recs.any (fun r => near r.freq &&
    decide ((w.opens : Int) ≤ s.timeAt r.fireAt ∧ s.timeAt r.fireAt ≤ (w.latestSfd : Int))) ||
  (s.rx.toHelm ++ s.rx.held.map (·.rep)).any (fun r => near r.freq && decide (w.opens ≤ r.sfdTime ∧ r.sfdTime ≤ w.latestSfd))

/-- ACK_WAIT_CLOSE (R169): past its latest SFD, with no reception that began in it still running. A shadow that awaited the
acknowledgement of the active's frame only notes the attempt. -/
def execAckWaitClose (i : Nat) (s : State) : Res :=
  match s.helm.waits[i]? with
  | none => .next s
  | some w =>
    if s.time < w.latestSfd ∨ s.waitBusy w then .next s
    else
      let s := { s with helm := { s.helm with waits := s.helm.waits.eraseIdx i } }
      let others := s.shadowed && !w.own
      let s := if w.shared then (if others then s else s.sharedMiss w) else s.attemptEnds w.ref w.cell w.asn 15
      .next (if others then s else s.miss w.node w.sf (s.cellTag w.cell))

/-! ## The end of a cell (R189, R260, R261) -/

/-- Frames with no reserved attempt left and no wait open are decided at the end of their last cell: UNREACHABLE when the last fell due with the node
DRIFTED, else NOT_ACKED. -/
def State.decideReports (s : State) : State :=
  (s.pilot.frames.filter (fun f => f.insts.isEmpty && decide (f.promise ≤ s.time) && !(s.helm.waits.any (fun w => w.ref == f.ref)))).foldl (fun s f =>
    s.report f.ref (if f.reason = 11 then 4 else 3) s.time) s

/-- CELL_END: reservations of instances that were not used end with the cell. An instance of a stopped PAN ends the frame
(R261). In a shadow the attempt is the active's. -/
def execCellEnd (pan asn : Nat) (s : State) : Res :=
  if s.time < s.cellStart pan (asn + 1) then .next s
  else
    let hit := s.pilot.frames.flatMap (fun f => (f.insts.filter (fun i => i.pan == pan && decide (i.asn ≤ asn) &&
      !((s.fe.chains.filterMap (·.group)).any (fun g => g.frames.any (fun x => x.ref == f.ref && x.cell == i.cell && x.asn == i.asn))) &&
      !(s.helm.waits.any (fun w => w.ref == f.ref && w.cell == i.cell && w.asn == i.asn)))).map (fun i => (f.ref, i)))
    let stopped := (nth s.helm.pans pan).running = false
    let due := s.helm.due.filter (fun d => !(d.pan == pan && d.cell != noCell && !d.shared && decide (d.asn ≤ asn)))
    let s := { s with helm := { s.helm with due := due } }.dutyCellEnd pan asn
    let s := hit.foldl (fun s x => s.attemptEnds x.1 x.2.cell x.2.asn (if stopped then 13 else 15)) s
    if s.shadowed then .next s
    else
      let s := if stopped then (hit.map (·.1)).eraseDups.foldl (fun s r => s.report r 3 s.time) s else s
      let keep := s.helm.oldCells.filter (fun e => s.pilot.frames.any (fun f => f.insts.any (fun i => i.cell == e.1)))
      .next ({ s with helm := { s.helm with oldCells := keep } }.decideReports)

/-! ## Duty-cycle bins (R189–R191) -/

/-- DUTY_BIN_BOUNDARY: the sub-band comes to a new bin: a new limit and reserve take effect, charges that no window holds any more go,
and the bins are mirrored to DRAM. -/
def execDutyBinBoundary (b : Nat) (s : State) : Res :=
  if 16 ≤ b ∨ s.getB (Obj.SB_ENABLE b) = false ∨ s.isOn 3 = false ∨ s.binAt b s.now ≤ (nth s.helm.duty b).bin then .next s
  else
    let cur := s.binAt b s.now
    let lim := s.getN (Obj.SB_LIMIT b) * s.getN (Obj.SB_WINDOW b)
    let s := s.updDuty b (fun d =>
      { d with bin := cur, limit := lim, reserve := lim * s.getN (Obj.SB_ALARM_RESERVE b) / 100,
               charges := d.charges.filter (fun e => decide ((cur : Int) ≤ e.1 + 64)) })
    .next { s with helm := { s.helm with mirror := s.helm.duty, mirrorAt := some s.now, away := [] } }

/-! ## PAN service (R151, R155) -/

/-- The refusals of R155 and R522. -/
def State.panRefusal (s : State) (p : Nat) : Option Rc :=
  let m := s.getN (Obj.PN_TX_MODE p)
  let covered := (s.hopEntries p).all (fun n => (bandWins (s.getN (Obj.PN_BAND p))).any (fun w => s.winCovers w n))
  let same := (List.range 4).any (fun q => q != p && s.getB (Obj.PN_ENABLE q) &&
    s.getN (Obj.PN_PAN_ID q) == s.getN (Obj.PN_PAN_ID p))
  if isOfdm m ∧ mcsPermitted m (s.getN (Obj.PN_TX_MCS p)) = false then some .range
  else if covered = false ∨ same then some .stateConflict
  else none

/-- A PAN's service starts at its epoch: its DODAG takes a new version and its Trickle timer its shortest interval
(R223). -/
def State.panStart (s : State) (p : Nat) : State :=
  let s := s.setP (Obj.PN_ENABLE p) (.bool true)
  let on := s.epoch p ≤ s.time
  let s := s.updPan p (fun x => { x with running := on, stopping := false })
  let s := s.setP (Obj.RP_VERSION p) (.int (((s.getN (Obj.RP_VERSION p) + 1) % 256 : Nat) : Int))
  let rpl : Rpl := { interval := s.getN (Obj.RP_DIO_IMIN p), counter := 0, started := true, since := s.now, fired := false }
  let s := { s with alm := { s.alm with rpl := upd s.alm.rpl p (fun _ => rpl) } }
  let s := if on then (s.setN (Obj.PN_ASN p) (s.asnAt p s.time)).lookAhead else s
  (s.radioPower).chartGeometry

/-- A PAN's service is to end at its next slot boundary. -/
def State.panStopping (s : State) (p : Nat) : State :=
  let s := s.setP (Obj.PN_ENABLE p) (.bool false)
  let s := s.updPan p (fun x => { x with stopping := x.running })
  let s := { s with alm := { s.alm with rpl := upd s.alm.rpl p (fun x => { x with started := false }) } }
  (s.radioPower).chartGeometry

/-- PAN_ENABLE: a write of PN_ENABLE with any item but false; a PAN that is enabled already goes on. -/
def execPanEnable (r : Req) (p : Nat) (w : Wire) (s : State) : Res :=
  if s.itemSoFar r (Obj.PN_ENABLE p) w = .bool false ∨ 4 ≤ p then .next s
  else
    .next (s.write r (0x4000 + p) 1 w (fun s _ _ => s.panRefusal p)
      (fun s _ _ => if s.getB (Obj.PN_ENABLE p) then s else s.panStart p))

/-- PAN_STOP: a write of false to PN_ENABLE. -/
def execPanStop (r : Req) (p : Nat) (w : Wire) (s : State) : Res :=
  if s.itemSoFar r (Obj.PN_ENABLE p) w = .bool false ∧ p < 4 then
    .next (s.write r (0x4000 + p) 1 w (fun _ _ _ => none) (fun s _ _ => s.panStopping p))
  else .next s

/-! ## The schedule (R156–R160, R194, R195) -/

/-- Put a cell into a list sorted by cell number. -/
def cellInsert (n : Nat) (c : Cell) : List (Nat × Cell) → List (Nat × Cell)
  | [] => [(n, c)]
  | e :: t => if n < e.1 then (n, c) :: e :: t else if n = e.1 then (n, c) :: t else e :: cellInsert n c t

/-- A staged cell. -/
def State.stageCell (s : State) (n : Nat) (o : Octets) : State :=
  let l := cellInsert n (Cell.ofOctets o) s.helm.staged
  { s with helm := { s.helm with staged := l } }

/-- CELL_ENTRY_STAGE: a write of CELL_ENTRY at the session's CELL_NUMBER. -/
def execCellEntryStage (r : Req) (w : Wire) (s : State) : Res :=
  .next (s.write r 0x4200 2 w
    (fun s sess v =>
      let n := (s.session sess).cellNumber
      if cellEncodingOk v.toOctets = false then some .range
      else if stagedMax ≤ s.stagedCount ∧ s.helm.staged.all (fun e => e.1 != n) then some .refusedCapacity
      else none)
    (fun s sess v => s.stageCell (s.session sess).cellNumber v.toOctets))

/-- The staged slotframe objects of a slotframe take given values. -/
def State.setSf (s : State) (f : Nat) (x : Slotframe) : State :=
  let put := fun (s : State) (k : Nat) (v : Val) => if s.get k = v then s else s.setP k v
  put (put (put (put s (Obj.SS_ENABLE f) (.bool x.enable)) (Obj.SS_PAN f) (.int x.pan)) (Obj.SS_LENGTH f) (.int x.length))
    (Obj.SS_TX_OFFSET f) (.int x.txOffset)

/-- The staged set is emptied: 0x41ss:01–04 read the values of `sfs` again. -/
def State.restage (s : State) (sfs : List Slotframe) : State :=
  let s : State := { s with helm := { s.helm with staged := [] } }
  (sfs.zipIdx).foldl (fun s e => s.setSf e.2 e.1) s

/-- The staged set is emptied: 0x41ss:01–04 read their values in force again. -/
def State.discardStaged (s : State) : State := s.restage s.tableNow.1

/-- SCHED_DISCARD. -/
def execSchedDiscard (r : Req) (w : Wire) (s : State) : Res :=
  .next (s.write r 0x4200 7 w (fun _ _ _ => none) (fun s _ _ => s.discardStaged))

/-- The staged slotframes. -/
def State.stagedSfs (s : State) : List Slotframe :=
  (List.range 64).map (fun f => { enable := s.getB (Obj.SS_ENABLE f), pan := s.getN (Obj.SS_PAN f),
                                  length := s.getN (Obj.SS_LENGTH f), txOffset := s.getN (Obj.SS_TX_OFFSET f) })

/-- The cells as they would be in force: the staged entries over those in force. An entry with VALID clear is empty: its other fields are
not kept, and CELL_ENTRY reads all 0 once it is in force (DESIGN CHOICE, log 16). -/
def State.mergedCells (s : State) : List (Nat × Cell) :=
  (s.helm.staged.foldl (fun l e => cellInsert e.1 e.2 l) s.helm.cells).filter (fun e => e.2.valid)

/-- R156 for a valid entry in a set of slotframes. -/
def cellOk (sfs : List Slotframe) (c : Cell) : Bool :=
  let f := nth sfs c.sf
  decide (c.sf < 64) && f.enable && decide (c.slot < f.length ∧ c.port < 3) &&
    (!c.advertise || (c.tx && c.node == 0x3FFFF)) && (!c.shared || c.node == 0x3FFFF)

/-- R153 and R154 for a slotframe, and R328 for an enabled one. -/
def State.sfOk (s : State) (f : Slotframe) : Bool :=
  decide (f.pan < 4 ∧ 1 ≤ f.length ∧ f.length ≤ 65535 ∧ s.getN Obj.LEEWAY_BASE ≤ f.txOffset
    ∧ f.txOffset + 300 ≤ s.getN (Obj.PN_SLOT_DURATION f.pan)) && !(f.enable && s.paired && decide (f.txOffset < 300))

/-- The sizing rule of R158. -/
def State.cellSum (s : State) (sfs : List Slotframe) (cells : List (Nat × Cell)) : Nat :=
  ((sfs.zipIdx).map (fun e =>
    if e.1.enable then
      (cells.filter (fun c => c.2.sf == e.2)).length *
        (cdiv 2000000 (max 1 (e.1.length * s.getN (Obj.PN_SLOT_DURATION e.1.pan))) + 1)
    else 0)).sum

/-- The first failing case of R158. -/
def State.scheduleFail (s : State) (epoch : Nat) (sfs : List Slotframe) (cells : List (Nat × Cell)) : Option Rc :=
  if epoch ≠ (s.getN Obj.SCHED_EPOCH + 1) % 2 ^ 32 then some .stateConflict
  else if !(cells.all (fun e => cellOk sfs e.2)) ∨ !(sfs.all s.sfOk) ∨ 65536 < s.cellSum sfs cells then some .range
  else if sfs.any (fun f => f.enable && !((s.hopEntries f.pan).all (fun n =>
      (bandWins (s.getN (Obj.PN_BAND f.pan))).any (fun w => s.winCovers w n)))) then some .stateConflict
  else none

/-- The cells whose entry differs between two sets, by number. -/
def cellChanges (a b : List (Nat × Cell)) : List Nat :=
  ((a.filter (fun e => !b.contains e)).map (·.1) ++ (b.filter (fun e => !a.contains e)).map (·.1)).eraseDups

/-- The slotframes that a commit changes. -/
def sfChanges (sfs sfs' : List Slotframe) (a b : List (Nat × Cell)) : List Nat :=
  let cells := (a.filter (fun e => !b.contains e)).map (·.2.sf) ++ (b.filter (fun e => !a.contains e)).map (·.2.sf)
  (List.range 64).filter (fun f => nth sfs f != nth sfs' f || cells.contains f)

/-- SCHEDULE_COMMITTED. -/
def State.scheduleEvent (s : State) (epoch changed kept : Nat) (rc : Rc) (handle : Nat) : State :=
  s.raiseOn 0x4004 (if rc = .ok then 0 else 2) 0x4300
    (be 4 epoch ++ fit 8 s.digestNow ++ be 4 changed ++ be 4 kept ++ be 2 rc.code ++ be 4 handle)

/-- The TX cells with SHARED clear of one node that Pilot's index takes: at most 32 (R258). -/
def State.indexed (s : State) (node : Nat) : List (Nat × Cell) :=
  (s.helm.cells.filter (fun e => e.2.valid && e.2.tx && !e.2.shared && e.2.node == node && s.sfOn e.2.sf)).take 32

/-- CELLS_UNINDEXED after a switch. -/
def State.countUnindexed (s : State) : State :=
  let l := s.helm.cells.filter (fun e => e.2.valid && e.2.tx && !e.2.shared && e.2.node != 0x3FFFF && s.sfOn e.2.sf)
  let nodes := (l.map (·.2.node)).eraseDups
  s.setN Obj.CELLS_UNINDEXED ((nodes.map (fun n => (l.filter (fun e => e.2.node == n)).length - 32)).sum)

/-- A table comes into force from a copy (R194, R435, R442). -/
def State.tableFrom (s : State) (t : List Slotframe × List (Nat × Cell)) : State :=
  let s : State := { s with helm := { s.helm with sfs := t.1, cells := t.2 } }
  let s := (List.range 64).foldl (fun s f =>
    s.setN (Obj.SS_CELLS_IN_FORCE f) (t.2.filter (fun e => e.2.sf == f)).length) s
  (s.countUnindexed).lookAhead

/-- Cells that each schedule copy keeps, by FLASH_MAP (R434). -/
def flashCells (m : Nat) : Nat := [0, 131072, 262144, 1048576, 1048576].getD m 0

/-- The table in force is written to the schedule copy not written last (R435). -/
def State.keepSchedule (s : State) : State :=
  let cells := s.helm.cells.filter (fun e => decide (e.1 < flashCells (s.getN Obj.FLASH_MAP)))
  { s with lb := { s.lb with sched := (s.helm.sfs, cells) } }

/-- The commit is complete (R159, R435, R444). -/
def State.commitDone (s : State) (c : Commit) : State :=
  let staged := s.helm.staged.filter (fun e => !c.snap.contains e)
  let s : State := { s with helm := { s.helm with commit := none, staged := staged } }
  let s := (s.setP Obj.SCHED_EPOCH (.int c.epoch)).setP Obj.SCHED_DIGEST (.octets (schedDigest c.epoch s.helm.sfs s.helm.cells))
  let s := ((s.countUnindexed).keepSchedule).chartGeometry
  (s.scheduleEvent c.epoch c.changed c.kept .ok c.handle).procDone Obj.SCHEDULE_COMMIT .ok

/-- What a start of SCHEDULE_COMMIT does: the staged set is validated and its switches are set (R158, R159). -/
def State.commitStart (s : State) (o : Octets) : State :=
  let epoch := fld o 0 4
  let h := s.procHandle Obj.SCHEDULE_COMMIT
  let sfs := s.stagedSfs
  let cells := s.mergedCells
  match s.scheduleFail epoch sfs cells with
  | some rc => (s.procDone Obj.SCHEDULE_COMMIT rc).scheduleEvent epoch 0 0 rc h
  | none =>
    let left := sfChanges s.helm.sfs sfs s.helm.cells cells
    let c : Commit := { epoch := epoch, applyAt := ofT64Octets (slice o 4 12), handle := h, validated := s.time, sfs := sfs,
                        cells := cells, left := left, changed := (cellChanges s.helm.cells cells).length, kept := 0,
                        snap := s.helm.staged, switched := false }
    let s := { s with helm := { s.helm with commit := some c } }
    if left = [] then s.commitDone c
    else s.procEst Obj.SCHEDULE_COMMIT (s.commitEnd c)

/-- SCHEDULE_COMMIT (R195). -/
def execScheduleCommit (r : Req) (w : Wire) (s : State) : Res :=
  .next (s.start r Obj.SCHEDULE_COMMIT w
    (fun s _ v => if 999999999 < fld v.toOctets 10 4 ∨ s.farAhead (ofT64Octets (slice v.toOctets 4 12)) then some .range else none)
    (fun s _ => s.time + switchLead)
    (fun s _ v => s.commitStart v.toOctets))

/-- Put a cell in force behind those of its number and below: a number that moves to another slotframe is in force in both until the
other one switches too (R159). -/
def cellAdd (e : Nat × Cell) : List (Nat × Cell) → List (Nat × Cell)
  | [] => [e]
  | x :: t => if e.1 < x.1 then e :: x :: t else x :: cellAdd e t

/-- A slotframe takes its new set: TX cells removed or changed that hold reservations stay in their old form. The cells of the other
slotframes stand until their own boundary. -/
def State.switchSf (s : State) (c : Commit) (f : Nat) : State :=
  let new := c.cells.filter (fun e => e.2.sf == f)
  let old := s.helm.cells.filter (fun e => e.2.sf == f && !new.contains e)
  let kept := old.filter (fun e => e.2.tx && s.pilot.frames.any (fun x => x.insts.any (fun i => i.cell == e.1 &&
    decide (s.time ≤ i.start))))
  let stay := s.helm.cells.filter (fun e => e.2.sf != f)
  let cells := new.foldl (fun l e => cellAdd e l) stay
  let sfs := upd s.helm.sfs f (fun _ => nth c.sfs f)
  let c : Commit := { c with left := c.left.filter (fun x => x != f), kept := c.kept + kept.length, switched := true }
  let s := { s with helm := { s.helm with cells := cells, oldCells := s.helm.oldCells ++ kept, sfs := sfs, commit := some c } }
  let s := (s.setN (Obj.SS_CELLS_IN_FORCE f) new.length).lookAhead
  if c.left = [] then s.commitDone c else s

/-- SLOTFRAME_SWITCH: the boundary of a changed slotframe, at or after the apply time and 2.1 s after validation. -/
def execSlotframeSwitch (f : Nat) (s : State) : Res :=
  match s.helm.commit with
  | none => .next s
  | some c =>
    if c.left.contains f = false ∨ s.time < s.switchAt c f then .next s else .next (s.switchSf c f)

end Sys2Proof.Machine
end

