-- ==== Sys2Proof/Machine/Admit.lean ====
section
/-! DEFINITION. The admission computation of Pilot (spec 07 R247–R250, R256–R259): the token buckets, the timing wheel, the
search over the dedicated TX cell instances of a first hop, and the commit. Requests of the trunk and frames of the control
plane (R238) both pass through it. -/
namespace Sys2Proof.Machine

/-! ## Settings -/

/-- A flow takes its new settings. -/
def State.setFlow (s : State) (f : Flow) : State :=
  { s with pilot := { s.pilot with flows := f :: s.pilot.flows.filter (fun x => x.num != f.num) } }

/-! ## The timing wheel (R250) -/

/-- Slots of 100 µs and of 409.6 ms. -/
def fineSlot : Nat := 100000
def coarseSlot : Nat := 409600000

/-- Put an entry into the wheel in place of the one of its kind and key. -/
def State.wheel (s : State) (kind key : Nat) (due : Count) : State :=
  let w : Wheel := { kind := kind, key := key, due := due }
  let s := s.dropWheel (fun x => x.kind == kind && x.key == key)
  if due < s.now + coarseSlot then { s with pilot := { s.pilot with fine := w :: s.pilot.fine } }
  else { s with pilot := { s.pilot with coarse := w :: s.pilot.coarse } }

/-- The entry of the fine wheel that fires now: at the start of its slot. -/
def State.fires (s : State) (kind key : Nat) : Option Wheel :=
  s.pilot.fine.find? (fun w => w.kind == kind && w.key == key && decide (w.due / fineSlot * fineSlot ≤ s.now))

/-- The entry of a flow or an hour bucket in debt; out of debt it has none. -/
def State.wheelDebt (s : State) (kind key : Nat) (b : Bucket) (t : Count) : State :=
  if b.tokens < 0 ∧ b.num ≠ 0 then s.wheel kind key (t + b.wait 0)
  else s.dropWheel (fun x => x.kind == kind && x.key == key)

/-- The next attempt of a frame that is not past: what its handover entry waits for. -/
def State.nextInst (s : State) (f : Frame) : Option Inst := f.insts.find? (fun i => decide (s.time ≤ i.start))

/-- Handover is due 400 µs before the next transmit instant (R250). -/
def State.wheelHandover (s : State) (f : Frame) (i : Inst) : State := s.wheel 0 f.ref (s.countAt i.start - 400 * usC)

/-! ## The search (R258) -/

/-- An instance of a dedicated TX cell: its number, its entry, its ASN and its transmit instant. -/
structure Slot where
  cell : Nat
  c : Cell
  asn : Nat
  start : Tick
deriving DecidableEq, Repr, Inhabited

/-- What a search looks for. -/
structure Search' where
  hop : Node
  fpw : Nat                  -- frames per wake of the destination node (R249)
  cls : Nat
  air : Nat
  ack : Bool
  k : Nat
  horizon : Tick
deriving DecidableEq, Repr, Inhabited

/-- The first instance of a cell whose transmit instant is at or after `t`. -/
def State.firstSlot (s : State) (e : Nat × Cell) (t : Tick) : Slot :=
  let f := s.sf e.2.sf
  let len := max 1 f.length
  let a := s.asnAt f.pan t
  let a := a + (e.2.slot + len - a % len) % len
  let st := s.cellStart f.pan a + f.txOffset * usT
  if st < t then { cell := e.1, c := e.2, asn := a + len, start := st + len * s.slotLen f.pan }
  else { cell := e.1, c := e.2, asn := a, start := st }

/-- The next instance of the same cell. -/
def State.nextSlot (s : State) (x : Slot) : Slot :=
  let f := s.sf x.c.sf
  let len := max 1 f.length
  { x with asn := x.asn + len, start := x.start + len * s.slotLen f.pan }

/-- The instance that comes first. -/
def earliest (l : List Slot) : Option Slot :=
  l.foldl (fun m x =>
    match m with
    | none => some x
    | some y => if x.start < y.start then some x else some y) none

/-- End of the cell of an instance. -/
def State.slotEnd (s : State) (x : Slot) : Tick := s.cellStart (s.sf x.c.sf).pan (x.asn + 1)

/-- Divide carriers among chains, each within R95 and at most `lim` strong. -/
def divide (mode : Nat) : List (Nat × Nat) → List (Nat × List (Nat × Nat)) → Bool
  | [], groups => groups.all (fun g => g.2 == [] || (groupFreq mode g.2).isSome)
  | c :: rest, groups =>
    (List.range groups.length).any (fun i =>
      decide ((nth groups i).2.length < (nth groups i).1) && divide mode rest (upd groups i (fun g => (g.1, c :: g.2))))

/-- The carriers reserved in a band at a transmit instant. -/
def State.carriersAt (s : State) (b : Nat) (t : Tick) : List (Nat × Nat) :=
  s.pilot.frames.flatMap (fun f => (f.insts.filter (fun i => i.start == t && s.getN (Obj.PN_BAND i.pan) == b)).filterMap
    (fun i => s.channel b (s.hop i.pan i.asn i.chanOff)))

/-- carrier_room of R258. -/
def State.carrierRoom (s : State) (b : Nat) (t : Tick) (car : Nat × Nat) : Bool :=
  let lims := (bandChains b).map (fun c => (s.getN (Obj.CC_CARRIER_LIMIT c) - s.getN Obj.PA_ACK_HEADROOM, ([] : List (Nat × Nat))))
  divide s.sx.clkMode (s.carriersAt b t ++ [car]) lims

/-- The wake of an instance: the cycle of its slotframe (R249). -/
def State.wakeOf (s : State) (sf asn : Nat) : Nat × Nat := (sf, asn / max 1 (s.sf sf).length)

/-- Frames that hold a reserved attempt in a wake of a first hop. -/
def State.inWake (s : State) (hop : Nat) (w : Nat × Nat) : Nat :=
  (s.pilot.frames.filter (fun f => f.hop == hop && f.insts.any (fun i => s.wakeOf i.sf i.asn == w))).length

/-- The tests of one instance: the reserved attempt it gives (R180, R189, R249, R258). -/
def State.take (s : State) (q : Search') (x : Slot) : Option Inst :=
  let f := s.sf x.c.sf
  let b := s.getN (Obj.PN_BAND f.pan)
  let reserved := s.pilot.frames.any (fun y => y.insts.any (fun i => i.asn == x.asn && i.cell == x.cell))
  let need := s.needUs f.pan q.air q.ack (s.leeway (some q.hop) x.c.sf x.start)
  if reserved ∨ s.slotEnd x < x.start + need * usT
      ∨ (q.cls ≠ 0 ∧ q.fpw ≤ s.inWake q.hop.idx (s.wakeOf x.c.sf x.asn)) then none
  else
    match s.channel b (s.hop f.pan x.asn x.c.chanOff) with
    | none => none
    | some car =>
      if s.carrierRoom b x.start car = false
          ∨ (s.dutyFail car.1 car.2 (s.countAt x.start) (q.air + 4) q.cls none).isSome then none
      else some { cell := x.cell, asn := x.asn, pan := f.pan, sf := x.c.sf, chanOff := x.c.chanOff, port := x.c.port,
                  start := x.start, cellEnd := s.slotEnd x, freq := car.1 }

/-- Up to 256 instances in order of transmit instant, within the horizon, until `k` are picked. -/
def State.searchLoop (s : State) (q : Search') : Nat → List Slot → List Inst → List Inst
  | 0, _, picks => picks
  | n + 1, heads, picks =>
    match earliest heads with
    | none => picks
    | some x =>
      if q.horizon < s.slotEnd x then picks
      else
        let heads := heads.map (fun y => if y = x then s.nextSlot y else y)
        match s.take q x with
        | none => s.searchLoop q n heads picks
        | some i => if picks.length + 1 = q.k then picks ++ [i] else s.searchLoop q n heads (picks ++ [i])

/-- The search from a COUNT on: the picks, when all `k` were found. -/
def State.search (s : State) (q : Search') (e : Count) : Option (List Inst) :=
  let t := (s.timeAt e).toNat
  let l := s.searchLoop q 256 ((s.indexed q.hop.idx).map (fun c => s.firstSlot c t)) []
  if l.length < q.k then none else some l

/-- The promise time of a set of picks: the end of the last one's cell. -/
def promiseOf (l : List Inst) : Tick := (l.getLast?.map (·.cellEnd)).getD 0

/-! ## The decision (R256, R258) -/

/-- What the computation answers: a detail with the earliest promise found, or a frame to take. -/
inductive Verdict where
  | refuse (detail : Nat) (promise : Option Tick)
  | grant (f : Frame)
deriving DecidableEq, Repr

/-- Octets of a source routing header: its fixed part and 8 octets per compressed address (R226). -/
def srhOctets (hops : List Nat) : Nat := if hops = [] then 0 else 8 + 8 * hops.length

/-- R258 for a request that reached the device at COUNT `t`; flow 0 is admitted only for the control plane (R238). -/
def State.compute (s : State) (b : AdmitBody) (t : Count) (own : Bool) : State × Verdict :=
  let s := s.reread
  match s.nodeByEui b.node with
  | none => (s, .refuse 1 none)
  | some n =>
    if s.getB (Obj.PN_ENABLE n.pan) = false then (s, .refuse 1 none)
    else if n.state = .joining ∨ n.state = .drifted ∨ n.state = .lost then (s, .refuse 2 none)
    else if n.closed then (s, .refuse 3 none)
    else
      let r := s.route n
      let s := r.1
      match r.2 with
      | .error _ => (s, .refuse 4 none)
      | .ok (hopIx, srh) =>
        let hop := (s.node? hopIx).getD n
        let mode := s.getN (Obj.PN_TX_MODE hop.pan)
        let psdu := b.compressed + srhOctets srh
        let air := s.airUs hop.pan (s.getN (Obj.PN_TX_MCS hop.pan)) psdu
        let fits := fun (e : Nat × Cell) =>
          let f := s.sf e.2.sf
          decide (f.txOffset + s.needUs f.pan air b.ackReq (s.leeway (some hop) e.2.sf s.time)
            ≤ s.getN (Obj.PN_SLOT_DURATION f.pan))
        let f := s.flow b.flow
        if psduMax mode < psdu ∨ (s.indexed hopIx).all (fun e => !fits e) then (s, .refuse 13 none)
        else if f.enabled = false ∨ f.down = false ∨ f.rate = 0 ∨ (b.flow = 0 ∧ own = false) then (s, .refuse 9 none)
        else if s.getN Obj.PA_NODE_QUEUE_MAX ≤ s.qDepth hopIx
            ∨ f.pendMax ≤ (s.pilot.frames.filter (fun x => x.flow == b.flow)).length then (s, .refuse 7 none)
        else if s.getN Obj.PA_DOWN_DESC_LIMIT ≤ s.pilot.frames.length
            ∨ s.getN Obj.PA_DOWN_CELL_LIMIT < (s.pilot.frames.map (·.cells)).sum + cellsOf psdu then (s, .refuse 8 none)
        else
          let k := if b.ackReq then min (if b.attempts = 0 then f.attempts else b.attempts)
            (1 + s.getN (Obj.PN_MAX_RETRIES hop.pan)) else 1
          let fb := f.bucket t
          let hb := s.hourBucket n t
          let late := fb.spent || (f.cls != 0 && hb.spent)
          let ne := fun (x : Bucket) => t + x.wait (if x.spent then x.need else 0)
          let e := max (max (t + msC) (ne fb)) (if f.cls = 0 then 0 else ne hb)
          let q : Search' := { hop := hop, fpw := s.fpw n, cls := f.cls, air := air, ack := b.ackReq, k := k,
                               horizon := (s.timeAt t).toNat + s.getN Obj.PA_HORIZON * secT }
          match s.search q e with
          | none => (s, .refuse (if late then 10 else 6) none)
          | some picks =>
            let p := promiseOf picks
            if late then (s, .refuse 10 (some p))
            else if b.needBy.elim false (fun x => decide (x < p)) then (s, .refuse 5 (some p))
            else (s, .grant { ref := 0, reqId := b.reqId, ctx := 0, src := 0, node := n.idx, hop := hopIx, flow := b.flow,
                              cls := f.cls, cells := cellsOf psdu, air := air, octets := psdu, ackReq := b.ackReq, insts := picks,
                              taken := picks.length, made := 0, reason := 0, promise := p, admitted := t })

/-! ## The commit (R259) -/

/-- A frame takes its place in the ledger: its instances, its duty-cycle reservations, its wheel entries and the node's
counts. -/
def State.place (s : State) (f : Frame) : State :=
  let s := s.setFrames (s.pilot.frames ++ [f])
  let s := f.insts.foldl (fun s i =>
    match s.channel (s.getN (Obj.PN_BAND i.pan)) (s.hop i.pan i.asn i.chanOff) with
    | none => s
    | some c => s.dutyReserve c.1 c.2 (s.countAt i.start) (f.air + 4) f.ref (instKey i.cell i.asn) i.pan) s
  let s := match s.nextInst f with
    | none => s
    | some i => s.wheelHandover f i
  let s := s.wheel 1 f.ref (s.countAt f.promise)
  s.updNode f.node (fun n => { n with downFrames := (n.downFrames + 1) % 2 ^ 32, lastRef := f.ref })

/-- The tokens of an admission at COUNT `t`: one of the flow's bucket, one of the node's hour bucket, which an ALARM frame
takes no further than −FPW. -/
def State.takeTokens (s : State) (f : Frame) (t : Count) : State :=
  let fl := s.flow f.flow
  let b := fl.bucket t
  let b : Bucket := { b with tokens := b.tokens - 65536 }
  let s := (s.setFlow { fl with tokens := b.tokens, stamp := t, next := t + b.wait 0 }).wheelDebt 2 f.flow b t
  match s.node? f.node with
  | none => s
  | some n =>
    let h := s.hourBucket n t
    let h : Bucket := { h with tokens := if f.cls = 0 then max (h.tokens - 65536) (-((h.cap * 65536 : Nat) : Int)) else h.tokens - 65536 }
    (s.updNode f.node (fun n => { n with tokens := h.tokens, stamp := t })).wheelDebt 3 f.node h t

/-- Commit: the frame gets the next admission reference. -/
def State.takeOn (s : State) (f : Frame) (ctx src : Nat) (t : Count) : State × Frame :=
  let q := s.takeCounter Obj.NEXT_ADMISSION_REF seqStep
  let f := { f with ref := q.1, ctx := ctx, src := src, admitted := s.now }
  (((q.2.takeTokens f t).place f).stream (.admission f), f)

/-! ## Frames of the control plane (R181, R238) -/

/-- A unicast of the control plane to a node with dedicated TX cells is admitted on flow 0; any other frame of it is offered
in SHARED cells. Kinds 3 join response, 4 DAO-ACK, 5 DIO; `psdu` is its length without a source routing header. A frame
refused admission is not sent (log 20). -/
def State.controlFrame (s : State) (kind pan node psdu : Nat) (ack : Bool) : State :=
  let s := s.emit (.control kind node)
  let shared (s : State) (hop : Nat) : State := { s with helm := { s.helm with macSeq := (s.helm.macSeq + 1) % 256 } }.addDue
    { mseq := s.helm.macSeq, kind := 0, ref := 0, node := hop, pan := pan, cls := 1, promise := 0,
      air := s.airUs pan (s.getN (Obj.PN_TX_MCS pan)) psdu, ackReq := ack, req := 0, sf := 0, cell := noCell, asn := 0,
      chanOff := 0, port := 2, start := 0, shared := true, tries := 0 }
  match s.node? node with
  | none => shared s 0x3FFFF
  | some n =>
    match s.walk 25 [node] n with
    | .error _ => shared s node
    | .ok hops =>
      let hop := hops.getLast?.getD node
      if s.indexed hop = [] then shared s hop
      else
        let b : AdmitBody := { reqId := 0, node := n.eui, flow := 0, ackReq := ack, attempts := 0, needBy := none, dgramLen := 40,
                               dstOk := true, compressed := psdu }
        let r := s.compute b s.now true
        match r.2 with
        | .refuse _ _ => r.1
        | .grant f => (r.1.takeOn f 0 0 s.now).1

end Sys2Proof.Machine
end

