-- ==== Sys2Proof/Machine/Almanac.lean ====
section
/-! DEFINITION. The commands of chapter 06, Almanac: insertion, removal and rehash of the node table, ageing, joins, the
neighbour tables, RPL, reassembly, checkpoints and restore. -/
namespace Sys2Proof.Machine

/-! ## Insertion and removal (R196–R203, R206, R234, R235) -/

/-- NODE_FIND_EUI: the session's NODE_SELECT names the node; RANGE where none is named. -/
def execNodeFindEui (r : Req) (w : Wire) (s : State) : Res :=
  .next (s.write r 0x5030 1 w
    (fun s _ v => if (s.nodeByEui (num v.toOctets)).isNone then some .range else none)
    (fun s sess v =>
      let i := (s.nodeByEui (num v.toOctets)).elim 0x3FFFF (·.idx)
      s.reread.updSession sess (fun x => { x with findEui := v.toOctets, nodeSelect := i })))

/-- Random octets from the entropy source (R199, R367). -/
def State.random (s : State) (n : Nat) : Octets × State := (fit n (Config.entropy s.free), { s with free := s.free + 1 })

/-- NODE_REHASH begins its BUILD: the first of up to eight seed pairs is drawn, or with the entropy
source's output withheld it ends with INTERNAL (R204, R207, R367). -/
def State.rehashBegin (s : State) (byProc : Bool) : State :=
  if 3 ≤ s.bn.badBlocks then s.procDone Obj.NODE_REHASH .internal else
  let d := s.random 16
  let r : Rehash := { phase := 1, oldSeeds := s.tableSeeds, newSeeds := (fld d.1 0 8, fld d.1 8 8), layout := [], pointer := 0, delta := 0, tried := 1,
                      restarts := 0, byProc := byProc, aborted := false, held := 0 }
  ({ d.2 with alm := { d.2.alm with rehash := r } }.setN Obj.REHASH_PHASE 1).setN Obj.MIGRATE_POINTER 0

/-- NODE_REHASH starts as if written with argument 0 (R203). -/
def State.rehashAuto (s : State) : State :=
  ((s.journal 2 0xFF Obj.NODE_REHASH 3 .ok [] (cborHead 0 0)).procBegin Obj.NODE_REHASH s.time).rehashBegin true

/-- A failed insertion of an EUI-64 (R203). -/
def State.seatRefused (s : State) (eui : Nat) : State :=
  let s := (s.bump Obj.TABLE_INSERT_FAILS).raiseOn 0x6004 2 0x5010
    (be 8 eui ++ be 4 s.alm.nodes.length ++ be 1 s.alm.table.stash.length ++ be 1 s.alm.rehash.phase)
  if s.alm.rehash.phase ≠ 0 then s
  else
    let auto := s.getB Obj.REHASH_AUTO
    let s := s.raiseOn 0x6005 1 0x5010 (be 4 s.alm.nodes.length ++ be 1 (b2n auto))
    if auto then s.rehashAuto else s

/-- A failed insertion of a request (R202, R203, R206). -/
def State.insertFailed (s : State) (q : Insertion) : State :=
  let s := s.seatRefused q.eui
  if q.cause = 1 then s.procDone Obj.NODE_ADD .insertFail else s

/-- A node that the active has streamed takes its place, or its insertion fails and it is not listed (R196, R203). -/
def State.enterStreamed (s : State) (n : Node) : State :=
  let r := s.insertNode n
  if r.2 then r.1.nodeChanged n.idx else r.1.seatRefused n.eui

/-- A second insertion of a key: the entry is updated in place (R202). While the node is JOINING it takes the PAN and the last frame of
the later request (DESIGN CHOICE, log 38). -/
def State.insertAgain (s : State) (n : Node) (q : Insertion) : State :=
  if n.state = .joining then
    (s.updNode n.idx (fun n => { n with pan := q.pan, lastSeq := q.ident.orElse (fun _ => n.lastSeq),
                                        lastDigest := if q.ident.isSome then q.digest else n.lastDigest })).nodeChanged n.idx
  else s

/-- TABLE_INSERT: the insertion engine takes the head of its queue; HOLD and MIGRATE hold it (R206), and in a shadow it makes no entry
(R196). A key that is present becomes an update (R202); NODE_ADD finds it a conflict (R235). -/
def execTableInsert (s : State) : Res :=
  match s.alm.queue with
  | [] => .next s
  | q :: rest =>
    if 2 ≤ s.alm.rehash.phase ∨ s.alm.loaded = false ∨ s.isOn 4 = false ∨ s.shadowed then .next s
    else
      let s := { s with alm := { s.alm with queue := rest } }
      match s.nodeByEui q.eui with
      | some n => .next (if q.cause = 1 then s.procDone Obj.NODE_ADD .stateConflict else s.insertAgain n q)
      | none =>
        match s.newIndex with
        | none => .next (s.insertFailed q)
        | some i =>
          let r := s.insertNode (s.newNode i q)
          let s := r.1
          if r.2 = false then .next (s.insertFailed q)
          else
            let s := (s.nodeChanged i).raiseOn 0x6001 0 0x5010 (be 4 i ++ be 8 q.eui ++ be 1 q.pan ++ be 1 q.cause)
            .next (if q.cause = 1 then
                (s.procDone Obj.NODE_ADD .ok).updSession q.sess (fun x => { x with nodeSelect := i })
              else s)

/-- NODE_ADD (R235): arguments outside their layout are refused with RANGE. -/
def execNodeAdd (r : Req) (w : Wire) (s : State) : Res :=
  .next (s.start r Obj.NODE_ADD w
    (fun _ _ v =>
      if fld v.toOctets 8 1 < 4 then none else some .range)
    (fun s _ => s.time)
    (fun s sess v =>
      let o := v.toOctets
      let q : Insertion := { eui := fld o 0 8, pan := fld o 8 1, pinned := bit (fld o 9 1) 0, cause := 1, sess := sess,
                             ident := none, digest := [] }
      let found := (s.nodeByEui q.eui).isSome
      let s := s.reread
      if found then s.procDone Obj.NODE_ADD .stateConflict
      else if insertQueue ≤ s.alm.queue.length then s.insertFailed q
      else s.queueInsertion q))

/-- NODE_REMOVE (R235): the node is closed to new admission at once. -/
def execNodeRemove (r : Req) (w : Wire) (s : State) : Res :=
  .next (s.start r Obj.NODE_REMOVE w
    (fun s _ v => if (s.node? v.toInt.toNat).isNone then some .range else none)
    (fun s _ => s.time)
    (fun s _ v =>
      let i := v.toInt.toNat
      let s := s.updNode i (fun n => { n with closed := true })
      { s with alm := { s.alm with removing := s.alm.removing ++ [i] } }))

/-- A bound JOIN_PSK generation that is no longer in force goes with its node (R384 step 6). -/
def State.eraseBound (s : State) (n : Node) : State :=
  match s.inForce kJoin n.keyId with
  | none => s
  | some r =>
    let old := fun (x : KeyRec) => x.kind == kJoin && x.keyId == n.keyId && x.gen != r.gen
    s.updBn (fun b => { b with records := b.records.filter (fun x => !old x),
                               erased := b.erased + (b.records.filter old).length })

/-- Admitted frames that hold a node back: as destination or as first hop (R211). -/
def State.nodeBusy (s : State) (i : Nat) : Bool := s.pilot.frames.any (fun f => f.node == i || f.hop == i)

/-- An entry is removed with NODE_REMOVED. -/
def State.removeWith (s : State) (n : Node) (cause : Nat) : State :=
  ((s.eraseBound n).removeNode n.idx).raiseOn 0x6002 0 0x5010
    (be 4 n.idx ++ be 8 n.eui ++ be 1 cause ++ be 1 (nodeCode n.state))

/-- NODE_REMOVE_FINISH: after the node's last terminal report; a shadow removes no entry (R196). An entry that another cause has removed
meanwhile ends the procedure too. -/
def execNodeRemoveFinish (i : Nat) (s : State) : Res :=
  match s.node? i with
  | none => .next (s.removalDone i)
  | some n =>
    if s.alm.removing.contains i ∧ s.nodeBusy i = false ∧ s.shadowed = false then .next ((s.removeWith n 1).removalDone i)
    else .next s

/-! ## Rehash (R204–R207) -/

/-- NODE_REHASH: the argument must be 0; a rehash that runs is a conflict. -/
def execNodeRehash (r : Req) (w : Wire) (s : State) : Res :=
  .next (s.start r Obj.NODE_REHASH w
    (fun s _ v => if v.toInt ≠ 0 then some .range else if s.alm.rehash.phase ≠ 0 then some .stateConflict else none)
    (fun s _ => s.time)
    (fun s _ _ => s.rehashBegin true))

/-- Nodes of the active that a rehash has held are inserted in their order (R204). -/
def State.releaseHeld (s : State) : State :=
  s.alm.heldNodes.foldl (fun s n => s.enterStreamed n) { s with alm := { s.alm with heldNodes := [] } }

/-- A rehash ends (R204, R207): REHASH_FINISHED and the procedure's result; held insertions resume. -/
def State.rehashEnd (s : State) (rc : Rc) (held : Nat) : State :=
  let r := s.alm.rehash
  let h := s.procHandle Obj.NODE_REHASH
  let s := { s with alm := { s.alm with rehash := { r with phase := 0, layout := [], pointer := 0, delta := 0 } } }
  let s := s.setN Obj.REHASH_PHASE 0
  let s := s.raiseOn 0x6006 (if rc = .ok then 0 else 2) 0x5102
    (be 2 rc.code ++ be 1 r.tried ++ be 1 r.restarts ++ be 4 held ++ be 4 h)
  (if r.byProc then s.procDone Obj.NODE_REHASH rc else s).releaseHeld

/-- The layout of every entry under new seeds, with an empty stash; none where an entry finds no bucket. -/
def layoutOf (seeds : Nat × Nat) (keys : List Nat) : Option (List ((Nat × Nat) × Nat)) :=
  let c : Cuckoo := { slots := [], stash := [], rotor := 0, moves := 0 }
  let r := keys.foldl (fun (a : Cuckoo × Bool) k => if a.2 then a.1.place (buckets 16 seeds) k else a) (c, true)
  if r.2 then some r.1.slots else none

/-- REHASH_BUILD_DONE: one build is complete. A ring that filled makes it start over, a seed pair that leaves an entry out
gives way to the next of eight, an uncorrectable error in the build area raises DRAM_FAULT and ends it (R207): this command stands for
that error too, whose channel and address are free values. -/
def execRehashBuildDone (eccError : Bool) (s : State) : Res :=
  let r := s.alm.rehash
  if r.phase ≠ 1 then .next s
  else if eccError then
    let a := s.fresh
    let b := a.2.fresh
    .next ((b.2.dramFault (a.1 % 256) (b.1 % 2 ^ 64) false).rehashEnd .internal 0)
  else if 16384 ≤ r.delta then
    let s := { s with alm := { s.alm with rehash := { r with delta := 0, restarts := r.restarts + 1 } } }
    .next (if 3 ≤ r.restarts + 1 then s.rehashEnd .refusedCapacity 0 else s)
  else
    match layoutOf r.newSeeds (s.alm.nodes.map (·.eui)) with
    | some l =>
      .next ({ s with alm := { s.alm with rehash := { r with phase := 2, layout := l, held := s.now } } }.setN
        Obj.REHASH_PHASE 2)
    | none =>
      if 8 ≤ r.tried then .next (s.rehashEnd .insertFail 0)
      else if 3 ≤ s.bn.badBlocks then .next (s.rehashEnd .internal 0)
      else
        let d := s.random 16
        let r := { r with newSeeds := (fld d.1 0 8, fld d.1 8 8), tried := r.tried + 1 }
        .next { d.2 with alm := { d.2.alm with rehash := r } }

/-- MIGRATE_START: the new seeds are written to TABLE_SEEDS and P is 0. -/
def execMigrateStart (s : State) : Res :=
  let r := s.alm.rehash
  if r.phase ≠ 2 then .next s
  else
    let old := s.tableSeeds
    let s := s.setP Obj.TABLE_SEEDS (.octets (be 8 r.newSeeds.1 ++ be 8 r.newSeeds.2))
    let s := { s with alm := { s.alm with rehash := { r with phase := 3, oldSeeds := old, pointer := 0 } } }
    .next ((s.setN Obj.REHASH_PHASE 3).setN Obj.MIGRATE_POINTER 0)

/-- MIGRATE_BUCKET: bucket P of the layout is copied into bucket P of the table, and P advances. -/
def execMigrateBucket (s : State) : Res :=
  let r := s.alm.rehash
  if r.phase ≠ 3 ∨ 65536 ≤ r.pointer then .next s
  else
    let slots := s.alm.table.slots.filter (fun e => e.1.1 != r.pointer) ++ r.layout.filter (fun e => e.1.1 == r.pointer)
    let s := { s with alm := { s.alm with table := { s.alm.table with slots := slots },
                                           rehash := { r with pointer := r.pointer + 1 } } }
    .next (s.setN Obj.MIGRATE_POINTER (r.pointer + 1))

/-- MIGRATE_END: the stash is cleared and insertions resume. -/
def execMigrateEnd (s : State) : Res :=
  let r := s.alm.rehash
  if r.phase ≠ 3 ∨ r.pointer < 65536 then .next s
  else
    let s := { s with alm := { s.alm with table := { s.alm.table with stash := [] } } }
    .next (s.mirrorNodes.rehashEnd .ok ((s.now - r.held) / usC))

/-! ## Ageing (R208–R211) -/

/-- One node in a sweep: STALE at NODE_STALE, evicted or deferred at NODE_EVICT. The sums of the pass follow. -/
def State.sweepNode (s : State) (n : Node) : State :=
  let age := s.ageOf n.lastHeard
  let ev := s.getN Obj.NODE_EVICT
  let (st, out, late, low) := s.alm.sweep
  if n.pinned = false ∧ n.state ≠ .joining ∧ ev ≠ 0 ∧ ev ≤ age then
    if s.nodeBusy n.idx then { s with alm := { s.alm with sweep := (st, out, late + 1, low) } }
    else
      let s := (((s.eraseBound n).removeNode n.idx).removalDone n.idx).bump Obj.NODE_EVICTIONS
      { s with alm := { s.alm with sweep := (st, out + 1, late, min low n.idx) } }
  else if n.state = .active ∧ s.getN Obj.NODE_STALE ≤ age then
    let s := s.setNodeState n.idx .stale
    { s with alm := { s.alm with sweep := (st + 1, out, late, low) } }
  else s

/-- SWEEPER_PASS: one pass over the node table. The shadow takes its node changes from the active (R196). -/
def execSweeperPass (s : State) : Res :=
  if s.shadowed ∨ s.alm.loaded = false ∨ s.isOn 4 = false then .next s
  else
    let s := { s with alm := { s.alm with sweep := (0, 0, 0, 0xFFFFFFFF) } }
    let s := s.alm.nodes.foldl (fun s n => s.sweepNode n) s
    let (st, out, late, low) := s.alm.sweep
    .next (if st = 0 ∧ out = 0 then s
      else s.raiseOn 0x6003 0 0x5010 (be 4 st ++ be 4 out ++ be 4 late ++ be 4 low))

/-- JOIN_TIMEOUT (R209). -/
def execJoinTimeout (i : Nat) (s : State) : Res :=
  match s.node? i with
  | none => .next s
  | some n =>
    if n.state = .joining ∧ n.auto ∧ n.created + s.getN Obj.JOIN_TIMEOUT * secC ≤ s.now ∧ s.shadowed = false then
      .next ((s.removeWith n 2).removalDone n.idx)
    else .next s

/-! ## Joining and short addresses (R209, R212–R215) -/

/-- The DODAG ID of a PAN: RPp_PREFIX and the EUI-64, or in a pair the interface identifier of address 0x0000 (R223, R307). -/
def State.deviceAddr (s : State) (p : Nat) : Octets :=
  if s.paired then fit 8 (s.getO (Obj.RP_PREFIX p)) ++ be 4 0xFF ++ be 4 0xFE000000
  else addrOf (s.getO (Obj.RP_PREFIX p)) (num (s.getO Obj.DEVICE_EUI64))

/-- The join response of a node (R213, R215, R380): its link key, the group keys of its PAN, its short address, the address of the JRC, the timeout of a
join request. -/
def State.joinMsg (s : State) (n : Node) : ControlMsg :=
  let keys := (s.bn.records.filter (fun r => r.kind == kGroup && r.keyId / 256 % 4 == n.pan)).map (fun r => (r.keyId % 256, r.gen))
  let link := (s.boundPsk n).elim [] (fun r => linkKey r n.eui n.keyGen)
  .joinResponse n.idx n.short keys link (s.deviceAddr n.pan) (s.getN Obj.JOIN_TIMEOUT)

/-- The join response is kept and sent, `psdu` octets long: a repeat of the request is answered with the same one (R213). -/
def State.joinAnswer (s : State) (i psdu : Nat) : State :=
  match s.node? i with
  | none => s
  | some n =>
    let m := s.joinMsg n
    ((s.updNode i (fun n => { n with response := some (m, psdu) })).emit (.message m)).controlFrame 3 n.pan i psdu true

/-- The DAO-ACK of a node, which brings a short address given since (R215). -/
def State.daoAck (s : State) (i seq : Nat) : State :=
  s.emit (.message (.daoAck i seq ((s.node? i).bind (·.short))))

/-- A DIO with its DODAG Configuration and Prefix Information (R223): MOP 1 throughout, redundancy constant 10. -/
def State.dio (s : State) (p : Nat) : State :=
  s.emit (.message (.dio p (s.getN (Obj.RP_INSTANCE p)) (s.getN (Obj.RP_VERSION p)) (s.getN (Obj.RP_OCP p)) (s.deviceAddr p)
    (s.getO (Obj.RP_PREFIX p)) (s.getN (Obj.RP_DIO_IMIN p)) (s.getN (Obj.RP_DIO_DOUBLINGS p)) 10
    (s.getN (Obj.RP_LIFETIME_UNIT p)) (s.getN (Obj.RP_DEFAULT_LIFETIME p))))

/-- A join that verified (R214). -/
def State.joined (s : State) (n : Node) (r : KeyRec) (relayed : Bool) (psdu : Nat) : State :=
  let t := s.time
  let s := s.updNode n.idx (fun n =>
    { n with state := .active, keyId := n.eui, keyGen := r.gen, joined := t,
             neighbour := !relayed || n.neighbour, depth := if relayed then n.depth else 1 })
  let s := if relayed then s else s.giveShort n.idx
  (((s.node? n.idx).elim s s.eraseBound).nodeChanged n.idx).joinAnswer n.idx psdu

/-- JOIN_VERIFY: `ok` is the outcome of the OSCORE check, a use of the key, `psdu` the length of the response, whose protection is
another: one that is refused ends the step with no answer (R377). A relayed request of an
EUI-64 not in the table first makes its entry (R209). A repeat that verifies is given the response of the first (R213). -/
def execJoinVerify (eui pan : Nat) (relayed ok : Bool) (psdu : Nat) (s : State) : Res :=
  if s.shadowed ∨ s.getB Obj.LODESTAR_ACTIVE ∨ s.isOn 4 = false then .next s
  else
    match s.nodeByEui eui with
    | none =>
      let s := s.reread
      if relayed ∧ bit (s.getN Obj.JOIN_ENABLE) pan ∧ pan < 4 ∧ s.joiningCount < s.getN Obj.JOIN_LIMIT
          ∧ s.alm.queue.length < insertQueue ∧ s.alm.queue.all (fun q => q.eui != eui) then
        .next (s.queueInsertion { eui := eui, pan := pan, pinned := false, cause := 2, sess := 0, ident := none, digest := [] })
      else .next s
    | some n =>
      match s.reread.inForce kJoin eui with
      | none => .next ((s.reread.keyMissing kJoin eui 0).bump Obj.CCM_FAIL)
      | some r =>
        let u := s.reread.useFor r false
        .next (if u.2 = false ∨ ok = false then u.1.bump Obj.CCM_FAIL
          else if n.state = .joining then
            let v := u.1.useFor r true
            if v.2 then v.1.joined n r relayed psdu else v.1
          else match n.response with
            | none => u.1
            | some (m, len) => (u.1.emit (.message m)).controlFrame 3 n.pan n.idx len true)

/-- SHORT_ADDR_RELEASE (R215). -/
def execShortAddrRelease (i : Nat) (s : State) : Res :=
  match s.node? i with
  | none => .next s
  | some n =>
    match n.short, n.shortClear with
    | some a, some t =>
      if n.neighbour = false ∧ t + s.getN Obj.SHORT_HOLD * secC ≤ s.now then
        let s := s.updNode i (fun n => { n with short := none, shortClear := none })
        .next ({ s with alm := { s.alm with shorts := (a, s.now) :: s.alm.shorts } }.nodeChanged i)
      else .next s
    | _, _ => .next s

/-! ## Neighbour tables (R216–R222) -/

def nbHashes (p : Pipeline) : Nat → Nat × Nat := buckets 12 p.seeds

/-- The entry with the oldest STAMP among the ways of a key's two buckets (R219). -/
def oldestNb (p : Pipeline) (age : Nat → Nat) (eui : Nat) : Option ((Nat × Nat) × NbEntry) :=
  let h := nbHashes p eui
  let ways := (p.nbTable.slots.filter (fun e => e.1.1 == h.1 || e.1.1 == h.2)).filterMap (fun e =>
    (p.nb.find? (fun x => x.eui == e.2)).map (fun x => (e.1, x)))
  ways.foldl (fun m w =>
    match m with
    | none => some w
    | some b => if age b.2.stamp < age w.2.stamp then some w else some b) none

/-- LEARN_APPLY: the request at the head of the learn queue; it takes the index that its EUI-64 has by now (log 38). -/
def execLearnApply (b : Nat) (s : State) : Res :=
  let p := s.pipe b
  match p.learn with
  | [] => .next s
  | x :: rest =>
    if 2 ≤ b ∨ s.isOn 4 = false then .next s
    else
      let e := { x with idx := (s.nodeByEui x.eui).elim x.idx (·.idx) }
      let s := s.reread.updPipe b (fun p => { p with learn := rest })
      if p.nb.any (fun x => x.eui == e.eui) then
        .next (s.updPipe b (fun p => { p with nb := p.nb.map (fun x => if x.eui = e.eui then { x with second := e.second, lqi := e.lqi, stamp := e.stamp } else x) }))
      else
        let r := p.nbTable.place (nbHashes p) e.eui
        if r.2 then .next (s.updPipe b (fun p => { p with nb := p.nb ++ [e], nbTable := r.1 }))
        else
          match oldestNb p s.ageOf e.eui with
          | none => .next s
          | some (w, x) =>
            let t := { r.1 with slots := (w, e.eui) :: r.1.slots.filter (fun y => y.1 != w) }
            .next ((s.updPipe b (fun p => { p with nb := p.nb.filter (fun y => y.eui != x.eui) ++ [e], nbTable := t })).bump
              (Obj.QQ_LEARN_EVICTIONS b))

/-- NEIGHBOUR_SWEEP (R220). -/
def execNeighbourSweep (b : Nat) (s : State) : Res :=
  if 2 ≤ b ∨ s.isOn 4 = false then .next s
  else
    let old := (s.pipe b).nb.filter (fun e => decide (s.getN Obj.LEARN_AGE < s.ageOf e.stamp))
    let s := s.updPipe b (fun p =>
      { p with nb := p.nb.filter (fun e => !old.contains e), nbTable := old.foldl (fun t e => t.drop e.eui) p.nbTable })
    .next (s.bumpBy (Obj.QQ_NB_AGED b) old.length)

/-! ## RPL (R223, R224) -/

/-- The lollipop order of RFC 6550 with a window of 16 (log 19): some true for newer, some false for older or equal, none
where the two are not comparable. -/
def lollipop (old new : Nat) : Option Bool :=
  if 128 ≤ old ∧ new < 128 then some (decide (256 + new - old ≤ 16))
  else if old < 128 ∧ 128 ≤ new then some (decide (16 < 256 + old - new))
  else if old < 128 then
    let d := ((new : Int) - old).emod 128
    if d = 0 then some false else if d ≤ 16 then some true else if 112 ≤ d then some false else none
  else
    if (max old new) - (min old new) ≤ 16 then some (decide (old < new)) else none

/-- The parents of a DAO as indices, those that name no node left out (R224). -/
def State.daoParents (s : State) (d : Dao) : List Nat :=
  (d.parents.filterMap (fun p => match p with
    | none => some 0x3FFFF
    | some e => (s.nodeByEui e).map (·.idx))).take 3

/-- The look-ups of its parents (R201). -/
def State.daoLookups (s : State) (d : Dao) : State := (d.parents.filter (·.isSome)).foldl (fun s _ => s.reread) s

/-- A DAO that is applied. DEPTH is 1 for a neighbour; of a new parent set it is known when the route is walked (R198, R224). -/
def State.applyDao (s : State) (n : Node) (d : Dao) : State :=
  let ps := if d.lifetime = 0 then [] else s.daoParents d
  let direct := ps.head? == some 0x3FFFF
  let exp := if d.lifetime = 0xFF then none
    else some ((s.almSec + d.lifetime * s.getN (Obj.RP_LIFETIME_UNIT n.pan)) % 2 ^ 32)
  let clear := if direct then none else if n.neighbour then some s.now else n.shortClear
  let st := if direct = false ∧ n.state = .drifted then .active else n.state
  let s := s.updNode n.idx (fun n =>
    { n with parents := ps, parent := ps.headD 0x3FFFF, routeExpiry := exp, daoSeq := some d.seq, neighbour := direct,
             depth := if direct then 1 else if ps = [] ∨ ps ≠ n.parents then 0 else n.depth, shortClear := clear, state := st })
  let s := if direct ∧ n.neighbour = false then s.giveShort n.idx else s
  s.nodeChanged n.idx

/-- DAO_RECEIVED: `psdu` is the length of the DAO-ACK, sent when the K flag is set. -/
def execDaoReceived (d : Dao) (psdu : Nat) (s : State) : Res :=
  match s.node? d.node with
  | none => .next s
  | some n =>
    if s.shadowed ∨ s.getB Obj.LODESTAR_ACTIVE ∨ s.isOn 4 = false ∨ n.state = .joining ∨ n.state = .lost then .next s
    else
      let s := match n.daoSeq with
        | none => (s.daoLookups d).applyDao n d
        | some l => if lollipop l d.seq = some false then s else (s.daoLookups d).applyDao n d
      .next (if d.kflag then
          match s.node? d.node with
          | none => s
          | some n => (s.daoAck n.idx d.seq).controlFrame 4 n.pan n.idx psdu true
        else s)

/-- DIS_RECEIVED: the Trickle timer returns to its shortest interval, which begins anew; one that runs its shortest goes on (RFC 6206;
log 19). -/
def execDisReceived (p : Nat) (s : State) : Res :=
  let imin := s.getN (Obj.RP_DIO_IMIN p)
  let l := upd s.alm.rpl p (fun x =>
    if x.started ∧ x.interval ≠ imin then { x with interval := imin, counter := 0, since := s.now, fired := false } else x)
  .next { s with alm := { s.alm with rpl := l } }

/-- The length of a Trickle interval. -/
def Rpl.length (x : Rpl) : Count := 2 ^ x.interval * msC

/-- The interval of a Trickle timer is over: the next one begins where it ended, twice as long up to the largest. -/
def Rpl.next (x : Rpl) (top : Nat) : Rpl :=
  { x with interval := min top (x.interval + 1), counter := 0, since := x.since + x.length, fired := false }

/-- DIO_TRICKLE_FIRE (R223, RFC 6206; log 19): an interval that is over gives way to the next, twice as long up to the largest. At one
instant in the second half of an interval a DIO is sent, unless ten consistent ones were heard in it. -/
def execDioTrickleFire (p psdu : Nat) (s : State) : Res :=
  let x := nth s.alm.rpl p
  let top := s.getN (Obj.RP_DIO_IMIN p) + s.getN (Obj.RP_DIO_DOUBLINGS p)
  let put := fun (y : Rpl) => ({ s with alm := { s.alm with rpl := upd s.alm.rpl p (fun _ => y) } } : State)
  if 4 ≤ p ∨ x.started = false ∨ s.isOn 4 = false then .next s
  else if x.since + x.length ≤ s.now then .next (put (x.next top))
  else if x.fired ∨ s.now < x.since + x.length / 2 then .next s
  else
    let s := put { x with fired := true }
    .next (if x.counter < 10 ∧ s.silent = false then (s.dio p).controlFrame 5 p 0x3FFFF psdu false else s)

/-! ## Reassembly (R228) -/

/-- REASSEMBLY_TIMEOUT: buffer `i` of pipeline `b`. -/
def execReassemblyTimeout (b i : Nat) (s : State) : Res :=
  match (s.pipe b).reasm[i]? with
  | none => .next s
  | some r =>
    if r.last + s.getN Obj.REASSEMBLY_TIMEOUT * secC ≤ s.now then
      .next ((s.updPipe b (fun p => { p with reasm := p.reasm.eraseIdx i })).bump Obj.REASSEMBLY_DROPS)
    else .next s

/-! ## Checkpoints and restore (R230–R232, R235) -/

/-- A checkpoint of the table starts: it is written over the older copy, which is incomplete from here on (R231, R236). -/
def State.ckptStart (s : State) : State :=
  let c : Checkpoint := { nodes := s.alm.nodes, table := s.alm.table, time := s.time, complete := false }
  { s with alm := { s.alm with ckpt := some c, ckptB := some c, sinceCkpt := 0 } }

/-- CHECKPOINT_PERIOD: CKPT_PERIOD has passed, or the delta ring has reached 12,288 records. -/
def execCheckpointPeriod (s : State) : Res :=
  if s.alm.ckpt.isNone ∧ s.alm.loaded ∧ s.isOn 2 ∧ s.isOn 4
      ∧ (s.getT Obj.CKPT_LAST + s.getN Obj.CKPT_PERIOD * secT ≤ s.time ∨ 12288 ≤ s.alm.ring.length) then .next s.ckptStart
  else .next s

/-- ALMANAC_CHECKPOINT: the argument must be true. -/
def execAlmanacCheckpoint (r : Req) (w : Wire) (s : State) : Res :=
  .next (s.start r Obj.ALMANAC_CHECKPOINT w (fun _ _ v => if v = .bool true then none else some .range) (fun s _ => s.time)
    (fun s _ _ => if s.alm.ckpt.isSome then s else s.ckptStart))

/-- CHECKPOINT_DONE: the copy is complete and becomes the newer one; the ring keeps the changes since it began. -/
def execCheckpointDone (s : State) : Res :=
  match s.alm.ckpt with
  | none => .next s
  | some c =>
    let s := { s with alm := { s.alm with ckpt := none, ckptB := s.alm.ckptA, ckptA := some { c with complete := true },
                                           ring := s.alm.ring.take s.alm.sinceCkpt } }
    .next ((s.setP Obj.CKPT_LAST (t64 c.time)).procDone Obj.ALMANAC_CHECKPOINT .ok)

/-- ALMANAC_RESTORED. -/
def State.restoredEvent (s : State) (source records loadUs : Nat) (outage : Bool) : State :=
  s.raiseOn 0x600A 0 0x5010 (be 1 source ++ be 4 s.alm.nodes.length ++ be 2 records ++ be 4 loadUs ++ be 1 (b2n outage))

/-- A node as the checkpoint and the ring give it: what only the extended record held is lost with DRAM. -/
def fromCheckpoint (n : Node) (timing : Bool) : Node :=
  { n with lastDigest := [], misses := 0, lastOffset := 0, joined := 0, upFrames := 0, downFrames := 0, fpw := 0, fph := 0,
           closed := false, lastRef := 0, note := List.replicate 64 0, resync := none, response := none,
           lastSync := if timing then n.lastSync else none }

/-- Nodes that each checkpoint copy keeps, by FLASH_MAP (R434). -/
def flashNodes (m : Nat) : Nat := [0, 26214, 104857, 262144, 262144].getD m 0

/-- A node of the stored table is loaded; one that finds no place is not listed (R203). -/
def State.load (s : State) (n : Node) : State :=
  let r := s.seat n
  if r.2 then r.1 else r.1.seatRefused n.eui

/-- ALMANAC_RESTORED, the command: the loader has read the newer checkpoint and replayed the ring, in `loadUs` µs.
A node whose index lies beyond the region is unknown and joins again (R435). -/
def execAlmanacRestored (loadUs : Nat) (s : State) : Res :=
  if s.alm.loaded ∨ s.alm.source ≠ 1 ∨ s.isOn 4 = false then .next s
  else
    let lost := s.getB Obj.AON_LOST
    let kept := s.storedNodes.filter (fun n => decide (n.idx < flashNodes (s.getN Obj.FLASH_MAP)))
    let nodes := kept.map (fun n => fromCheckpoint n (!lost || !(n.neighbour && (n.state == .drifted || n.state == .active))))
    let empty : Cuckoo := { slots := [], stash := [], rotor := 0, moves := 0 }
    let records := s.alm.ring.length
    let s := { s with alm := { s.alm with nodes := [], table := empty, loaded := true } }
    let s := nodes.foldl (fun s n => s.load n) s
    let s := if lost then
        s.setP Obj.ALMANAC_SHIFT (.int (((s.time / secT : Nat) : Int) - s.alm.anchorSec))
      else s
    .next ((s.mirrorNodes).restoredEvent 1 records loadUs (s.alm.outage && !lost))

/-- ALMANAC_MIRROR_RELOAD: after a WARM reset the table and the stash come back from the DRAM mirror. -/
def execAlmanacMirrorReload (loadUs : Nat) (s : State) : Res :=
  if s.alm.loaded ∨ s.alm.source ≠ 0 ∨ s.isOn 4 = false then .next s
  else
    let s := { s with alm := { s.alm with nodes := s.alm.mirror, table := s.alm.mirrorTable, loaded := true } }
    .next (s.restoredEvent 0 0 loadUs true)

end Sys2Proof.Machine
end

