-- ==== Sys2Proof/Machine/Pilot.lean ====
section
/-! DEFINITION. The commands of chapter 07, Pilot: the uplink schedulers, admission messages and their engine, handover and
reports, flow settings, sampling and the ledger summary. -/
namespace Sys2Proof.Machine

/-! ## The uplink scheduler (R242, R243, R246) -/

/-- The class a port serves next: the lowest one with a queued frame and its priority not paused. -/
def State.nextClass (s : State) (p : Nat) : Option Nat :=
  [0, 1, 2, 3].find? (fun c => (s.sched p).frames.any (fun f => f.cls == c) && !s.paused p (s.classPcp c))

/-- The flow with the smallest start tag of a class, the lowest flow number among equals. -/
def Sched.nextFlow (x : Sched) (c : Nat) : Option Nat :=
  (((x.frames.filter (fun f => f.cls == c)).map (·.flow)).eraseDups).foldl (fun m f =>
    match m with
    | none => some f
    | some g =>
      let a := (x.tag f c).start
      let b := (x.tag g c).start
      if serialLt a b ∨ (a = b ∧ f < g) then some f else some g) none

/-- The head frame of a flow leaves: V, the flow's tags and, with the class empty, V again (R243). -/
def State.serve (s : State) (p c fl : Nat) : State × Option UpFrame :=
  let x := s.sched p
  let mine := x.frames.filter (fun f => f.cls == c && f.flow == fl)
  match mine with
  | [] => (s, none)
  | f :: rest =>
    let t := x.tag fl c
    let left := x.frames.filter (fun g => g.id != f.id)
    let x : Sched := { x with frames := left, vtime := upd x.vtime c (fun _ => t.start) }
    let x := match rest with
      | [] => x.setTag { t with last := t.finish }
      | g :: _ =>
        let fin := (t.finish + s.cost g.octets fl) % 2 ^ 64
        { x.setTag { t with last := t.finish, start := t.finish, finish := fin } with
          issued := upd x.issued c (fun i => serialMax i fin) }
    let x : Sched := if left.any (fun g => g.cls == c) then x
      else { x with vtime := upd x.vtime c (fun _ => x.issued.getD c 0) }
    (s.updSched p (fun _ => x), some f)

/-- A spooled frame leaves the spool with its last copy (R246). -/
def State.spoolLeave (s : State) (f : UpFrame) : State :=
  if f.late ∧ s.upQueued.all (fun g => g.id != f.id) then
    let q := s.pilot.spool.filter (fun g => g.id != f.id)
    let s := { s with pilot := { s.pilot with spool := q } }
    ((s.setN Obj.SPOOL_FRAMES q.length).setN Obj.SPOOL_OCTETS (spoolUsed q)).spoolEmpty
  else s

/-- Blocks leave a port scrambled (R274). How many idle blocks went before them is open, and with it the state of the scrambler:
a free value. -/
def State.sendBlocks (s : State) (p : Nat) (l : List CodeBlock) : State :=
  let r := s.fresh
  let scr := (List.range 58).map (fun i => bit r.1 i)
  r.2.emit (.blocks p scr (scramble scr l))

/-- The device's own frame of a payload, out of port `p`, in a class (R239, R291, R296). -/
def State.ownFrameOctets (s : State) (p cls n type : Nat) (dst payload : Octets) : Octets :=
  frameOctets dst (s.getO Obj.TRUNK_MAC) (s.getN Obj.TRUNK_VLAN) (s.classPcp cls) (s.redTag p n) type payload

/-- Nanoseconds that a frame with its preamble takes at the payload rate of a tier (R272), and those of the gap of 12 octets after it. -/
def frameNs (tier octets : Nat) : Nat := cdiv ((octets + 8) * 8000) ([1, 100, 1000, 2500].getD tier 1)
def gapNs (tier : Nat) : Nat := cdiv (12 * 8000) ([1, 100, 1000, 2500].getD tier 1)

/-- Port `p` has no frame on the wire, and the gap after the last one is over. -/
def State.wireFree (s : State) (p : Nat) : Bool :=
  (nth s.tk.ports p).wire.elim true (fun w => decide (w.2 + gapNs (s.getN (Obj.TT_TIER_NOW p)) ≤ s.now))

/-- Octets of a frame leave port `p` as blocks of the line code, stamped at the MDI (R299, R478); it is on the wire until its last
octet has passed. A frame outside 64 to 9,216 octets is never sent (R290). -/
def State.putFrame (s : State) (p id : Nat) (bytes : Octets) : Tick × State :=
  let t := s.mdiTx p
  if bytes.length < 64 ∨ 9216 < bytes.length then t
  else
    let s := (t.2.capture 3 (4 + p) none true true t.1 [] bytes).sendBlocks p (frameBlocks bytes)
    let until' := s.now + frameNs (s.getN (Obj.TT_TIER_NOW p)) bytes.length
    (t.1, { s with tk := { s.tk with ports := upd s.tk.ports p (fun x => { x with wire := some (id, until') }) } }.bump
      (Obj.TT_FRAMES_TX p))

/-- A frame of the device that no queue holds goes out of each of `ports`, its copies with one sequence number (R291, R296). -/
def State.sendPlain (s : State) (ports : List Nat) (cls type : Nat) (dst payload : Octets) : State :=
  let n := s.pilot.nextUp
  ports.foldl (fun s p =>
    let s := s.emit (.ether p (s.getN Obj.TRUNK_VLAN) (s.classPcp cls) dst (s.getO Obj.TRUNK_MAC) [] (s.redTag p n))
    (s.putFrame p n (s.ownFrameOctets p cls n type dst payload)).2) { s with pilot := { s.pilot with nextUp := n + 1 } }

/-- Two addresses agree in their first `n` bits. -/
def samePrefix (n : Nat) (a b : Octets) : Bool :=
  a.length == b.length && num a / 2 ^ (8 * a.length - n) == num b / 2 ^ (8 * b.length - n)

/-- The next hop of a datagram (R292): an address of a subnet of the device, a link-local and a group address themselves, any other the
gateway, where one is set. -/
def State.nextHop (s : State) (a : Octets) : Octets :=
  let gate := if a.length = 4 then s.getO Obj.TRUNK_IPV4_GW else s.getO Obj.TRUNK_IPV6_GW
  let near := if a.length = 4 then
      samePrefix (s.getN Obj.TRUNK_IPV4_MASK_LEN) a (s.getO Obj.TRUNK_IPV4) || decide (224 ≤ fld a 0 1)
    else samePrefix (s.getN Obj.TRUNK_IPV6_PREFIX_LEN) a (s.getO Obj.TRUNK_IPV6) || fld a 0 2 / 64 == 0x3FA || fld a 0 1 == 0xFF
  if near ∨ gate.all (· == 0#8) then a else gate

/-- The destination of an IP datagram, and the EtherType that carries it. -/
def ipDst (o : Octets) : Octets := if fld o 0 1 / 16 = 4 then slice o 16 4 else slice o 24 16
def ipType (o : Octets) : Nat := if fld o 0 1 / 16 = 4 then 0x0800 else 0x86DD

/-- The octets of a queued frame as they leave (R291, R296, R323): the datagram with the Consort trailer after it, before the padding, the
PRP trailer and the FCS. A frame that passes keeps its own. -/
def State.wireOctets (s : State) (p : Nat) (f : UpFrame) (w : WireFrame) : Octets :=
  if f.flow = passFlow then w.body else s.ownFrameOctets p f.cls f.id (ipType w.body) w.mac (w.body ++ f.trailer)

/-- What a queued frame carries: its 802.1Q tag with the priority of its class, the addresses, the next hop and the redundancy tag. -/
def State.frameHead (s : State) (p : Nat) (f : UpFrame) (w : WireFrame) : Out :=
  .ether p (s.getN Obj.TRUNK_VLAN) (s.classPcp f.cls) w.mac (s.getO Obj.TRUNK_MAC)
    (if f.flow = passFlow then [] else s.nextHop (ipDst w.body)) (if f.flow = passFlow then .none else s.redTag p f.id)

/-- A frame goes out of port `p`; a PTP event message that passes with its residence between the two starts of frame at the MDI, in
2^-16 ns, as its correction (kind 6; R300). -/
def State.sendFrame (s : State) (p : Nat) (f : UpFrame) (w : WireFrame) : State :=
  let o := s.wireOctets p f w
  let s := s.emit (s.frameHead p f w)
  let r := s.putFrame p f.id o
  let s := f.event.elim r.2 (fun t => r.2.emit (.line 6 p [f.id, r.1 - t]))
  s.emit (.trunkFrame p f f.trailer)

/-- UPLINK_TX_SELECT: port `p` can send: it is UP and no frame of it is on the wire. A datagram of the mesh carries the Consort trailer. -/
def execUplinkTxSelect (p : Nat) (w : WireFrame) (s : State) : Res :=
  if 2 ≤ p ∨ s.getN (Obj.TT_LINK_STATE p) ≠ 4 ∨ s.wireFree p = false then .next s
  else
    match s.nextClass p with
    | none => .next s
    | some c =>
      match (s.sched p).nextFlow c with
      | none => .next s
      | some fl =>
        let r := s.serve p c fl
        match r.2 with
        | none => .next r.1
        | some f => .next ((r.1.sendFrame p f w).spoolLeave f)

/-! ## Replies (R252, R254, R255, R264) -/

/-- SEQ of the device's next message on a context. -/
def State.seqOut (s : State) (ctx : Nat) : Nat × State := s.takeCounter (Obj.ADMIT_SEQ_OUT ctx) seqStep

/-- A REPLY leaves in class COMMAND. -/
def State.sendReply (s : State) (src : Nat) (a : Answered) : State :=
  let q := s.seqOut a.ctx
  let first := a.insts.head?.map (fun i => s.cellStart i.pan i.asn)
  let body := replyBody a.reqId a.detail a.insts.length a.ref a.promise first
  q.2.sendAdm src 2 a.ctx q.1 body (.admReply src a.ctx q.1 a.reqId a.result a.detail a.insts.length a.ref a.promise first) replyOctets

/-- The device remembers 65,536 pairs for 10 s. -/
def answerMax : Nat := 65536
def State.remembered (s : State) (ctx reqId : Nat) : Option Answered :=
  s.pilot.answered.find? (fun a => a.ctx == ctx && a.reqId == reqId && decide (s.now < a.at' + 10 * secC))
def State.remember (s : State) (a : Answered) : State :=
  { s with pilot := { s.pilot with answered := a :: s.pilot.answered.take (answerMax - 1) } }

/-- The counter of a result, and of detail 11 beside it; ADMISSION_BUSY at most once per second. -/
def State.countResult (s : State) (d : Nat) : State :=
  let s := if d = 0 then s.bump Obj.ADMIT_ACCEPTED else if d = 13 then s.bump Obj.ADMIT_OVERSIZE
    else if d ≤ 5 then s.bump Obj.ADMIT_REFUSED_DL else s.bump Obj.ADMIT_REFUSED_CAP
  if d ≠ 11 then s
  else
    let s := s.bump Obj.ADMIT_BUSY
    let n := s.pilot.busySec + 1
    if s.pilot.busyAt.elim true (fun t => decide (t + secC ≤ s.now)) then
      { s.raiseOn 0x5007 2 0x6010 (be 4 n) with pilot := { s.pilot with busySec := 0, busyAt := some s.now } }
    else { s with pilot := { s.pilot with busySec := n } }

/-- A request is answered and remembered. A silent member answers nothing (R310); the active streams a decision that takes no frame
to the shadow (R267). -/
def State.answer (s : State) (m : AdmMsg) (reqId d ref : Nat) (p : Option Tick) (l : List Inst) : State :=
  let a : Answered := { ctx := m.ctx, reqId := reqId, result := detailRc d, detail := d, ref := ref, promise := p, insts := l,
                        at' := s.now, own := true }
  let s := s.remember a
  if s.silent then s
  else ((if d = 0 then s else s.stream (.refusal m.ctx reqId d p)).countResult d).sendReply m.src a

/-- The answer to a QUERY: the ledger, else the report ring, else unknown (R264). -/
def State.queryTerm (s : State) (ref : Nat) : Term :=
  match s.frame? ref with
  | some f => { ref := ref, reqId := f.reqId, eui := (s.node? f.node).elim 0 (·.eui), state := 1, made := f.made, reason := f.reason,
                promise := f.promise, time := 0 }
  | none => (s.pilot.reports.find? (fun t => t.ref == ref)).getD
      { ref := ref, reqId := 0, eui := 0, state := 0, made := 0, reason := 0, promise := 0, time := 0 }

def State.answerQuery (s : State) (m : AdmMsg) (ref : Nat) : State :=
  if s.silent then s
  else
    let t : Term := if s.getB Obj.LODESTAR_ACTIVE then
        { ref := ref, reqId := 0, eui := 0, state := 0, made := 0, reason := 0, promise := 0, time := 0 }
      else s.queryTerm ref
    let q := s.seqOut m.ctx
    q.2.sendAdm m.src 5 m.ctx q.1 t.octets (.queryReply m.src m.ctx q.1 t.eui t) reportOctets

/-! ## Admission messages (R251–R257) -/

/-- The receive check of R252: above the highest SEQ accepted, or one of the 64 below it not yet accepted. -/
def AdmCtx.fresh (c : AdmCtx) (seq : Nat) : Bool := decide (c.high < seq) || (decide (c.high ≤ seq + 64) && !c.seen.contains seq)
def AdmCtx.accept (c : AdmCtx) (seq : Nat) : AdmCtx :=
  let high := max c.high seq
  { high := high, seen := (seq :: c.seen).filter (fun x => decide (high ≤ x + 64)) }

/-- The engine queue holds 64 requests. -/
def engineQueue : Nat := 64

/-- The newest queued request of the highest class number above `cls`. -/
def newestReq (cls : Nat) (q : List AdmReq) : Option AdmReq :=
  q.foldl (fun m r =>
    if r.cls ≤ cls then m
    else
      match m with
      | none => some r
      | some b => if b.cls ≤ r.cls then some r else some b) none

/-- A request that the engine does not take: an ADMIT is refused with detail 11, a QUERY is answered (log 22). -/
def State.turnAway (s : State) (m : AdmMsg) : State :=
  match m.body with
  | .request b => s.answer m b.reqId 11 0 none []
  | .query ref => s.answerQuery m ref

/-- A request enters the queue, evicts one or is refused (R257). -/
def State.enqueue (s : State) (m : AdmMsg) (cls : Nat) : State :=
  let r : AdmReq := { msg := m, cls := cls, arrival := s.now }
  if s.pilot.queue.length < engineQueue then { s with pilot := { s.pilot with queue := s.pilot.queue ++ [r] } }
  else
    match newestReq cls s.pilot.queue with
    | none => s.turnAway m
    | some e =>
      let s := { s with pilot := { s.pilot with queue := s.pilot.queue.erase e ++ [r] } }
      s.turnAway e.msg

/-- The destination of an IPv6 datagram is the node's address under its PAN's prefix; of a node not in the table the interface
identifier alone can be compared (R253). -/
def State.admDst (s : State) (eui : Nat) (dgram : Octets) : Bool :=
  let a := slice dgram 24 16
  match s.nodeByEui eui with
  | some n => a == addrOf (s.getO (Obj.RP_PREFIX n.pan)) eui
  | none => a.drop 8 == (addrOf [] eui).drop 8

/-- The layout of a body by its TYPE, R7 among it (R252, R253, R264). -/
def State.admBody (s : State) (x : AdmWire) : Option AdmContent :=
  let o := x.body
  let flags := fld o 14 1
  let len := fld o 28 2
  if x.type = 4 ∧ o.length = 8 then some (.query (fld o 0 8))
  else if x.type = 1 ∧ 30 ≤ o.length ∧ o.length = 30 + len ∧ 40 ≤ len ∧ len ≤ 1280 ∧ flags < 4 ∧ fld o 15 1 ≤ 8 ∧ fld o 12 2 ≤ 4095
      ∧ (bit flags 1 = true ∨ slice o 16 12 = List.replicate 12 0) then
    some (.request { reqId := fld o 0 4, node := fld o 4 8, flow := fld o 12 2, ackReq := bit flags 0, attempts := fld o 15 1,
                     needBy := if bit flags 1 then some (ofT64Octets (slice o 16 12)) else none, dgramLen := len,
                     dstOk := s.admDst (fld o 4 8) (o.drop 30), compressed := x.compressed })
  else none

/-- A datagram read as a message (R251). -/
def State.admRead (s : State) (x : AdmWire) : Option AdmMsg :=
  if x.version ≠ 1 then none
  else (s.admBody x).map (fun b => { ctx := x.ctx, seq := x.seq, ok := x.ok, old := x.old, src := x.src, body := b })

/-- A message that has been read. -/
def State.takeMessage (s : State) (m : AdmMsg) : Res :=
    let c := nth s.pilot.ctxs m.ctx
    if 16 ≤ m.ctx ∨ s.ctxKey m.ctx = 0 ∨ c.fresh m.seq = false then .next (s.bump Obj.ADMIT_BAD_MSG)
    else
      let u := s.checkKey kAdmit (s.ctxKey m.ctx) 2 m.old m.ok
      let s := u.1
      let dst : Bool := match m.body with
        | .request b => b.dstOk
        | .query _ => true
      if u.2 = false ∨ dst = false then .next (s.bump Obj.ADMIT_BAD_MSG)
      else
        let c := c.accept m.seq
        let s := { s with pilot := { s.pilot with ctxs := upd s.pilot.ctxs m.ctx (fun _ => c) } }
        let s := s.setN (Obj.ADMIT_SEQ_IN m.ctx) c.high
        match m.body with
        | .query _ => .next (s.enqueue m 1)
        | .request b =>
          let s := s.bump Obj.ADMIT_REQUESTS
          match s.remembered m.ctx b.reqId with
          | some a =>
            .next (if s.silent = false then s.sendReply m.src a else if a.own then s else s.enqueue m (s.flow b.flow).cls)
          | none => .next (s.enqueue m (s.flow b.flow).cls)

/-- ADMISSION_MESSAGE. One whose layout does not hold is dropped and counted, whatever its tag (R252). -/
def execAdmissionMessage (x : AdmWire) (s : State) : Res :=
  if s.isOn 4 = false ∨ s.pwr.anchor.isSome ∨ s.hearsOn x.svc = false then .next s
  else
    match s.admRead x with
    | none => .next (s.bump Obj.ADMIT_BAD_MSG)
    | some m => s.takeMessage m

/-- ADMIT_QUEUE_TIMEOUT: request `i` of the queue has waited 150 µs. -/
def execAdmitQueueTimeout (i : Nat) (s : State) : Res :=
  match s.pilot.queue[i]? with
  | none => .next s
  | some r =>
    if s.now < r.arrival + 150 * usC then .next s
    else .next ({ s with pilot := { s.pilot with queue := s.pilot.queue.eraseIdx i } }.turnAway r.msg)

/-- The request the engine takes next: by class, then by arrival; none once Anchor has stopped admission (R414). -/
def State.nextRequest (s : State) : Option AdmReq :=
  if s.isOn 4 = false ∨ s.pwr.anchor.isSome then none
  else s.pilot.queue.foldl (fun m r =>
    match m with
    | none => some r
    | some b => if r.cls < b.cls then some r else some b) none

def State.dequeue (s : State) (r : AdmReq) : State := { s with pilot := { s.pilot with queue := s.pilot.queue.erase r } }

/-- A shadow's own decision against the active's (R267). -/
def State.admitDiffers (s : State) (same : Bool) : State := if same then s else s.bump Obj.PAIR_ADMIT_DIFF

/-- The state without the adopted frame of a reference: what the member's own computation on its request starts from (R267). -/
def State.unadopted (s : State) (ref : Nat) : State :=
  match s.frame? ref with
  | none => s
  | some f =>
    let fl := s.flow f.flow
    let s := ((s.setFrames (s.pilot.frames.filter (fun x => x.ref != ref))).dutyDropAll ref).setFlow { fl with tokens := fl.tokens + 65536 }
    s.updNode f.node (fun n => { n with tokens := n.tokens + 65536 })

/-- A silent member's own decision (R22, R267): where the active's has come already it is compared with that; otherwise the
member holds the frame, with its reservations and the reference it would give it, until the active's decision comes. -/
def State.shadowDecision (s : State) (m : AdmMsg) (reqId : Nat) (arrival : Count) (v : Verdict) : State :=
  let d := match v with
    | .refuse d _ => d
    | .grant _ => 0
  let l := match v with
    | .refuse _ _ => []
    | .grant f => f.insts
  match s.remembered m.ctx reqId with
  | some a =>
    let same := fun (x : Answered) => x.ctx == m.ctx && x.reqId == reqId
    let s := s.admitDiffers (a.detail == d && a.insts == l)
    { s with pilot := { s.pilot with answered := s.pilot.answered.map (fun x => if same x then { x with own := true } else x) } }
  | none =>
    match v with
    | .refuse d p => s.answer m reqId d 0 p []
    | .grant f =>
      let x := s.takeOn f m.ctx m.src arrival
      x.1.answer m reqId 0 x.2.ref (some x.2.promise) x.2.insts

/-- ADMISSION_COMPUTE: the ADMIT request at the head of the engine's order. -/
def execAdmissionCompute (s : State) : Res :=
  match s.nextRequest with
  | none => .next s
  | some r =>
    match r.msg.body with
    | .query _ => .next s
    | .request b =>
      let s := s.dequeue r
      match s.remembered r.msg.ctx b.reqId with
      | some a =>
        if s.silent = false then .next (s.sendReply r.msg.src a)
        else if a.own then .next s
        else
          let v := (if a.detail = 0 then s.unadopted a.ref else s).compute b r.arrival false
          .next (s.shadowDecision r.msg b.reqId r.arrival v.2)
      | none =>
        if s.getB Obj.LODESTAR_ACTIVE ∨ s.pwr.holdWait then .next (s.answer r.msg b.reqId 12 0 none [])
        else
          let v := s.compute b r.arrival false
          if s.silent then .next (v.1.shadowDecision r.msg b.reqId r.arrival v.2)
          else
            match v.2 with
            | .refuse d p => .next (v.1.answer r.msg b.reqId d 0 p [])
            | .grant f =>
              let x := v.1.takeOn f r.msg.ctx r.msg.src r.arrival
              .next (x.1.answer r.msg b.reqId 0 x.2.ref (some x.2.promise) x.2.insts)

/-- QUERY: the query at the head of the engine's order. -/
def execQuery (s : State) : Res :=
  match s.nextRequest with
  | none => .next s
  | some r =>
    match r.msg.body with
    | .request _ => .next s
    | .query ref => .next ((s.dequeue r).answerQuery r.msg ref)

/-! ## Handover and deadline (R248, R250, R260, R261) -/

/-- Hand a frame to Helm for one of its instances. -/
def State.handOver (s : State) (f : Frame) (i : Inst) : State :=
  s.addDue { kind := 0, ref := f.ref, node := f.hop, pan := i.pan, cls := f.cls, promise := f.promise, air := f.air,
             ackReq := f.ackReq, req := 0, sf := i.sf, cell := i.cell, asn := i.asn, chanOff := i.chanOff, port := i.port,
             start := i.start, shared := false, tries := 0 }

/-- The entry moves to the attempt after `i`. -/
def State.nextHandover (s : State) (f : Frame) (i : Inst) : State :=
  match f.insts.find? (fun j => decide (i.start < j.start)) with
  | none => s.dropWheel (fun w => w.kind == 0 && w.key == f.ref)
  | some j => s.wheelHandover f j

/-- HANDOVER_ENTRY. The attempt of a suspended flow is withheld; one of a stopped PAN ends the frame. -/
def execHandoverEntry (ref : Nat) (s : State) : Res :=
  match s.fires 0 ref, s.frame? ref with
  | some _, some f =>
    match s.nextInst f with
    | none => .next (s.dropWheel (fun w => w.kind == 0 && w.key == ref))
    | some i =>
      let s := s.nextHandover f i
      if s.panServed i.pan = false then
        .next (if s.shadowed then s else (s.attemptEnds ref i.cell i.asn 13).report ref 3 s.time)
      else if (s.flow f.flow).rate = 0 then .next (if s.shadowed then s else s.attemptEnds ref i.cell i.asn 12)
      else .next (s.handOver f i)
  | _, _ => .next s

/-- REPORT_DEADLINE. -/
def execReportDeadline (ref : Nat) (s : State) : Res :=
  match s.fires 1 ref with
  | none => .next s
  | some _ =>
    let s := s.dropWheel (fun w => w.kind == 1 && w.key == ref)
    .next (if s.shadowed then s else s.report ref 3 s.time)

/-- WHEEL_COARSE_SLOT: the entries of the coarse slots that have begun move into the fine wheel. -/
def execWheelCoarseSlot (s : State) : Res :=
  let go := fun (w : Wheel) => decide (w.due / coarseSlot ≤ s.now / coarseSlot)
  .next { s with pilot := { s.pilot with fine := s.pilot.fine ++ s.pilot.coarse.filter go,
                                         coarse := s.pilot.coarse.filter (fun w => !go w) } }

/-- NEXT_ELIGIBLE_TIME: the debt of a flow or of a node's hour bucket is over. -/
def execNextEligibleTime (node : Bool) (key : Nat) (s : State) : Res :=
  let k := if node then 3 else 2
  match s.fires k key with
  | none => .next s
  | some _ => .next (s.dropWheel (fun w => w.kind == k && w.key == key))

/-! ## Settings (R237, R248, R271) -/

/-- R237 for a FLOW_CONFIG value: what is ignored on uplink is not tested there. -/
def flowOk (o : Octets) : Bool :=
  decide (1 ≤ fld o 2 2 ∧ fld o 2 2 ≤ 1024 ∧ (bit (fld o 0 1) 1 = true → 1 ≤ fld o 8 2 ∧ 1 ≤ fld o 10 1 ∧ fld o 10 1 ≤ 8)
    ∧ 1 ≤ fld o 12 4 ∧ fld o 12 4 ≤ 4194304)

/-- A flow under its new settings: a bucket starts full when the flow is enabled; a rate change first refills it at the old
rate, and debt stays. -/
def Flow.configure (f : Flow) (o : Octets) (t : Count) : Flow :=
  let mode := fld o 0 1
  let g : Flow := { num := f.num, enabled := bit mode 0, down := bit mode 1, cls := fld o 1 1, weight := fld o 2 2,
                    rate := fld o 4 4, burst := fld o 8 2, attempts := fld o 10 1, pendMax := fld o 12 4, tokens := 0, stamp := t,
                    next := t }
  let full : Int := ((g.burst * 65536 : Nat) : Int)
  if f.enabled ∧ f.down then
    let tok := max (-full) (min full (f.bucket t).tokens)
    { g with tokens := tok, next := t + (Bucket.mk tok g.rate (1000 * secC) g.burst).wait 0 }
  else { g with tokens := full }

/-- The write of FLOW_CONFIG. -/
def State.configureFlow (s : State) (n : Nat) (o : Octets) : State :=
  let f := s.flow n
  let g := f.configure o s.now
  let s := ((s.setFlow g).bump Obj.LB_COMMITS).wheelDebt 2 n (g.bucket s.now) s.now
  if f.enabled ∧ f.down ∧ f.rate ≠ 0 ∧ g.rate = 0 ∧ g.down ∧ g.enabled then
    s.raiseOn 0x5008 1 0x6100 (be 2 n ++ be 4 (s.flowPending n))
  else s

/-- FLOW_CONFIG. -/
def execFlowConfig (r : Req) (w : Wire) (s : State) : Res :=
  .next (s.write r 0x6100 2 w
    (fun s sess v =>
      let n := (s.session sess).flowSelect
      let o := v.toOctets
      if flowOk o = false then some .range
      else if (s.flow n).down ≠ bit (fld o 0 1) 1 ∧ s.flowPending n ≠ 0 then some .stateConflict
      else none)
    (fun s sess v => s.configureFlow (s.session sess).flowSelect v.toOctets))

/-- ADMIT_CTX_KEYID of context `ctx`: it takes effect after the reply. -/
def execAdmitCtxKeyid (r : Req) (ctx : Nat) (w : Wire) (s : State) : Res :=
  if 16 ≤ ctx then .next s
  else
    .next (s.writeThen r 0x6500 (ctx + 1) w (fun _ _ _ => none) (fun s _ _ => s)
      (fun s _ v =>
        let s := s.setP (Obj.ADMIT_CTX_KEYID ctx) v
        let s := { s with pilot := { s.pilot with ctxs := upd s.pilot.ctxs ctx (fun _ => { high := 0, seen := [] }) } }
        s.setN (Obj.ADMIT_SEQ_IN ctx) 0))

/-! ## Sampling (R266) -/

/-- Number of a class's figures beside the flows'. -/
def classKey (i : Nat) : Nat := 65536 + i

/-- Microseconds since the oldest of a list of instants. -/
def State.headDelay (s : State) (l : List Count) : Nat :=
  match l with
  | [] => 0
  | h :: t => (s.now - t.foldl min h) / usC

def State.addSample (s : State) (key depth delay : Nat) : State :=
  let x := (s.pilot.samples.find? (fun x => x.key == key)).getD { key := key, depths := [], delays := [] }
  let x : Sample := { x with depths := depth :: x.depths, delays := delay :: x.delays }
  { s with pilot := { s.pilot with samples := x :: s.pilot.samples.filter (fun y => y.key != key) } }

/-- The enabled flows, flow 0 among them. -/
def State.enabledFlows (s : State) : List Flow :=
  (if s.pilot.flows.any (fun f => f.num == 0) then [] else [Flow.zero]) ++ s.pilot.flows.filter (·.enabled)

/-- PA_SAMPLE. -/
def execPaSample (s : State) : Res :=
  if s.isOn 4 = false ∨ s.pwr.anchor.isSome then .next s
  else
    let s := s.enabledFlows.foldl (fun s f =>
      let l := if f.down then (s.pilot.frames.filter (fun x => x.flow == f.num)).map (·.admitted)
        else (s.upQueued.filter (fun x => x.flow == f.num)).map (·.arrived)
      s.addSample f.num l.length (s.headDelay l)) s
    let s := [0, 1, 2, 3].foldl (fun s c =>
      let a := ((s.sched 0).frames.filter (fun x => x.cls == c)).map (·.arrived)
      let b := ((s.sched 1).frames.filter (fun x => x.cls == c)).map (·.arrived)
      s.addSample (classKey c) (a.length + b.length) (max (s.headDelay a) (s.headDelay b))) s
    .next ([0, 1, 2, 3].foldl (fun s c =>
      let l := (s.pilot.frames.filter (fun x => x.cls == c)).map (·.admitted)
      s.addSample (classKey (4 + c)) l.length (s.headDelay l)) s)

/-- The bin of a value: 0 for 0, i for 2^(i−1) to 2^i − 1, 15 from 16,384 on. -/
def histBin (v : Nat) : Nat := if v = 0 then 0 else min 15 (Nat.log2 v + 1)

/-- The 16 saturating counts of a histogram. -/
def histOctets (l : List Nat) : Octets :=
  (List.range 16).flatMap (fun i => be 2 (min 65535 (l.filter (fun v => histBin v == i)).length))

/-- The statistics record of an interval (R266). -/
def Sample.octets (x : Sample) (t : Tick) (unit : Nat) : Octets :=
  let n := x.depths.length
  let small := fun (l : List Nat) => l.foldl min (l.headD 0)
  t64Octets t ++ be 2 n ++ be 2 0 ++ be 4 (small x.depths) ++ be 4 (x.depths.foldl max 0) ++ be 4 (16 * x.depths.sum / max 1 n)
    ++ be 4 (small x.delays) ++ be 4 (x.delays.foldl max 0) ++ be 4 (x.delays.sum / max 1 n)
    ++ histOctets x.depths ++ histOctets (x.delays.map (fun d => d / max 1 unit))

/-- SAMPLE_INTERVAL_END, at a Sextant second. -/
def execSampleIntervalEnd (s : State) : Res :=
  let t := s.time / secT * secT
  let unit := s.getN Obj.PA_HIST_UNIT
  let get := fun (k : Nat) => ((s.pilot.samples.find? (fun x => x.key == k)).getD { key := k, depths := [], delays := [] }).octets t unit
  let flows := s.enabledFlows.map (fun f => (f.num, get f.num))
  let kept := s.pilot.flowStats.filter (fun e => !flows.any (fun f => f.1 == e.1))
  let s' := { s with pilot := { s.pilot with samples := [], flowStats := flows ++ kept } }
  .next ((List.range 8).foldl (fun s i => s.set (Obj.CLASS_STATS i) (.octets (get (classKey i)))) s')

/-! ## The ledger summary (R265) -/

/-- Lowest unreported reference, highest issued reference, unreported frames. -/
def State.summary (s : State) : Summary :=
  let next := s.getN Obj.NEXT_ADMISSION_REF
  { lowest := (s.pilot.frames.map (·.ref)).foldl min next, highest := next - 1, count := s.pilot.frames.length }

/-- LEDGER_SUMMARY_MIRROR: to DRAM, and with `log` to Logbook. -/
def execLedgerSummaryMirror (log : Bool) (s : State) : Res :=
  if s.isOn 4 = false ∨ s.pwr.anchor.isSome then .next s
  else
    let x := s.summary
    .next (if log then { s.bump Obj.LB_COMMITS with pilot := { s.pilot with sumLog := x } }
      else { s with pilot := { s.pilot with sumDram := x } })

end Sys2Proof.Machine
end

