-- ==== Sys2Proof/Machine/Meridian.lean ====
section
/-! DEFINITION. The commands of chapter 08, Meridian: training and loss of a trunk port, OAM, wake, frames and flow control,
redundancy, retraining and loopback. -/
namespace Sys2Proof.Machine

def State.tport (s : State) (p : Nat) : TPort := nth s.tk.ports p
def State.updTport (s : State) (p : Nat) (f : TPort → TPort) : State := { s with tk := { s.tk with ports := upd s.tk.ports p f } }
/-- TT_LINK_STATE: 0 DISABLED, 1 LISTEN, 2 ANNOUNCE, 3 TRAIN, 4 UP. -/
def State.link (s : State) (p : Nat) : Nat := s.getN (Obj.TT_LINK_STATE p)
/-- What a port sends of its own: kinds 0 page, 1 wake pattern, 2 OAM, 3 PFC, 4 supervision, 5 passed through, 9 a frame cut off. -/
def State.line (s : State) (kind p : Nat) (args : List Nat) : State := s.emit (.line kind p args)
/-- TT_TIERS, which acts as M100 alone in the safe mode of R433. -/
def State.tiers (s : State) (p : Nat) : Nat := if bit (s.getN Obj.TRIM_STATUS) 5 then 1 else s.getN (Obj.TT_TIERS p)
/-- What a training takes from the port's configuration: TT_TIERS, TT_ROLE, the template (0 in the safe mode of R433) and TT_TX_FIR. -/
def State.livePlan (s : State) (p : Nat) : TrainPlan :=
  { tiers := s.tiers p, role := s.getN (Obj.TT_ROLE p),
    template := if bit (s.getN Obj.TRIM_STATUS) 5 then 0 else s.getN (Obj.TT_TEMPLATE p), fir := s.getO (Obj.TT_TX_FIR p) }

/-- What a port works by: from ANNOUNCE on what its training took (R280). -/
def State.trainPlan (s : State) (p : Nat) : TrainPlan := if s.link p < 2 then s.livePlan p else (s.tport p).plan

/-- The taps of the transmit FIR at a tier (R279): the built-in set of template 0 or 1, or TT_TX_FIR. The default of TT_TX_FIR is the
set of template 0 at M1000. -/
def State.taps (s : State) (p tier : Nat) : List Int :=
  let x := s.trainPlan p
  if x.template = 2 then firOf x.fir
  else if x.template = 0 ∧ tier = 2 then firOf (Obj.default (Obj.TT_TX_FIR p)).toOctets
  else Config.firTaps x.template tier

/-- Symbols leave a port at a tier, through its transmit FIR (R279). -/
def State.signal (s : State) (p tier : Nat) (l : List Int) : State := s.emit (.levels p l (shaped (s.taps p tier) l))

/-- Whether a port in a link state, out of the holdoff of a failed training, takes a command. -/
def State.inLink (s : State) (p st : Nat) : Bool := decide (p < 2) && s.link p == st && (s.tport p).holdoff.isNone

/-! ## Link states (R282, R286, R287) -/

/-- A port enters a link state. -/
def State.goLink (s : State) (p st : Nat) : State :=
  (((s.setN (Obj.TT_LINK_STATE p) st).updTport p (fun x => { x with since := s.now }))).ptpLink p (st == 4)

/-- LISTEN: no partner page heard, no page sent. -/
def State.listen (s : State) (p : Nat) : State :=
  let s := ((s.goLink p 1).setN (Obj.TT_TIER_NOW p) 0).setN (Obj.TT_ROLE_NOW p) 0
  s.updTport p (fun x => { x with holdoff := none, paged := false, page := none, same := 0, ackSent := false, tried := 0, best := 0,
                                  pfc := false, loop := none })

/-- DISABLED: the transmitter is silent. -/
def State.disable (s : State) (p : Nat) : State :=
  let s := ((s.goLink p 0).setN (Obj.TT_TIER_NOW p) 0).setN (Obj.TT_ROLE_NOW p) 0
  s.updTport p (fun x => { x with holdoff := none, page := none, same := 0, pfc := false, loop := none })

/-- A port that TRUNK_RETRAIN waits for has come UP or failed (R302). -/
def State.retrained (s : State) (p : Nat) : State :=
  if s.tk.retrain.contains p then
    let l := s.tk.retrain.filter (fun q => q != p)
    let s := { s with tk := { s.tk with retrain := l } }
    if l = [] then s.procDone Obj.TRUNK_RETRAIN .ok else s
  else s

/-- A training fails (R282, R287): TRUNK_TRAIN_FAILED with the cable diagnostic, and TT_RETRAIN_HOLDOFF before LISTEN. Which link state
shows during the holdoff is open: it stays as it was, and pages are ignored until the holdoff ends (DESIGN CHOICE, log 40). -/
def State.trainFail (s : State) (p stage cause fault dist : Nat) : State :=
  let x := s.tport p
  let s := s.raiseOn 0x7003 2 (0x7010 + p)
    (be 1 p ++ be 1 stage ++ be 1 cause ++ be 1 x.tried ++ beI 2 x.best ++ be 1 fault ++ be 2 dist)
  let s := (s.setN (Obj.TT_CABLE_FAULT_M p) dist).setN (Obj.TT_TIER_NOW p) 0
  let t := s.now + s.getN (Obj.TT_RETRAIN_HOLDOFF p) * msC
  (s.updTport p (fun y => { y with holdoff := some t })).retrained p

/-- A paused episode ends (R294): accounted, and reported when it lasted longer than 1 ms. What it kept in the spool drains (R27). -/
def State.pauseEnd (s : State) (p : Nat) (x : Pause) (t : Count) : State :=
  let us := (t - x.since) / usC
  let s := s.updTport p (fun y => { y with pauses := y.pauses.filter (fun z => z.prio != x.prio) })
  let s := s.bumpBy (Obj.TT_PAUSED_TIME p) us
  let s := if x.since + msC < t then s.raiseOn 0x7004 2 (0x7010 + p) (be 1 p ++ be 1 x.prio ++ be 4 us) else s
  if s.getN Obj.SPOOL_STATE = 1 ∧ s.upPorts.contains p then s.spoolDrain p else s

/-- The frame on the wire is cut off (R286). -/
def State.cutWire (s : State) (p : Nat) : State :=
  match (s.tport p).wire with
  | none => s
  | some w => (if s.now < w.2 then s.line 9 p [w.1] else s).updTport p (fun x => { x with wire := none })

/-- A port leaves UP (R286): causes 3 and 5 to DISABLED, the others to LISTEN. Its queue moves by R245. -/
def State.leaveUp (s : State) (p cause : Nat) : State :=
  let x := s.tport p
  let s := s.cutWire p
  let s := s.raiseOn 0x7002 2 (0x7010 + p)
    (be 1 p ++ be 1 cause ++ be 1 (s.getN (Obj.TT_TIER_NOW p)) ++ be 4 ((s.now - x.since) / secC))
  let s := x.pauses.foldl (fun s y => s.pauseEnd p y (min s.now y.until')) s
  let s := s.updTport p (fun y => { y with fill := 0, xoff := none, bad := [] })
  let s := (s.setN (Obj.TT_SNR p) 0).setN (Obj.TT_UP_TIME p) 0
  let s := if cause = 3 ∨ cause = 5 then s.disable p else s.listen p
  s.portDown p

/-! ## LISTEN and ANNOUNCE (R282, R283, R288) -/

/-- A page leaves the port as chips (R283); this device honours IEEE 802.1Qbb. -/
def State.pageOut (s : State) (p seed : Nat) (ack : Bool) (args : List Nat) : State :=
  let x := s.trainPlan p
  let o := pageOctets x.tiers x.role seed ack true
  (s.signal p 1 (pageChips o)).line 0 p ([x.tiers, x.role, seed, b2n ack] ++ args)

/-- LISTEN_PAGING: 1 ms after its entry a port in LISTEN sends its eight pages, with a random lead of up to 50 µs in ns. Their SEED,
which is drawn at the entry to ANNOUNCE only, is a free value. R282 does not say whether the eight pages are sent again: they are sent
once per entry (DESIGN CHOICE, log 40). -/
def execListenPaging (p : Nat) (s : State) : Res :=
  let x := s.tport p
  if s.inLink p 1 = false ∨ x.paged ∨ s.now < x.since + msC then .next s
  else
    let a := s.fresh
    let b := a.2.fresh
    .next ((b.2.updTport p (fun x => { x with paged := true })).pageOut p (a.1 % 2 ^ 32) false [8, b.1 % 50001])

/-- WAKE_PATTERN_SEND: 24 bursts, one every 100 µs (R288). -/
def execWakePatternSend (p : Nat) (s : State) : Res :=
  let x := s.tport p
  let per := s.getN (Obj.TT_WAKE_PERIOD p) * msC
  if s.inLink p 1 = false ∨ per = 0 ∨ s.now < max x.since x.wakeAt + per then .next s
  else .next (((s.updTport p (fun x => { x with wakeAt := s.now })).signal p 1 wakeBurst).line 1 p [24, 100])

/-- Thresholds for VERDICT in 0.1 dB (R285). -/
def snrThreshold (tier : Nat) : Int := [0, 140, 180, 190].getD tier 0

/-- The highest tier set in a TIERS field: 1 M100, 2 M1000, 3 M2500. -/
def topTier (m : Nat) : Nat := if bit m 2 then 3 else if bit m 1 then 2 else if bit m 0 then 1 else 0

/-- A page of ANNOUNCE. -/
def State.sendPage (s : State) (p : Nat) (ack : Bool) : State :=
  s.pageOut p (s.tport p).seed ack []

/-- `n` symbols of a PRBS leave a port at the tier under training. The state from which its register starts is open, a free value. -/
def State.sendPrbs (s : State) (p order n : Nat) (inverted : Bool) : State :=
  let r := s.fresh
  r.2.emit (.prbs p order (r.1 % (2 ^ order - 1) + 1) n inverted (s.taps p (s.getN (Obj.TT_TIER_NOW p))))

/-- A group of scrambled idle blocks in RS framing at the order of the tier (R276, R277, R284). -/
def State.sendIdle (s : State) (p : Nat) : State :=
  let tier := s.getN (Obj.TT_TIER_NOW p)
  let r := s.fresh
  let scr := (List.range 58).map (fun i => bit r.1 i)
  r.2.signal p tier (groupLevels tier (scramble scr (List.replicate (50 * depth tier) idleBlock)))

/-- What a port sends in a phase of an attempt (R284): 1,024 symbols of PRBS-11 inverted, then PRBS-31 of the master in ECHO_M, of the
slave in ECHO_S, of both in DUPLEX_2, scrambled idle blocks in DUPLEX_N. -/
def State.sendPhase (s : State) (p phase : Nat) : State :=
  let n := symbolsMs (s.getN (Obj.TT_TIER_NOW p))
  if phase = 0 ∧ s.getN (Obj.TT_ROLE_NOW p) ≠ 1 ∨ phase = 1 ∧ s.getN (Obj.TT_ROLE_NOW p) ≠ 2 then s
  else
    let s := s.sendPrbs p 11 1024 true
    if phase = 3 then s.sendIdle p else s.sendPrbs p 31 ((if phase = 2 then 40 else 20) * n - 1024) false

/-- VERDICT: the mark of the phase, then 4,096 symbols of PRBS-11, inverted for fail. -/
def State.sendVerdict (s : State) (p : Nat) (pass : Bool) : State := (s.sendPrbs p 11 1024 true).sendPrbs p 11 4096 (!pass)

/-- TRAIN at a tier (R284), from ECHO_M on. -/
def State.attempt (s : State) (p tier : Nat) (t1 : Count) : State :=
  ((s.setN (Obj.TT_TIER_NOW p) tier).updTport p (fun x =>
    { x with t1 := t1, phase := 0, tried := x.tried + (if bit x.tried (tier - 1) then 0 else 2 ^ (tier - 1)) })).sendPhase p 0

/-- A seed from the entropy source. With its output withheld none is drawn and the old one stands (R367; DESIGN CHOICE, log 40). -/
def State.drawSeed (s : State) (p : Nat) : State :=
  if 3 ≤ s.bn.badBlocks then s.updTport p (fun x => { x with same := 0, ackSent := false }) else
  let d := s.random 4
  d.2.updTport p (fun x => { x with seed := num d.1, same := 0, ackSent := false })

/-- ANNOUNCE is complete at `t1`: the rules of R283 in order. On equal SEEDs it continues: a new one is drawn, and a partner page not yet
answered is answered with it. -/
def State.settleAnnounce (s : State) (p : Nat) (g : Page) (t1 : Count) (answered : Bool) (fault dist : Nat) : State :=
  let x := s.tport p
  let common := x.plan.tiers &&& g.tiers
  let mine := x.plan.role
  if common = 0 then s.trainFail p 1 1 fault dist
  else if mine ≠ 0 ∧ mine = g.role then s.trainFail p 1 2 fault dist
  else if mine = 0 ∧ g.role = 0 ∧ x.seed = g.seed then
    let s := s.drawSeed p
    if answered then s else s.sendPage p false
  else
    let role := if mine ≠ 0 then mine else if g.role ≠ 0 then 3 - g.role else if g.seed < x.seed then 1 else 2
    let s := ((s.goLink p 3).setN (Obj.TT_ROLE_NOW p) role).bump (Obj.TT_RETRAINS p)
    (s.updTport p (fun x => { x with common := common, pfc := g.pfc })).attempt p (topTier common) t1

/-- An answer to a page leaves 20 µs after it and lasts 14.507 µs. -/
def pageAnswerNs : Nat := 34507

/-- A page in ANNOUNCE: three identical ones give ACK; ANNOUNCE is complete at the end of the first page with ACK that follows
the receipt of one. -/
def State.announcePage (s : State) (p : Nat) (g : Page) (fault dist : Nat) : State :=
  let x := s.tport p
  let same := if 3 ≤ x.same then 3 else if x.page = some g then x.same + 1 else 1
  let ack := decide (3 ≤ same)
  let s := s.updTport p (fun x => { x with page := some g, same := same })
  if g.ack ∧ x.ackSent then s.settleAnnounce p g s.now false fault dist
  else
    let s := (s.sendPage p ack).updTport p (fun x => { x with ackSent := x.ackSent || ack })
    if g.ack ∧ ack then s.settleAnnounce p g (s.now + pageAnswerNs) true fault dist else s

/-- The check of template 2 (R280): at each point of TT_MASK_POINTS in use the PSD, in 0.1 dBm/Hz, exceeds the limit by at most 0.5 dB. -/
def maskHolds (points : Octets) (psd : List Int) : Bool :=
  (List.range 32).all (fun i => fld points (4 * i) 2 == 0 || decide (psd.getD i 0 ≤ numI (slice points (4 * i + 2) 2) + 5))

/-- PAGE_RECEIVED: the 64 bits of a page. The first one begins a training, which takes the port's configuration as it stands; `psd` is
then the PSD that the port computes for its taps at nominal drive at each of the 32 points (R280 gives no formula for it). -/
def execPageReceived (p : Nat) (o : Octets) (psd : List Int) (fault dist : Nat) (s : State) : Res :=
  let g := pageOf o
  if g.crcOk = false ∨ g.version ≠ 1 ∨ 2 < g.role ∨ 8 ≤ g.tiers then .next s
  else if s.inLink p 1 then
    let plan := s.livePlan p
    let s := s.updTport p (fun x => { x with firstPage := s.now, announce := s.now + 20000, tried := 0, best := 0, plan := plan })
    if plan.template = 2 ∧ maskHolds (s.getO (Obj.TT_MASK_POINTS p)) psd = false then .next (s.trainFail p 0 0 fault dist)
    else .next (((s.goLink p 2).drawSeed p).announcePage p g fault dist)
  else if s.inLink p 2 then .next (s.announcePage p g fault dist)
  else .next s

/-- ANNOUNCE_TIMEOUT. -/
def execAnnounceTimeout (p fault dist : Nat) (s : State) : Res :=
  if s.inLink p 2 = false ∨ s.now < (s.tport p).announce + 2 * msC then .next s else .next (s.trainFail p 1 3 fault dist)

/-! ## TRAIN and UP (R284, R282) -/

/-- The instant, after t1, at which a phase ends. -/
def phaseEnd (phase : Nat) : Nat := [20, 40, 80, 110, 111].getD phase 116 * msC

/-- The end of VERDICT: on to the lock, to the next lower common tier, or failure. -/
def State.verdict (s : State) (p : Nat) (pass : Bool) (fault dist : Nat) : State :=
  let x := s.tport p
  let tier := s.getN (Obj.TT_TIER_NOW p)
  let low := topTier (x.common % 2 ^ (tier - 1))
  if pass then s.updTport p (fun x => { x with phase := 5 })
  else if low = 0 then s.trainFail p 2 4 fault dist
  else s.attempt p low (x.t1 + 111 * msC)

/-- TRAIN_PHASE: the next phase boundary, at which the port sends what the phase begun asks of its role. At VERDICT `snr` is the SNR
measured; at its end `partner` is the partner's verdict. -/
def execTrainPhase (p : Nat) (snr : Int) (partner : Bool) (fault dist : Nat) (s : State) : Res :=
  let x := s.tport p
  if s.inLink p 3 = false ∨ 5 ≤ x.phase ∨ s.now < x.t1 + phaseEnd x.phase then .next s
  else if x.phase = 3 then
    let s := (s.setI (Obj.TT_SNR p) snr).updTport p (fun x => { x with phase := 4, best := max x.best snr, verdict := s.now })
    .next (s.sendVerdict p (decide (snrThreshold (s.getN (Obj.TT_TIER_NOW p)) ≤ snr)))
  else if x.phase = 4 then
    let mine := decide (snrThreshold (s.getN (Obj.TT_TIER_NOW p)) ≤ s.getI (Obj.TT_SNR p))
    .next (s.verdict p (mine && partner) fault dist)
  else
    .next ((s.updTport p (fun x => { x with phase := x.phase + 1 })).sendPhase p (x.phase + 1))

/-- What the receiver found is block lock, codeword lock at the tier, and a valid partner OAM block (R278, R282). -/
def lockHolds (l : PortLock) (tier : Nat) : Bool := blockLock l.headers && codewordLock tier l.groups && (oamOf l.oam).crcOk

/-- LINK_UP: codeword lock and a valid partner OAM block. -/
def execLinkUp (l : PortLock) (s : State) : Res :=
  let p := l.p
  let x := s.tport p
  if s.inLink p 3 = false ∨ x.phase ≠ 5 ∨ lockHolds l (s.getN (Obj.TT_TIER_NOW p)) = false then .next s
  else
    let tried := b2n (bit x.tried 0) + b2n (bit x.tried 1) + b2n (bit x.tried 2)
    let s := (s.goLink p 4).raiseOn 0x7001 0 (0x7010 + p)
      (be 1 p ++ be 1 (s.getN (Obj.TT_TIER_NOW p)) ++ be 1 (s.getN (Obj.TT_ROLE_NOW p)) ++ beI 2 (s.getI (Obj.TT_SNR p))
        ++ be 4 ((s.now - x.firstPage) / usC) ++ be 1 tried)
    .next ((s.retrained p).spoolDrain p)

/-- TRAINING_LOCK_TIMEOUT: not UP 116 ms after the start of the attempt that passed. -/
def execTrainingLockTimeout (p fault dist : Nat) (s : State) : Res :=
  let x := s.tport p
  if s.inLink p 3 = false ∨ x.phase ≠ 5 ∨ s.now < x.t1 + 116 * msC then .next s else .next (s.trainFail p 2 5 fault dist)

/-- RETRAIN_HOLDOFF_EXPIRY. -/
def execRetrainHoldoffExpiry (p : Nat) (s : State) : Res :=
  match (s.tport p).holdoff with
  | none => .next s
  | some t => if 2 ≤ p ∨ s.now < t then .next s else .next (s.listen p)

/-! ## OAM and the causes of a loss (R281, R285, R286) -/

/-- An OAM block leaves: its KIND, the tier, the SNR, the uncorrectable codewords of the last second, SEQ. -/
def State.oamOut (s : State) (p kind : Nat) : State :=
  let x := s.tport p
  let seq := (x.oamSeq + 1) % 65536
  let tier := s.getN (Obj.TT_TIER_NOW p)
  let db := (clampI 0 1023 (s.getI (Obj.TT_SNR p))).toNat
  let bad := min 255 ((x.bad.filter (fun e => decide (s.now < e.1 + secC))).map (·.2)).sum
  ((s.updTport p (fun x => { x with oamSeq := seq })).sendBlocks p [oamBlock kind tier db bad seq]).line 2 p [kind, tier, db, bad, seq]

/-- OAM_SEND: the interleave groups received since the last block at M100, M1000 and M2500, whose codewords the RS decoder corrects
and counts (R275), and the SNR. -/
def execOamSend (p : Nat) (m100 m1000 m2500 : List (List Int)) (snr : Int) (s : State) : Res :=
  if s.inLink p 4 = false then .next s
  else
    let x := s.tport p
    let n := lineTallies m100 m1000 m2500
    let s := (s.bumpBy (Obj.TT_CW_CORRECTED p) n.corrected).bumpBy (Obj.TT_SYM_CORRECTED p) n.symbols
    let s := ((s.bumpBy (Obj.TT_CW_UNCORRECTABLE p) n.uncorr).setI (Obj.TT_SNR p) snr).setN (Obj.TT_UP_TIME p) ((s.now - x.since) / secC)
    let bad := (s.now, n.uncorr) :: x.bad.filter (fun e => decide (s.now < e.1 + secC))
    .next ((s.updTport p (fun x => { x with bad := bad })).oamOut p 1)

/-- OAM_RECEIVED: a block as the descrambler gives it. One whose CRC fails is discarded; a retrain request makes the port leave UP with cause 4.
Whether the port sends a request of its own to the partner that asked is open: it sends none (DESIGN CHOICE, log 40). -/
def execOamReceived (p : Nat) (b : CodeBlock) (s : State) : Res :=
  let o := oamOf b
  if s.inLink p 4 = false ∨ o.crcOk = false ∨ o.kind ≠ 2 then .next s else .next (s.leaveUp p 4)

/-- CODEWORD_LOCK_LOST: `n` consecutive groups have each held an uncorrectable codeword. -/
def execCodewordLockLost (x : PortFault) (s : State) : Res :=
  if s.inLink x.p 4 ∧ 8 ≤ x.n then .next (s.leaveUp x.p 0) else .next s

/-- SIGNAL_LOST: the receive energy has been below the threshold for `n` µs. -/
def execSignalLost (x : PortFault) (s : State) : Res :=
  if s.inLink x.p 4 ∧ 4 ≤ x.n then .next (s.leaveUp x.p 1) else .next s

/-- SNR_LINK_LOST: the SNR has been 3 dB below the tier's threshold for `us` µs, 10 ms or more. -/
def execSnrLinkLost (p : Nat) (x : SnrFall) (s : State) : Res :=
  if s.inLink p 4 ∧ 10000 ≤ x.us ∧ x.snr < snrThreshold (s.getN (Obj.TT_TIER_NOW p)) - 30 then .next (s.leaveUp p 2) else .next s

/-- SNR_WARN: the SNR has been below the warning level for `us` µs, 1 s or more. -/
def execSnrWarn (p : Nat) (x : SnrFall) (s : State) : Res :=
  let tier := s.getN (Obj.TT_TIER_NOW p)
  if s.inLink p 4 ∧ 1000000 ≤ x.us ∧ x.snr < snrThreshold tier + s.getN (Obj.TT_SNR_WARN p) then
    .next ((s.setI (Obj.TT_SNR p) x.snr).raiseOn 0x7005 1 (0x7010 + p) (be 1 p ++ be 1 tier ++ beI 2 x.snr))
  else .next s

/-! ## TT_ENABLE, TRUNK_RETRAIN, TRUNK_LOOPBACK (R282, R302, R303) -/

/-- The domain of a trunk port. -/
def trunkDom (p : Nat) : Nat := 14 + p

/-- TT_ENABLE true: the port's domain is powered (R400) and the port listens. -/
def State.enablePort (s : State) (p : Nat) : State :=
  let s := s.switch (trunkDom p) true
  if s.link p = 0 ∧ s.isOn (trunkDom p) ∧ (s.tport p).loop.isNone then s.listen p else s

/-- TT_ENABLE false: out of UP with cause 3, in any case to DISABLED. -/
def State.disablePort (s : State) (p : Nat) : State :=
  let s := if s.link p = 4 then s.leaveUp p 3 else if s.link p = 0 then s else (s.disable p).retrained p
  if (s.tport p).loop.isSome then s else s.switch (trunkDom p) false

/-- TT_ENABLE_WRITE. -/
def execTtEnableWrite (r : Req) (p : Nat) (w : Wire) (s : State) : Res :=
  if 2 ≤ p then .next s
  else
    .next (s.write r (0x7000 + p) 1 w (fun _ _ _ => none) (fun s _ v =>
      let s := s.setP (Obj.TT_ENABLE p) v
      if v = .bool true then s.enablePort p else s.disablePort p))

/-- What a start of TRUNK_RETRAIN does to a named port. -/
def State.retrainPort (s : State) (p : Nat) : State :=
  if s.link p = 4 then (s.oamOut p 2).leaveUp p 4 else if s.link p = 0 then s else s.listen p

/-- TRUNK_RETRAIN: a named port in DISABLED ends it FAILED with SERVICE_STOPPED. -/
def execTrunkRetrain (r : Req) (w : Wire) (s : State) : Res :=
  .next (s.start r Obj.TRUNK_RETRAIN w
    (fun _ _ v => if v.toInt = 1 ∨ v.toInt = 2 ∨ v.toInt = 3 then none else some .range)
    (fun s _ => s.time)
    (fun s _ v =>
      let l := [0, 1].filter (fun p => bit v.toInt.toNat p)
      let off := l.any (fun p => s.link p == 0)
      let s := { s with tk := { s.tk with retrain := if off then [] else l } }
      let s := l.foldl (fun s p => s.retrainPort p) s
      if off then s.procDone Obj.TRUNK_RETRAIN .serviceStopped else s))

/-- TRUNK_LOOPBACK: the domain is powered and the transmitter feeds its own receiver. -/
def execTrunkLoopback (r : Req) (w : Wire) (s : State) : Res :=
  .next (s.start r Obj.TRUNK_LOOPBACK w
    (fun s _ v =>
      let o := v.toOctets
      if 1 < fld o 0 1 ∨ fld o 1 1 < 1 ∨ 3 < fld o 1 1 ∨ fld o 2 1 < 1 ∨ 60 < fld o 2 1 then some .range
      else if s.getB (Obj.TT_ENABLE (fld o 0 1)) then some .stateConflict else none)
    (fun s _ => s.time)
    (fun s _ v =>
      let o := v.toOctets
      let p := fld o 0 1
      let x : Loopback := { tier := fld o 1 1, stop := s.now + fld o 2 1 * secC, tally := noTally, snr := 0 }
      (s.switch (trunkDom p) true).updTport p (fun y => { y with loop := some x })))

/-- A loopback ends, at its time or by an abort (R304): its counts are raised and the port is DISABLED. -/
def State.endLoopback (s : State) (p : Nat) : State :=
  match (s.tport p).loop with
  | none => s
  | some x =>
    let s := s.raiseOn 0x7007 0 (0x7010 + p)
      (be 1 p ++ be 1 x.tier ++ be 8 x.tally.codewords ++ be 8 x.tally.symbols ++ be 4 x.tally.uncorr ++ beI 2 x.snr)
    let s := s.disable p
    if s.getB (Obj.TT_ENABLE p) then s.enablePort p else s.switch (trunkDom p) false

/-- LOOPBACK_END: the interleave groups that the receiver took from its own transmitter at M100, M1000 or M2500 since the last such
command, and the SNR. Before the end of the loopback they are only counted: what an abort then reports. -/
def execLoopbackEnd (p : Nat) (m100 m1000 m2500 : List (List Int)) (snr : Int) (s : State) : Res :=
  match (s.tport p).loop with
  | none => .next s
  | some x =>
    let n := x.tally.add (lineTallies m100 m1000 m2500)
    let s := s.updTport p (fun y => { y with loop := some { x with tally := n, snr := snr } })
    if s.now < x.stop then .next s else .next ((s.endLoopback p).procDone Obj.TRUNK_LOOPBACK .ok)

/-! ## Wake (R289) -/

/-- Eight consecutive bursts whose starts lie 90 to 110 µs apart. -/
def wakePattern (gaps : List Nat) : Bool :=
  (List.range gaps.length).any (fun i => decide (i + 7 ≤ gaps.length) && ((gaps.drop i).take 7).all (fun g => decide (90 ≤ g ∧ g ≤ 110)))

/-- TRUNK_WAKE_DETECT: bursts whose starts lie `gaps` µs apart, and an amplitude of `mv` for `us` µs, on a port that is not UP. -/
def execTrunkWakeDetect (p : Nat) (x : WakeTone) (s : State) : Res :=
  let mode := s.getN Obj.TRUNK_WAKE_MODE
  let energy := decide (s.getN Obj.TRUNK_WAKE_ENERGY < x.mv ∧ 1 ≤ x.us)
  if p < 2 ∧ s.link p ≠ 4 ∧ mode < 2 ∧ (wakePattern x.gaps ∨ (mode = 1 ∧ energy)) then .next (s.wakeSource p) else .next s

/-! ## Frames (R290, R291, R295, R297, R298) -/

/-- The receive buffer holds 1 MiB; XOFF above 768 KiB, XON at 512 KiB. -/
def rxBuffer : Nat := 1048576
def xoffLevel : Nat := 786432
def xonLevel : Nat := 524288

/-- Nanoseconds of a number of quanta: 512 bit times each at the tier's payload rate (R294). -/
def quantaNs (tier n : Nat) : Nat := n * 512 * 1000 / ([1, 100, 1000, 2500].getD tier 1)

/-- The device may pause its partner. -/
def State.mayPause (s : State) (p : Nat) : Bool := s.getN (Obj.TT_PFC_TX_MASK p) != 0 && (s.tport p).pfc

/-- A PFC frame for the masked priorities: XOFF with quanta for 1 ms, or XON. -/
def State.sendPfc (s : State) (p : Nat) (off : Bool) : State :=
  let quanta := if off then cdiv (msC * [1, 100, 1000, 2500].getD (s.getN (Obj.TT_TIER_NOW p)) 1) 512000 else 0
  (s.line 3 p [s.getN (Obj.TT_PFC_TX_MASK p), quanta]).bump (Obj.TT_PFC_TX p)

/-- The fill of the receive buffer changes (R295): XOFF above 768 KiB, its refresh each 500 µs above 512 KiB, XON at 512 KiB
or after 1 ms, and 100 µs before another XOFF after that. -/
def State.rxFill (s : State) (p fill : Nat) : State :=
  let x := s.tport p
  let s := s.updTport p (fun x => { x with fill := fill })
  match x.xoff with
  | some (t, l) =>
    if t + msC ≤ s.now then
      (s.sendPfc p false).updTport p (fun x => { x with xoff := none, xoffAfter := s.now + 100 * usC })
    else if fill ≤ xonLevel then (s.sendPfc p false).updTport p (fun x => { x with xoff := none })
    else if l + 500 * usC ≤ s.now then (s.sendPfc p true).updTport p (fun x => { x with xoff := some (t, s.now) })
    else s
  | none =>
    if xoffLevel < fill ∧ s.mayPause p ∧ x.xoffAfter ≤ s.now then
      (s.sendPfc p true).updTport p (fun x => { x with xoff := some (s.now, s.now) })
    else s

/-- The duplicate table holds 16,384 entries for RED_FORGET_TIME. -/
def dupMax : Nat := 16384

/-- The first copy of a frame enters the table; a later one is a duplicate. -/
def State.dupCheck (s : State) (src : Octets) (seq : Nat) : State × Bool :=
  let live := s.tk.dups.filter (fun e => decide (s.now < e.2.2 + s.getN Obj.RED_FORGET_TIME * msC))
  if live.any (fun e => e.1 == src && e.2.1 == seq) then
    ({ s with tk := { s.tk with dups := live } }.bump Obj.RED_DUPS_DISCARDED, true)
  else ({ s with tk := { s.tk with dups := (src, seq, s.now) :: live.take (dupMax - 1) } }, false)

/-- RED_PARTNER_STATE takes or loses a bit (R297). -/
def State.setPartner (s : State) (b : Nat) (on : Bool) : State :=
  let old := s.getN Obj.RED_PARTNER_STATE
  if bit old b = on then s
  else
    let new := if on then old + 2 ^ b else old - 2 ^ b
    (s.setN Obj.RED_PARTNER_STATE new).raiseOn 0x7006 1 0x7020 (be 1 (s.getN Obj.TRUNK_REDUNDANCY) ++ be 1 old ++ be 1 new)

/-- A supervision frame was heard for a bit. -/
def State.supervised (s : State) (b : Nat) : State :=
  ({ s with tk := { s.tk with heard := upd s.tk.heard b (fun _ => some s.now) } }).setPartner b true

/-- The class a passed frame is queued in: that of its priority, else BACKGROUND. -/
def State.passClass (s : State) (prio : Nat) : Nat := ([0, 1, 2, 3].find? (fun c => s.classPcp c == prio)).getD 3

/-- 512 KiB of stored frames per direction. -/
def passBuffer : Nat := 524288

/-- A ring frame passes by cut-through (R298); `idle` says that the other port is idle. -/
def State.cutThrough (s : State) (p prio : Nat) (idle : Bool) : Bool :=
  let o := 1 - p
  s.link o == 4 && s.getN (Obj.TT_TIER_NOW o) == s.getN (Obj.TT_TIER_NOW p) && idle && s.wireFree o && !s.paused o prio
    && (s.sched o).frames.all (fun x => decide (s.passClass prio ≤ x.cls))

/-- The bound on the latency of a cut-through, in ns (R298). -/
def cutNs (tier : Nat) : Nat := [0, 540000, 28000, 2000].getD tier 0

/-- A frame leaves by cut-through: a PTP event message with the latency between its two starts of frame added to its correction
(R300), a free value within the bound of R298. -/
def State.cutFrame (s : State) (p prio octets : Nat) (event : Bool) : State :=
  if event = false then s.line 5 (1 - p) [octets, prio]
  else
    let r := s.fresh
    r.2.line 5 (1 - p) [octets, prio, r.1 % (cutNs (s.getN (Obj.TT_TIER_NOW p)) * nsT + 1)]

/-- A ring frame of `octets` goes to the other port, by cut-through or stored (R298). -/
def State.passThrough (s : State) (p prio octets : Nat) (f : TrunkFrame) (idle : Bool) : State :=
  let o := 1 - p
  let held := (s.sched o).frames.filter (fun x => x.flow == passFlow)
  if s.cutThrough p prio idle then (s.bump Obj.RED_PASS_THROUGH).cutFrame p prio octets f.event
  else if (held.map (·.octets)).sum + octets ≤ passBuffer then
    let x : UpFrame := { id := s.pilot.nextUp, flow := passFlow, cls := s.passClass prio, octets := octets, late := false, tag := none,
                         arrived := s.now, event := if f.event then some (s.mdiRx p f.group f.pos) else none }
    ({ s with pilot := { s.pilot with nextUp := s.pilot.nextUp + 1 } }.arrive o x).bump Obj.RED_PASS_THROUGH
  else s.bump Obj.RED_PASS_DROPS

/-- The addresses that the device answers on (R292, R293): its link-local one of TRUNK_MAC, TRUNK_IPV6 and TRUNK_IPV4 where they are
set, and in the member that answers for the pair those of the pair. -/
def State.ownAddrs (s : State) : List Octets :=
  let m := fit 6 (s.getO Obj.TRUNK_MAC)
  let eui := [m.getD 0 0 ^^^ 0x02#8] ++ slice m 1 2 ++ [0xFF#8, 0xFE#8] ++ m.drop 3
  let pair := if s.paired ∧ s.silent = false then [s.getO Obj.TRUNK_PAIR_IPV6, s.getO Obj.TRUNK_PAIR_IPV4] else []
  ([0xFE#8, 0x80#8] ++ List.replicate 6 0#8 ++ eui) ::
    ([s.getO Obj.TRUNK_IPV6, s.getO Obj.TRUNK_IPV4] ++ pair).filter (fun a => a.any (fun o => o != 0#8))

/-- Neighbour discovery, ARP and ICMP echo are answered on those addresses and on none other, on every port that is UP (R14), in class
COMMAND. -/
def State.answerAsk (s : State) (a : AddrAsk) (src : Octets) : State :=
  let addr := match a with
    | .nd x => x
    | .arp x => x
    | .echo x => x
  let mac := if [s.getO Obj.TRUNK_PAIR_IPV6, s.getO Obj.TRUNK_PAIR_IPV4].contains addr then s.getO Obj.TRUNK_PAIR_MAC
    else s.getO Obj.TRUNK_MAC
  let n := s.pilot.nextUp
  if s.ownAddrs.contains addr then
    s.upPorts.foldl (fun s p =>
      ((s.emit (.neighbour p a mac)).emit (.ether p (s.getN Obj.TRUNK_VLAN) (s.classPcp 1) src (s.getO Obj.TRUNK_MAC) [] (s.redTag p n))).bump
        (Obj.TT_FRAMES_TX p)) { s with pilot := { s.pilot with nextUp := n + 1 } }
  else s

/-- A frame is for the device (R291, R293): to TRUNK_MAC, to TRUNK_PAIR_MAC in a pair, or to another group address. -/
def State.forMe (s : State) (h : EtherHead) : Bool :=
  h.dst == s.getO Obj.TRUNK_MAC || (if h.dst == s.getO Obj.TRUNK_PAIR_MAC then s.paired else bit (fld h.dst 0 1) 0)

/-- A frame is not only for the device (R298), and a frame of its own that returns (R296). -/
def State.forOthers (s : State) (h : EtherHead) : Bool := h.dst != s.getO Obj.TRUNK_MAC
def State.isOwn (s : State) (h : EtherHead) : Bool := h.src == s.getO Obj.TRUNK_MAC

/-- The node table of PRP holds 1,024 sources. -/
def nodeTableMax : Nat := 1024

/-- A source is noted in the node table of PRP (R296). -/
def State.noteSource (s : State) (src : Octets) (lan : Nat) : State :=
  let rest := s.tk.nodes.filter (fun e => e.1 != src)
  { s with tk := { s.tk with nodes := (src, lan, s.now) :: rest.take (nodeTableMax - 1) } }

/-- A frame for the device, after the checks of R290: VLAN, room, duplicates. -/
def State.deliverTrunk (s : State) (p : Nat) (f : TrunkFrame) (h : EtherHead) (bytes : Octets) : State :=
  let t := s.mdiRx p f.group f.pos
  if h.vlan.elim false (fun v => v != s.getN Obj.TRUNK_VLAN) then s.capture 2 (4 + p) none false true t [] bytes
  else
    let d := match h.tag with
      | .none => (s, false)
      | .prp seq _ => s.dupCheck h.src seq
      | .hsr seq => s.dupCheck h.src seq
    let s := d.1.capture 2 (4 + p) none (!d.2) true t [] bytes
    if d.2 then s else f.ask.elim s (fun a => s.answerAsk a h.src)

/-- A frame whose FCS fails, or whose blocks an uncorrectable codeword spoiled (R278): discarded and counted. One that is passing by
cut-through is ended with an error control block (R290). -/
def State.badFrame (s : State) (p : Nat) (f : TrunkFrame) (bytes : Octets) (idle : Bool) : State :=
  let ring := s.getN Obj.TRUNK_REDUNDANCY == 1
  let h := etherHead bytes
  let s := (s.bump (Obj.TT_FCS_ERRORS p)).capture 2 (4 + p) none false false (s.mdiRx p f.group f.pos) [] bytes
  if ring ∧ s.forOthers h ∧ s.cutThrough p h.prio idle then s.sendBlocks (1 - p) [errorBlock] else s

/-- TRUNK_FRAME_RECEIVED: `fill` is the fill of the receive buffer with the frame in it. What the frame carries for the device
(a request, an admission message, a pulse) is a command of its own. -/
def execTrunkFrameReceived (p : Nat) (f : TrunkFrame) (fill : Nat) (idle : Bool) (s : State) : Res :=
  let r := frameReceived f
  let h := etherHead r.1
  if s.inLink p 4 = false then .next s
  else if r.2 = false then .next (s.badFrame p f r.1 idle)
  else if r.1.length < 64 ∨ 9216 < r.1.length then .next (s.bump (Obj.TT_LENGTH_ERRORS p))
  else if fcsHolds r.1 = false then .next (s.badFrame p f r.1 idle)
  else
    let s := s.bump (Obj.TT_FRAMES_RX p)
    if rxBuffer < fill then .next (s.bump (Obj.TT_PFC_DROPS p))
    else
      let s := s.rxFill p fill
      let ring := s.getN Obj.TRUNK_REDUNDANCY == 1
      let wrong := match h.tag with
        | .prp _ lan => lan != p
        | _ => false
      let s := if wrong && !ring then s.bump Obj.RED_WRONG_LAN else s
      let s : State := match h.tag with
        | .prp _ lan => if ring then s else s.noteSource h.src lan
        | _ => s
      let s := s.ptpRx p f.ptp (s.mdiRx p f.group f.pos)
      let super := h.type == superType
      if ring ∧ s.isOwn h then .next (if super then s.supervised 0 else s)
      else
        let s := if super && !ring then s.supervised p else s
        let s := if ring ∧ s.forOthers h then s.passThrough p h.prio r.1.length f idle else s
        .next (if s.forMe h then s.deliverTrunk p f h r.1 else s)

/-- XOFF_REFRESH: the fill of the receive buffer now. -/
def execXoffRefresh (p fill : Nat) (s : State) : Res := if s.inLink p 4 then .next (s.rxFill p fill) else .next s

/-- One priority of a PFC frame. -/
def State.pauseOne (s : State) (p prio quanta : Nat) : State :=
  let t := s.now + quantaNs (s.getN (Obj.TT_TIER_NOW p)) quanta
  match (s.tport p).pauses.find? (fun x => x.prio == prio) with
  | some x =>
    if quanta = 0 then s.pauseEnd p x (min s.now x.until')
    else if x.until' < s.now then
      (s.pauseEnd p x x.until').updTport p (fun y => { y with pauses := { prio := prio, until' := t, since := s.now } :: y.pauses })
    else s.updTport p (fun y => { y with pauses := y.pauses.map (fun z => if z.prio = prio then { z with until' := t } else z) })
  | none =>
    if quanta = 0 then s
    else s.updTport p (fun y => { y with pauses := { prio := prio, until' := t, since := s.now } :: y.pauses })

/-- PFC_RECEIVED: the priorities named with their quanta; a PAUSE frame names all eight. -/
def execPfcReceived (p : Nat) (quanta : List (Nat × Nat)) (s : State) : Res :=
  if s.inLink p 4 = false then .next s
  else .next (quanta.foldl (fun s e => if e.1 < 8 then s.pauseOne p e.1 e.2 else s) (s.bump (Obj.TT_PFC_RX p)))

/-- PAUSE_EXPIRY. -/
def execPauseExpiry (p prio : Nat) (s : State) : Res :=
  match (s.tport p).pauses.find? (fun x => x.prio == prio) with
  | none => .next s
  | some x => if s.now < x.until' then .next s else .next (s.pauseEnd p x x.until')

/-! ## Redundancy and addresses (R292, R296, R297) -/

/-- The payload of a supervision frame (IEC 62439-3): path and version, its sequence number, and the TLV of the mode with TRUNK_MAC. -/
def superPayload (ring : Bool) (seq : Nat) (mac : Octets) : Octets :=
  be 2 1 ++ be 2 seq ++ be 1 (if ring then 23 else 20) ++ be 1 6 ++ fit 6 mac ++ be 2 0

/-- SUPERVISION_SEND: RED_LIFE_CHECK after the last, a supervision frame on each port that is UP, tagged as every frame of the device, in
class BACKGROUND. -/
def execSupervisionSend (s : State) : Res :=
  if s.upPorts = [] ∨ s.tk.lifeAt.elim false (fun t => decide (s.now < t + s.getN Obj.RED_LIFE_CHECK * msC)) then .next s
  else
    let seq := (s.tk.seq + 1) % 65536
    let s := { s with tk := { s.tk with seq := seq, lifeAt := some s.now } }
    let s := s.upPorts.foldl (fun s p => s.line 4 p [seq]) s
    .next (s.sendPlain s.upPorts 3 superType superAddr (superPayload (s.getN Obj.TRUNK_REDUNDANCY == 1) seq (s.getO Obj.TRUNK_MAC)))

/-- RED_PARTNER_TIMEOUT. -/
def execRedPartnerTimeout (b : Nat) (s : State) : Res :=
  match s.tk.heard.getD b none with
  | none => .next s
  | some t => if 2 ≤ b ∨ s.now < t + 3 * s.getN Obj.RED_LIFE_CHECK * msC then .next s else .next (s.setPartner b false)

/-- TRUNK_ADDRESS_WRITE: a write of one of 0x7030:02–0B takes effect after its reply. -/
def execTrunkAddressWrite (r : Req) (sub : Nat) (w : Wire) (s : State) : Res :=
  if sub < 2 ∨ 0x0B < sub then .next s
  else
    .next (s.writeThen r 0x7030 sub w (fun _ _ _ => none) (fun s _ _ => s) (fun s _ v => s.setP (Obj.key 0x7030 sub) v))

end Sys2Proof.Machine
end

