-- ==== Sys2Proof/Machine/Consort.lean ====
section
/-! DEFINITION. The commands of chapter 09, Consort: pulses and their loss, the comparison of the outputs, arbitration, the
state stream, revert and handover. -/
namespace Sys2Proof.Machine

/-! ## Messages of the pair (R306, R312) -/

/-- A message that R312 does not discard, but for its COUNTER. -/
def State.pairMsg (s : State) (src : Octets) (pairId : Nat) (old ok : Bool) : State × Bool :=
  if s.paired = false ∨ s.isOn 3 = false ∨ src ≠ s.getO Obj.CS_PARTNER_EUI ∨ pairId ≠ s.getN Obj.CS_PAIR_ID then (s, false)
  else s.checkKey kPair s.pairKey 3 old ok

/-- EPOCH_OK (R313). -/
def State.epochOk (s : State) : Bool :=
  let r := s.getO Obj.CS_EPOCH_REF
  num r == 0 || (fld r 0 4 == s.getN Obj.SCHED_EPOCH && slice r 4 8 == fit 8 s.digestNow)

/-! ## Items and digests (R316, R317) -/

/-- Insert into a list of items sorted as 16-octet numbers. -/
def itemInsert (x : Item) : List Item → List Item
  | [] => [x]
  | y :: t => if num (itemOctets x) ≤ num (itemOctets y) then x :: y :: t else y :: itemInsert x t

/-- The window digest. -/
def windowDigest (epoch k : Nat) (l : List Item) : Octets :=
  Config.shake256 8 (be 4 epoch ++ be 8 k ++ (l.foldl (fun a x => itemInsert x a) []).flatMap itemOctets)

/-- Whether a carrier is on air in window `k`, and throughout it. -/
def inWindow (k : Nat) (a b : Tick) : Bool := decide (a < (k + 1) * windowT ∧ k * windowT < b)
def wholeWindow (k : Nat) (a b : Tick) : Bool := decide (a ≤ k * windowT ∧ (k + 1) * windowT ≤ b)

/-- A cell in force permits a transmission of the band's channel at an instant. -/
def State.cellPermits (s : State) (b chan : Nat) (t : Tick) (p : Nat → Nat × Cell → Bool) : Bool :=
  (List.range 4).any (fun pan => s.getN (Obj.PN_BAND pan) == b &&
    (s.slotCells pan (s.asnAt pan t)).any (fun e => p pan e && s.hop pan (s.asnAt pan t) e.2.chanOff == chan))

/-- The shadow's validation of an item (R317). -/
def State.itemValid (s : State) (x : Item) (t : Tick) : Bool :=
  if x.kind = 1 then
    s.pilot.frames.any (fun f => f.ref % 2 ^ 32 == x.what && f.insts.any (fun i => i.start / usT % 2 ^ 32 == x.instant &&
      s.hop i.pan i.asn i.chanOff == x.channel)) ||
    s.cellPermits x.band x.channel t (fun _ e => e.2.tx)
  else if x.kind = 2 then
    (s.node? x.who).elim false (fun n => s.cellPermits x.band x.channel t (fun pan _ => pan == n.pan))
  else if x.kind = 3 then s.cellPermits x.band x.channel t (fun pan e => e.2.advertise && pan == x.who)
  else true

/-- The carriers a member holds for a window: the active's own, the shadow's from the valid items of the plan records. -/
def State.windowItems (s : State) (k : Nat) : List (Item × Tick × Tick) :=
  if s.getN Obj.CS_STATE = 2 then s.cs.aired.filter (fun e => inWindow k e.2.1 e.2.2)
  else if s.getN Obj.CS_STATE = 3 then
    s.cs.plans.flatMap (fun r => (r.items.map (fun e => (e.1, r.startOf e.1, r.startOf e.1 + e.2 * usT))).filter (fun e =>
      inWindow k e.2.1 e.2.2 && s.itemValid e.1 e.2.1))
  else []

/-! ## Arbitration (R318–R320) -/

/-- What the member does on an output mismatch (R320): `fault` is the start of the first mismatching window `k`. R322 names a takeover
with CS_OUTPUT_FAULT set on pulse loss and on DIFFERENT; on SILENT the row of R320 is followed then too (DESIGN CHOICE, log 41). -/
def State.arbitrate (s : State) (q : Pulse) (silent : Bool) (k : Nat) : State :=
  let act := s.getN Obj.CS_STATE = 2
  let mine := s.epochOk
  let activeOk := if act then mine else q.epochOk
  let shadowOk := if act then q.epochOk else mine
  let fault := k * windowT
  let ev (s : State) (outcome : Nat) : State := s.raiseOn 0x7103 2 0x7410
    (be 1 (b2n silent) ++ be 1 (b2n mine) ++ be 1 (b2n q.epochOk) ++ be 1 outcome ++ be 8 k)
  let s := s.dropHandover.updCs (fun c => { c with run := [], holdSince := none })
  if silent then (if act then s else (ev s 1).takeOver 1 fault)
  else if activeOk = shadowOk then
    let s := (ev s 0).bump Obj.CS_DIVERGE_KEPT
    if act then s else s.toResync
  else if shadowOk then (if act then (ev s 1).yieldTo 4 0 else (ev s 1).takeOver 2 fault)
  else (if act then ev s 2 else (ev s 2).toResync)

/-- WINDOW_EVALUATE (R318, R319): the window of the partner's last pulse, once the member has its own. -/
def State.evaluate (s : State) : State :=
  match s.cs.pulse with
  | none => s
  | some q =>
    let st := s.getN Obj.CS_STATE
    match s.cs.windows.find? (fun w => w.k == q.counter && !w.done) with
    | none => s
    | some w =>
      let s := s.updCs (fun c => { c with windows := c.windows.map (fun x => if x.k = w.k then { x with done := true } else x) })
      let pair := (st = 2 ∧ q.state = 3) ∨ (st = 3 ∧ q.state = 2)
      if ¬ pair ∨ w.unknown ∨ (w.carriers = 0 ∧ q.carriers = 0 ∧ w.digest = q.digest) then s
      else
        let diff := w.digest != q.digest
        if diff = false ∧ (st = 2 ∨ w.silent = false) then s.updCs (fun c => { c with run := [] })
        else
          let s := s.bump Obj.CS_MISMATCH_WINDOWS
          match s.cs.run with
          | [] => s.updCs (fun c => { c with run := [(w.k, diff)] })
          | (k, d) :: _ => s.arbitrate q (!(d || diff)) k

/-! ## Pulses (R310, R313, R319) -/

/-- Windows remembered. -/
def windowsKept : Nat := 32

/-- Pulses that were due and have not come, up to window `k`, are counted once each. -/
def State.countMissed (s : State) (k : Nat) : State :=
  match s.cs.pulseIn with
  | none => s
  | some n =>
    let from' := max n s.cs.missed
    if from' < k then (s.bumpBy Obj.CS_PULSES_MISSED (k - from')).updCs (fun c => { c with missed := k }) else s

/-- A plan record has an item in window `k` and came after the window began (R317). -/
def PlanRec.lateFor (r : PlanRec) (k : Nat) : Bool :=
  decide (k * windowT < r.came) && r.items.any (fun e => inWindow k (r.startOf e.1) (r.startOf e.1 + e.2 * usT))

/-- The member's own window `k`. `heard` gives, per band and channel, the larger of the energies at the band's two ports
throughout the window. -/
def State.ownWindow (s : State) (k : Nat) (heard : List (Nat × Nat × Int)) : State :=
  let l := s.windowItems k
  let late := s.getN Obj.CS_STATE = 3 ∧ s.cs.plans.any (fun r => r.lateFor k)
  let health := s.getN Obj.CS_RX_HEALTH * secC
  let silent := l.any (fun e => wholeWindow k e.2.1 e.2.2 &&
    heard.any (fun h => h.1 == e.1.band && h.2.1 == e.1.channel && decide (h.2.2 < s.getI Obj.CS_HEAR_ENERGY)) &&
    (s.cs.sfdAt.getD e.1.band none).elim false (fun t => decide (s.now ≤ t + health)))
  let w : Window := { k := k, carriers := l.length, digest := windowDigest (s.getN Obj.SCHED_EPOCH) k (l.map (·.1)),
                      unknown := decide late, silent := silent, done := false }
  let old := (k - 50) * windowT
  let s := if late then s.bump Obj.CS_PLAN_LATE else s
  s.updCs (fun c => { c with windows := w :: c.windows.take (windowsKept - 1),
                             aired := c.aired.filter (fun e => decide (old ≤ e.2.2)),
                             plans := c.plans.filter (fun r => r.items.any (fun e => decide (old ≤ r.startOf e.1 + e.2 * usT))) })

/-- The body of a pulse (R313). -/
def pulseBody (q : Pulse) : Octets :=
  be 1 (q.state % 8 + 8 * b2n q.outFault + 16 * b2n q.epochOk + 32 * b2n q.takeover + 64 * b2n q.revert) ++ be 1 0 ++ be 2 q.carriers
    ++ fit 8 q.digest ++ be 4 q.epoch ++ fit 8 q.schedDigest ++ be 8 q.sent ++ be 8 q.acked
    ++ (if q.handover = 0 then List.replicate 12 0 else t64Octets q.handover)

/-- A pulse as it is sent, with its tag (R312, R313). -/
def State.pulseOctets (s : State) (q : Pulse) : Octets := s.pairOctets 1 q.pairId q.member q.counter (pulseBody q)

/-- The pulse of window `k`. -/
def State.pulseOf (s : State) (k : Nat) : Pulse :=
  let w := (s.cs.windows.find? (fun w => w.k == k)).getD default
  { src := s.getO Obj.DEVICE_EUI64, pairId := s.getN Obj.CS_PAIR_ID, member := s.getN Obj.CS_PAIRSEL, counter := k,
    authentic := true, old := false, state := s.getN Obj.CS_STATE, outFault := s.getB Obj.CS_OUTPUT_FAULT, epochOk := s.epochOk,
    takeover := s.cs.takeover, revert := s.cs.handover.elim false (fun h => h.revert && s.getN Obj.CS_PAIRSEL == 1),
    carriers := w.carriers, digest := w.digest, epoch := s.getN Obj.SCHED_EPOCH, schedDigest := s.digestNow,
    sent := s.cs.sent, acked := s.cs.acked, handover := s.cs.handover.elim 0 (·.at') }

/-- PULSE_SEND: window k has just ended. -/
def execPulseSend (heard : List (Nat × Nat × Int)) (s : State) : Res :=
  let k := s.time / windowT - 1
  if s.paired = false ∨ s.isOn 3 = false ∨ s.time < windowT ∨ s.cs.windows.any (fun w => decide (k ≤ w.k)) then .next s
  else
    let s := (s.ownWindow k heard).countMissed (k - 3)
    let s := if s.upPorts = [] then s
      else
        let u := s.useKey kPair s.pairKey 3 true
        let q := u.1.pulseOf k
        if u.2 then (u.1.pairFrame (u.1.pulseOctets q)).emit (.pulse q (u.1.pulseOctets q)) else u.1
    .next (if s.cs.pulseIn = some k then s.evaluate else s)

/-- The writes of one object, and of the four objects of slotframe `f`. -/
def objWrite (k sel : Nat) (v : Val) (t : Tick) : StreamRec := .write (k / 256) (k % 256) sel v t
def sfWrites (f : Nat) (x : Slotframe) (t : Tick) : List StreamRec :=
  [objWrite (Obj.SS_ENABLE f) 0 (.bool x.enable) t, objWrite (Obj.SS_PAN f) 0 (.int x.pan) t,
    objWrite (Obj.SS_LENGTH f) 0 (.int x.length) t, objWrite (Obj.SS_TX_OFFSET f) 0 (.int x.txOffset) t]

/-- The writable pair-wide objects. -/
def pairWrites (k : Nat) : Bool := pairWide k && (Obj.row k).elim false (fun r => r.acc != .ro)

/-- The full state a RESYNC partner is sent, between its marks (R314): the schedule in force as writes of its slotframes and cells and a
start of SCHEDULE_COMMIT whose boundaries have passed, then what is staged, the other objects, the flows, the nodes, the ledger and the
sequence reservations, a commit that has not switched, and last what puts a sub-band or a PAN into service. -/
def State.fullState (s : State) : List StreamRec :=
  let t := s.time
  let sfs := s.helm.sfs.zipIdx.flatMap (fun e => sfWrites e.2 e.1 t)
  let cells := fun (l : List (Nat × Cell)) => l.map (fun e => objWrite Obj.CELL_ENTRY e.1 (.octets e.2.octets) t)
  let commit := fun (e : Nat) (at' v : Tick) (b : List Tick) => StreamRec.start Obj.SCHEDULE_COMMIT (.octets (be 4 e ++ t64Octets at')) v b
  let staged := s.stagedSfs.zipIdx.flatMap (fun e => if nth s.helm.sfs e.2 = e.1 then [] else sfWrites e.2 e.1 t)
  let sfObj := fun (k : Nat) => decide (0x4100 ≤ k / 256 ∧ k / 256 < 0x4140 ∧ k % 256 ≤ 4)
  let objs := (s.obj.filter (fun e => pairWrites e.1 && !sfObj e.1)).map (fun e => objWrite e.1 0 e.2 t)
  let flows := s.pilot.flows.map (fun f => StreamRec.write 0x6100 2 f.num (.octets f.octets) t)
  let ctxs := (List.range 16).map (fun c => StreamRec.reserve c (s.ceiling (Obj.ADMIT_SEQ_OUT c)))
  let on := fun (r : StreamRec) => match r with
    | .write ix sub _ _ _ => decide ((0x4000 ≤ ix ∧ ix < 0x4004 ∨ 0x4400 ≤ ix ∧ ix < 0x4410) ∧ sub = 1)
    | _ => false
  [.mark false] ++ sfs ++ cells s.helm.cells ++ [commit (s.getN Obj.SCHED_EPOCH) 0 t []] ++ staged ++ cells s.helm.staged
    ++ objs.filter (fun r => !on r) ++ flows ++ s.alm.nodes.map (fun n => .node n.idx (some n)) ++ s.pilot.frames.map .admission ++ ctxs
    ++ s.helm.commit.elim [] (fun c => [commit c.epoch c.applyAt c.validated [c.applyAt]]) ++ objs.filter on ++ [.mark true]

/-- Pair formation (R310): PAIRING ends with the partner's first pulses. -/
def State.pairUp (s : State) (q : Pulse) : State :=
  let a := s.getN Obj.CS_PAIRSEL = 1
  let ev (s : State) (st : Nat) : State := s.raiseOn 0x7105 0 0x7410 (be 1 q.member ++ be 1 st ++ fit 8 (s.getO Obj.CS_PARTNER_EUI))
  if q.state = 2 then ev s.toResync 4
  else if q.state = 1 then (if a then ev (s.csGo 2) 2 else ev s.toResync 4)
  else s

/-- The active's part of a pulse (R314, R320, R329). -/
def State.activePulse (s : State) (q : Pulse) (before : Nat) : State :=
  if q.takeover then (s.setQ Obj.CS_OUTPUT_FAULT (.bool true)).yieldTo 3 1
  else if q.state = 2 ∧ before = 0xFF ∧ s.getN Obj.CS_PAIRSEL = 2 then s.yieldTo 4 4
  else
    let s := if q.state = 4 ∧ before ≠ 4 then
        s.fullState.foldl (fun s r => s.stream r) ((s.updCs (fun c => { c with unacked := [] })).backlog)
      else s
    let s := if q.state ≠ 2 then s.bothEnd (before == 2) else s
    if q.revert ∧ q.handover ≠ 0 ∧ q.state = 3 then
      s.updCs (fun c => { c with handover := some { at' := q.handover, revert := true, byProc := false } })
    else
      s.updCs (fun c => { c with handover := c.handover.filter (·.byProc), takeover := c.takeover && q.state != 3 })

/-- STREAM_SENT of the partner is known to be at least `n`: when a number above the acknowledged ones was first known counts as the age of
the messages up to it (R314). -/
def Consort.sawSent (c : Consort) (n : Nat) (now : Count) : Consort :=
  let l := c.sentAt.filter (fun e => decide (c.acked < e.1))
  { c with sentAt := if n ≤ c.acked ∨ n ≤ (l.getLast?.elim 0 (·.1)) then l else l ++ [(n, now)] }

/-- The shadow's part: a handover the active commands, the lag of the stream, and the hold of revert, which a pulse of a window before
the member's entry does not break (R314, R325, R326). -/
def State.shadowPulse (s : State) (q : Pulse) : State :=
  let own := s.cs.handover.elim false (·.revert)
  let ho := if own then s.cs.handover
    else if q.handover ≠ 0 ∧ q.revert = false then some { at' := q.handover, revert := false, byProc := false } else none
  let hold := s.getN Obj.CS_PAIRSEL = 1 ∧ s.getB Obj.CS_OUTPUT_FAULT = false ∧ q.state = 2 ∧ q.sent = s.cs.acked
  let old := decide ((q.counter * windowT : Int) < s.timeAt s.cs.since)
  s.updCs (fun c => { c with handover := ho, holdSince := if hold then some (c.holdSince.getD s.now) else if old then c.holdSince
                               else none }.sawSent q.sent s.now)

/-- An accepted pulse. A partner whose STREAM_SENT has fallen below what was received of it has begun its stream anew (DESIGN CHOICE,
log 41). -/
def State.takePulse (s : State) (q : Pulse) : State :=
  let before := s.getN Obj.CS_PARTNER_STATE
  let s := s.countMissed (q.counter - 1)
  let left := s.cs.unacked.filter (fun m => decide (q.acked < m.seq))
  let s := (s.setN Obj.CS_PARTNER_STATE q.state).updCs (fun c =>
    { c with lastPulse := some s.now, pulse := some q, pulseIn := some q.counter, unacked := left, acked := min c.acked q.sent })
  let s := s.backlog.assertStop
  let st := s.getN Obj.CS_STATE
  let s := if st = 1 then s.pairUp q else if st = 2 then s.activePulse q before else s.shadowPulse q
  s.evaluate

/-- The header of a Consort message: TYPE, VERSION, a member A or B, reserved fields of 0 (R312). -/
def headOk (type : Nat) (o : Octets) : Bool :=
  decide (16 ≤ o.length ∧ fld o 0 1 = type ∧ fld o 1 1 = 1 ∧ (fld o 4 1 = 1 ∨ fld o 4 1 = 2) ∧ fld o 5 3 = 0)

/-- A message read as a pulse (R312, R313): reserved bits are 0 and the state is one of R310. -/
def readPulse (w : PairWire) : Option Pulse :=
  let o := w.octets
  let b := o.drop 16
  let st := fld b 0 1
  if headOk 1 o = false ∨ b.length ≠ 52 ∨ 128 ≤ st ∨ 4 < st % 8 ∨ fld b 1 1 ≠ 0 then none
  else some { src := w.src, pairId := fld o 2 2, member := fld o 4 1, counter := fld o 8 8, authentic := w.tagOk, old := w.old,
              state := st % 8, outFault := bit st 3, epochOk := bit st 4, takeover := bit st 5, revert := bit st 6,
              carriers := fld b 2 2, digest := slice b 4 8, epoch := fld b 12 4, schedDigest := slice b 16 8, sent := fld b 24 8,
              acked := fld b 32 8, handover := ofT64Octets (slice b 40 12) }

/-- An authentic pulse. A partner with the same strap keeps the member in PAIRING. -/
def State.hearPulse (s : State) (q : Pulse) : Res :=
  let u := s.pairMsg q.src q.pairId q.old q.authentic
  let s := u.1
  if u.2 = false ∨ s.cs.pulseIn.elim false (fun n => decide (q.counter ≤ n)) then .next s
  else if q.member = s.getN Obj.CS_PAIRSEL then
    let known := s.cs.pulse.elim false (fun p => p.member == q.member)
    let s := (s.setN Obj.CS_PARTNER_STATE q.state).updCs (fun c =>
      { c with lastPulse := some s.now, pulse := some q, pulseIn := some q.counter })
    .next (if s.getN Obj.CS_STATE = 1 ∧ known = false then s.raiseOn 0x7107 3 0x7410 (be 1 q.member) else s)
  else .next (s.takePulse q)

/-- PULSE_RECEIVED: a message whose layout does not hold is discarded. -/
def execPulseReceived (w : PairWire) (s : State) : Res :=
  match readPulse w with
  | none => .next s
  | some q => s.hearPulse q

/-- PULSE_LOSS: 300 µs without an authentic pulse. -/
def execPulseLoss (s : State) : Res :=
  match s.cs.lastPulse with
  | none => .next s
  | some t =>
    let st := s.getN Obj.CS_STATE
    if s.getN Obj.CS_PARTNER_STATE = 0xFF ∨ s.now < t + 300 * usC then .next s
    else
      let s := s.setN Obj.CS_PARTNER_STATE 0xFF
      if st < 2 then .next s
      else
        let fault := (s.cs.pulseIn.getD 0 + 2) * windowT
        let s := s.dropHandover.updCs (fun c => { c with run := [], holdSince := none })
        let s := s.raiseOn 0x7104 2 0x7410 (be 1 st ++ be 8 (s.cs.pulse.elim 0 (·.acked)))
        if st = 2 then .next ((s.updCs (fun c => { c with bothSince := some (s.now, 0) })).assertStart)
        else .next ((s.takeOver 0 fault).assertStart)

/-- PAIRING_TIMEOUT: 1 s after the release without an authentic pulse. -/
def execPairingTimeout (s : State) : Res :=
  if s.getN Obj.CS_STATE = 1 ∧ s.cs.lastPulse.isNone ∧ s.cs.since + secC ≤ s.now then
    .next (((s.csGo 2).updCs (fun c => { c with bothSince := some (s.now, 0) })).assertStart)
  else .next s

/-! ## The stream (R308, R314) -/

/-- A write of the active. -/
def State.applyStreamed (s : State) (ix sub sel : Nat) (v : Val) : State :=
  let k := Obj.key ix sub
  if k = Obj.CELL_ENTRY then s.stageCell sel v.toOctets
  else if k = Obj.SCHED_DISCARD then s.discardStaged
  else if k = Obj.FLOW_CONFIG then s.configureFlow sel v.toOctets
  else if k = Obj.NODE_NOTE then s.updNode sel (fun x => { x with note := v.toOctets })
  else if k = Obj.NODE_FPW then s.updNode sel (fun x => { x with fpw := v.toInt.toNat })
  else if k = Obj.NODE_FPH then s.updNode sel (fun x => { x with fph := v.toInt.toNat })
  else if 0x4000 ≤ ix ∧ ix < 0x4004 ∧ sub = 1 then
    (if v = .bool true then (if s.getB k then s else s.panStart (ix - 0x4000)) else s.panStopping (ix - 0x4000))
  else if ix = 0x6500 then
    let c := sub - 1
    let s := { s.setP k v with pilot := { s.pilot with ctxs := upd s.pilot.ctxs c (fun _ => { high := 0, seen := [] }) } }
    s.setN (Obj.ADMIT_SEQ_IN c) 0
  else s.applyWrite 0 k v

/-- A table of the active comes into force. -/
def State.putSchedule (s : State) (epoch : Nat) (l : List Slotframe) (c : List (Nat × Cell)) : State :=
  let s := { s with helm := { s.helm with oldCells := [], commit := none, staged := [] } }.tableFrom (l, c)
  ((s.setP Obj.SCHED_EPOCH (.int epoch)).setP Obj.SCHED_DIGEST (.octets (schedDigest epoch l c))).chartGeometry

/-- A procedure start of the active, at its own instant `t`. Node changes come as records of their own. A SCHEDULE_COMMIT of a full state
whose boundaries have passed puts the slotframes and cells that came before it into force at once (R314). -/
def State.applyStart (s : State) (ix : Nat) (v : Val) (t : Tick) (bounds : List Tick) : State :=
  let go := s.procBegin ix (bounds.headD t)
  if ix = Obj.SCHEDULE_COMMIT ∧ bounds = [] then
    s.putSchedule (fld v.toOctets 0 4) s.stagedSfs { s with helm := { s.helm with cells := [] } }.mergedCells
  else if ix = Obj.SCHEDULE_COMMIT then
    let s := go.commitStart v.toOctets
    { s with helm := { s.helm with commit := s.helm.commit.map (fun c => { c with validated := t }) } }
  else if ix = Obj.RX_WINDOW_APPLY then go.windowStart (if v.toTick = 0 then t else v.toTick)
  else if ix = Obj.NODE_REHASH then (if s.alm.rehash.phase ≠ 0 then s else go.rehashBegin true)
  else if ix = Obj.ALMANAC_CHECKPOINT then (if s.alm.ckpt.isSome then go else go.ckptStart)
  else s

/-- What a node record of the active carries, the entry of R198 and the checkpoint fields of R231, over what the member's own
extended record holds. Instants of COUNT are each member's own. -/
def Node.merge (n m : Node) (now : Count) : Node :=
  { n with lastDigest := m.lastDigest, misses := m.misses, lastOffset := m.lastOffset, joined := m.joined,
           created := m.created, upFrames := m.upFrames, downFrames := m.downFrames, fpw := m.fpw, fph := m.fph,
           closed := m.closed, tokens := m.tokens, stamp := m.stamp, lastRef := m.lastRef, note := m.note,
           shortClear := if n.neighbour || n.short.isNone then none else some (m.shortClear.getD now),
           resync := m.resync, response := m.response }

/-- A node of the active: its entry, and the checkpoint fields. A new one is held while a rehash holds insertions (R204–R206). -/
def State.applyNode (s : State) (i : Nat) (n : Option Node) : State :=
  let have' := s.node? i
  match n with
  | none =>
    if have'.isSome then (s.removeNode i).removalDone i
    else { s with alm := { s.alm with heldNodes := s.alm.heldNodes.filter (fun m => m.idx != i) } }
  | some n =>
    match have' with
    | some _ => (s.updNode i (fun m => Node.merge n m s.now)).nodeChanged i
    | none =>
      let n : Node := { fromCheckpoint n true with
        created := s.now, tokens := s.getN Obj.PA_NODE_FPW * 65536, stamp := s.now,
        shortClear := if n.neighbour || n.short.isNone then none else some s.now }
      if s.alm.rehash.phase ≤ 1 then s.enterStreamed n
      else if s.alm.heldNodes.all (fun m => m.idx != i) ∧ insertQueue ≤ s.alm.heldNodes.length then s.seatRefused n.eui
      else { s with alm := { s.alm with heldNodes := s.alm.heldNodes.filter (fun m => m.idx != i) ++ [n] } }

/-- A frame leaves the ledger with its reservations and its wheel entries. -/
def State.dropAdmitted (s : State) (ref : Nat) : State :=
  ((s.setFrames (s.pilot.frames.filter (fun x => x.ref != ref))).dutyDropAll ref).dropWheel (fun w => w.kind ≤ 1 && w.key == ref)

/-- A frame that the member holds by its own decision changes its reference. -/
def State.rekey (s : State) (a b : Nat) : State :=
  let wheel := fun (w : Wheel) => if w.kind ≤ 1 ∧ w.key = a then { w with key := b } else w
  let p := s.pilot
  { s with
    pilot := { p with frames := p.frames.map (fun f => if f.ref = a then { f with ref := b } else f),
                      coarse := p.coarse.map wheel, fine := p.fine.map wheel,
                      answered := p.answered.map (fun x => if x.ref = a then { x with ref := b } else x) },
    helm := { s.helm with due := s.helm.due.map (fun d => if d.ref = a then { d with ref := b } else d),
                          duty := s.helm.duty.map (fun d =>
                            { d with resv := d.resv.map (fun e => if e.ref = a then { e with ref := b } else e) }) } }

/-- The frame that the member holds by its own decision on a request; a pair of CONTEXT and REQ_ID may come again after 10 s (R254). -/
def State.ownFrame (s : State) (ctx reqId : Nat) : Option Frame :=
  match s.remembered ctx reqId with
  | none => none
  | some a => if a.own ∧ a.detail = 0 then s.frame? a.ref else none

/-- The active's decision on a request (R22, R254, R267): compared with the member's own, whose frame it replaces, and remembered
in its place. -/
def State.adoptDecision (s : State) (ctx reqId detail ref : Nat) (promise : Option Tick) (l : List Inst) : State :=
  let s := (s.ownFrame ctx reqId).elim s (fun f => s.dropAdmitted f.ref)
  let a : Answered := { ctx := ctx, reqId := reqId, result := detailRc detail, detail := detail, ref := ref, promise := promise,
                        insts := l, at' := s.now, own := false }
  match s.remembered ctx reqId with
  | none => s.remember a
  | some x =>
    let s := s.admitDiffers (x.detail == detail && x.insts == l)
    let put := fun (y : Answered) => if y = x then { a with own := y.own, at' := y.at' } else y
    { s with pilot := { s.pilot with answered := s.pilot.answered.map put } }

/-- An admission of the active (R22, R267): adopted, with its reference and reservations. Tokens that the member's own decision has
taken are not taken twice. -/
def State.adopt (s : State) (f : Frame) : State :=
  let had := (s.ownFrame f.ctx f.reqId).isSome
  let s := if f.flow = 0 then s else s.adoptDecision f.ctx f.reqId 0 f.ref (some f.promise) f.insts
  let n := max (s.getN Obj.NEXT_ADMISSION_REF) (f.ref + 1)
  let s := if s.pilot.frames.any (fun x => x.ref == f.ref && x.flow != 0) then (s.rekey f.ref n).setN Obj.NEXT_ADMISSION_REF (n + 1)
    else (s.dropAdmitted f.ref).setN Obj.NEXT_ADMISSION_REF n
  (if had ∧ f.flow ≠ 0 then s else s.takeTokens f s.now).place { f with admitted := s.now }

/-- A full state transfer begins: what the member held is replaced by what comes. An object keeps its value until it is written, and at
the end takes its default where it was not. -/
def State.beginFull (s : State) : State :=
  let s := s.pilot.frames.foldl (fun s f => s.dutyDropAll f.ref) s
  let s := (s.setFrames []).dropWheel (fun w => w.kind ≤ 1)
  let s := { s with alm := { s.alm with nodes := [], table := { s.alm.table with slots := [], stash := [] }, heldNodes := [],
                                          rehash := { s.alm.rehash with layout := [] } },
                    helm := { s.helm with due := [], staged := [] } }
  let stale := (s.obj.map Prod.fst).filter pairWrites
  s.updCs (fun c => { c with full := 1, resyncRecs := 0, reserved := [], stale := stale })

/-- A full state transfer ends: the objects that it did not write take their defaults. -/
def State.endFull (s : State) : State :=
  let s := s.cs.stale.foldl (fun s k => s.applyStreamed (k / 256) (k % 256) 0 (Obj.default k)) s
  s.updCs (fun c => { c with full := 2, stale := [] })

/-- What the active did at Sextant time `t`, done as of that instant (R308). -/
def State.asOf (s : State) (t : Tick) (f : State → State) : State :=
  { f { s with now := s.now - (s.time - t) / nsT } with now := s.now }

/-- A plan record comes: windows of it that are over already become unknown too, and count (R317). -/
def State.takePlan (s : State) (r : PlanRec) : State :=
  let hit := fun (w : Window) => !w.unknown && r.lateFor w.k
  let n := (s.cs.windows.filter hit).length
  (s.bumpBy Obj.CS_PLAN_LATE n).updCs (fun c => { c with plans := c.plans ++ [r], windows := c.windows.map (fun w =>
    if hit w then { w with unknown := true } else w) })

/-- A stream record (R314). -/
def State.applyRec (s : State) (r : StreamRec) : State :=
  let s := s.updCs (fun c => { c with resyncRecs := c.resyncRecs + 1 })
  match r with
  | .write ix sub sel v t =>
    (s.updCs (fun c => { c with stale := c.stale.filter (fun k => k != Obj.key ix sub) })).asOf t (fun s => s.applyStreamed ix sub sel v)
  | .start ix v t b => s.asOf t (fun s => s.applyStart ix v t b)
  | .node i n => s.applyNode i n
  | .admission f => s.adopt f
  | .refusal ctx reqId d p => s.adoptDecision ctx reqId d 0 p []
  | .report ref st => s.report ref st s.time
  | .plan t l => s.takePlan { start := t, items := l, came := s.time }
  | .reserve ctx n =>
    let top := max n ((s.cs.reserved.find? (fun e => e.1 == ctx)).elim 0 (·.2))
    s.updCs (fun c => { c with reserved := (ctx, top) :: c.reserved.filter (fun e => e.1 != ctx) })
  | .mark false => s.beginFull
  | .mark true => s.endFull

/-- A message in its turn: in RESYNC nothing counts before the mark that begins the full state. -/
def State.applyMsg (s : State) (m : StreamMsg) : State :=
  let s := s.updCs (fun c => { c with acked := m.counter })
  m.recs.foldl (fun s r => if s.getN Obj.CS_STATE = 4 ∧ s.cs.full = 0 ∧ r ≠ .mark false then s else s.applyRec r) s

/-- Messages that waited for one now applied follow it. -/
def State.drainWaiting (s : State) : Nat → State
  | 0 => s
  | n + 1 =>
    match s.cs.waiting.find? (fun m => m.counter == s.cs.acked + 1) with
    | none => s
    | some m => ((s.updCs (fun c => { c with waiting := c.waiting.filter (fun x => x.counter != m.counter) })).applyMsg m).drainWaiting n

/-- A message read as a stream message (R312, R314): records of at most 8,192 octets. -/
def readStream (w : PairWire) (recs : List StreamRec) : Option StreamMsg :=
  let o := w.octets
  if headOk 2 o = false ∨ recs = [] ∨ 8192 < (recs.map (fun r => (recOctets r).length)).sum then none
  else some { src := w.src, pairId := fld o 2 2, member := fld o 4 1, counter := fld o 8 8, authentic := w.tagOk, old := w.old,
              recs := recs }

/-- A stream message that has been read. -/
def State.hearStream (s : State) (m : StreamMsg) : Res :=
  let u := s.pairMsg m.src m.pairId m.old m.authentic
  let s := u.1
  let st := s.getN Obj.CS_STATE
  if u.2 = false ∨ m.member = s.getN Obj.CS_PAIRSEL ∨ (st ≠ 3 ∧ st ≠ 4) then .next s
  else
    let begins := st = 4 ∧ s.cs.full = 0 ∧ m.recs.head? = some (.mark false) ∧ s.cs.acked < m.counter
    if begins ∨ m.counter = s.cs.acked + 1 then
      let s := s.applyMsg m
      let s := s.drainWaiting s.cs.waiting.length
      .next (s.updCs (fun c => c.sawSent 0 s.now))
    else if m.counter ≤ s.cs.acked ∨ s.cs.waiting.any (fun x => x.counter == m.counter) then .next s
    else .next (s.updCs (fun c => { c with waiting := c.waiting ++ [m] }.sawSent m.counter s.now))

/-- STREAM_RECEIVED. -/
def execStreamReceived (x : StreamWire) (s : State) : Res :=
  match readStream x.wire x.recs with
  | none => .next s
  | some m => s.hearStream m

/-- STREAM_RESEND: every message unacknowledged 500 µs after it was sent. -/
def execStreamResend (s : State) : Res :=
  if s.getN Obj.CS_STATE ≠ 2 then .next s
  else
    let old := fun (m : SentMsg) => decide (m.last + 500 * usC ≤ s.now)
    let s' := (s.cs.unacked.filter old).foldl (fun s m => s.sendStream m.seq m.recs) s
    .next (s'.updCs (fun c => { c with unacked := c.unacked.map (fun m => if old m then { m with last := s.now } else m) }))

/-- 50 ms, the age at which an unacknowledged stream is given up, and 16 MiB, its size. -/
def streamAge : Count := 50 * msC
def streamBytes : Nat := 16777216

/-- The octets of a stream message as it was sent: header, records and tag. -/
def StreamMsg.size (m : StreamMsg) : Nat := 24 + (m.recs.map (fun r => (recOctets r).length)).sum

/-- STREAM_RESYNC: the shadow of a stream whose oldest unacknowledged message is 50 ms old, or of which it holds more than 16 MiB
unacknowledged, goes to RESYNC; the active gives up one it cannot have acknowledged and
sends its full state when the partner shows RESYNC. -/
def execStreamResync (s : State) : Res :=
  let st := s.getN Obj.CS_STATE
  if st = 3 ∧ (s.cs.sentAt.head?.elim false (fun e => decide (e.2 + streamAge ≤ s.now))
      ∨ streamBytes < (s.cs.waiting.map StreamMsg.size).sum) then .next s.toResync
  else if st = 2 ∧ (streamBytes < (s.cs.unacked.map (·.octets)).sum
      ∨ s.cs.unacked.head?.elim false (fun m => decide (m.first + streamAge ≤ s.now))) then
    .next ((s.updCs (fun c => { c with unacked := [] })).backlog)
  else .next s

/-- RESYNC_DONE: the full state is received and the stream current. -/
def execResyncDone (s : State) : Res :=
  let current := s.cs.pulse.elim false (fun q => decide (q.sent ≤ s.cs.acked) && q.state == 2)
  if s.getN Obj.CS_STATE = 4 ∧ s.cs.full = 2 ∧ current then
    let ms := (s.now - s.cs.since) / msC
    .next ((s.csGo 3).raiseOn 0x7106 0 0x7410 (be 4 ms ++ be 4 s.cs.resyncRecs))
  else .next s

/-! ## Revert and handover (R322, R325, R326, R331) -/

/-- H: the first boundary of the lowest-numbered enabled slotframe at least 10 ms ahead. -/
def State.handoverAt (s : State) : Tick :=
  match (List.range 64).find? s.sfOn with
  | none => s.time + 10 * msT
  | some f => s.boundaryOf (s.sf f) (s.time + 10 * msT)

/-- REVERT_START. -/
def execRevertStart (s : State) : Res :=
  let hold := s.getN Obj.CS_REVERT_HOLD
  if s.getN Obj.CS_PAIRSEL = 1 ∧ s.getN Obj.CS_STATE = 3 ∧ s.getB Obj.CS_OUTPUT_FAULT = false ∧ hold ≠ 0
      ∧ s.cs.handover.isNone ∧ s.cs.holdSince.elim false (fun t => decide (t + hold * secC ≤ s.now)) then
    .next (s.updCs (fun c => { c with handover := some { at' := s.handoverAt, revert := true, byProc := false } }))
  else .next s

/-- HANDOVER_INSTANT: at H the shadow becomes active and the active becomes the shadow. -/
def execHandoverInstant (s : State) : Res :=
  match s.cs.handover with
  | none => .next s
  | some h =>
    let st := s.getN Obj.CS_STATE
    if s.time < h.at' then .next s
    else if st = 3 then .next (s.takeOver (if h.revert then 3 else 4) h.at')
    else if st = 2 then
      let s := if h.byProc then (s.updCs (fun c => { c with handover := none })).procDone Obj.CONSORT_HANDOVER .ok else s
      let s := s.yieldTo 3 3
      .next (if s.getN Obj.CS_PAIRSEL = 1 then s.updCs (fun c => { c with holdSince := some s.now }) else s)
    else .next s

/-- CONSORT_HANDOVER. -/
def execConsortHandover (r : Req) (w : Wire) (s : State) : Res :=
  .next (s.start r Obj.CONSORT_HANDOVER w
    (fun s _ v =>
      if v.toInt ≠ 0 then some .range
      else if s.getN Obj.CS_STATE ≠ 2 ∨ s.getN Obj.CS_PARTNER_STATE ≠ 3 ∨ s.cs.pulse.elim true (·.outFault) then some .stateConflict
      else none)
    (fun s _ => s.handoverAt)
    (fun s _ _ => s.updCs (fun c => { c with handover := some { at' := s.handoverAt, revert := false, byProc := true } })))

/-- CS_FAULT_CLEAR. -/
def execCsFaultClear (r : Req) (w : Wire) (s : State) : Res :=
  .next (s.write r 0x7400 9 w (fun _ _ _ => none) (fun s _ _ => s.setP Obj.CS_OUTPUT_FAULT (.bool false)))

end Sys2Proof.Machine
end

