-- ==== Sys2Proof/Machine/Sextant.lean ====
section
/-! DEFINITION. The commands of chapter 10: Sextant network time and the Chronometer calendar. -/
namespace Sys2Proof.Machine

/-! ## PTP (R339–R341) -/

/-- The order of the best-master comparison on data sets, smaller first. -/
def rankLt : List Nat → List Nat → Bool
  | [], _ => false
  | _ :: _, [] => false
  | a :: x, b :: y => decide (a < b) || (a == b && rankLt x y)

/-- Announce `a` is better than `b`: of one grandmaster the nearer, of two the one with the better data set. -/
def annBetter (a b : Announce) : Bool :=
  if a.grand = b.grand then decide (a.steps < b.steps) || (a.steps == b.steps && decide (num a.ident < num b.ident))
  else rankLt a.rank b.rank || (a.rank == b.rank && decide (num a.grand < num b.grand))

/-- The masters whose Announce has not timed out, on ports that are UP. -/
def State.ptpMasters (s : State) : List Master :=
  s.sx.masters.filter (fun m => s.getN (Obj.TT_LINK_STATE m.port) == 4 &&
    decide (s.now < m.heard + s.getN Obj.PTP_ANNOUNCE_TIMEOUT * logNs m.ann.logInt))

/-- The port states for the selected master: the port with the smaller stepsRemoved, or TA when they are equal, leads. A port that lost
it by no Sync does not hold it, and a PASSIVE port that is left alone leads from its next measurement. -/
def State.ptpRoles (s : State) (a : Announce) : State :=
  let heard := fun (p : Nat) => s.ptpMasters.find? (fun m => m.port == p && m.ann.ident == a.ident && !(nth s.sx.ptp p).silent)
  let lead := match heard 0, heard 1 with
    | some x, some y => if y.ann.steps < x.ann.steps then 1 else 0
    | none, some _ => 1
    | _, none => 0
  let slave := 0 < s.sx.syncs ∧ s.getN Obj.PTP_QUALIFY ≤ s.sx.syncs
  let s := [0, 1].foldl (fun s p =>
    let was := s.getN (Obj.TT_PTP_STATE p)
    if s.getN (Obj.TT_LINK_STATE p) ≠ 4 then s
    else
      let st := if (heard p).isNone then 4 else if p ≠ lead ∨ (was = 7 ∧ (heard (1 - p)).isNone) then 7 else if slave then 9 else 8
      let s := s.setN (Obj.TT_PTP_STATE p) st
      if was < 7 ∧ 7 ≤ st then s.updPtp p (fun x => { x with since := some s.now }) else s) s
  s.setN Obj.PTP_MASTER_PORT (if (heard 0).isNone ∧ (heard 1).isNone then 0xFF else lead)

/-- A port that lost the selected master by no Sync hears one again. -/
def State.ptpHeard (s : State) (p : Nat) : State :=
  match s.sx.selected with
  | none => s
  | some a =>
    if (nth s.sx.ptp p).silent ∧ s.getN (Obj.TT_PTP_STATE p) < 7 then
      (s.updPtp p (fun x => { x with silent := false })).ptpRoles a
    else s

/-- PTP_SYNC_MEASUREMENT: a Sync of the selected master, received where it stands in its interleave group, with its origin and the
corrections on its way, at an interval of 2^`logInt` s, logInt −7 to +1. The SLAVE port's measurement feeds the servo; PTP_QUALIFY
Syncs make a port SLAVE. -/
def execPtpSyncMeasurement (p : Nat) (ident : Octets) (m : SyncTimes) (logInt : Int) (s : State) : Res :=
  let s' := s.ptpHeard p
  if 2 ≤ p ∨ logInt < -7 ∨ 1 < logInt ∨ s.isOn 3 = false ∨ s.sx.selected.elim true (fun a => a.ident != ident) then .next s
  else if s'.getN (Obj.TT_PTP_STATE p) < 7 then .next s'
  else
    let s := s'
    let mean := s.ptpMean p
    let diff : Int := (s.mdiRx p m.group m.pos : Int) - m.origin
    let o := diff / 65536 - mean
    let s := s.updPtp p (fun x => { x with lastSync := some s.now, diff := diff, syncInt := logNs logInt, since := some s.now })
    let st := s.getN (Obj.TT_PTP_STATE p)
    if st = 7 ∧ 8 ≤ s.getN (Obj.TT_PTP_STATE (1 - p)) then .next s
    else
      let slave := s.getN Obj.PTP_QUALIFY ≤ s.sx.syncs
      if st = 9 ∨ (st = 7 ∧ slave) then
        let s := ((s.setN (Obj.TT_PTP_STATE p) 9).setN Obj.PTP_MASTER_PORT p).setI Obj.PTP_OFFSET o
        let s := s.setN Obj.PTP_MEAN_DELAY (min 0xFFFFFFFF mean)
        .next (if s.getN Obj.SX_SOURCE = 1 then s.measure o logInt else s)
      else
        let n := s.sx.syncs + 1
        let s := (s.updSx (fun x => { x with syncs := n })).setN Obj.PTP_MASTER_PORT p
        if s.getN Obj.PTP_QUALIFY ≤ n then
          let s := s.setN (Obj.TT_PTP_STATE p) 9
          .next (if s.getN Obj.SX_SOURCE = 1 then s.sxQualified else s)
        else .next (s.setN (Obj.TT_PTP_STATE p) 8)

/-- PTP_ANNOUNCE: of the domain, on a port that is UP. No selection is made until firmware attaches after a reset. -/
def execPtpAnnounce (p : Nat) (a : Announce) (s : State) : Res :=
  if 2 ≤ p ∨ a.logInt < -3 ∨ 3 < a.logInt ∨ s.isOn 3 = false ∨ s.getN (Obj.TT_LINK_STATE p) ≠ 4 ∨ a.domain ≠ s.getN Obj.PTP_DOMAIN then
    .next s
  else
    let m : Master := { ann := a, port := p, heard := s.now }
    let s := s.updSx (fun x => { x with masters := m :: x.masters.filter (fun y => !(y.port == p && y.ann.ident == a.ident)) })
    if s.mg.busy then .next s
    else
      let best := s.ptpMasters.foldl (fun (b : Announce) y => if annBetter y.ann b then y.ann else b) a
      let old := s.sx.selected
      if old.elim false (fun x => x.ident == best.ident && x.grand == best.grand) then
        let s := (s.updSx (fun x => { x with selected := some best })).setI Obj.SX_UTC_OFFSET best.utc
        .next (s.ptpRoles best)
      else
        let changed := old.elim true (fun x => x.grand != best.grand)
        let s := s.updSx (fun x => { x with selected := some best, syncs := if changed then 0 else x.syncs })
        let s := ((s.set Obj.PTP_MASTER_ID (.octets (fit 10 best.ident))).setI Obj.SX_UTC_OFFSET best.utc).ptpRoles best
        let s := s.raiseOn 0x7203 1 0x8010
          (fit 10 best.ident ++ be 1 (s.getN Obj.PTP_MASTER_PORT) ++ be 1 best.clockClass ++ beI 2 best.utc)
        .next (if changed ∧ old.isSome ∧ s.getN Obj.SX_SOURCE = 1 then s.sxLost 4 else s)

/-- PTP_MASTER_LOSS: no Announce for PTP_ANNOUNCE_TIMEOUT Announce intervals, or no Sync for 3 Sync intervals. -/
def execPtpMasterLoss (p : Nat) (s : State) : Res :=
  let deaf := !s.ptpMasters.any (fun m => m.port == p && s.sx.selected.elim false (fun a => a.ident == m.ann.ident))
  if 2 ≤ p ∨ s.isOn 3 = false ∨ s.getN (Obj.TT_PTP_STATE p) < 7 ∨ (s.ptpSilent p || deaf) = false then .next s
  else .next (s.ptpPortLoss p 4)

/-- A request goes out, 0 Delay_Req or 1 Pdelay_Req, over PTP_TRANSPORT in PTP_DOMAIN, stamped at egress. -/
def State.askDelay (s : State) (p kind : Nat) : State :=
  let t := s.mdiTx p
  (t.2.updPtp p (fun x => { x with asked := some t.1, askedAt := some s.now })).emit
    (.line 8 p [kind, s.getN Obj.PTP_TRANSPORT, s.getN Obj.PTP_DOMAIN, t.1])

/-- DELAY_REQ_SEND (R340): a Delay_Req to the master the port measures at its logMinDelayReqInterval, or a Pdelay_Req to its peer at
PTP_PDELAY_LOG. -/
def execDelayReqSend (p : Nat) (s : State) : Res :=
  let peer := s.getN (Obj.TT_PTP_DELAY_MECH p) = 1
  let x := nth s.sx.ptp p
  let gap := logNs (if peer then s.getI Obj.PTP_PDELAY_LOG else x.askLog)
  if 2 ≤ p ∨ s.isOn 3 = false ∨ s.getN (Obj.TT_LINK_STATE p) ≠ 4 ∨ x.askedAt.elim false (fun t => decide (s.now < t + gap)) then
    .next s
  else if peer then .next (s.askDelay p 1)
  else if s.getN (Obj.TT_PTP_STATE p) < 7 then .next s
  else .next (s.askDelay p 0)

/-! ## PPS (R342, R343) -/

/-- An absolute time with its uncertainty (R363): the step, SX_TIME_VALID and U0. -/
def State.setAbsolute (s : State) (t : Tick) (unc : Nat) : State :=
  ((s.stepTime ((t : Int) - s.timeAt s.now) 1).setB Obj.SX_TIME_VALID true).updSx (fun x =>
    { x with u0 := unc, since := s.now })

/-- PPS_IN_EDGE: an edge of the polarity of SX_PPS_IN_EDGE is stamped; with source 2 it is a measurement, or takes the time
that SX_SET gave. -/
def execPpsInEdge (rising : Bool) (s : State) : Res :=
  if s.isOn 3 = false ∨ (s.getN Obj.SX_PPS_IN_EDGE == 0) ≠ rising then .next s
  else
    let t := s.time
    let s := s.set Obj.SX_PPS_IN_STAMP (t64 t)
    let spaced := s.sx.ppsLast.elim false (fun l => decide (((t : Int) - l - secT).natAbs ≤ 100 * usT))
    let n := if spaced then s.sx.ppsEdges + 1 else 1
    let s := s.updSx (fun x => { x with ppsEdges := n, ppsLast := some t, ppsLastAt := some s.now })
    if s.getN Obj.SX_SOURCE ≠ 2 then .next s
    else
      let pend := s.sx.setPending
      let s : State := match pend with
        | some (sec, unc) => (s.setAbsolute (sec * secT) unc).updSx (fun x => { x with setPending := none })
        | none =>
          let r := t % secT
          s.measure (if 2 * r ≤ secT then ((r : Nat) : Int) / 65536 else ((r : Int) - secT) / 65536) 0
      .next (if 4 ≤ n then s.sxQualified else s)

/-- PPS_IN_LOST: no edge for 1.5 s with source 2. -/
def execPpsInLost (s : State) : Res :=
  match s.sx.ppsLastAt with
  | none => .next s
  | some t =>
    if s.isOn 3 = false ∨ s.getN Obj.SX_SOURCE ≠ 2 ∨ s.now < t + 1500 * msC then .next s
    else
      let s := s.updSx (fun x => { x with ppsEdges := 0, ppsLastAt := none, ppsLast := none })
      .next ((s.raiseOn 0x7206 2 0x8000 (be 4 ((s.now - t) / msC))).sxLost 3)

/-- An edge has been produced for a second. -/
def Sextant.ppsHas (x : Sextant) (sec : Nat) : Bool := x.ppsDone.any (fun r => decide (r.1 ≤ sec ∧ sec ≤ r.2))

/-- The seconds produced, with one more. -/
def ppsAdd (sec : Nat) : List (Nat × Nat) → List (Nat × Nat)
  | [] => [(sec, sec)]
  | (a, b) :: t => if sec = b + 1 then (a, sec) :: t else (sec, sec) :: (a, b) :: t

/-- PPS_OUT_EDGE: the pin rises at the integer second that time has just reached, and falls after SX_PPS_WIDTH. A second that a step
brings round again gets no second edge. -/
def execPpsOutEdge (s : State) : Res :=
  let sec := s.time / secT
  if s.isOn 3 = false then .next s
  else if s.sx.ppsOut then
    if s.sx.ppsRise + s.getN Obj.SX_PPS_WIDTH * msC ≤ s.now ∨ s.ppsMay = false then
      .next (s.updSx (fun x => { x with ppsOut := false }))
    else .next s
  else if s.ppsMay ∧ s.timeAt (s.now - 1) < (sec * secT : Nat) ∧ s.sx.ppsHas sec = false then
    .next (s.updSx (fun x => { x with ppsOut := true, ppsRise := s.now, ppsDone := ppsAdd sec x.ppsDone }))
  else .next s

/-! ## Writes of Sextant (R337, R363) -/

/-- SX_SOURCE_WRITE: the state of R338 is entered; a set that waits for a PPS_IN edge lapses with that source. -/
def execSxSourceWrite (r : Req) (w : Wire) (s : State) : Res :=
  .next (s.write r 0x8000 7 w (fun _ _ _ => none) (fun s _ v =>
    let s := (s.setP Obj.SX_SOURCE v).updSx (fun x => { x with setPending := none })
    s.sxGo 3 7 s.timeUnc))

/-- SX_RATE_WRITE: a rate change at one counter value. -/
def execSxRateWrite (r : Req) (w : Wire) (s : State) : Res :=
  .next (s.write r 0x8000 3 w (fun _ _ _ => none) (fun s _ v => s.setRate v.toInt))

/-- The mode octet of SX_SET. -/
def setMode (w : Wire) : Nat :=
  match w with
  | .bytes o => fld o 0 1
  | _ => 0

/-- Reserved modes, nanoseconds that are none, and with SX_SOURCE 2 a time that is no integer second (R7, R332, R363). -/
def State.sxSetBad (s : State) (o : Octets) : Option Rc :=
  if 1 < fld o 0 1 then some .range
  else if fld o 0 1 = 0 ∧ (999999999 < fld o 10 4 ∨ (s.getN Obj.SX_SOURCE = 2 ∧ (fld o 10 4 ≠ 0 ∨ fld o 14 2 ≠ 0))) then
    some .range
  else none

/-- SX_SET_ABSOLUTE: the time of the instant of effect, or with SX_SOURCE 2 of the next PPS_IN edge. -/
def execSxSetAbsolute (r : Req) (w : Wire) (s : State) : Res :=
  if setMode (s.itemSoFar r Obj.SX_SET w) = 1 then .next s
  else .next (s.write r 0x8000 8 w (fun s _ v => s.sxSetBad v.toOctets) (fun s _ v =>
    let o := v.toOctets
    if s.getN Obj.SX_SOURCE = 2 then s.updSx (fun x => { x with setPending := some (fld o 4 6, fld o 16 4) })
    else s.setAbsolute (ofT64Octets (slice o 4 12)) (fld o 16 4)))

/-- SX_SET_RELATIVE: a step in ns. -/
def execSxSetRelative (r : Req) (w : Wire) (s : State) : Res :=
  if setMode (s.itemSoFar r Obj.SX_SET w) ≠ 1 then .next s
  else .next (s.write r 0x8000 8 w (fun s _ v => s.sxSetBad v.toOctets) (fun s _ v =>
    s.stepTime (numI (slice v.toOctets 4 8) * 65536) 1))

/-! ## The slow counter and reconciliation (R346–R349) -/

/-- The pair register latches this tick. -/
def State.latchPair (s : State) : State :=
  (s.updSx (fun x => { x with pair := { x.pair with tick := x.slow, count := s.now } })).mirrorSx

/-- SLOW_TICK_LATCH: the slow counter counts, the Chronometer's sub-seconds with it, and while the PLL runs the pair register
latches. A tick shows that the crystal runs. -/
def execSlowTickLatch (s : State) : Res :=
  let s := s.updSx (fun x => { x with slow := (x.slow + 1) % 2 ^ 48, calRun := true })
  let s : State :=
    if s.calCounts = false then s
    else if 0 < s.sx.withheld then s.updSx (fun x => { x with withheld := x.withheld - 1 })
    else s.setN Obj.CAL_SUBSEC (min 32767 (s.getN Obj.CAL_SUBSEC + 1))
  if s.sx.pll then .next ((s.updSx (fun x => { x with runTicks := x.runTicks + 1 })).latchPair) else .next s

/-- SLOW_RATIO_MEASURE: COUNT nanoseconds per tick over a complete run of 32,768 ticks. -/
def execSlowRatioMeasure (s : State) : Res :=
  if s.sx.pll = false ∨ s.sx.runTicks < 32768 then .next s
  else
    let ratio := (s.sx.pair.count - s.sx.runStart) * 65536 / s.sx.runTicks
    let s := s.setN Obj.SX_SLOW_RATIO (ratio % 2 ^ 32)
    .next (s.updSx (fun x => { x with ratioMeasured := true, runTicks := 0, runStart := x.pair.count }))

/-- The PLL runs: a new run of ticks begins at this one. -/
def State.pllRuns (s : State) : State :=
  (s.updSx (fun x => { x with pll := true, runTicks := 0, runStart := s.now, modeChanged := false, oscStopped := false,
                              aonLost := false, first := false })).latchPair

/-- AON_LOST and first start (R349): time goes on from what Anchor saved, as if the outage had lasted no time. -/
def State.resumeSaved (s : State) : State :=
  let p := s.sx.saved
  let cause := if s.sx.first then 0 else 1
  let old := s.now
  let s := { s with now := p.count, sx := { s.sx with offset := p.offset, base := p.base, ratioMeasured := false } }.rebinDuty old
  let s := s.updSx (fun x => { x with f := freqOf p.rate })
  let s := ((s.setI Obj.SX_RATE p.rate).setN Obj.SX_SLOW_RATIO 2000000000).setB Obj.SX_TIME_VALID false
  (s.raiseOn 0x7205 2 0x8000 (be 1 cause)).sxGo 3 6 0xFFFFFFFF

/-- SEXTANT_RECONCILE: the first slow tick after the PLL runs again, `ticks` having passed since the last one latched here.
COUNT is advanced by the measured outage and RECKONING entered with the uncertainty grown. In an outage of STANDBY or OFF the device was
off (R191). -/
def execSextantReconcile (ticks : Nat) (s : State) : Res :=
  if s.sx.pll ∨ s.rst.pll = false then .next s
  else
    let s := s.updSx (fun x => { x with slow := (x.slow + ticks) % 2 ^ 48 })
    if s.sx.aonLost ∨ s.sx.first then .next (s.resumeSaved.pllRuns)
    else
      let n := (s.sx.slow + 2 ^ 48 - s.sx.pair.tick) % 2 ^ 48
      let ns16 := n * s.getN Obj.SX_SLOW_RATIO
      let adv := (2 * ns16 + 65536) / 131072
      let ppm := if s.sx.ratioMeasured then 20 else 100
      let growth := max 30600 (ns16 * ppm / 65536000000)
      let unc := min 0xFFFFFFFF (s.timeUnc + growth)
      let m := s.sx.pair
      let cause := if s.sx.modeChanged then 3 else s.sx.stopCause
      let s := { s with now := m.count + adv, sx := { s.sx with offset := m.offset, base := m.base } }
      let s : State := if s.sx.stopCause = 0 then { s with helm := { s.helm with away := (m.count, s.now) :: s.helm.away } } else s
      let s := s.setI Obj.SX_RATE m.rate
      let s : State := if s.sx.modeChanged then (s.setRate 0).updSx (fun x => { x with f := 0 }) else s
      let s := s.sxGo 3 5 unc
      let s := s.raiseOn 0x7204 0 0x8000 (be 6 n ++ be 8 adv ++ be 4 (min 0xFFFFFFFF growth) ++ be 1 cause)
      let s : State :=
        if s.sx.oscStopped then (s.setB Obj.SX_TIME_VALID false).raiseOn 0x7205 2 0x8000 (be 1 2) else s
      .next s.pllRuns

/-! ## The Chronometer (R351–R359) -/

/-- CAL_CARRY: a carry of the crystal's sub-seconds. -/
def execCalCarry (s : State) : Res := if s.calCounts then .next (s.calSecond 0) else .next s

/-- CAL_OSC_STOPPED: four consecutive crystal periods are missing; the calendar stands until the crystal ticks again. -/
def execCalOscStopped (s : State) : Res :=
  let s := s.updSx (fun x => { x with calRun := false })
  if s.getB Obj.CAL_OSF then .next s else .next (s.setOsf 1)

/-- CAL_TRIM_APPLY: 2^20 crystal cycles have passed; counts are added, which can carry, or withheld. -/
def execCalTrimApply (s : State) : Res :=
  let n := if bit (s.getN Obj.TRIM_STATUS) 0 then 0 else s.getI Obj.CAL_TRIM
  if s.calCounts = false then .next s
  else if n < 0 then .next (s.updSx (fun x => { x with withheld := x.withheld + n.natAbs }))
  else
    let sub := s.getN Obj.CAL_SUBSEC + n.toNat
    if sub < 32768 then .next (s.setN Obj.CAL_SUBSEC sub) else .next (s.calSecond (sub - 32768))

/-- The trim that the slow ratio and RATE give (R358). -/
def trimOf (ratio : Nat) (rate : Int) : Int :=
  clampI (-512) 511 (roundDiv (((ratio : Int) * (2 ^ 40 + rate) - 2 ^ 41 * 1000000000) * 2 ^ 20) (2 ^ 41 * 1000000000))

/-- CAL_TRIM_AUTO_UPDATE: every 1,024 s while LOCKED; journaled as a write by session 0. -/
def execCalTrimAutoUpdate (s : State) : Res :=
  if s.getB Obj.CAL_TRIM_AUTO = false ∨ s.getN Obj.SX_STATE ≠ 2 ∨ s.now < s.sx.trimAt + 1024 * secC then .next s
  else
    let v : Val := .int (trimOf (s.getN Obj.SX_SLOW_RATIO) (s.getI Obj.SX_RATE))
    let s := s.updSx (fun x => { x with trimAt := s.now })
    let s := (s.lbDrain).journal 1 0 0x2400 0x0E .ok (s.get Obj.CAL_TRIM).cbor v.cbor
    .next (s.setP Obj.CAL_TRIM v)

/-- CAL_SET: the calendar as a whole, or CALENDAR_INVALID for an impossible date. -/
def execCalSet (r : Req) (w : Wire) (s : State) : Res :=
  .next (s.write r 0x2400 9 w
    (fun _ _ v => if dateOk (calParse v.toOctets) then none else some .calendarInvalid)
    (fun s _ v => s.calApply (calParse v.toOctets) 0))

/-- CAL_HALT_WRITE: true stops counting; false releases it with sub-seconds cleared; an equal write changes nothing. -/
def execCalHaltWrite (r : Req) (w : Wire) (s : State) : Res :=
  .next (s.write r 0x2400 0x0A w (fun _ _ _ => none) (fun s _ v =>
    let s := s.calRelease
    if s.getB Obj.CAL_HALT = v.toBool then s
    else if v.toBool then s.setB Obj.CAL_HALT true
    else
      let s := ((s.setB Obj.CAL_HALT false).setN Obj.CAL_SUBSEC 0).updSx (fun x => { x with withheld := 0 })
      s.calChanged 1 s.calNow))

/-- CAL_OSF_CLEAR. -/
def execCalOsfClear (r : Req) (w : Wire) (s : State) : Res :=
  .next (s.write r 0x2400 0x0B w (fun _ _ _ => none) (fun s _ _ => s.setB Obj.CAL_OSF false))

/-- A pattern of R357: every field in range or any, at least one weekday. -/
def alarmOk (o : Octets) : Bool :=
  let any8 := fun (i lo hi : Nat) => fld o i 1 == 0xFF || decide (lo ≤ fld o i 1 ∧ fld o i 1 ≤ hi)
  (fld o 0 2 == 0xFFFF || decide (2000 ≤ fld o 0 2 ∧ fld o 0 2 ≤ 2999)) && any8 2 1 12 && any8 3 1 31 && any8 4 0 23 &&
    any8 5 0 59 && any8 6 0 59 && fld o 7 1 % 128 != 0

/-- CAL_ALARM_WRITE. -/
def execCalAlarmWrite (r : Req) (w : Wire) (s : State) : Res :=
  .next (s.write r 0x2400 0x10 w
    (fun _ _ v => if alarmOk v.toOctets then none else some .calendarInvalid)
    (fun s _ v => s.setP Obj.CAL_ALARM v))

/-- CAL_FIELD_READ: a read of CAL_YEAR to CAL_SUBSEC freezes all eight where the session's shadows are released; the read
of CAL_SUBSEC releases them. -/
def execCalFieldRead (r : Req) (sub : Nat) (s : State) : Res :=
  if sub = 0 ∨ 8 < sub then .next s
  else .next (s.readChecked r 0x2400 sub (fun s sess =>
    let old := (s.session sess).shadow.filter (fun x => decide (s.now < x.since + secC))
    let cur := old.getD { fields := s.calNow ++ [s.getN Obj.CAL_SUBSEC], since := s.now }
    let s := s.updSession sess (fun x => { x with shadow := if sub = 8 then none else some cur })
    s.replyRead r sess (Obj.key 0x2400 sub) (.value (.int ((nth cur.fields (sub - 1) : Nat) : Int)))))

/-- CAL_SHADOW_RELEASE: 1 s after the freeze. -/
def execCalShadowRelease (sess : Nat) (s : State) : Res :=
  .next (s.updSession sess (fun x => { x with shadow := x.shadow.filter (fun y => decide (s.now < y.since + secC)) }))

/-! ## CAL_FROM_SEXTANT (R360, R364) -/

/-- CAL_FROM_SEXTANT: it waits for the first integer second of Sextant time after the start. -/
def execCalFromSextant (r : Req) (w : Wire) (s : State) : Res :=
  .next (s.start r Obj.CAL_FROM_SEXTANT w (fun _ _ _ => none) (fun s _ => (s.time / secT + 1) * secT)
    (fun s _ v => s.updSx (fun x => { x with fromSext := some (s.time / secT + 1, v.toInt) })))

/-- CAL_FROM_SEXTANT_APPLY: at second S. -/
def execCalFromSextantApply (s : State) : Res :=
  match s.sx.fromSext with
  | none => .next s
  | some (sec, off) =>
    if s.procRunning Obj.CAL_FROM_SEXTANT = false ∨ s.time < sec * secT then .next s
    else
      let s := s.updSx (fun x => { x with fromSext := none })
      let c : Int := (sec : Int) + off
      if s.getB Obj.SX_TIME_VALID = false then .next (s.procDone Obj.CAL_FROM_SEXTANT .stateConflict)
      else if c < 0 ∨ 31556995199 < c then .next (s.procDone Obj.CAL_FROM_SEXTANT .calendarInvalid)
      else .next ((s.calApply (calFields c.toNat) 2).procDone Obj.CAL_FROM_SEXTANT .ok)

end Sys2Proof.Machine
end

