-- ==== Sys2Proof/Machine/Binnacle.lean ====
section
/-! DEFINITION. The commands of chapter 11: imports, replacements and removals of keys, attestation, group keys, the entropy
source and the blob region. -/
namespace Sys2Proof.Machine

/-! ## Headers (R373, R375) -/

/-- The header of an import message and its material as a record sealed to `meas`; the recipient ID is that of R374. -/
def keyOf (o meas material : Octets) (boot : Nat) : KeyRec :=
  let flags := fld o 5 1
  let purpose := fld o 6 2
  { kind := fld o 3 1, keyId := fld o 8 8, gen := fld o 16 4, persist := bit flags 0, expire := bit flags 1,
    limited := bit flags 2, protect := bit purpose 0, check := bit purpose 1, limit := fld o 20 4,
    bootEpoch := if bit flags 1 then boot else 0, meas := meas, iv := [], material := material,
    recip := if fld o 3 1 = kOscore then (slice material 51 7).take (fld material 3 1) else [] }

/-- ALG of a kind: 1 for 16 octets of material, 2 for 64. -/
def kindAlg (kind : Nat) : Nat := if kind = kJoin ∨ kind = kOscore then 2 else 1

/-- The layout of R376 and R382 holds for a message of `n` octets: codes, lengths, reserved fields, an empty MEAS_TAG and
BOOT_EPOCH. -/
def headerOk (o : Octets) (n : Nat) : Bool :=
  let kind := fld o 3 1
  let alg := fld o 4 1
  decide (fld o 0 2 = 0x5A42 ∧ fld o 2 1 = 1 ∧ 1 ≤ kind ∧ kind ≤ 5 ∧ alg = kindAlg kind ∧ fld o 5 1 < 8 ∧ fld o 6 2 < 4 ∧
    1 ≤ fld o 16 4 ∧ fld o 16 4 ≤ 0xFFFFFFFE ∧ (bit (fld o 5 1) 2 ∨ fld o 20 4 = 0) ∧ fld o 24 4 = 0 ∧ fld o 28 8 = 0 ∧
    n = if alg = 1 then 1648 else 1696)

/-- Key material of a kind (R373, R374): 16 octets, or an OSCORE context. -/
def materialOk (kind : Nat) (m : Octets) : Bool :=
  if kindAlg kind = 1 then decide (m.length = 16)
  else decide (m.length = 64 ∧ (fld m 0 1 = 16 ∨ fld m 0 1 = 32) ∧ fld m 1 1 ≤ 8 ∧ fld m 2 1 ≤ 7 ∧ fld m 3 1 ≤ 7 ∧ fld m 58 6 = 0)

/-- The attributes that R373 allows. -/
def attrsOk (k : KeyRec) : Bool :=
  decide (k.keyId ≠ 0) && (k.protect || k.check) &&
  (if k.kind = kJoin then !k.expire
   else if k.kind = kGroup then !k.persist && !k.expire && decide (k.keyId < 1024 ∧ k.keyId % 256 ≠ 0)
   else if k.kind = kPair then !k.expire
   else true)

/-- The keys held of a kind. -/
def State.heldIds (s : State) (kind : Nat) : List Nat :=
  ((s.bn.records.filter (fun r => r.kind == kind && (s.inForce kind r.keyId).isSome)).map (·.keyId)).eraseDups

/-- The kind is at the maximum of R373. -/
def State.kindFull (s : State) (k : KeyRec) : Bool :=
  let ids := s.heldIds k.kind
  if k.kind = kGroup then decide (2 ≤ (ids.filter (fun i => i / 256 == k.keyId / 256)).length)
  else if k.kind = kPair then decide (2 ≤ ids.length)
  else if k.kind = kAdmit ∨ k.kind = kOscore then decide (32 ≤ ids.length)
  else false

/-- An OSCORE recipient ID that a held OSCORE key has. -/
def State.recipTaken (s : State) (k : KeyRec) : Bool :=
  k.kind == kOscore && s.bn.records.any (fun r => r.kind == kOscore && r.keyId != k.keyId && r.recip == k.recip)

/-- The sealings held: one, or two while BN_STATE reads DUAL (R392). -/
def State.sealings (s : State) : List Octets :=
  if s.getN Obj.BN_STATE = 2 then [s.getO Obj.BN_MEAS, s.bn.other] else [s.getO Obj.BN_MEAS]

/-- Free 128-octet records of the blob region: neither live, nor erased and not yet reclaimed, nor being written. -/
def State.freeRecords (s : State) : Nat :=
  s.getN Obj.BN_BLOB_CAPACITY - (s.bn.records.length + s.bn.erased +
    (s.bn.imports.filter (·.prepared)).length * s.sealings.length)

/-- A running procedure names the key (R387). -/
def State.keyNamed (s : State) (kind id : Nat) : Bool := s.bn.imports.any (fun r => r.new.kind == kind && r.new.keyId == id)

/-! ## Blobs (R370, R375) -/

/-- The root secret: the bank whose PROGRAMMED marker stands. -/
def State.rootSecret (s : State) : Option Octets := (s.bn.root.find? (·.marker)).map (·.secret)

/-- A key derived from the root (R370): the leading octets of SHAKE256(root ‖ M ‖ label ‖ context). -/
def State.derive (s : State) (m label ctx : Octets) (n : Nat) : Octets :=
  Config.shake256 n (s.rootSecret.getD [] ++ m ++ label ++ ctx)

/-- ZK-BLOB-WRAP. -/
def State.wrapKey (s : State) (kind : Nat) (meas : Octets) : Octets :=
  s.derive meas [0x5A, 0x4B, 0x2D, 0x42, 0x4C, 0x4F, 0x42, 0x2D, 0x57, 0x52, 0x41, 0x50] (be 1 kind) 32

/-- Octets 0 to 47 of a blob. -/
def blobHead (r : KeyRec) : Octets :=
  be 2 0x5A42 ++ be 1 1 ++ be 1 r.kind ++ be 1 (kindAlg r.kind) ++ be 1 (b2n r.persist + 2 * b2n r.expire + 4 * b2n r.limited)
    ++ be 2 (b2n r.protect + 2 * b2n r.check) ++ be 8 r.keyId ++ be 4 r.gen ++ be 4 r.limit ++ be 4 r.bootEpoch
    ++ fit 8 (Config.shake256 8 r.meas) ++ fit 12 r.iv

/-- A blob as its 128-octet record: header, material under ZK-BLOB-WRAP, tag, and 0xFF to the end. -/
def State.blobOctets (s : State) (r : KeyRec) : Octets :=
  let b := blobHead r ++ fit (r.material.length + 16) (Config.gcm (s.wrapKey r.kind r.meas) r.iv (blobHead r) r.material)
  b ++ List.replicate (128 - b.length) 0xFF

/-- Records are written to the blob region, each with an IV of its own from the entropy source. -/
def State.writeBlobs (s : State) (l : List KeyRec) : State :=
  let new := l.mapIdx (fun i r => { r with iv := fit 12 (Config.entropy (s.free + i)) })
  let s := { s with free := s.free + l.length }
  new.foldl (fun s r => s.emit (.stored 1 (s.blobOctets r))) (s.updBn (fun b => { b with records := b.records ++ new }))

/-! ## The key journal (R385) -/

/-- The 32 octets of a record. -/
def KeyJ.octets (j : KeyJ) : Octets :=
  let o := be 4 j.seq ++ be 1 j.op ++ be 1 j.kind ++ be 2 0 ++ be 8 j.keyId ++ be 4 j.oldGen ++ be 4 j.newGen ++ be 4 j.handle
  o ++ be 4 (crc32c o)

def State.keyJournal (s : State) (op kind id old new handle : Nat) : State :=
  let seq := (s.bn.journal.head?.elim 0 (fun j => j.seq + 1)) % 2 ^ 32
  let j : KeyJ := { seq := seq, op := op, kind := kind, keyId := id, oldGen := old, newGen := new, handle := handle }
  (s.updBn (fun b => { b with journal := j :: b.journal })).emit (.stored 2 (KeyJ.octets j))

/-- KEY_COMMITTED: ops 0 import, 1 replace, 2 remove, 3 group switch, 4 group old key removed. -/
def State.keyCommitted (s : State) (kind op id gen handle ix : Nat) : State :=
  s.raiseOn 0x2010 0 ix (be 1 kind ++ be 1 op ++ be 8 id ++ be 4 gen ++ be 4 handle)

/-- A procedure on a key fails: KEY_REFUSED and FAILED with its result. -/
def State.keyFails (s : State) (ix kind id : Nat) (rc : Rc) : State :=
  (s.raiseOn 0x2011 1 ix (be 1 kind ++ be 8 id ++ be 2 rc.code ++ be 4 (s.procHandle ix))).procDone ix rc

/-! ## Imports and replacements (R382–R384) -/


/-- The first case of R383 or R384 that ends the procedure. -/
def State.keyBad (s : State) (replace opens proof : Bool) (o : Octets) (k : KeyRec) : Option Rc :=
  let n := if replace then o.length - 16 else o.length
  let held := s.inForce k.kind k.keyId
  if s.binnacleSound = false ∨ 3 ≤ s.bn.badBlocks then some .internal
  else if opens = false ∨ headerOk o n = false ∨ materialOk k.kind k.material = false then some .blobInvalid
  else if attrsOk k = false then some .range
  else if s.keyNamed k.kind k.keyId then some .stateConflict
  else if replace then
    match held with
    | none => some .stateConflict
    | some old =>
      if k.gen ≤ old.gen then some .range
      else if s.recipTaken k then some .stateConflict
      else if proof = false then some .verifyFail
      else if s.freeRecords < s.sealings.length then some .refusedCapacity
      else none
  else if held.isSome ∨ s.kindFull k ∨ s.recipTaken k then some .stateConflict
  else if s.freeRecords < s.sealings.length then some .refusedCapacity
  else none

/-- The start of BN_IMPORT or BN_REPLACE: opened and checked, then PREPARE, or the end. -/
def State.keyStart (s : State) (replace opens proof : Bool) (material o : Octets) : State :=
  let ix := if replace then Obj.BN_REPLACE else Obj.BN_IMPORT
  let k := keyOf o (s.getO Obj.BN_MEAS) material (s.getN Obj.LB_BOOT_COUNT)
  match s.keyBad replace opens proof o k with
  | some rc => s.keyFails ix (fld o 3 1) (if opens then fld o 8 8 else 0) rc
  | none =>
    let old := (s.inForce k.kind k.keyId).elim 0 (·.gen)
    let wait := s.keyWaits replace k.kind
    let run : ImportRun := { replace := replace, new := k, old := old, prepared := !wait, handle := s.procHandle ix }
    let s := s.updBn (fun b => { b with imports := b.imports ++ [run] })
    if wait then s else s.keyJournal 1 k.kind k.keyId old k.gen (s.procHandle ix)

/-- BN_IMPORT: `opens` is the outcome of the decapsulation and the GCM check, `material` what they open. -/
def execBnImport (r : Req) (opens : Bool) (material : Octets) (w : Wire) (s : State) : Res :=
  .next (s.start r Obj.BN_IMPORT w (fun _ _ _ => none) (fun s _ => s.time)
    (fun s _ v => s.keyStart false opens true material v.toOctets))

/-- BN_REPLACE: `proof` is the outcome of the PROOF check. -/
def execBnReplace (r : Req) (opens proof : Bool) (material : Octets) (w : Wire) (s : State) : Res :=
  .next (s.start r Obj.BN_REPLACE w (fun _ _ _ => none) (fun s v => s.keyEst true (fld v.toOctets 3 1))
    (fun s _ v => s.keyStart true opens proof material v.toOctets))

/-- The use counts of generations that are gone end, and their reservations with them (R377, R463). -/
def State.dropUses (s : State) (it : Nat × Nat × Nat → Bool) : State :=
  let s := s.updBn (fun b => { b with uses := b.uses.filter (fun e => !it e.1), spent := b.spent.filter (fun e => !it e) })
  { s with lb := { s.lb with ceilings := s.lb.ceilings.filter (fun e => !(decide (2 ^ 104 ≤ e.1) && it (useIdOf e.1))) } }

/-- The old generation after the commit (R384 steps 5 and 6): kept for checking, or kept as a node's bound generation, or
erased. -/
def State.dropOld (s : State) (run : ImportRun) : State :=
  let k := run.new
  let old := fun (r : KeyRec) => r.kind == k.kind && r.keyId == k.keyId && r.gen == run.old
  let bound := k.kind == kJoin && s.alm.nodes.any (fun n => n.keyId == k.keyId && n.keyGen == run.old)
  if bound then s
  else
    let keep := if k.kind = kAdmit ∨ k.kind = kPair ∨ k.kind = kOscore then
        (s.bn.records.find? (fun r => old r && r.meas == s.getO Obj.BN_MEAS)).toList.map (fun r =>
          ({ old := r, until' := s.now + s.getN Obj.BN_GRACE * secC } : Retained))
      else []
    s.updBn (fun b => { b with retained := b.retained ++ keep, records := b.records.filter (fun r => !old r),
                               erased := b.erased + (b.records.filter old).length })

/-- The commit instant of an import or a replacement. -/
def State.commitKey (s : State) (run : ImportRun) : State :=
  let k := run.new
  let ix := if run.replace then Obj.BN_REPLACE else Obj.BN_IMPORT
  let new := s.sealings.map (fun m => { k with meas := m })
  let s := s.keyJournal 2 k.kind k.keyId run.old k.gen run.handle
  let s := ((s.writeBlobs new).updBn (fun b =>
    { b with imports := b.imports.filter (fun r => r.handle != run.handle) })).dropUses (fun e => e == k.useId)
  let s : State := if run.replace then (s.dropOld run).keyJournal 3 k.kind k.keyId run.old k.gen run.handle else s
  (s.keyCommitted k.kind (b2n run.replace) k.keyId k.gen run.handle ix).procDone ix .ok

/-- An import or a replacement ends before its commit: ABORT where PREPARE was written, the new record erased. -/
def State.dropImport (s : State) (run : ImportRun) : State :=
  let n := s.sealings.length
  let s := s.updBn (fun b => { b with imports := b.imports.filter (fun r => r.handle != run.handle) })
  if run.prepared then
    (s.keyJournal 4 run.new.kind run.new.keyId run.old run.new.gen run.handle).updBn (fun b => { b with erased := b.erased + n })
  else s

/-- It ends FAILED. -/
def State.importFails (s : State) (run : ImportRun) (rc : Rc) : State :=
  (s.dropImport run).keyFails (if run.replace then Obj.BN_REPLACE else Obj.BN_IMPORT) run.new.kind run.new.keyId rc

/-- KEY_COMMIT of import `i`: with no random value for the IV of its blob it ends INTERNAL (R367); a waiting replacement writes its PREPARE first, once a slot is free, and its work begins (R64). -/
def execKeyCommit (i : Nat) (s : State) : Res :=
  match s.bn.imports[i]? with
  | none => .next s
  | some run =>
    if s.isOn 1 = false then .next s
    else if 3 ≤ s.bn.badBlocks then .next (s.importFails run .internal)
    else if run.prepared then .next (s.commitKey run)
    else if s.keyWaits run.replace run.new.kind then .next s
    else .next (((s.procEst Obj.BN_REPLACE s.time).keyJournal 1 run.new.kind run.new.keyId run.old run.new.gen run.handle).commitKey run)

/-! ## Removal (R387) -/

/-- Every record and use of a key goes. -/
def State.eraseKey (s : State) (kind id : Nat) : State :=
  let it := fun (r : KeyRec) => r.kind == kind && r.keyId == id
  (s.updBn (fun b =>
    { b with records := b.records.filter (fun r => !it r), erased := b.erased + (b.records.filter it).length,
             retained := b.retained.filter (fun r => !it r.old) })).dropUses (fun e => e.1 == kind && e.2.1 == id)

/-- The journaled removal of a key. -/
def State.removeKey (s : State) (kind id handle : Nat) : State :=
  let gen := (s.inForce kind id).elim 0 (·.gen)
  (s.keyJournal 5 kind id gen 0 handle).eraseKey kind id

/-- The case of R387 that a removal ends FAILED with. A key that is not held is a conflict (log 24). -/
def State.removeBad (s : State) (kind id : Nat) : Option Rc :=
  if s.binnacleSound = false then some .internal
  else if s.keyNamed kind id ∨ (s.inForce kind id).isNone then some .stateConflict
  else if kind = kJoin ∧ s.alm.nodes.any (fun n => n.eui == id) then some .stateConflict
  else if kind = kGroup ∧ s.groupTx (id / 256) = some (id % 256) then some .stateConflict
  else none

/-- BN_REMOVE: removing an OSCORE key closes its session, whose outstanding requests are still answered under it (R54). -/
def execBnRemove (r : Req) (w : Wire) (s : State) : Res :=
  .next (s.start r Obj.BN_REMOVE w
    (fun _ _ v => if fld v.toOctets 0 1 = 0 ∨ 5 < fld v.toOctets 0 1 then some .range else none)
    (fun s _ => s.time)
    (fun s sess v =>
      let kind := fld v.toOctets 0 1
      let id := fld v.toOctets 1 8
      match s.removeBad kind id with
      | some rc => s.keyFails Obj.BN_REMOVE kind id rc
      | none =>
        let h := s.procHandle Obj.BN_REMOVE
        let s := if kind = kOscore then
            (s.mg.sessions.filter (fun x => x.num != 0 && x.ctx == id)).foldl (fun s x => s.closeSession x.num 2 sess) s
          else s
        ((s.removeKey kind id h).keyCommitted kind 2 id 0xFFFFFFFF h Obj.BN_REMOVE).procDone Obj.BN_REMOVE .ok))

/-! ## Attestation (R371, R372) -/

/-- BN_ATTEST: one statement at a time, signed for the starting session. -/
def execBnAttest (r : Req) (w : Wire) (s : State) : Res :=
  .next (s.start r Obj.BN_ATTEST w
    (fun _ _ v =>
      let o := v.toOctets
      if o.length ≠ 34 + 9 * fld o 32 2 then some .type else if 64 < fld o 32 2 then some .range else none)
    (fun s _ => s.time)
    (fun s sess v => s.updBn (fun b => { b with attest := some (sess, v.toOctets) })))

/-- One entry of KEYS. -/
def State.attestKey (s : State) (o : Octets) (i : Nat) : Octets :=
  let kind := fld o (34 + 9 * i) 1
  let id := fld o (35 + 9 * i) 8
  be 1 kind ++ be 3 0 ++ be 4 ((s.inForce kind id).elim 0xFFFFFFFF (·.gen)) ++ be 8 id

/-- The attestation statement of the arguments `o`. -/
def State.statement (s : State) (o : Octets) : Octets :=
  let k := fld o 32 2
  let body := o.take 32 ++ fit 32 (s.getO Obj.BN_MEAS) ++ be 4 (s.getN Obj.FIRMWARE_VERSION) ++ t64Octets s.time
    ++ be 1 (b2n (s.getB Obj.SX_TIME_VALID)) ++ be 1 (b2n (s.getN Obj.BN_STATE == 2)) ++ be 2 0 ++ be 2 k ++ be 2 0
    ++ (List.range k).flatMap (s.attestKey o)
  let m := be 2 0x5A53 ++ be 1 4 ++ be 1 2 ++ be 4 body.length ++ fit 8 (s.getO Obj.DEVICE_EUI64)
    ++ fit 32 (s.getO Obj.BN_MEAS_DEV) ++ body
  m ++ Config.signature 2 m

/-- A known-answer test of a Keccak engine runs: a signature waits for its end (R472). -/
def State.katRuns (s : State) : Bool := s.diag.tests.any (fun t => t.code == 3 && t.began)

/-- ATTEST_DONE: the statement, or INTERNAL while Binnacle is in FAULT (R366). -/
def execAttestDone (s : State) : Res :=
  match s.bn.attest with
  | none => .next s
  | some (sess, o) =>
    let st := s.statement o
    if s.katRuns then .next s
    else
    let s := s.updBn (fun b => { b with attest := none })
    if s.binnacleSound = false then .next (s.procDone Obj.BN_ATTEST .internal)
    else .next ((s.updSession sess (fun x => { x with statement := st })).procDone Obj.BN_ATTEST .ok)

/-! ## Group keys (R388, R389) -/

/-- The next slot boundary of a PAN. -/
def State.nextBoundary (s : State) (pan : Nat) : Tick :=
  if (s.time : Int) < s.epoch pan then (s.epoch pan).toNat
  else s.cellStart pan ((((s.time : Int) - s.epoch pan).toNat) / max 1 (s.slotLen pan) + 1)

/-- The switch time that the arguments give. -/
def State.rollAt (s : State) (o : Octets) : Tick :=
  if ofT64Octets (slice o 4 12) = 0 then s.nextBoundary (fld o 0 1) else ofT64Octets (slice o 4 12)

/-- GROUP_ROLLOVER: to a key that the PAN holds and does not transmit with. -/
def execGroupRollover (r : Req) (w : Wire) (s : State) : Res :=
  .next (s.start r Obj.GROUP_ROLLOVER w
    (fun s _ v =>
      let o := v.toOctets
      if 3 < fld o 0 1 ∨ fld o 1 1 = 0 ∨ fld o 2 2 = 0 ∨ 999999999 < fld o 10 4 ∨ s.time + 86400 * secT < ofT64Octets (slice o 4 12)
      then some .range else none)
    (fun s v => s.rollAt v.toOctets)
    (fun s _ v =>
      let o := v.toOctets
      let pan := fld o 0 1
      let key := fld o 1 1
      if (s.inForce kGroup (groupId pan key)).isNone ∨ s.groupTx pan = some key then s.procDone Obj.GROUP_ROLLOVER .stateConflict
      else
        let roll : Rollover := { pan := pan, key := key, overlap := fld o 2 2, at' := s.rollAt o, switched := none }
        s.updBn (fun b => { b with roll := some roll })))

/-- GROUP_KEY_SWITCH: the new index becomes the transmit key. -/
def execGroupKeySwitch (s : State) : Res :=
  match s.bn.roll with
  | none => .next s
  | some x =>
    if x.switched.isSome ∨ s.time < x.at' then .next s
    else
      let old := s.groupTx x.pan
      let roll := { x with switched := some (s.now + x.overlap * secC, old) }
      let s := s.updBn (fun b => { b with txKey := upd b.txKey x.pan (fun _ => some x.key), roll := some roll })
      let id := groupId x.pan x.key
      .next (s.keyCommitted kGroup 3 id ((s.inForce kGroup id).elim 0xFFFFFFFF (·.gen)) (s.procHandle Obj.GROUP_ROLLOVER)
        Obj.GROUP_ROLLOVER)

/-- The old group key goes by a journaled removal. -/
def State.dropGroupOld (s : State) (x : Rollover) (old : Option Nat) : State :=
  let s := s.updBn (fun b => { b with roll := none })
  match old with
  | none => s
  | some k =>
    let h := s.procHandle Obj.GROUP_ROLLOVER
    if (s.inForce kGroup (groupId x.pan k)).isNone then s
    else (s.removeKey kGroup (groupId x.pan k) h).keyCommitted kGroup 4 (groupId x.pan k) 0xFFFFFFFF h Obj.GROUP_ROLLOVER

/-- GROUP_OVERLAP_END: the old key is removed and the rollover is DONE. -/
def execGroupOverlapEnd (s : State) : Res :=
  match s.bn.roll with
  | none => .next s
  | some x =>
    match x.switched with
    | none => .next s
    | some (stop, old) =>
      if s.now < stop then .next s else .next ((s.dropGroupOld x old).procDone Obj.GROUP_ROLLOVER .ok)

/-! ## The rest -/

/-- RETAINED_GEN_EXPIRY: kept generations end after BN_GRACE (R384 step 5). -/
def execRetainedGenExpiry (s : State) : Res :=
  .next (s.updBn (fun b => { b with retained := b.retained.filter (fun r => decide (s.now < r.until')) }))

/-- ENTROPY_BLOCK: three failed blocks in a row withhold all output until a block passes (R367). -/
def execEntropyBlock (ok : Bool) (s : State) : Res :=
  if s.isOn 1 = false then .next s
  else if ok then .next (s.updBn (fun b => { b with badBlocks := 0 }))
  else
    let n := s.bn.badBlocks + 1
    let s := s.updBn (fun b => { b with badBlocks := n })
    if n = 3 then .next (s.raiseOn 0x2014 3 0x9000 (be 1 1 ++ be 1 0xFF)) else .next s

/-- BLOB_DIRECTORY_REBUILT: the records of the region are in the directory again. -/
def execBlobDirectoryRebuilt (s : State) : Res :=
  if s.isOn 1 = false then .next s else .next (s.updBn (fun b => { b with directory := true }))

/-- SECTOR_COMPACTION: `n` erased records of a sector are reclaimed; its live records are kept. -/
def execSectorCompaction (n : Nat) (s : State) : Res :=
  if s.isOn 1 = false then .next s else .next (s.updBn (fun b => { b with erased := b.erased - n }))

end Sys2Proof.Machine
end

