-- ==== Sys2Proof/Machine/AbortOps.lean ====
section
/-! DEFINITION. What an abort leaves of each procedure (R62, R65, R66): the tables of every chapter, as one operation on the
work of the procedure at an index. -/
namespace Sys2Proof.Machine

/-! ## Compass Rose (R121) -/

/-- A commanded retune of a port ends: an automatic one that it had absorbed is queued again, and has waited since it was first
queued. -/
def Port.dropRetune (x : Port) : Port :=
  let again := fun (q : RetuneReq) => q.absorbed.map (fun c =>
    ({ cause := c.1, absorbed := none, set := none, since := c.2 } : RetuneReq))
  match x.retuneRun.filter (fun r => r.req.cause == 2), x.retuneReq with
  | some r, q => { x with retuneRun := none, retuneReq := if q.isSome then q else again r.req }
  | none, some q => if q.cause = 2 then { x with retuneReq := again q } else x
  | none, none => x

/-- The codes in force before the retune stay, the probes sent are charged and blanking ends (R90, R188). -/
def State.abortRetune (s : State) : State :=
  let running := (List.range 4).filterMap (fun p => ((s.port p).retuneRun.filter (fun r => r.req.cause == 2)).map (fun r => (p, r)))
  let s := { s with fe := { s.fe with ports := s.fe.ports.map (fun (x : Port) => x.dropRetune) } }
  (running.foldl (fun s e => s.retuneOff e.1 e.2 (s.probesSent e.2)) s).radioPower

/-- A commanded calibration of chain `c` ends: the values before it stay, and the synthesiser locks again. -/
def State.abortCal (s : State) (c : Nat) : State :=
  let x := s.chain c
  let s := s.updChain c (fun y => { y with calQueue := y.calQueue.filter (fun q => q != 0) })
  if x.calRun.elim false (·.handle) then (s.updChain c (fun y => { y with calRun := none })).synth c 1 else s

/-! ## Binnacle (R398) -/

/-- An import or a replacement before its commit: ABORT is written where PREPARE was, and the new record erased. -/
def State.abortImport (s : State) (h : Nat) : State :=
  match s.bn.imports.find? (fun r => r.handle == h) with
  | none => s
  | some run => s.dropImport run

/-! ## Self-tests (R477) -/

/-- SELFTEST_RESULT: 0 pass, 1 fail, 2 aborted (R475). -/
def State.testResult (s : State) (t : TestRun) (out micros : Nat) : State :=
  s.raise 0x8007 (if out = 1 then 2 else 0)
    (be 1 t.code ++ be 1 t.target ++ be 1 out ++ be 4 t.handle ++ be 4 micros)

/-- The hunters of a port under ADC calibration are HELD (R472), or ARMED again. -/
def State.holdHunters (s : State) (p : Nat) (held : Bool) : State :=
  { s with rx := { s.rx with heldPort := upd s.rx.heldPort p (fun _ => held) } }

/-- The chain of a power calibration is ramped down (R114). -/
def State.calChainOff (s : State) (c : Nat) : State :=
  let p := (((bandPorts (chainBand c)).filter (fun p => s.mayDrive c p)).head?).getD 0
  (s.femReceive p).switch (chainDom c) false

/-- One run of the procedure at an abort: a run that has not begun does not begin; a known-answer test, a read check or the test of
a bank completes, and a copy is discarded. -/
def State.abortTest (s : State) (t : TestRun) : State :=
  let done := fun (s : State) =>
    { s with diag := { s.diag with tests := s.diag.tests.filter (fun x => x != t) } }.testResult t 2
      (if t.began then (s.now - t.start) / usC else 0)
  if t.began = false then done s
  else if t.code = 1 then done (s.holdHunters t.target false)
  else if t.code = 2 ∧ (nth s.diag.banks t.target).copying then
    done { s with diag := { s.diag with banks := upd s.diag.banks t.target (fun b => { b with copying := false }) } }
  else if t.code = 6 then done (s.calChainOff t.target)
  else s

/-! ## Every procedure -/

/-- What an abort of the running procedure at `ix` does to its work. DESIGN CHOICE (log 57): of a SYNTH_CALIBRATE of several chains, a
chain whose calibration has ended keeps its new values; the spec speaks of the values before it only. Unsafe for what those chains
are tuned with. `none` where it is refused with STATE_CONFLICT. TACK
has its own, and BN_REMOVE, WARM_RESTART after its reset and POWER_STATE_SET from step 5 are complete or cannot be reached. -/
def State.abortWork (s : State) (ix : Nat) : Option State :=
  if ix = Obj.POWER_STATE_SET then
    if s.pwr.holdWait then some { s with pwr := { s.pwr with holdWait := false } }
    else
      match s.pwr.entry with
      | none => none
      | some e =>
        if 5 ≤ e.step then none
        else
          let s := s.wakeSource 6
          some { s with pwr := { s.pwr with entry := some { e with abort := true } } }
  else if ix = Obj.WARM_RESTART then
    if s.rst.warmAt.isNone then none else some { s with rst := { s.rst with warmAt := none } }
  else if ix = Obj.DOMAIN_RESET then
    if s.rst.domWait.isNone then none else some { s with rst := { s.rst with domWait := none } }
  else if ix = Obj.CAL_FROM_SEXTANT then some (s.updSx (fun x => { x with fromSext := none }))
  else if ix = Obj.BEARING_RETUNE then some s.abortRetune
  else if ix = Obj.SYNTH_CALIBRATE then
    let t := s.fe.calProc.foldl (fun s c => s.abortCal c) s
    some { t with fe := { t.fe with calProc := [] } }
  else if ix = Obj.RX_WINDOW_APPLY then
    match s.rx.apply with
    | none => some s
    | some a =>
      some { s with rx := { s.rx with apply := if a.rearm.isSome then some { a with aborted := true } else none } }
  else if ix = Obj.SCHEDULE_COMMIT then
    match s.helm.commit with
    | none => some s
    | some c => some (if c.switched then s else { s with helm := { s.helm with commit := none } })
  else if ix = Obj.NODE_ADD then
    some { s with alm := { s.alm with queue := s.alm.queue.filter (fun q => q.cause != 1) } }
  else if ix = Obj.NODE_REMOVE then
    let t := s.alm.removing.foldl (fun s i => s.updNode i (fun n => { n with closed := false })) s
    some { t with alm := { t.alm with removing := [] } }
  else if ix = Obj.NODE_REHASH then
    let p := s.alm.rehash.phase
    some (if p = 1 ∨ p = 2 then (s.procAborted ix).rehashEnd .aborted (if p = 2 then (s.now - s.alm.rehash.held) / usC else 0) else s)
  else if ix = Obj.ALMANAC_CHECKPOINT then some { s with alm := { s.alm with ckpt := none } }
  else if ix = Obj.TRUNK_RETRAIN then some { s with tk := { s.tk with retrain := [] } }
  else if ix = Obj.TRUNK_LOOPBACK then
    some ([0, 1].foldl (fun s p => s.endLoopback p) s)
  else if ix = Obj.CONSORT_HANDOVER then some (s.updCs (fun c => { c with handover := c.handover.filter (fun h => !h.byProc) }))
  else if ix = Obj.BN_IMPORT ∨ ix = Obj.BN_REPLACE then some (s.abortImport (s.procHandle ix))
  else if ix = Obj.BN_ATTEST then some (s.updBn (fun b => { b with attest := none }))
  else if ix = Obj.GROUP_ROLLOVER then
    match s.bn.roll with
    | none => some s
    | some x =>
      match x.switched with
      | none => some (s.updBn (fun b => { b with roll := none }))
      | some (_, old) => some (s.dropGroupOld x old)
  else if ix = Obj.SELFTEST_RUN then
    some ((s.diag.tests.filter (fun t => t.handle == s.procHandle ix)).foldl (fun s t => s.abortTest t) s)
  else none

/-- A reset stops the work of a running procedure, and the procedure reads ABORTED (R62). -/
def State.resetProc (s : State) (ix : Nat) : State := ((s.abortWork ix).getD s).procAborted ix

end Sys2Proof.Machine
end

