-- ==== Sys2Proof/Machine/ResetOps.lean ====
section
/-! DEFINITION. Reset as shared operations (spec 13): the reach of a source (R424), what each domain loses, the assertion of a
source (R426), the union rule (R427) and what the release of a domain brings back. -/
namespace Sys2Proof.Machine

def State.updRst (s : State) (f : ResetSt → ResetSt) : State := { s with rst := f s.rst }
def State.updPwr (s : State) (f : Power → Power) : State := { s with pwr := f s.pwr }

/-! ## Sources and reach (R424) -/

def srcPora : Nat := 0
def srcSag : Nat := 1
def srcPin : Nat := 2
def srcWarm : Nat := 3
def srcCore : Nat := 4
def srcDomain : Nat := 5

/-- The domains a source holds in RESET. -/
def reach (source dom : Nat) : List Nat :=
  if source = 0 then List.range 16
  else if source ≤ 2 then (List.range 15).map (· + 1)
  else if source = 3 then [2, 3, 4] ++ (List.range 10).map (· + 6)
  else if source = 4 then [2]
  else [dom]

/-- How long a source is held at least, in ns. -/
def holdNs (source : Nat) : Option Nat :=
  if source = 1 then some msC else if source = 3 then some (2 * msC) else if source = 4 ∨ source = 5 then some (10 * usC) else none

/-! ## What a domain loses (R9, R62, R146, R191, R216, R230, R245, R265, R346, R379) -/

/-- A working state of Consort with nothing heard and nothing sent. -/
def Consort.blank (now : Count) : Consort :=
  { since := now, lastPulse := none, pulse := none, pulseIn := none, windows := [], run := [], plans := [], takeover := false,
    handover := none, holdSince := none, bothSince := none, sent := 0, unacked := [], acked := 0, waiting := [], full := 0,
    resyncRecs := 0, reserved := [], sfdAt := [none, none], aired := [], sentAt := [], stale := [], missed := 0 }

/-- PD3 HELM: the table in force stays in DRAM, or with it lost in the schedule copy (R435); staged entries, frames in hand and
the past charges go; the ledger's reservations stay where Pilot keeps them. -/
def State.loseHelm (s : State) (dram ledger served : Bool) : State :=
  let table := if dram = false then s.lb.sched else if served then s.rst.table else (s.helm.sfs, s.helm.cells)
  let s := s.restage table.1
  let h := s.helm
  let pan : Pan := { running := false, stopping := false, assertLeft := 0, assertFirst := none, psdu := 0 }
  let h := { h with
    pans := List.replicate 4 pan, sfs := noSfs, cells := [], oldCells := [], commit := none, upcoming := [], due := [],
    plans := [], acks := [], waits := [], quiet := [], lastQuiet := List.replicate 3 none, backoff := [], blankedWin := [],
    duty := h.duty.map (fun d => { d with charges := [], resv := if ledger then d.resv else [], warnedBin := none }) }
  { s with helm := h, cs := Consort.blank s.now, rst := { s.rst with table := table, lodestar := true },
           rx := { s.rx with toHelm := [], lodestar := true } }

/-- The servo, the PTP port logic and the PPS logic (R346); f is the RATE in force (R338). -/
def State.loseServo (s : State) : State :=
  let unc := s.timeUnc
  let port : PtpPort := { delays := [], lastSync := none, diff := 0, syncInt := 2 * secC, asked := none, askedAt := none, askLog := 0,
                          since := none, silent := false }
  let s := [0, 1].foldl (fun s p => if 4 < s.getN (Obj.TT_PTP_STATE p) then s.setN (Obj.TT_PTP_STATE p) 4 else s) s
  let f := freqOf (s.getI Obj.SX_RATE)
  s.updSx (fun x =>
    { x with f := f, lockRun := 0, lossRun := 0, recent := [], u0 := unc, since := s.now, uncHeld := false, ppsEdges := 0,
             ppsLast := none, ppsLastAt := none, ppsOut := false, setPending := none, masters := [], selected := none, syncs := 0,
             ptp := [port, port] })

def Pipeline.blank : Pipeline :=
  { nb := [], nbTable := { slots := [], stash := [], rotor := 0, moves := 0 }, learn := [], seeds := (0, 0), overflow := [],
    overflowAt := none, reasm := [] }

def Rehash.idle : Rehash :=
  { phase := 0, oldSeeds := (0, 0), newSeeds := (0, 0), layout := [], pointer := 0, delta := 0, tried := 0, restarts := 0, byProc := false,
    aborted := false, held := 0 }

/-- Almanac in PD4 PKT: the tables come back from the DRAM mirror, or with it lost from the checkpoint (R230, R232); a migration cut
short comes back as the layout it was copying (DEDUCED, log 33). Indices and short addresses released lately stay held (R196, R215). -/
def State.loseAlmanac (s : State) (dram : Bool) : State :=
  let a := s.alm
  let empty : Cuckoo := { slots := [], stash := [], rotor := 0, moves := 0 }
  let keep := dram && (a.source == 0 || a.loaded)
  let mirror := if keep then (if a.loaded then a.nodes else a.mirror) else []
  let live := if a.rehash.phase = 3 then { a.table with slots := a.rehash.layout, stash := [] } else a.table
  let table := if keep then (if a.loaded then live else a.mirrorTable) else empty
  let rpl : Rpl := { interval := 0, counter := 0, started := false, since := 0, fired := false }
  { s with alm := { a with
      nodes := [], table := empty, mirror := mirror, mirrorTable := table, queue := [], rehash := Rehash.idle, low := Pipeline.blank, high := Pipeline.blank, rpl := List.replicate 4 rpl, removing := [],
      sweep := (0, 0, 0, 0), routeFailAt := none, routeFails := [], ckpt := none, heldNodes := [],
      source := if keep then 0 else 1, loaded := false, outage := s.getB Obj.SX_TIME_VALID } }

/-- Logbook loses the records of the delta ring that it has not written, at most 256 of the newest, unless Anchor or entry to STANDBY has
flushed them. How many had not been written is a free value (R231; log 38). -/
def State.loseDelta (s : State) : State :=
  if s.alm.flushed then s
  else
    let a := s.fresh
    let n := a.1 % (min 256 s.alm.ring.length + 1)
    { a.2 with alm := { a.2.alm with ring := s.alm.ring.drop n, flushed := true } }

/-- A flow with a full bucket. -/
def Flow.fresh (f : Flow) (now : Count) : Flow :=
  { f with tokens := ((f.burst * 65536 : Nat) : Int), stamp := now, next := 0 }

/-- Pilot in PD4 PKT: the ledger, the report ring, the queues, the spool and the wheels. -/
def State.losePilot (s : State) : State :=
  let p := s.pilot
  let sched : Sched := { frames := [], tags := [], vtime := List.replicate 4 0, issued := List.replicate 4 0 }
  let s := { s with tk := { s.tk with dups := [], heard := List.replicate 4 none } }
  { s with pilot := { p with
      flows := p.flows.map (fun f => f.fresh s.now), frames := [], reports := [], ports := [sched, sched], spool := [],
      spooled := 0, spoolLost := 0, outageAt := s.now, dropsSec := List.replicate 4 0, dropAt := List.replicate 4 none,
      spoolFullSec := 0, spoolFullAt := none, queue := [], answered := [], busySec := 0, busyAt := none, coarse := [], fine := [],
      ctxs := List.replicate 16 { high := 0, seen := [] }, samples := [], flowStats := [] } }

/-- The newer of two copies of the ledger summary: the one that knows the higher reference, of equals the one with fewer frames left
to report. -/
def newerSummary (a b : Summary) : Summary :=
  if a.highest < b.highest ∨ (a.highest = b.highest ∧ b.count < a.count) then b else a

/-- The copies of the ledger summary that LEDGER_LOST can be issued from, the newest first (R28, R265). Where neither the ledger
nor the newest copy holds a frame none is lost. A member of a pair issues none, nor does entry to STANDBY (7), before which no frame is
pending. The event has no cause for a DOMAIN reset or a loss of REFCLK: a free value. -/
def State.noteLost (s : State) (source : Nat) (dram : Bool) : State :=
  let log := [(2, s.pilot.sumLog)]
  let kept := if dram = false then log
    else if newerSummary s.pilot.sumDram s.pilot.sumLog = s.pilot.sumDram then (1, s.pilot.sumDram) :: log
    else log ++ [(1, s.pilot.sumDram)]
  let copies := (s.pilot.sumAnchor.map (fun x => (0, x))).toList ++ kept
  let none' := copies.head?.elim false (fun c => c.2.count == 0 && (c.1 == 0 || s.pilot.frames == []))
  let last := s.ceiling Obj.NEXT_ADMISSION_REF - 1
  if source = 7 ∨ s.paired ∨ s.rst.lost.isSome ∨ none' then s
  else
    let a := s.fresh
    let cause := if source = 0 then 3 else if source = 1 then 0 else if source = 2 then 2 else if source = 3 then 1 else a.1 % 256
    (if 3 < source then a.2 else s).updRst (fun r => { r with lost := some { cause := cause, copies := copies, last := last } })

/-- The table in force is in DRAM: where a reset loses that and leaves Helm, it is reloaded from the schedule copy, which has no cell kept in an
old form (R194, R435). -/
def State.reloadTable (s : State) : State :=
  if s.fromChart then s.updRst (fun r => { r with table := s.lb.sched })
  else { s with helm := { s.helm with oldCells := [] } }.tableFrom s.lb.sched

/-- PD5 MEMC: DRAM loses its contents, and with them the mirrors; of a node in the table only the extended record is lost. -/
def State.loseDram (s : State) : State :=
  let empty : Cuckoo := { slots := [], stash := [], rotor := 0, moves := 0 }
  let zero : Summary := { lowest := 0, highest := 0, count := 0 }
  let nodes := s.alm.nodes.map (fun n => fromCheckpoint n true)
  let s := { s with alm := { s.alm with nodes := nodes, mirror := if s.alm.loaded then nodes else [],
                                          mirrorTable := if s.alm.loaded then s.alm.table else empty } }
  { s with pilot := { s.pilot with sumDram := zero }, helm := { s.helm with mirror := [], mirrorAt := none } }

/-- Receptions of the receive domains, the channeliser or the demodulators in reach are dropped as blanked ones are (R109,
R455); a window apply under way ends with PD1 SAFE, whose release brings its own set into force (R524). -/
def State.loseReceive (s : State) (r : List Nat) : State :=
  let s := s.blankRecs (fun x => r.contains 10 || r.contains 11 || r.contains (rxDom (winPort x.win)))
  let gates := (List.range 4).map (fun p =>
    if r.contains (rxDom p) then ({ open' := false, listening := false, fired := false, energy := false, since := 0, lastUse := 0 } : Gate) else nth s.rx.gates p)
  let s := { s with rx := { s.rx with gates := gates } }
  let s : State := if r.contains 11 then { s with rx := { s.rx with held := [], passed := [], starved := [] } } else s
  if r.contains 1 then { s with rx := { s.rx with apply := none, rearming := [], heldWin := List.replicate 6 false } } else s

/-- The chains of the transmit domains in reach: the group on air is cut, the synthesiser and its work stop; an automatic retune
that used the chain is queued again. -/
def State.loseChain (s : State) (c : Nat) : State :=
  let s := match (s.chain c).group with
    | none => s
    | some g => s.cutGroup g
  let s := s.updChain c (fun x => { x with calQueue := [], window := none, calRun := none, lastUnlock := none,
                                            lastLocked := none, stateSince := s.now })
  let mine := (List.range 4).filterMap (fun p => ((s.port p).retuneRun.filter (fun r => r.chain == c)).map (fun r => (p, r)))
  let s := mine.foldl (fun s e =>
    (s.retuneOff e.1 e.2 (s.probesSent e.2)).updPort e.1 (fun x =>
      { x with retuneReq := if x.retuneReq.isSome then x.retuneReq else if e.2.req.cause = 2 then none else some e.2.req })) s
  s.setN (Obj.CC_SYNTH_STATE c) 0

/-- The ports' Bearing tuners and FEM controls, and the calibrations pending (CC_CAL_PENDING is of PD1), when PD1 SAFE loses its
contents. -/
def State.loseFront (s : State) : State :=
  let ports := s.fe.ports.map (fun x =>
    { x with paEn := false, lnaEn := false, byp := true, tr := false, mode := 0, pabias := 0, blanked := false, clipAt := 0,
             retuneReq := none, retuneRun := none, holdoff := none, badIso := 0 })
  let chains := s.fe.chains.map (fun x => { x with pendingSince := none })
  { s with fe := { s.fe with ports := ports, chains := chains, modeWrite := [false, false], calProc := [] } }

/-- A trunk port whose domain resets (R286 cause 5). -/
def State.loseTrunk (s : State) (p : Nat) : State :=
  let s := if s.link p = 4 then s.leaveUp p 5 else s.disable p
  s.retrained p

/-- Binnacle in PD1 SAFE: its slots are voided; what Logbook and the flash hold stays (R376, R377, R379, R384). -/
def State.loseBinnacle (s : State) : State :=
  let persist := fun (e : Nat × Nat × Nat) => s.bn.records.any (fun r => r.useId == e && r.persist)
  s.updBn (fun b =>
    { b with imports := [], retained := [], uses := b.uses.filter (fun e => persist e.1), spent := b.spent.filter persist,
             roll := none, attest := none, badBlocks := 0, keccakOut := [], aesOut := [], missingAt := [], cache := [],
             echo := ((b.records.filter (fun r => r.kind == kOscore)).map (·.keyId)).eraseDups, directory := false })

/-- The Quay port as it comes out of a reset of PD1 SAFE. -/
def Quay.blank : Quay :=
  { uart := false, baud := 115200, spiMode := 0, quad := false, opcode := none, notifications := [], responses := [], waiting := [],
    ord := 0, sent := 0, hunt := [], wakeWait := false }

/-- Management in PD1 SAFE: requests get no reply, transfers and frames go, trunk sessions close with cause 3 (R54). -/
def State.loseMgmt (s : State) : State :=
  let fifos := s.mg.fifos.map (fun f => { f with stalled := [], observer := none })
  let caps := s.diag.caps.map (fun f => { f with stalled := [] })
  let mg := { s.mg with fifos := fifos, transfers := [], sending := [], heard := [], quay := Quay.blank, oscore := [] }
  let s := { s with mg := mg, diag := { s.diag with caps := caps } }
  let open? := (s.mg.sessions.filter (fun x => x.num != 0)).map (·.num)
  let s := open?.foldl (fun s n => s.closeSession n 3 0xFF) s
  { s with mg := { s.mg with sessions := [s.newSession 0 0 []] } }

/-- A reset that reaches PD2 CORE and not PD1 SAFE: outstanding requests are answered ABORTED and observations end; SESSION_IDLE of
their sessions counts from here (R54). -/
def State.loseRequests (s : State) : State :=
  let waits := (s.mg.fifos.flatMap (·.stalled) ++ s.diag.caps.flatMap (·.stalled)).map (·.sess) ++
    s.mg.fifos.filterMap (fun f => f.observer.map (·.sess))
  let s := (s.mg.sessions.map (·.num)).foldl (fun s n => s.dropStalled n) s
  let s : State := { s with mg := { s.mg with fifos := s.mg.fifos.map (fun f => { f with observer := none }) } }
  waits.foldl (fun s n => s.touch n) s

/-- The FIFOs are emptied with both counters, and SEQ restarts at 0 (R79, R480). -/
def State.emptyFifos (s : State) : State :=
  let fifos := s.mg.fifos.map (fun f => { f with recs := [], lost := 0, flushed := 0, nextSeq := 0, held := [] })
  let caps := s.diag.caps.map (fun f => { f with recs := [], lost := 0, flushed := 0, nextSeq := 0 })
  { s with mg := { s.mg with fifos := fifos }, diag := { s.diag with caps := caps } }

/-! ## Procedures and objects (R9, R62, R346) -/

/-- The procedures that survive the reset their own work causes (R517). -/
def resumes (ix source detail : Nat) : Bool :=
  ix == Obj.TACK || (ix == Obj.WARM_RESTART && source == 3 && detail == 9) || (ix == Obj.DOMAIN_RESET && source == 5)

/-- Running procedures that the reset reaches read ABORTED; a running Tack goes on by its journal. -/
def State.abortProcs (s : State) (r : List Nat) (source detail : Nat) : State :=
  procTable.foldl (fun s p =>
    if s.procRunning p.ix ∧ (r.contains 2 ∨ r.contains p.own) ∧ resumes p.ix source detail = false then s.resetProc p.ix else s) s

/-- Objects that keep their value through a reset of their domain: Sextant's rate, validity, ratio and state (R345, R346, R348),
the measurement registers until the boot ROM writes them again (R368), the reset cause and detail (R456), the straps (R430), the
state and handle of a procedure that was running or that a reset since the last Attach has ended (R62), and the figures Logbook itself keeps. -/
def State.keepsObj (s : State) (k : Nat) : Bool :=
  [Obj.SX_RATE, Obj.SX_TIME_VALID, Obj.SX_SLOW_RATIO, Obj.SX_STATE, Obj.BN_MEAS, Obj.BN_MEAS_DEV, Obj.RESET_CAUSE,
    Obj.RESET_DETAIL, Obj.STRAPS, Obj.CS_PAIRSEL, Obj.LB_COMMITS].contains k ||
  procTable.any (fun p => p.ix == k / 256 &&
    (s.procRunning p.ix || (s.rst.aborted.contains p.ix && k % 256 != 4)))

/-- Objects after a reset: persistent ones as Logbook holds them where PD1 SAFE was reset, the others at their defaults. -/
def State.loseObjs (s : State) (r : List Nat) (aborted : List Nat) : State :=
  let stay := s.obj.filter (fun e =>
    !r.contains (Obj.owner e.1) || s.keepsObj e.1 || (aborted.contains (e.1 / 256) && e.1 % 256 != 4) ||
      (Obj.persistent e.1 && !r.contains 1))
  let back := if r.contains 1 then s.lb.committed.filter (fun e => r.contains (Obj.owner e.1) && !s.keepsObj e.1) else []
  { s with obj := back.foldl (fun m e => Store.put e.1 e.2 m) stay }

/-! ## Assertion (R424, R426, R456) -/

/-- RESET_CAUSE and RESET_DETAIL gather from the first source after an Attach on. -/
def State.noteCause (s : State) (source detail dom : Nat) : State :=
  let s : State := if s.rst.fresh then
      ((s.setN Obj.RESET_CAUSE 0).setN Obj.RESET_DETAIL 0).updRst (fun r => { r with fresh := false, domNo := 0xFF })
    else s
  let c := s.getN Obj.RESET_CAUSE
  let s := s.setN Obj.RESET_CAUSE (if bit c source then c else c + 2 ^ source)
  let s := if detail = 0 then s else s.setN Obj.RESET_DETAIL detail
  if source = 5 then s.updRst (fun r => { r with domNo := dom }) else s

/-- What every domain in reach loses. `dram` says whether DRAM keeps its contents. -/
def State.loseDomains (s : State) (r : List Nat) (source : Nat) (dram : Bool) : State :=
  let served := s.fromChart
  let s := [0, 1].foldl (fun s p => if r.contains (14 + p) then s.loseTrunk p else s) s
  let s := [0, 1, 2].foldl (fun s c => if r.contains (chainDom c) then s.loseChain c else s) s
  let s := s.loseReceive r
  let s := if r.contains 1 then s.loseFront.loseDelta else s
  let s := if r.contains 4 then ((s.noteLost source dram).losePilot).loseAlmanac dram else s
  let s := if r.contains 3 then (s.loseHelm dram (!r.contains 4) served).loseServo else s
  let s : State := if r.contains 4 ∧ ¬ r.contains 3 then
      { s with helm := { s.helm with duty := s.helm.duty.map (fun d => { d with resv := [] }), due := [], acks := [],
                                     waits := [], plans := [] } }
    else s
  let s : State := if r.contains 4 then
      { s with diag := { s.diag with tests := [], banks := s.diag.banks.map (fun b => { b with copying := false, freed := none }) } }
    else s
  if dram then s else (if r.contains 3 then s else s.reloadTable).loseDram

/-- Whether a source stops the system PLL (R346). -/
def stopsPll (source : Nat) : Bool := decide (source ≤ 2)

/-- The PLL stops: the pair register and the mirrors stay as last latched, and Sextant is to be reconciled. The cause of the
first stop stands. -/
def State.stopPll (s : State) (cause : Nat) : State :=
  let s := if s.sx.pll then s.updSx (fun x => { x with pll := false, stopCause := cause, oscStopped := false }) else s
  s.updRst (fun r => { r with pll := false })

/-- The domains of a reach enter RESET, and with them go what they held. -/
def State.intoReset (s : State) (r : List Nat) (source detail : Nat) : State :=
  let s : State := if r.contains 1 then s.loseMgmt else if r.contains 2 then s.loseRequests else s
  let run := (procTable.filter (fun p => s.procRunning p.ix)).map (·.ix)
  let s := s.abortProcs r source detail
  let aborted := run.filter (fun ix => !s.procRunning ix)
  let s := s.updRst (fun x => { x with aborted := if s.mg.busy then x.aborted ++ aborted else [] })
  let dram := !(r.contains 5) && !s.pwr.off
  let s := s.loseDomains r source dram
  let s : State := if r.contains 1 then
      { s.loseBinnacle with lb := { s.lb with queue := [] } } else s
  let s := s.loseObjs r aborted
  let s : State := if r.contains 3 then s.updPwr (fun p => { p with entry := none, standby := false, holdWait := false }) else s
  let s : State := if r.contains 1 then s.updPwr (fun p => { p with wakeAt := none }) else s
  let s : State := if r.contains 3 then
      let m := s.getN Obj.POWER_MODE
      ((s.biasFor m).setN Obj.POWER_STATE m).updPwr (fun p => { p with modeInForce := m, modeFrom := none })
    else s
  r.foldl (fun s d => if s.pwr.off && d != 0 then s else s.setCond d .reset) s

/-- A source asserts (R426). -/
def State.assertReset (s : State) (source dom detail : Nat) : State :=
  let r := reach source dom
  let s := s.noteCause source detail dom
  let s : State := if source ≤ 2 then s.emptyFifos else s
  let busy := s.mg.busy || r.contains 2
  let s : State := if r.contains 2 then
      { s with mg := { s.mg with busy := true, attachBy := none },
               rst := { s.rst with coreRel := none, image := none, waitImage := false, attaching := none, trimRun := s.rst.trimRun && !r.contains 1 } }
    else { s with mg := { s.mg with busy := busy } }
  let s : State := if stopsPll source then s.stopPll 1 else s
  let s := s.intoReset r source detail
  let h : Hold := { source := source, dom := dom, until' := (holdNs source).map (fun n => s.now + n) }
  s.updRst (fun x => { x with holds := x.holds.filter (fun y => !(y.source == source && (y.dom == dom || source != 5))) ++ [h] })

end Sys2Proof.Machine
end

