-- ==== Sys2Proof/Machine/ReleaseOps.lean ====
section
/-! DEFINITION. The release of a domain as shared operations (spec 13 R427–R429, 14 R461–R466): the choice between the copies of
Logbook's records, and what PD1 SAFE, PD2 CORE, PD3 HELM, PD4 PKT, the radio and the trunk domains come back with. -/
namespace Sys2Proof.Machine

/-! ## Copies of a record (R461, R464) -/

/-- Record classes (R459): 0 configuration, 1 counter, 2 journal, 3 snapshot. -/
def lbClass (t : LbTarget) : Nat :=
  match t with
  | .value _ | .geometry | .certificate _ => 0
  | .counter _ | .summary => 1
  | .keyJournal | .tackJournal | .deltaRing | .changeJournal => 2
  | .chartState | .anchorSave => 3

/-- The row of R464 that a lost counter falls under. -/
def lbCounterRow (k : Nat) : Nat :=
  if k = Obj.LB_BOOT_COUNT then 5 else if k = Obj.NEXT_ADMISSION_REF then 4
  else if 2 ^ 104 ≤ k then 3 else if 2 ^ 73 ≤ k then 2 else 1

/-- The action byte of LB_RECORD_LOST: the row of R461, or of a counter that of R464 (log 27). -/
def lbAction (t : LbTarget) : Nat :=
  match t with
  | .counter k => lbCounterRow k
  | _ => lbClass t + 1

/-- The key under a counter record is treated as absent until a new generation is imported (R464). -/
def State.voidKey (s : State) (kind id : Nat) : State :=
  match s.bn.records.find? (fun r => r.kind == kind && r.keyId == id) with
  | none => s
  | some _ =>
    let gens := ((s.bn.records.filter (fun r => r.kind == kind && r.keyId == id)).map (·.gen)).eraseDups
    s.updBn (fun b => { b with void := gens.map (fun g => (kind, id, g)) ++ b.void })

/-- The highest reference of the intact ledger summaries (R464). -/
def State.highestRef (s : State) : Nat :=
  max s.pilot.sumLog.highest (s.pilot.sumAnchor.elim 0 (·.highest))

/-- A counter record with no intact copy (R464). -/
def State.counterLost (s : State) (k : Nat) : State :=
  if k = Obj.LB_BOOT_COUNT then
    s.setP k (.int (((s.bn.records.map (·.bootEpoch)).foldl max 0 + 2 ^ 20 : Nat) : Int))
  else if k = Obj.NEXT_ADMISSION_REF then s.setCeiling k (s.highestRef + 2 ^ 40)
  else if 2 ^ 104 ≤ k then
    let e := useIdOf k
    s.updBn (fun b => { b with spent := e :: b.spent.filter (fun x => x != e) })
  else if 2 ^ 73 ≤ k then s.voidKey kOscore (k - 2 ^ 73)
  else s.voidKey kAdmit (s.getN (Obj.ADMIT_CTX_KEYID (k - Obj.ADMIT_SEQ_OUT 0)))

/-- LEDGER_LOST is not issued from a copy of the summary that cannot be read (R265). -/
def State.dropCopy (s : State) (kind : Nat) : State :=
  s.updRst (fun r => { r with lost := r.lost.map (fun e => { e with copies := e.copies.filter (fun c => c.1 != kind) }) })

/-- A record that has no copy, or two that contradict each other, is as if never written: the factory default of a
configuration record, an empty journal, neither copy of a snapshot (R461). The change journal found empty gets its first record
again (R521). -/
def State.recordGone (s : State) (t : LbTarget) : State :=
  match t with
  | .value k =>
    let s := { s with lb := { s.lb with committed := s.lb.committed.filter (fun e => e.1 != k) } }
    s.set k (Obj.default k)
  | .counter k => s.counterLost k
  | .keyJournal => s.updBn (fun b => { b with journal := [] })
  | .tackJournal => s.updRst (fun r => { r with tack := [] })
  | .deltaRing => { s with alm := { s.alm with ring := [], sinceCkpt := 0 } }
  | .changeJournal => { s with lb := { s.lb with journal := [firstRecord s.time] } }
  | .geometry => s.updRst (fun r => { r with chart := none })
  | .chartState => s.updRst (fun r => { r with chart := r.chart.map (fun c => { c with state := none }) })
  | .anchorSave =>
    let zero : Pair := { tick := 0, count := 0, offset := 0, base := 0, rate := 0 }
    let s := (s.updSx (fun x => { x with saved := zero, savedUnc := 0xFFFFFFFF, savedAsns := List.replicate 4 0 })).dropCopy 0
    { s with lb := { s.lb with duty := none }, pilot := { s.pilot with sumAnchor := none } }
  | .summary =>
    let s := s.dropCopy 2
    { s with pilot := { s.pilot with sumLog := { lowest := 0, highest := 0, count := 0 } } }
  | .certificate n => s.set (0x901000 + n) (Obj.default (0x901000 + n))

/-- Committed markers of the key journal and of the Tack journal (R461). -/
def keyMarker (op : Nat) : Bool := decide (2 ≤ op ∧ op ≤ 5)
def tackMarker (op : Nat) : Bool := decide (3 ≤ op ∧ op ≤ 11)

/-- The OP of the copy that a journal keeps: that of a committed marker, copy A's where both are or neither is. -/
def chosenOp (marker : Nat → Bool) (a b : Nat) : Nat := if marker a = false ∧ marker b then b else a

/-- Two intact copies of one generation with different bodies: the class rule (R461). -/
def State.recordDiffers (s : State) (t : LbTarget) (a b : Nat) : State :=
  match t with
  | .counter k =>
    if k = Obj.LB_BOOT_COUNT then s.setP k (.int ((max a b : Nat) : Int)) else s.setCeiling k (max a b)
  | .summary =>
    let s := s.updRst (fun r => { r with lost := r.lost.map (fun e =>
      { e with copies := e.copies.map (fun c => if c.1 = 2 then (2, { c.2 with highest := max a b }) else c) }) })
    { s with pilot := { s.pilot with sumLog := { s.pilot.sumLog with highest := max a b } } }
  | .keyJournal =>
    s.updBn (fun x => { x with journal := x.journal.modifyHead (fun j => { j with op := chosenOp keyMarker a b }) })
  | .tackJournal =>
    s.updRst (fun x => { x with tack := x.tack.modifyHead (fun j => { j with op := chosenOp tackMarker a b }) })
  | .deltaRing | .changeJournal => s
  | t => s.recordGone t

/-- The rule byte of LB_CONFLICT. -/
def conflictRule (t : LbTarget) : Nat :=
  match lbClass t with
  | 0 => 1 | 1 => 0 | 2 => 2 | _ => 3

/-- A record whose copies do not agree is read (R461): its event, its counter, its value. -/
def State.lbRead (s : State) (x : LbRead) : State :=
  let head := be 1 (lbClass x.target) ++ be 2 x.rid
  match x.copies with
  | .differ gen a b =>
    ((s.recordDiffers x.target a b).bumpQ Obj.LB_CONFLICTS).raise 0x8001 2 (head ++ be 4 gen ++ be 1 (conflictRule x.target))
  | .repaired copy line => (s.bumpQ Obj.LB_COPY_REPAIRS).raise 0x8002 1 (head ++ be 1 copy ++ be 1 (b2n line))
  | .lost => ((s.recordGone x.target).bumpQ Obj.LB_RECORDS_LOST).raise 0x8003 3 (head ++ be 1 (lbAction x.target))

/-! ## PD1 SAFE (R366, R386, R392, R441, R463, R466, R524) -/

/-- Every reserved counter resumes at its ceiling, and a new one is committed (R463). NEXT_ADMISSION_REF follows with PD4
PKT. -/
def State.resumeCounter (s : State) (k c : Nat) : State :=
  if k = Obj.NEXT_ADMISSION_REF then s
  else if 2 ^ 104 ≤ k then (s.setUses (useIdOf k) c).setCeiling k (c + useStep)
  else if 2 ^ 73 ≤ k then
    (s.updBn (fun b => { b with oscoreSeq := (k - 2 ^ 73, c) :: b.oscoreSeq.filter (fun e => e.1 != k - 2 ^ 73) })).setCeiling k
      (c + seqStep)
  else (s.setN k c).setCeiling k (c + seqStep)

/-- The latest journal record of each key. -/
def latestOf : List KeyJ → List KeyJ
  | [] => []
  | j :: t => j :: (latestOf t).filter (fun x => !(x.kind == j.kind && x.keyId == j.keyId))

/-- The recovery of one key (R386). A REMOVE whose records are gone is complete. -/
def State.recoverKey (s : State) (j : KeyJ) : State :=
  let it := fun (r : KeyRec) => r.kind == j.kind && r.keyId == j.keyId
  let gen := fun (s : State) => ((s.bn.records.filter it).map (·.gen)).foldl max 0
  let event := fun (s : State) (out : Nat) =>
    let g := if (s.bn.records.filter it).isEmpty then 0xFFFFFFFF else gen s
    s.raiseOn 0x2012 2 0x9000 (be 1 out ++ be 1 j.kind ++ be 8 j.keyId ++ be 4 g)
  if j.op = 1 then
    event ((s.keyJournal 4 j.kind j.keyId j.oldGen j.newGen j.handle).updBn (fun b =>
      { b with erased := b.erased + (if b.other = [] then 1 else 2) })) 0
  else if j.op = 2 then event (s.keyJournal 3 j.kind j.keyId j.oldGen j.newGen j.handle) 1
  else if j.op = 5 ∧ s.bn.records.any it then event (s.eraseKey j.kind j.keyId) 2
  else s

/-- A Tack holds two sealings from the end of SEAL until it ends (R392). -/
def dualOp (op : Nat) : Bool := [5, 6, 9, 11].contains op

/-! ## The root, the device keys and their certificates (R365, R368, R370, R371) -/

def measDev : Octets :=
  Config.shake256 32 (Config.shake256 32 ([0x5A, 0x4B, 0x2D, 0x4D, 0x45, 0x41, 0x53] ++ Config.romDigest) ++ Config.otpDigest)

/-- ZK-IDENTITY, ZK-ATTEST and ZK-IMPORT, with the octets derived under each: 96, 72 and 64 (R370). -/
def keyLabel (key : Nat) : Octets :=
  [[], [0x5A, 0x4B, 0x2D, 0x49, 0x44, 0x45, 0x4E, 0x54, 0x49, 0x54, 0x59], [0x5A, 0x4B, 0x2D, 0x41, 0x54, 0x54, 0x45, 0x53, 0x54],
   [0x5A, 0x4B, 0x2D, 0x49, 0x4D, 0x50, 0x4F, 0x52, 0x54]].getD key []
def keySeeds (key : Nat) : Nat := [0, 96, 72, 64].getD key 0

/-- The public part of a device key: 1 identity, 2 attestation, 3 import. -/
def State.devicePub (s : State) (key : Nat) : Octets :=
  fit ([0, 64, 48, 1568].getD key 0) (Config.publicKey key (s.derive measDev (keyLabel key) [] (keySeeds key)))

/-- A statement of ALG 1 without its signature. -/
def State.statementHead (s : State) (type : Nat) (body : Octets) : Octets :=
  be 2 0x5A53 ++ be 1 type ++ be 1 1 ++ be 4 body.length ++ fit 8 (s.getO Obj.DEVICE_EUI64) ++ fit 32 measDev ++ body

/-- A certificate of type 2 or 3 signed with the identity key. -/
def State.certificate (s : State) (type : Nat) (body : Octets) : Octets :=
  let m := s.statementHead type body
  m ++ fit 29792 (Config.signature 1 m)

/-- The certificate of type 1, made at final test with Plesiolo's device-certification key. -/
def State.identityCert (s : State) : Octets :=
  let m := s.statementHead 1 (s.devicePub 1)
  m ++ fit 29792 (Config.certification m)

/-- The device keys are computed anew at each release of PD1 SAFE: certificates 2 and 3 are made anew where they name another MEAS_DEV,
and a certificate of type 1 that names another is reported. -/
def State.deviceKeys (s : State) : State :=
  let s := s.set Obj.BN_IDENTITY_PUB (.octets (s.devicePub 1))
  let s := s.set Obj.BN_ATTEST_PUB (.octets (s.devicePub 2))
  let s := s.set Obj.BN_IMPORT_PUB (.octets (s.devicePub 3))
  let s := if slice (s.getO Obj.BN_ATTEST_CERT) 16 32 = measDev then s
    else s.setP Obj.BN_ATTEST_CERT (.octets (s.certificate 2 (s.getO Obj.BN_ATTEST_PUB)))
  let s := if slice (s.getO Obj.BN_IMPORT_CERT) 16 32 = measDev then s
    else s.setP Obj.BN_IMPORT_CERT (.octets (s.certificate 3 (s.getO Obj.BN_IMPORT_PUB)))
  let c := s.getO Obj.BN_IDENTITY_CERT
  if c = [] ∨ slice c 16 32 = measDev then s else s.raiseOn 0x2014 3 0x9000 (be 1 3 ++ be 1 0xFF)

/-- The 4,096 raw samples of step 2 of R365, an octet each. -/
def State.rawSamples (s : State) : Octets := (List.range 4096).flatMap (fun i => fit 1 (Config.entropy (s.free + i)))

/-- A start with no complete root bank makes the root (R365): bank 0, or spare bank 1 where bank 0 holds bits and no marker, takes the
conditioned samples; read back and checked, it takes its PROGRAMMED marker, and the device keys and certificates are made. The
entropy source gives no sample while its output is withheld (R367). -/
def State.makeRoot (s : State) (readsBack : Bool) : State :=
  match s.bn.root.findIdx? (fun b => b.secret.isEmpty && !b.marker) with
  | none => s
  | some i =>
    if 3 ≤ s.bn.badBlocks then s
    else
      let root := fit 32 (Config.shake256 32 s.rawSamples)
      let bank : RootBank := { secret := root, marker := readsBack }
      let s := { s with free := s.free + 4096 }
      let s := s.updBn (fun b => { b with root := upd b.root i (fun _ => bank), rootCheck := Config.rootCheck root })
      if readsBack then s.setP Obj.BN_IDENTITY_CERT (.octets s.identityCert) else s

/-- The key journal, the root bank and the sealings are looked at; with no bank complete the root is made first (R365). `rootOk` is
the outcome of the check of the bank's ECC, or of its first reading back. A device with no complete bank stands in FAULT. -/
def State.releaseBinnacle (s : State) (rootOk : Bool) : State :=
  let s := if s.rootSecret.isSome then s else s.makeRoot rootOk
  let rootOk := rootOk && s.rootSecret.isSome
  let s := (latestOf s.bn.journal).foldl (fun s j => s.recoverKey j) s
  let dual := s.rst.tack.head?.elim false (fun t => dualOp t.op)
  let s := (s.updBn (fun b => { b with rootBad := !rootOk })).setN Obj.BN_STATE (if !rootOk then 1 else if dual then 2 else 0)
  if rootOk then s.deviceKeys else s.raiseOn 0x2014 3 0x9000 (be 1 0 ++ be 1 0xFF)

/-- The persistent staged windows are validated and brought into force as if applied, or every window is left disabled; the
chart's geometry is rewritten (R444, R524). -/
def State.releaseWindows (s : State) : State :=
  let l := s.stagedSet
  match s.windowsFail l with
  | none => ((s.forceSet l).windowApplied (s.changedWindows l) 0 .ok 0).chartWindows
  | some rc =>
    let s := s.forceSet (l.map (fun e => if e.1 % 256 = 1 then (e.1, .bool false) else e))
    (s.windowApplied [] 0 rc 0).chartWindows

/-- ANCHOR_SAVED and AON_LOST_DETECTED, raised until an Attach has written them (R79). -/
def State.raiseSaved (s : State) : State :=
  let s := match s.pwr.anchorEv with
    | none => s
    | some e => s.raiseOn 0x1105 1 0x2020
        (be 1 e.outcome ++ be 1 e.record ++ be 4 e.micros ++ be 2 e.vsense ++ be 1 e.trigger)
  match s.pwr.aonCause with
  | none => s
  | some c => s.raiseOn 0x1106 2 0x2030 (be 1 c)

/-- The scrubber after a release: a pass that is overdue, or that AON_LOST asks for, runs as a catch-up pass (R466). -/
def State.releaseScrub (s : State) : State :=
  let x := s.lb.scrub
  let late := s.getB Obj.AON_LOST || decide (x.doneHours + s.getN Obj.LB_SCRUB_PERIOD * 24 < s.getN Obj.LB_POWER_ON_HOURS)
  let y : Scrub := { x with lines := 0, bits := 0, moved := 0, catchUp := late }
  ({ s with lb := { s.lb with scrub := y } }).setN Obj.LB_SCRUB_POINTER 0

/-- The aerial modes written come into force with nothing on air (R111). -/
def State.releaseAerials (s : State) : State :=
  (s.setN Obj.LOW_AERIAL_IN_FORCE (s.getN Obj.LOW_AERIAL_MODE)).setN Obj.HIGH_AERIAL_IN_FORCE (s.getN Obj.HIGH_AERIAL_MODE)

/-- The seeds of the node table are drawn at the first start, when Logbook holds none (R199). -/
def State.firstSeeds (s : State) : State :=
  if s.lb.committed.any (fun e => e.1 == Obj.TABLE_SEEDS) then s
  else
    let d := s.random 16
    d.2.setP Obj.TABLE_SEEDS (.octets d.1)

/-- PD1 SAFE leaves reset. -/
def State.releaseSafe (s : State) (rootOk : Bool) (rd : List LbRead) : State :=
  let s := s.setCond 1 .on
  let s := (rd.foldl (fun s x => s.lbRead x) s).firstSeeds
  let s := s.setP Obj.LB_BOOT_COUNT (.int (((s.getN Obj.LB_BOOT_COUNT + 1) % 2 ^ 32 : Nat) : Int))
  let s := s.lb.ceilings.foldl (fun s e => s.resumeCounter e.1 e.2) s
  let s := (s.releaseBinnacle rootOk).releaseAerials
  (s.releaseWindows.raiseSaved).releaseScrub

/-! ## PD2 CORE (R70, R449, R453) -/

/-- The longest pause of a Tack ATTACH, and the longest bring-up of the firmware. -/
def attachPause : Count := 400 * msC
def attachBound : Count := 1500 * msC

/-- PD2 CORE leaves reset: the boot ROM runs, and the heartbeats are awaited. -/
def State.releaseCore (s : State) : State :=
  let s := s.setCond 2 .on
  let by' := match s.rst.attaching with
    | some t => t + attachPause
    | none => s.now + attachBound
  let beat : Beat := { last := s.now, warned := false }
  { s with mg := { s.mg with attachBy := some by' },
           pwr := { s.pwr with lastRequest := s.now },
           rst := { s.rst with coreRel := some s.now, attachFrom := s.now, image := none, waitImage := false,
                               beats := List.replicate 4 beat } }

/-! ## PD3 HELM (R191, R310, R338) -/

/-- The bins of a sub-band, from bin `a` to bin `b`, charged as fully used. -/
def fullBins (s : State) (sb : Nat) (a b : Int) : List (Int × Nat) :=
  (List.range (b + 1 - a).toNat).map (fun i : Nat => (a + (i : Int), s.binLen sb / usC))

/-- What of a bin lies between the boundary `t` of a mirror and now fell in an outage of STANDBY or OFF (R191). -/
def State.binAway (s : State) (sb : Nat) (t : Count) (i : Int) : Bool :=
  s.helm.away.any (fun w => decide ((w.1 : Int) ≤ max (i * s.binLen sb) t ∧ min ((i + 1) * s.binLen sb) s.now ≤ (w.2 : Int)))

/-- The charges of sub-band `sb` rebuilt from a mirror of COUNT `t`: those before its bin boundary, and from there on every bin but those
of an outage as fully used (R191). -/
def State.mirrorBins (s : State) (sb : Nat) (t : Count) : List (Int × Nat) :=
  (nth s.helm.mirror sb).charges.filter (fun e => decide (e.1 < (s.binAt sb t : Int))) ++
    (fullBins s sb (s.binAt sb t) (s.binAt sb s.now)).filter (fun e => !s.binAway sb t e.1)

/-- Time since COUNT `t` but for the outages of STANDBY and OFF, in ms. -/
def State.gapMs (s : State) (t : Count) : Nat :=
  (s.now - t - ((s.helm.away.filter (fun w => decide (t ≤ w.1))).map (fun w => w.2 - w.1)).sum) / msC

/-- The limits in force. -/
def State.dutyLimits (s : State) (sb : Nat) : Duty :=
  let lim := s.getN (Obj.SB_LIMIT sb) * s.getN (Obj.SB_WINDOW sb)
  { charges := [], resv := (nth s.helm.duty sb).resv, limit := lim,
    reserve := lim * s.getN (Obj.SB_ALARM_RESERVE sb) / 100, warnedBin := none, bin := s.binAt sb s.now }

/-- The sub-bands in use. -/
def State.subBandsOn (s : State) : List Nat := (List.range 16).filter (fun b => s.getB (Obj.SB_ENABLE b))

/-- The bins are rebuilt from the later copy (R191): from a save, charged as zero since; from the mirror, charged in full from its bin
boundary to now, 1 ms at least in the event, but for outages of STANDBY and OFF; with AON_LOST or no copy, charged in full everywhere.
DUTY_UNACCOUNTED says which. The spec does not say whether a save still counts once Helm has been rebuilt from it and sends: it serves
once, and a reset before the next mirror finds no valid copy, cause 1 (DESIGN CHOICE, log 38). -/
def State.rebuildDuty (s : State) : State :=
  let on := s.subBandsOn
  let put := fun (s : State) (f : Nat → List (Int × Nat)) =>
    let duty := (List.range 16).map (fun b => { s.dutyLimits b with charges := if on.contains b then f b else [] })
    { s with helm := { s.helm with duty := duty } }
  let event := fun (s : State) (hit : List Nat) (ms cause : Nat) =>
    (s.raiseOn 0x4009 1 0x4400 (be 2 ((hit.map (fun b => 2 ^ b)).sum) ++ be 4 (if hit = [] then 0 else min 0xFFFFFFFF (max 1 ms)) ++
      be 1 cause))
  let all := fun (s : State) (cause : Nat) =>
    event (put s (fun b => fullBins s b ((s.binAt b s.now : Int) - 64) (s.binAt b s.now))) on
      ((on.map (fun b => s.getN (Obj.SB_WINDOW b))).foldl max 0 * 1000) cause
  let s' : State := { s with lb := { s.lb with duty := none } }
  if s.getB Obj.AON_LOST then all s' 2
  else
    match s.lb.duty.filter (fun x => s.helm.mirrorAt.elim true (fun t => decide (t ≤ x.2))), s.helm.mirrorAt with
    | some (l, _), _ => event (put s' (fun b => (nth l b).charges)) [] 0 0
    | none, some t =>
      event (put s' (fun b => s.mirrorBins b t))
        (on.filter (fun b => (fullBins s b (s.binAt b t) (s.binAt b s.now)).any (fun e => !s.binAway b t e.1))) (s.gapMs t) 0
    | none, none => all s' 1

/-- PD3 HELM leaves reset: Sextant in RECKONING where the PLL kept running (R338), the pair state (R310), the bins, and Lodestar
to follow. -/
def State.releaseHelm (s : State) : State :=
  let s := s.setCond 3 .on
  let s := if s.sx.pll then s.sxGo 3 6 s.timeUnc else s
  let s := if s.paired then s.csGo 1 else s
  let s := [0, 1].foldl (fun s p => s.ptpLink p (s.link p == 4)) s
  (s.rebuildDuty).updRst (fun r => { r with helmRel := s.now })

/-! ## PD4 PKT (R199, R265) -/

/-- PD4 PKT leaves reset: admission references go on above what was reserved, and the neighbour tables take new seeds. While the output
of the entropy source is withheld they keep seeds of 0 (R367; DESIGN CHOICE, log 38). -/
def State.releasePkt (s : State) : State :=
  let s := s.setCond 4 .on
  let k := Obj.NEXT_ADMISSION_REF
  let n := max (s.getN k) (s.ceiling k)
  let s := (s.setN k n).setCeiling k (n + seqStep)
  if 3 ≤ s.bn.badBlocks then s else
  let a := s.random 16
  let b := a.2.random 16
  { b.2 with alm := { b.2.alm with low := { b.2.alm.low with seeds := (fld a.1 0 8, fld a.1 8 8) },
                                   high := { b.2.alm.high with seeds := (fld b.1 0 8, fld b.1 8 8) } } }

/-! ## The release order (R427, R428) -/

/-- The release order: AON, SAFE, MEMC, HELM, PKT, CORE, CHAN, DEMOD, RXLA to RXHB, TXL, TXH, TRKA, TRKB. -/
def releaseOrder : List Nat := [0, 1, 5, 3, 4, 2, 10, 11, 6, 7, 8, 9, 12, 13, 14, 15]

/-- A domain that no asserted source reaches. -/
def State.freeOfHolds (s : State) (d : Nat) : Bool := s.rst.holds.all (fun h => !(reach h.source h.dom).contains d)

/-- The domains in RESET that may leave it now, in order: up to the first that a source still holds. -/
def State.releasable (s : State) : List Nat :=
  (releaseOrder.filter (fun d => s.cond d == .reset)).takeWhile s.freeOfHolds

/-- REFCLK cycles in ns of COUNT, rounded up. -/
def State.cyclesNs (s : State) (n : Nat) : Count := cdiv (n * secC) (refHz s.sx.clkMode)

/-- What a domain does as it leaves RESET. -/
def State.releaseDom (s : State) (d : Nat) (rootOk : Bool) (rd : List LbRead) : State :=
  if d = 1 then s.releaseSafe rootOk rd
  else if d = 2 then s.releaseCore
  else if d = 3 then s.releaseHelm
  else if d = 4 then s.releasePkt
  else if 14 ≤ d then
    let s := s.setCond d .off
    if s.getB (Obj.TT_ENABLE (d - 14)) then s.enablePort (d - 14) else s
  else if 6 ≤ d then
    let s := ((s.setCond d .off).chanPower).radioPower
    if d < 10 then s.holdGain (d - 6) else s
  else s.setCond d .on

end Sys2Proof.Machine
end

