-- ==== Sys2Proof/Machine/Power.lean ====
section
/-! DEFINITION. The commands of chapter 12: HOLD and STANDBY, slot gating, wake, the supply watch, Anchor and the backup
cell. -/
namespace Sys2Proof.Machine

/-! ## Shared by chapters 12 and 13 -/

/-- LODESTAR_STATE: 0 started, 1 ended. -/
def State.lodestarEvent (s : State) (what : Nat) : State :=
  let ok := s.rst.chart.isSome
  let sent := (s.getN Obj.LODESTAR_UP_FORWARDED + 2 ^ 32 - s.rst.lodeFrom) % 2 ^ 32
  s.raise 0x1304 (if ok then 0 else 2)
    (be 1 what ++ be 1 (b2n ok) ++ be 4 (min 0xFFFFFFFF s.rst.lodeStart) ++ be 4 sent ++
      be 2 (s.rst.chart.elim 0 (fun c => min 0xFFFF c.leftOut)))

/-- The reduced service begins (R442, R443). -/
def State.lodestarOn (s : State) : State :=
  let s := s.updRst (fun r => { r with lodestar := false, lodeFrom := s.getN Obj.LODESTAR_UP_FORWARDED,
                                        lodeStart := (s.now - s.rst.helmRel) / usC })
  let s := s.setB Obj.LODESTAR_ACTIVE true
  ({ s with rx := { s.rx with lodestar := true } }).lodestarEvent 0

/-- The reduced service ends: reception is whole again (R146). -/
def State.lodestarOff (s : State) : State :=
  let s : State := { s with rx := { s.rx with lodestar := false } }
  let s := if s.getN Obj.SPOOL_STATE = 1 then s.upPorts.foldl (fun s p => s.spoolDrain p) s else s
  if s.getB Obj.LODESTAR_ACTIVE then (s.setB Obj.LODESTAR_ACTIVE false).lodestarEvent 1 else s

/-- The state part of the chart is written (R444). -/
def State.chartState (s : State) : State :=
  match s.rst.chart with
  | none => s
  | some c =>
    let p : Pair := { s.sx.pair with count := s.now, offset := s.sx.offset, base := s.sx.base, rate := s.getI Obj.SX_RATE }
    let x : ChartState := { pair := p, unc := s.timeUnc, asns := (List.range 4).map (fun i => s.asnAt i s.time), time := s.time }
    let s := (s.updRst (fun r => { r with chart := some { c with state := some x } })).wearOut wearChart
    s.bump Obj.LB_COMMITS

/-! ## POWER_STATE_SET (R403–R409, R423) -/

/-- Which of the three rows a POWER_STATE_SET is: those of arguments 1 and 2, and any other. -/
def powerArg (w : Wire) : Nat :=
  match w with
  | .uint 1 => 1
  | .uint 2 => 2
  | _ => 0

/-- Full service again from HOLD. -/
def State.leaveHold (s : State) : State :=
  let a := s.fresh
  let m := s.getN Obj.POWER_MODE
  (((a.2.lodestarOff).coreWake).stateChange m 0 a.1).gating m

/-- ENTER_FULL_SERVICE: argument 0, and the refusal of an argument that is none of the three. -/
def execEnterFullService (r : Req) (w : Wire) (s : State) : Res :=
  if powerArg (s.itemSoFar r (Obj.key Obj.POWER_STATE_SET 3) w) ≠ 0 then .next s
  else
    .next (s.start r Obj.POWER_STATE_SET w (fun _ _ v => if v = .int 0 then none else some .range) (fun s _ => s.time)
      (fun s _ _ => (if s.getN Obj.POWER_STATE = 2 then s.leaveHold else s).procDone Obj.POWER_STATE_SET .ok))

/-- ENTER_HOLD: argument 1. Admission is closed while the procedure waits. -/
def execEnterHold (r : Req) (w : Wire) (s : State) : Res :=
  if powerArg (s.itemSoFar r (Obj.key Obj.POWER_STATE_SET 3) w) ≠ 1 then .next s
  else
    .next (s.start r Obj.POWER_STATE_SET w
      (fun s _ _ =>
        if s.getN Obj.POWER_STATE = 2 then none
        else if s.paired then some .notPermittedNow
        else if s.tackUnderWay then some .stateConflict else none)
      (fun s _ => s.lastPromise)
      (fun s _ _ =>
        if s.getN Obj.POWER_STATE = 2 then s.procDone Obj.POWER_STATE_SET .ok else s.updPwr (fun p => { p with holdWait := true })))

/-- HOLD_ENTRY: no frame is pending any more, and a claim round begins: the work of the procedure (R64). -/
def execHoldEntry (s : State) : Res :=
  if s.pwr.holdWait = false ∨ s.pilot.frames ≠ [] ∨ s.pwr.anchor.isSome then .next s
  else
    let a := s.fresh
    let s := ((a.2.updPwr (fun p => { p with holdWait := false })).procEst Obj.POWER_STATE_SET s.time).lodestarOn
    .next (((s.stateChange 2 0 a.1).gating 1).procDone Obj.POWER_STATE_SET .ok)

/-- ENTER_STANDBY: argument 2, refused by the table of R407. -/
def execEnterStandby (r : Req) (w : Wire) (s : State) : Res :=
  if powerArg (s.itemSoFar r (Obj.key Obj.POWER_STATE_SET 3) w) ≠ 2 then .next s
  else
    .next (s.start r Obj.POWER_STATE_SET w
      (fun s _ _ =>
        if (List.range 4).any (fun p => s.getB (Obj.PN_ENABLE p)) then some .serviceRunning
        else if s.pilot.frames ≠ [] ∨ s.getN Obj.SPOOL_FRAMES ≠ 0 then some .stateConflict
        else if s.mg.running ≠ [] ∨ s.tackUnderWay then some .stateConflict else none)
      (fun s _ => s.time)
      (fun s _ _ =>
        let e : Entry := { step := 1, t0 := s.now, from' := s.getN Obj.POWER_STATE, abort := false }
        let s := (s.setN Obj.WAKE_CAUSE 0).updPwr (fun p => { p with entry := some e, woken := false })
        (s.setN Obj.POWER_STATE 3).set Obj.POWER_STATE_SINCE (t64 s.time)))

/-- The latest end of each step of R408, in µs from t0. -/
def stepEndUs (step : Nat) : Nat := [0, 50000, 51000, 51500, 51700].getD step 51800

/-- Clocks stop, contents stay: domains that are ON go to retention. -/
def State.stopClocks (s : State) (ds : List Nat) : State :=
  ds.foldl (fun s d => if s.cond d = .on then s.setCond d .retention else s) s

/-- The work of steps 1 to 4. -/
def State.entryWork (s : State) (step : Nat) : State :=
  if step = 1 then
    let s := (s.lbDrain).chartState
    (({ s with lb := { s.lb with duty := some (s.helm.duty, s.now) }, pilot := { s.pilot with sumLog := s.summary },
                alm := { s.alm with flushed := true } }).bumpBy
      Obj.LB_COMMITS 2).mirrorSx
  else if step = 2 then [0, 1].foldl (fun s p => s.loseTrunk p) s
  else if step = 3 then s.stopClocks ([4, 5] ++ (List.range 8).map (· + 6))
  else ((s.stopClocks [1, 2, 3]).stopPll 0).biasFor 3

/-- Back from an abort point (R409): the steps taken are reversed. The bins saved are no copy of what is sent from here (R191). -/
def State.abandon (s : State) (e : Entry) : State :=
  let s : State := { s with lb := { s.lb with duty := none } }
  let s := (List.range 16).foldl (fun s d => if s.cond d = .retention then s.setCond d .on else s) s
  let s := (s.updRst (fun r => { r with pll := true })).updPwr (fun p => { p with entry := none, woken := false, lastRequest := s.now })
  let s := [0, 1].foldl (fun s p => if s.getB (Obj.TT_ENABLE p) then s.enablePort p else s) s
  let s := ((s.biasFor e.from').setN Obj.POWER_STATE e.from').set Obj.POWER_STATE_SINCE (t64 s.time)
  (s.raiseOn 0x1102 1 0x2000 (be 1 e.step ++ be 1 (s.getN Obj.WAKE_CAUSE))).procAborted Obj.POWER_STATE_SET

/-- Step 5: the power switches of PD2 to PD15 open, and the device is in STANDBY. The procedure goes on at the wake (R423). -/
def State.enterStandby (s : State) (e : Entry) : State :=
  let ds := (List.range 14).map (· + 2)
  let micros := (s.now - e.t0) / usC + 100
  let s := (s.loseDomains ds 7 true).loseObjs ds []
  let s := ds.foldl (fun s d => s.setCond d .off) s
  let s := (s.setCond 1 .retention).updPwr (fun p => { p with entry := none, standby := true })
  let s : State := { s with rst := { s.rst with coreRel := none, image := none, waitImage := false } }
  s.raiseOn 0x1101 0 0x2000 (be 1 e.from' ++ be 1 3 ++ be 1 0 ++ be 4 micros)

/-- The entry goes on: a step ends at its latest time, a wake or an abort is acted on at its abort point. With the PLL stopped
in step 4 COUNT stands, and step 5 follows at once. -/
def State.entryTick (s : State) : State :=
  match s.pwr.entry with
  | none => s
  | some e =>
    if 5 ≤ e.step then s.enterStandby e
    else if s.now < e.t0 + stepEndUs e.step * usC then s
    else
      let s := s.entryWork e.step
      if s.pwr.woken then s.abandon e
      else s.updPwr (fun p => { p with entry := some { e with step := e.step + 1 } })

/-- A DOMAIN reset asserts (R424, R455); the domain's number is recorded. -/
def State.domainReset (s : State) (d : Nat) : State :=
  (s.updRst (fun r => { r with domWait := none })).assertReset srcDomain d 13

/-- A group is on air on a chain of domain `d`. -/
def State.domOnAir (s : State) (d : Nat) : Bool := [0, 1, 2].any (fun c => chainDom c == d && (s.chain c).group.isSome)

/-- A DOMAIN_RESET that has waited for a group to end asserts (R455). -/
def State.domainTick (s : State) : State :=
  match s.rst.domWait with
  | none => s
  | some d => if s.domOnAir d then s else s.domainReset d

/-- A change of bias ends after 20 µs (R402). -/
def State.biasTick (s : State) : State :=
  if s.pwr.biasAt.elim true (fun t => decide (s.now < t + 20 * usC)) then s
  else
    let s := (List.range 16).foldl (fun s d => if s.cond d = .biasChange then s.setCond d .on else s) s
    s.updPwr (fun p => { p with biasAt := none })

/-- The tick of an idle block: COUNT counts while the system PLL runs (R333, R346), a synthesiser with nothing due
goes OFF (R100), a change of bias ends (R402), STANDBY entry goes on, and a DOMAIN_RESET that waits for a group asserts. -/
def State.idle (s : State) : State :=
  let s : State := if s.rst.pll then { s with now := s.now + 1 } else s
  ((((s.synthRelock).synthRest).biasTick).entryTick).domainTick

/-- CORE_IDLE_RETENTION: in HOLD, the firmware attached, with no procedure running and HOLD_CORE_IDLE passed since the last request. -/
def execCoreIdleRetention (s : State) : Res :=
  if s.getN Obj.POWER_STATE ≠ 2 ∨ s.cond 2 ≠ .on ∨ s.mg.busy ∨ s.mg.running ≠ [] ∨ s.now < s.pwr.lastRequest + s.getN Obj.HOLD_CORE_IDLE * msC
  then .next s
  else .next (s.setCond 2 .retention)

/-- POWER_MODE_WRITE: in force from the first cell powered up 1 ms or more later; at once where no PAN runs. -/
def execPowerModeWrite (r : Req) (w : Wire) (s : State) : Res :=
  .next (s.write r 0x2000 1 w (fun _ _ _ => none) (fun s _ v =>
    let s := (s.setP Obj.POWER_MODE v).updPwr (fun p => { p with modeFrom := some (s.now + msC) })
    if s.helm.pans.any (·.running) then s else s.modeApply))

/-! ## Wake (R410–R412) -/

/-- The wake logic watches: from the start of step 1, and in STANDBY. -/
def State.watching (s : State) : Bool := s.pwr.standby || s.pwr.entry.isSome

/-- The chips of a pattern: eight of sync, then the code, a 1 as on, off and a 0 as off, on (R411). -/
def ookSync : List Bool := [true, true, true, true, false, false, false, false]
def ookChips (code : Nat) : List Bool :=
  ookSync ++ (List.range 16).flatMap (fun i => if bit code (15 - i) then [true, false] else [false, true])

/-- OOK_PATTERN_MATCH: the 40 chips the watch receiver has seen. -/
def execOokPatternMatch (chips : List Bool) (s : State) : Res :=
  if bit (s.getN Obj.WAKE_ENABLE) 0 = false ∨ s.watching = false ∨ chips.length ≠ 40 ∨ chips.take 8 ≠ ookSync then .next s
  else if chips = ookChips (s.getN Obj.OOK_WAKE_CODE) then .next (s.wakeSource 2)
  else .next (s.bump Obj.OOK_PARTIAL)

/-- WAKE_N_LOW: the pin has been low for `us` µs. -/
def execWakeNLow (us : Nat) (s : State) : Res :=
  if bit (s.getN Obj.WAKE_ENABLE) 1 ∧ 10 ≤ us then .next (s.wakeSource 4) else .next s

/-- WAKE_DECLARED: PD1 SAFE to RUN bias, PD2 to PD15 powered and held until the PLL has locked. With PD2 CORE held, events are kept
for its Attach (R79). -/
def execWakeDeclared (s : State) : Res :=
  if s.pwr.standby = false ∨ s.pwr.woken = false then .next s
  else
    let m := s.getN Obj.POWER_MODE
    let s := s.updPwr (fun p => { p with standby := false, woken := false, wakeAt := some s.now, modeInForce := m, modeFrom := none })
    let s : State := { (s.setCond 1 .on).biasFor m with mg := { s.mg with busy := true, attachBy := none } }
    .next (((List.range 14).map (· + 2)).foldl (fun s d => s.setCond d .reset) s)

/-! ## Supply watch (R413, R496) -/

/-- The accuracy of the thresholds in percent: 1, or 5 in the safe mode of group AON (R413, R433). -/
def State.vsenseTol (s : State) : Nat := if bit (s.getN Obj.TRIM_STATUS) 0 then 5 else 1

/-- A comparator may report VSENSE `mv` below, or above, a threshold. -/
def State.maySink (s : State) (mv thr : Nat) : Bool := decide (mv * 100 ≤ thr * (100 + s.vsenseTol))
def State.mayRise (s : State) (mv thr : Nat) : Bool := decide (thr * (100 - s.vsenseTol) ≤ mv * 100)

/-- VSENSE is seen at `mv`. -/
def State.sense (s : State) (mv : Nat) : State :=
  let v := min 1500 mv
  let s := (s.setN Obj.VSENSE_NOW v).setN Obj.VSENSE_MIN (min v (s.getN Obj.VSENSE_MIN))
  s.updPwr (fun p => { p with warnMin := min v p.warnMin })

/-- VSENSE_WARN: the WARN comparator has crossed, for `us` µs, downwards (`low`) or upwards. -/
def execVsenseWarn (low : Bool) (mv us : Nat) (s : State) : Res :=
  if s.pwr.off ∨ us < 2 then .next s
  else if low then
    if s.pwr.warn ∨ s.maySink mv 900 = false then .next s
    else
      let s := (s.updPwr (fun p => { p with warn := true, warnMin := min 1500 mv })).sense mv
      .next ((s.bumpQ Obj.VSENSE_WARNINGS).raiseOn 0x1104 2 0x2020 (be 1 0 ++ be 2 s.pwr.warnMin))
  else if s.pwr.warn = false ∨ s.mayRise mv 930 = false then .next s
  else
    let s := (s.updPwr (fun p => { p with warn := false })).sense mv
    .next (s.raiseOn 0x1104 2 0x2020 (be 1 1 ++ be 2 s.pwr.warnMin))

/-- VSENSE_MIN_READ: the lowest since the last read; tracking starts again. -/
def execVsenseMinRead (r : Req) (s : State) : Res :=
  .next (s.readChecked r 0x2020 2 (fun s sess =>
    (s.setN Obj.VSENSE_MIN (s.getN Obj.VSENSE_NOW)).replyRead r sess Obj.VSENSE_MIN (.value (.int (s.getN Obj.VSENSE_MIN)))))

/-! ## Anchor (R414–R417) -/

/-- The commit at the head of the write queue completes and the rest is discarded (R460). -/
def State.lbHead (s : State) : State :=
  match s.lb.queue with
  | [] => s
  | e :: _ => let s := s.lbCommit e.1 e.2; { s with lb := { s.lb with queue := [] } }

/-- PD6 to PD15 go off: groups are cut, receptions dropped, trunk ports leave UP with cause 5. -/
def State.radioOff (s : State) : State :=
  let s := [0, 1, 2].foldl (fun s c => s.loseChain c) s
  let s := s.loseReceive [6, 7, 8, 9, 10, 11]
  let s := [0, 1].foldl (fun s p => s.loseTrunk p) s
  ((List.range 10).map (· + 6)).foldl (fun s d => s.setCond d .off) s

/-- The device is OFF: only PD0 AON is left. -/
def State.goOff (s : State) : State :=
  let s := s.updPwr (fun p => { p with off := true, standby := false, entry := none })
  ((List.range 15).map (· + 1)).foldl (fun s d => s.setCond d .off) s

/-- PFAIL_N is driven low. -/
def State.pfail (s : State) : State := s.updPwr (fun p => { p with pfailN := false })

/-- A trigger of Anchor (R417): it runs, or in STANDBY the device goes OFF without a save. The entry to OFF is reported at the
next start all the same (R403); the spec gives no last record there: a free value. -/
def State.anchorStart (s : State) (thermal : Bool) (mv : Nat) : State :=
  let s := s.updPwr (fun p => { p with thermal := p.thermal || thermal })
  if s.pwr.standby then
    let n := s.fresh
    let ev : AnchorEv := { outcome := 0, record := 1 + n.1 % 8, micros := 0, vsense := mv, trigger := b2n thermal }
    (((n.2.updPwr (fun p => { p with anchorEv := some ev })).assertReset srcSag 0 0).goOff).pfail
  else
    let a : Anchor := { thermal := thermal, start := s.now, vsense := mv }
    (s.radioOff.lbHead).updPwr (fun p => { p with anchor := some a, entry := none })

/-- The records of R415 from number 1 up to `n`, where their source can be clocked. Counters and keys are in
Logbook already. -/
def State.anchorSave (s : State) (n : Nat) : State :=
  let p : Pair := { s.sx.pair with count := s.now, offset := s.sx.offset, base := s.sx.base, rate := s.getI Obj.SX_RATE }
  let asns := (List.range 4).map (fun i => s.asnAt i s.time)
  let s : State := if 3 ≤ n ∧ s.isOn 3 then
      { s.updSx (fun x => { x with saved := p, savedUnc := s.timeUnc, savedAsns := asns }) with alm := { s.alm with anchorSec := s.almSec } }
    else s
  let s : State := if 4 ≤ n ∧ s.isOn 4 then { s with pilot := { s.pilot with sumAnchor := some s.summary } } else s
  let s : State := if 5 ≤ n ∧ s.isOn 3 then { s with lb := { s.lb with duty := some (s.helm.duty, s.now) } } else s
  let s : State := if 6 ≤ n then { s with alm := { s.alm with flushed := true } } else s
  if 7 ≤ n ∧ s.isOn 3 then s.chartState else s

/-- Anchor ends with outcome `out` after record `n`; the device goes OFF, which is what stops the PLL (R349), or main power has returned and a reset of reach SAG
follows. -/
def State.anchorEnd (s : State) (a : Anchor) (out n detail : Nat) (back : Bool) : State :=
  let us := (s.now - a.start) / usC
  let ev : AnchorEv := { outcome := out, record := n, micros := us, vsense := a.vsense, trigger := b2n a.thermal }
  let s := s.anchorSave n
  let s := s.setP Obj.ANCHOR_SAVES (.int (((s.getN Obj.ANCHOR_SAVES + 1) % 2 ^ 32 : Nat) : Int))
  let s := (s.setP Obj.ANCHOR_LAST_DURATION (.int us)).setP Obj.ANCHOR_LAST_TIME (t64 s.time)
  let s := (s.setP Obj.ANCHOR_LAST_OUTCOME (.int out)).updPwr (fun p => { p with anchor := none, anchorEv := some ev })
  let s := ((if back then s else s.stopPll 0).pfail).assertReset srcSag 0 detail
  if back then s else s.goOff

/-- SAG_CROSSING: VSENSE has been at `mv`, below SAG, for `us` µs. -/
def execSagCrossing (mv us : Nat) (s : State) : Res :=
  if s.pwr.off ∨ us < 2 ∨ s.maySink mv 820 = false then .next s
  else
    let s := (s.sense mv).updRst (fun r => { r with supply := false })
    if s.pwr.anchor.isSome then .next s else .next (s.anchorStart false mv)

/-- RAIL_BAD: a main rail below 85 % for `us` µs, VSENSE at `mv`. -/
def execRailBad (mv us : Nat) (s : State) : Res :=
  if s.pwr.off ∨ us < 2 ∨ s.pwr.anchor.isSome then .next s
  else
    let s := (s.sense mv).updRst (fun r => { r with supply := false })
    if (List.range 15).any (fun d => s.isOn (d + 1)) then .next (s.anchorStart false mv) else .next s

/-- ANCHOR_SAVE_DONE: the save marker is written. -/
def execAnchorSaveDone (s : State) : Res :=
  match s.pwr.anchor with
  | none => .next s
  | some a =>
    let back := s.rst.supply && !s.pwr.thermal
    .next (s.anchorEnd a (if back then 2 else 0) 8 (if back then 1 else 0) back)

/-- HOLD_UP_SUPPLY_LOSS: the save is cut short after record `n`. -/
def execHoldUpSupplyLoss (n : Nat) (s : State) : Res :=
  match s.pwr.anchor with
  | none => .next s
  | some a => if 8 ≤ n then .next s else .next ((s.updRst (fun r => { r with supply := false })).anchorEnd a 1 n 2 false)

/-- A reset that takes PD1 SAFE away while Anchor runs ends the save with no record of it complete. -/
def State.anchorCut (s : State) : State :=
  match s.pwr.anchor with
  | none => s
  | some a => s.anchorEnd a 1 0 2 false

/-- Power is back in OFF: the domains are powered and held in RESET. -/
def State.leaveOff (s : State) : State :=
  if s.pwr.off ∧ s.rst.supply ∧ s.pwr.thermal = false then
    let s := s.updPwr (fun p => { p with off := false })
    ((List.range 15).map (· + 1)).foldl (fun s d => s.setCond d .reset) s
  else s

/-- A trim load begins once every main rail is good and no source holds PD1 SAFE (R431, R496). -/
def State.trimStart (s : State) : State :=
  if s.cond 1 = .reset ∧ s.freeOfHolds 1 ∧ s.rst.supply ∧ s.rst.trimRun = false then
    (s.setB Obj.TRIM_VALID false).updRst (fun r => { r with trimRun := true })
  else s

/-- SUPPLY_RETURN: every main rail good and VSENSE, now `mv`, at the return threshold for 1 ms. -/
def execSupplyReturn (mv : Nat) (s : State) : Res :=
  if s.rst.supply ∨ s.mayRise mv 930 = false then .next s
  else
    let s := (s.sense mv).updRst (fun r => { r with supply := true, metAt := s.now })
    .next (if s.pwr.anchor.isSome then s else (s.leaveOff).trimStart)

/-! ## Temperature (R27, R417) -/

/-- THERMAL_LIMIT: sensor `n` reads `tj` (0.1 °C), above 125 °C. -/
def execThermalLimit (tj : Int) (n : Nat) (s : State) : Res :=
  if s.pwr.off ∨ tj ≤ 1250 then .next s else .next (s.raiseOn 0x1108 2 0x2020 (beI 2 tj ++ be 1 n ++ be 1 0))

/-- THERMAL_TRIP: 135 °C. -/
def execThermalTrip (tj : Int) (n : Nat) (s : State) : Res :=
  if s.pwr.off ∨ tj < 1350 ∨ s.pwr.anchor.isSome then .next s
  else .next ((s.raiseOn 0x1108 3 0x2020 (beI 2 tj ++ be 1 n ++ be 1 1)).anchorStart true (s.getN Obj.VSENSE_NOW))

/-- THERMAL_RECOVERY: Tj has been at `tj`, at or below 110 °C, for `secs` s. -/
def execThermalRecovery (tj : Int) (secs : Nat) (s : State) : Res :=
  if s.pwr.thermal = false ∨ s.pwr.off = false ∨ 1100 < tj ∨ secs < 10 then .next s
  else .next (((s.updPwr (fun p => { p with thermal := false })).setN Obj.RESET_DETAIL 3).leaveOff)

/-! ## The backup cell (R419, R420) -/

/-- VBAT_MEASURE: every 3,600 s on main power. -/
def execVbatMeasure (mv : Nat) (s : State) : Res :=
  if s.getN Obj.AON_SUPPLY ≠ 0 ∨ s.pwr.vbatAt.elim false (fun t => decide (s.now < t + 3600 * secC)) then .next s
  else
    let v := min 4000 mv
    let s := (s.setN Obj.VBAT_NOW v).updPwr (fun p => { p with vbatAt := some s.now })
    if v < s.getN Obj.VBAT_LOW_LIMIT ∧ s.pwr.vbatLowAt.elim true (fun t => decide (t + 86400 * secC ≤ s.now)) then
      .next ((s.updPwr (fun p => { p with vbatLowAt := some s.now })).raiseOn 0x1107 2 0x2030 (be 2 v))
    else .next s

/-- AON_SUPPLY_CHANGE: the path that feeds PD0 AON. -/
def execAonSupplyChange (vbat : Bool) (s : State) : Res := .next (s.setN Obj.AON_SUPPLY (b2n vbat))

/-- The calendar starts again (R359). -/
def State.calRestart (s : State) (cause : Nat) : State :=
  let s := (s.setCal [2000, 1, 1, 0, 0, 0, 6]).setN Obj.CAL_SUBSEC 0
  let s := ((s.setB Obj.CAL_HALT false).setB Obj.CAL_END false).setB Obj.CAL_ALARM_FIRED false
  ((s.updSx (fun x => { x with withheld := 0, calRun := true })).calRelease).setOsf cause

/-- PD0 AON has lost its contents (R420): AON_LOST, a reset of reach PORA, the calendar. Causes 0 first power-up, 1 brownout
latch, 2 power-on after use. -/
def State.aonLoss (s : State) (cause : Nat) : State :=
  let s := (s.anchorCut).updPwr (fun p =>
    { p with standby := false, off := false, entry := none, woken := false, wakeAt := none, thermal := false, warn := false,
             vbatAt := none, vbatLowAt := none, brownout := decide (cause = 1), aonCause := some cause })
  let s := s.updRst (fun r =>
    { r with holds := r.holds.filter (fun h => h.source == srcPin), l1 := [], trimRun := false, supply := false })
  let s := s.assertReset srcPora 0 (if cause = 0 then 0 else 12)
  let s := (s.setB Obj.AON_LOST true).setB Obj.SX_TIME_VALID false
  let s := s.updSx (fun x => { x with aonLost := true, slow := 0, ratioMeasured := false })
  (s.setN Obj.SX_SLOW_RATIO 2000000000).calRestart (if cause = 0 then 0 else 2)

/-- AON_BROWNOUT: the AON rail has fallen below 0.66 V. -/
def execAonBrownout (s : State) : Res := .next (s.aonLoss 1)

end Sys2Proof.Machine
end

