-- ==== Sys2Proof/Machine/Reset.lean ====
section
/-! DEFINITION. The commands of chapter 13 but the boot ROM's and Tack's: reset sources, trim, the release of domains, Attach,
Lodestar, Lookout. -/
namespace Sys2Proof.Machine

/-- No reset of the core can matter: the device is OFF, in STANDBY, or Anchor runs. -/
def State.dead (s : State) : Bool := s.pwr.off || s.pwr.standby || s.pwr.anchor.isSome

def State.held (s : State) (source : Nat) : Bool := s.rst.holds.any (fun h => h.source == source)

/-! ## PORA and PIN (R424, R425, R430) -/

/-- PORA_ASSERT: the AON rail rises from below 0.66 V. -/
def execPoraAssert (s : State) : Res := .next (s.aonLoss (if s.sx.first then 0 else 2))

/-- The straps are latched; a CLKMODE that differs from the one stored is noted for R349. -/
def State.latchStraps (s : State) (x : Straps) : State :=
  let clk := x.clkMode % 4
  let s := s.setN Obj.STRAPS (x.boot % 4 + 4 * clk + 16 * (x.rstSeq % 2) + 32 * (x.pairSel % 4))
  let s := s.setN Obj.CS_PAIRSEL (x.pairSel % 4)
  let new := !s.sx.first && !s.sx.aonLost && (s.sx.clkMode != clk)
  s.updSx (fun y => { y with clkMode := clk, modeChanged := y.modeChanged || new })

/-- A source has released: a trim load may begin, and the release sequence starts anew. -/
def State.sourceGone (s : State) (source : Nat) : State :=
  (s.updRst (fun r => { r with holds := r.holds.filter (fun h => h.source != source), metAt := s.now })).trimStart

/-- PORA_RELEASE: the AON rail has stayed above 0.70 V for 1 ms; `test` is TEST_EN, `supply` says that every main rail is
good. -/
def execPoraRelease (x : Straps) (test supply : Bool) (s : State) : Res :=
  if s.held srcPora = false then .next s
  else
    let s := (s.setCond 0 .on).latchStraps x
    let s := s.updRst (fun r => { r with test := test, supply := supply })
    let s := s.updPwr (fun p => { p with brownout := false, pfailN := true })
    .next (s.sourceGone srcPora)

/-- PIN_ASSERT: NRST_N has been low for `ns`. Between 200 ns and 1 µs it may assert or not. -/
def execPinAssert (ns : Nat) (s : State) : Res :=
  if ns < 200 then .next s
  else if 1000 ≤ ns then .next (s.anchorCut.assertReset srcPin 0 0)
  else
    let a := s.fresh
    if a.1 % 2 = 0 then .next (a.2.anchorCut.assertReset srcPin 0 0) else .next a.2

/-- PIN_RELEASE: NRST_N has stayed high for 1 µs. -/
def execPinRelease (x : Straps) (s : State) : Res :=
  if s.held srcPin = false then .next s else .next ((s.latchStraps x).sourceGone srcPin)

/-! ## The JTAG port (R492): no command of the table works it, and it reaches nothing else of the block -/

def jtagIdcode : Nat := 0x18640C5B

/-- An instruction enters the port; one that it does not support acts as BYPASS. -/
def State.jtagLoad (s : State) (ir : Option JtagIr) : State := s.updRst (fun r => { r with jtag := ir.getD .bypass })

/-- The instruction that acts: EXTEST only while NRST_N is low, else BYPASS. -/
def State.jtagActs (s : State) : JtagIr := if s.rst.jtag = .extest ∧ s.held srcPin = false then .bypass else s.rst.jtag

/-- What JTAG_TDO gives while as many bits as `tdi` are shifted: the register in the path, then the bits shifted in; `pins` are the
cells of the boundary as captured. -/
def State.jtagScan (s : State) (pins tdi : List Bool) : List Bool :=
  let reg := match s.jtagActs with
    | .bypass => [false]
    | .idcode => (List.range 32).map (fun i => bit jtagIdcode i)
    | .sample | .extest => pins
  (reg ++ tdi).take tdi.length

/-! ## WARM, CORE, DOMAIN (R424, R454, R455) -/

/-- WARM_ASSERT: `detail` as RESET_DETAIL gives it, 5 to 9; that of WARM_RESTART 1 ms after its reply. -/
def execWarmAssert (detail : Nat) (s : State) : Res :=
  if s.dead ∨ detail < 5 ∨ 9 < detail then .next s
  else if detail = 9 then
    if s.rst.warmAt.elim true (fun t => decide (s.now < t)) then .next s
    else .next ((s.updRst (fun r => { r with warmAt := none })).assertReset srcWarm 0 9)
  else .next (s.assertReset srcWarm 0 detail)

/-- CORE is reset into an image of the Tack (R449): t0 of the pause, and the trunk ports that are UP. -/
def State.tackReset (s : State) (detail : Nat) : State :=
  let up := [0, 1].filter (fun p => s.getN (Obj.TT_LINK_STATE p) == 4)
  let s := s.assertReset srcCore 0 detail
  let s : State := { s with mg := { s.mg with attachBy := some (s.now + attachPause) } }
  s.updRst (fun r => { r with attaching := some s.now, upPorts := if detail = 10 then up else r.upPorts })

/-- The ATTACH of a Tack is due (R445, R449). -/
def State.attachDue (s : State) : Bool := decide (s.getN Obj.TACK_STAGE_NOW = 4) && !s.mg.busy && decide (s.rst.attachAt ≤ s.time)

/-- CORE_ASSERT: 4 Lookout level 1, 10 the ATTACH of a Tack, 11 its fallback. -/
def execCoreAssert (detail : Nat) (s : State) : Res :=
  if s.dead then .next s
  else if detail = 4 then .next (s.assertReset srcCore 0 4)
  else if detail = 10 then (if s.attachDue then .next (s.tackReset 10) else .next s)
  else if detail = 11 then
    (if s.getN Obj.TACK_STAGE_NOW = 6 ∧ s.mg.busy = false then .next (s.tackReset 11) else .next s)
  else .next s

/-- HELM_LOCKSTEP (R192): the sequencers differ; `steps` since the last check that held. -/
def execHelmLockstep (steps : Nat) (s : State) : Res :=
  if s.dead ∨ s.isOn 3 = false then .next s
  else .next ((s.raise 0x4008 3 (be 4 steps ++ be 5 (s.asnAt 0 s.time))).assertReset srcWarm 0 7)

/-- WARM_RESTART: the argument must be true. -/
def execWarmRestart (r : Req) (w : Wire) (s : State) : Res :=
  .next (s.start r Obj.WARM_RESTART w (fun _ _ v => if v = .bool true then none else some .range) (fun s _ => s.time + msT)
    (fun s _ _ => s.updRst (fun r => { r with warmAt := some (s.now + msC) })))

/-- DOMAIN_RESET: domains 3 to 15. -/
def execDomainReset (r : Req) (w : Wire) (s : State) : Res :=
  .next (s.start r Obj.DOMAIN_RESET w
    (fun s _ v =>
      let d := v.toInt.toNat
      if d < 3 ∨ 15 < d then some .range
      else if d ≤ 5 ∧ (List.range 4).any (fun p => s.getB (Obj.PN_ENABLE p)) then some .serviceRunning
      else none)
    (fun s _ => s.time)
    (fun s _ v =>
      let d := v.toInt.toNat
      if s.domOnAir d then s.updRst (fun r => { r with domWait := some d }) else s.domainReset d))

/-- The hold of a source has run out. COUNT stands while the PLL is stopped: the command then says that the time has passed.
SAG also waits for main power and for the end of the thermal condition. -/
def State.holdOver (s : State) (h : Hold) : Bool :=
  match h.until' with
  | none => false
  | some t =>
    (!s.rst.pll || decide (t ≤ s.now)) &&
      (h.source != srcSag || (s.rst.supply && !s.pwr.thermal && !s.pwr.off))

/-- The preconditions of a release (R429, R485, R496). -/
def State.mayRelease (s : State) : Bool :=
  s.rst.pll && s.rst.supply && !s.rst.test && !s.rst.trimRun && s.getB Obj.TRIM_VALID && !s.dead

/-- Under SEQ a domain further down the order that loses its last hold leaves the gap of the next one alone (R428). -/
def State.gapRuns (s : State) : Bool := bit (s.getN Obj.STRAPS) 4 && s.mayRelease && !s.releasable.isEmpty

/-- RESET_HOLD_END: every fixed hold that has run out ends. -/
def execResetHoldEnd (s : State) : Res :=
  let gone := s.rst.holds.filter s.holdOver
  if gone = [] then .next s
  else
    let met := if s.gapRuns then s.rst.metAt else s.now
    let s := s.updRst (fun r => { r with holds := r.holds.filter (fun h => !gone.contains h), metAt := met })
    .next (if gone.any (fun h => h.source == srcSag) then s.trimStart else s)

/-! ## Trim (R431–R433) -/

/-- The word used, `none` for the safe default, and the outcome of TRIM_CONFLICT (R432). -/
def trimChoice (copies : List (Option Nat)) : Option Nat × Option Nat :=
  match copies.filterMap id with
  | [a, b, c] =>
    if a = b ∧ b = c then (some a, none)
    else if a = b ∨ a = c then (some a, some 0)
    else if b = c then (some b, some 0)
    else (none, some 1)
  | [a, b] => if a = b then (some a, some 2) else (none, some 1)
  | [a] => (some a, some 2)
  | _ => (none, some 1)

/-- One word is chosen: its event, its group's safe mode, and its value where the dictionary shows it. -/
def State.trimWord (s : State) (w : TrimWord) : State :=
  let c := trimChoice w.copies
  let s := match c.2 with
    | none => s
    | some out => s.raise 0x1202 (if out = 1 then 3 else 2) (be 1 w.group ++ be 1 out ++ be 2 w.number)
  if w.what = 2 then
    let v := c.1.getD ((w.copies.filterMap id).foldl max 0)
    s.setP Obj.ROLLBACK_FLOOR (.int ((max (s.getN Obj.ROLLBACK_FLOOR) (min 64 v) : Nat) : Int))
  else
    let st := s.getN Obj.TRIM_STATUS
    let s := if c.1.isNone ∧ bit st w.group = false then s.setN Obj.TRIM_STATUS (st + 2 ^ w.group) else s
    match w.what, c.1 with
    | 1, some v => if [64, 128, 256, 512, 1024].contains v then s.setN Obj.SEQ_GAP v else s
    | _, _ => s

/-- TRIM_LOAD_DONE: every word is chosen, and TRIM_VALID set. The bias follows the group LOGIC, and a receive group in safe mode fixes
the gain step of each port (R432, R433). -/
def execTrimLoadDone (words : List TrimWord) (s : State) : Res :=
  if s.rst.trimRun = false then .next s
  else
    let s := ((s.setN Obj.TRIM_STATUS 0).setN Obj.SEQ_GAP 256).updRst (fun r => { r with trimRun := false, metAt := s.now })
    let s := (words.foldl (fun s w => s.trimWord w) s).setB Obj.TRIM_VALID true
    let s := s.biasFor (s.getN Obj.POWER_STATE)
    .next (if bit (s.getN Obj.TRIM_STATUS) 3 then
        (List.range 4).foldl (fun s p => s.setN (Obj.PP_GAIN_STEP_NOW p) (safeStep p)) s
      else s)

/-! ## The clock and the release of domains (R427–R429, R496) -/

/-- PLL_LOCK: on a running REFCLK, with no source that stops the PLL asserted. -/
def execPllLock (s : State) : Res :=
  if s.rst.pll ∨ s.dead ∨ s.pwr.entry.isSome ∨ s.held srcPora ∨ s.held srcSag ∨ s.held srcPin then .next s
  else .next (s.updRst (fun r => { r with pll := true, metAt := s.now }))

/-- REFCLK_LOSS (R27): the PLL stops and PD1 to PD15 are held in reset until it locks again. The FIFOs and counters of PD1 SAFE go
with it (R80). -/
def execRefclkLoss (s : State) : Res :=
  if s.rst.pll = false ∨ s.dead then .next s
  else
    let s : State := { s with mg := { s.mg with busy := true, attachBy := none },
                              rst := { s.rst with coreRel := none, image := none, waitImage := false, attaching := none } }
    .next ((s.emptyFifos.stopPll 2).intoReset ((List.range 15).map (· + 1)) 6 0)

/-- RUN or GATED, by POWER_MODE (R403). -/
def State.syncMode (s : State) : State :=
  let m := s.getN Obj.POWER_MODE
  ((s.biasFor m).setN Obj.POWER_STATE m).updPwr (fun p => { p with modeInForce := m, modeFrom := none })

/-- A domain leaves RESET. -/
def State.releaseOne (s : State) (rootOk : Bool) (rd : List LbRead) (d : Nat) : State :=
  let s := s.releaseDom d rootOk rd
  let s : State := if d = 1 then s.syncMode else s
  let s : State := if (d = 3 ∨ d = 4) ∧ s.mg.busy = false then
      s.updRst (fun r => { r with reattach := r.reattach ++ [d], attachFrom := s.now })
    else s
  if s.rst.domNo = d ∧ s.rst.domWait.isNone then s.procDone Obj.DOMAIN_RESET .ok else s

/-- DOMAIN_RELEASE: under SYNC all that may, 64 REFCLK cycles after the preconditions were met; under SEQ the next one, SEQ_GAP
cycles after the previous. `rootOk` is the outcome of the check of the root bank, `rd` what reading Logbook finds, where PD1
SAFE is released. -/
def execDomainRelease (rootOk : Bool) (rd : List LbRead) (s : State) : Res :=
  let seq := bit (s.getN Obj.STRAPS) 4
  let wait := s.cyclesNs (if seq then s.getN Obj.SEQ_GAP else 64)
  let l := if seq then s.releasable.take 1 else s.releasable
  if s.mayRelease = false ∨ l = [] ∨ s.now < s.rst.metAt + wait then .next s
  else
    let s := l.foldl (fun s d => s.releaseOne rootOk rd d) s
    let s := (s.updPwr (fun p => { p with pfailN := true })).updRst (fun r => { r with metAt := s.now })
    .next (if (List.range 16).all (fun d => s.cond d != .reset) then s.set Obj.RESET_RELEASE_TIME (t64 s.time) else s)

/-! ## Attach (R79, R265, R412, R441, R448) -/

/-- The held records are written, in the order in which they were raised (R79), and the agent answers again. -/
def State.writeHeld (s : State) : State :=
  let fifos := s.mg.fifos.map (fun f => { f.held.foldl Fifo.write f with held := [] })
  { s with mg := { s.mg with fifos := fifos, busy := false, attachBy := none }, rst := { s.rst with aborted := [] } }

/-- RESET_RECORDED. -/
def State.resetRecorded (s : State) (ms : Nat) : State :=
  let c := s.getN Obj.RESET_CAUSE
  if s.rst.fresh then s
  else
    (s.raise 0x1201 (if c % 16 = 0 then 0 else 2)
      (be 2 c ++ be 1 (s.getN Obj.RESET_DETAIL) ++ be 1 (if bit c 5 then s.rst.domNo else 0xFF) ++ be 1 (s.getN Obj.STRAPS) ++
        be 4 (min 0xFFFFFFFF ms))).updRst (fun r => { r with fresh := true })

/-- LEDGER_LOST from the newest copy that can be read (R28, R265): its count is exact where Anchor saved it, else an upper bound, which
takes in every reference issued since that the reservation allows. -/
def State.ledgerLost (s : State) : State :=
  match s.rst.lost with
  | none => s
  | some e =>
    let c := e.copies.head?.getD (2, { lowest := 0, highest := 0, count := 0 })
    let n := if c.1 = 0 then c.2.count else c.2.count + (e.last - c.2.highest)
    (s.raiseOn 0x5002 2 0x6000 (be 8 c.2.lowest ++ be 8 e.last ++ be 4 n ++ be 1 (b2n (c.1 == 0)) ++ be 1 e.cause)).updRst (fun r => { r with lost := none })

/-- TACK_RESUMED (R448). -/
def State.tackResumed (s : State) : State :=
  match s.rst.resumed with
  | none => s
  | some (op, stage, boots) =>
    (s.raise 0x1302 2 (be 1 op ++ be 1 stage ++ be 1 boots)).updRst (fun r => { r with resumed := none })

/-- Waking from STANDBY is complete (R412, R423): the ready frame for a host that has clocked (R51). -/
def State.woken (s : State) : State :=
  match s.pwr.wakeAt with
  | none => s
  | some t =>
    let m := s.getN Obj.POWER_MODE
    let us := (s.now - t) / usC
    let s := ((s.updPwr (fun p => { p with wakeAt := none })).stateChange m 1 (min 0xFFFFFFFF us)).gating m
    let s := (s.raiseOn 0x1103 0 0x2000 (be 1 (s.getN Obj.WAKE_CAUSE) ++ be 4 (us / 1000))).procDone Obj.POWER_STATE_SET .ok
    if s.mg.quay.wakeWait then
      ({ s with mg := { s.mg with quay := { s.mg.quay with wakeWait := false } } }).quayFrame 4 { tok := 0, key := 0, ack := none } 0
        .none none
    else s

/-- The table in force is served again after Lodestar served from its chart; the recovery image stays in Lodestar service
(R439, R442). -/
def State.fullTable (s : State) : State :=
  if s.fromChart = false ∨ s.rst.image = some 3 then s
  else
    ((s.tableFrom s.rst.table).updRst (fun r => { r with lodestar := false })).lodestarOff

/-- The Trickle timers of the enabled PANs start again after a reset of PD4 PKT (R223). -/
def State.rplAgain (s : State) : State :=
  (List.range 4).foldl (fun s p =>
    if s.getB (Obj.PN_ENABLE p) ∧ (nth s.alm.rpl p).started = false then
      let x : Rpl := { interval := s.getN (Obj.RP_DIO_IMIN p), counter := 0, started := true, since := s.now, fired := false }
      { s with alm := { s.alm with rpl := upd s.alm.rpl p (fun _ => x) } }
    else s) s

/-- FIRMWARE_ATTACH: the firmware has reattached to Helm, Almanac and Pilot. -/
def execFirmwareAttach (s : State) : Res :=
  if s.dead ∨ s.isOn 1 = false ∨ s.isOn 2 = false ∨ s.isOn 3 = false ∨ s.isOn 4 = false then .next s
  else if (s.mg.busy = false ∨ s.rst.image.isNone) ∧ s.rst.reattach = [] then .next s
  else
    let ms := (s.now - s.rst.attachFrom) / msC
    let s := (s.writeHeld).setN Obj.ATTACH_DURATION (min 0xFFFFFFFF ms)
    let s := (s.resetRecorded ms).ledgerLost
    let s := (s.tackResumed).fullTable
    let s := (s.rplAgain).woken
    let s := (s.updPwr (fun p => { p with anchorEv := none, aonCause := none })).updRst (fun r =>
      { r with coreRel := none, attaching := none, reattach := [] })
    let s : State := { s with pilot := { s.pilot with sumAnchor := none } }
    .next (if s.rst.warmAt.isNone then s.procDone Obj.WARM_RESTART .ok else s)

/-! ## Lodestar (R442–R444) -/

/-- LODESTAR_START: after a release of PD3 HELM. A chart that is absent gives no service. -/
def execLodestarStart (s : State) : Res :=
  if s.rst.lodestar = false ∨ s.isOn 3 = false ∨ s.pwr.wakeAt.isSome ∨ s.dead then .next s
  else
    let s := s.lodestarOn
    match s.rst.chart with
    | none => .next s
    | some c => .next { s with helm := { s.helm with sfs := c.sfs, cells := c.cells } }

/-- CHART_STATE_WRITE: every 1 s. -/
def execChartStateWrite (s : State) : Res :=
  let last := s.rst.chart.bind (·.state)
  if s.isOn 1 = false ∨ s.isOn 3 = false ∨ s.dead ∨ last.elim false (fun x => decide (s.time < x.time + secT)) then .next s
  else .next s.chartState

/-! ## Lookout (R453) -/

/-- A heartbeat is due every 10 ms. -/
def beatC : Count := 10 * msC

/-- CORE_HEARTBEAT. -/
def execCoreHeartbeat (core : Nat) (s : State) : Res :=
  if s.isOn 2 = false ∨ 4 ≤ core then .next s
  else .next (s.updRst (fun r => { r with beats := upd r.beats core (fun _ => { last := s.now, warned := false }) }))

/-- LOOKOUT_WARN: late by LOOKOUT_WARN_TIME, reported once. -/
def execLookoutWarn (core : Nat) (s : State) : Res :=
  let b := nth s.rst.beats core
  if s.isOn 2 = false ∨ 4 ≤ core ∨ b.warned ∨ s.now < b.last + beatC + s.getN Obj.LOOKOUT_WARN_TIME * msC then .next s
  else
    let s := s.updRst (fun r =>
      { r with beats := upd r.beats core (fun x => { x with warned := true }), lookAt := some s.now })
    .next ((s.bumpQ Obj.LOOKOUT_WARNS).raise 0x1501 2 (be 1 core ++ be 4 ((s.now - (b.last + beatC)) / msC)))

/-- LOOKOUT_RESET of a level. -/
def State.lookoutReset (s : State) (level cause core : Nat) : State :=
  let s := if level = 1 then s.assertReset srcCore 0 4 else s.assertReset srcWarm 0 5
  let s := s.updRst (fun r => { r with lookAt := some s.now, l1 := if level = 1 then s.now :: r.l1 else [] })
  (s.bumpQ (if level = 1 then Obj.LOOKOUT_L1_RESETS else Obj.LOOKOUT_L2_RESETS)).raise 0x1502 3
    (be 1 level ++ be 1 cause ++ be 1 core)

/-- LOOKOUT_LEVEL1: the heartbeat of `core` is absent for LOOKOUT_CORE_TIME, or with core 0xFF no Attach came within 2 s. -/
def execLookoutLevel1 (core : Nat) (s : State) : Res :=
  if s.dead ∨ s.isOn 2 = false then .next s
  else if core < 4 then
    if s.now < (nth s.rst.beats core).last + s.getN Obj.LOOKOUT_CORE_TIME * msC then .next s
    else .next (s.lookoutReset 1 0 core)
  else if s.rst.coreRel.elim true (fun t => decide (s.now < t + 2 * secC)) then .next s
  else .next (s.lookoutReset 1 1 0xFF)

/-- How long Helm's sequencer may stand still, in µs: twice the shortest enabled slot, or 200 ms with no PAN enabled (R453). -/
def State.helmStall (s : State) : Nat :=
  ((List.range 4).filter (fun p => s.getB (Obj.PN_ENABLE p))).foldl (fun m p =>
    min m (2 * s.getN (Obj.PN_SLOT_DURATION p))) 200000

/-- LOOKOUT_LEVEL2: causes 2 a third level-1 reset within 600 s, 3 Helm, 4 Pilot, 5 Almanac without progress for `us` µs. -/
def execLookoutLevel2 (x : Stall) (s : State) : Res :=
  let cause := x.cause
  let many := decide (3 ≤ (s.rst.l1.filter (fun t => decide (s.now < t + 600 * secC))).length)
  if s.dead then .next s
  else if (cause = 2 ∧ many) ∨ (cause = 3 ∧ s.isOn 3 ∧ s.helmStall ≤ x.us) ∨ ((cause = 4 ∨ cause = 5) ∧ s.isOn 4 ∧ 1000 ≤ x.us) then
    .next (s.lookoutReset 2 cause 0xFF)
  else .next s

end Sys2Proof.Machine
end

