-- ==== Sys2Proof/Machine/Tack.lean ====
section
/-! DEFINITION. The boot ROM and Tack (spec 13 R434–R452, R457; 11 R368, R371, R391, R392): images, the choice at boot, the
stages of a firmware replacement. -/
namespace Sys2Proof.Machine

/-! ## Images (R434, R436, R437) -/

/-- FLASH_MAP for a flash of so many Mbit; `none` where it does not answer. -/
def mapOf (mbit : Option Nat) : Nat :=
  match mbit with
  | none => 0
  | some n => if n < 256 then 0 else if n < 512 then 1 else if n < 1024 then 2 else if n < 2048 then 3 else 4

/-- Blob records of each map. -/
def mapRecords (m : Nat) : Nat := [0, 97792, 228864, 359936, 1408512].getD m 0

/-- A segment is 64 KiB. -/
def segSize : Nat := 65536

/-- The first `n` octets of a bank, erased flash reading 0xFF. -/
def bankOctets (b : Bank) (n : Nat) : Octets :=
  let seg := fun (i : Nat) =>
    let o := (b.find? (fun e => e.1 == i * segSize)).elim [] (·.2)
    o ++ List.replicate (segSize - o.length) 0xFF
  ((List.range (cdiv n segSize)).flatMap seg).take n

/-- The image of a bank: its header says how long it is. -/
def bankImage (b : Bank) : Octets :=
  let h := (b.find? (fun e => e.1 == 0)).elim [] (·.2)
  bankOctets b (32768 + min 6258688 (fld h 16 4))

/-- What R437 finds wrong with an image, as BOOT_FAILED names it: 0 header, 1 digest, 2 signature, 3 rollback, 4 stepping. -/
def imageFault (o : Octets) (floor : Nat) : Option Nat :=
  let len := fld o 16 4
  if fld o 0 4 ≠ 0x5A4B4657 ∨ fld o 4 2 ≠ 1 then some 0
  else if fld o 6 2 ≠ 0x00C1 then some 4
  else if len < 1 ∨ 6258688 < len ∨ o.length < 32768 + len then some 0
  else if (slice o 20 12).any (fun x => x != 0) ∨ (slice o 29856 2912).any (fun x => x != 0) then some 0
  else if Config.shake256 32 (slice o 32768 len) ≠ slice o 32 32 then some 1
  else if Config.verify (o.take 64) (slice o 64 29792) = false then some 2
  else if 64 < fld o 12 4 ∨ fld o 12 4 < floor then some 3
  else none

def State.floor (s : State) : Nat := s.getN Obj.ROLLBACK_FLOOR
def State.bank (s : State) (b : Nat) : Bank := nth s.rst.banks b
def State.bankFault (s : State) (b : Nat) : Option Nat := imageFault (bankImage (s.bank b)) s.floor
def State.bankVersion (s : State) (b : Nat) : Nat := if (s.bankFault b).isNone then fld (bankImage (s.bank b)) 8 4 else 0

/-- BANK_A_VERSION and BANK_B_VERSION. -/
def State.bankVersions (s : State) : State :=
  (s.setN Obj.BANK_A_VERSION (s.bankVersion 0)).setN Obj.BANK_B_VERSION (s.bankVersion 1)

/-! ## Measurement and device keys (R368, R370, R371) -/

/-- MEAS of an image with this DIGEST. -/
def measOf (digest : Octets) : Octets := Config.shake256 32 (measDev ++ digest)

/-- An image starts: 0 bank A, 1 bank B, 2 Quay download, 3 recovery. The measurement registers are written; the sealing that is
not the image's own is the other one. A trial leaves ACTIVE_BANK. -/
def State.startImage (s : State) (i version : Nat) (digest : Octets) (trial : Bool) : State :=
  let old := s.getO Obj.BN_MEAS
  let new := measOf digest
  let s := s.updBn (fun b => { b with other := if b.other = new ∧ new ≠ old then old else b.other })
  let s := ((s.set Obj.BN_MEAS_DEV (.octets measDev)).set Obj.BN_MEAS (.octets new))
  let s := (s.setN Obj.FIRMWARE_VERSION version).set Obj.FIRMWARE_DIGEST (.octets digest)
  let s := s.updRst (fun r => { r with image := some i, waitImage := false })
  if trial ∨ s.getN Obj.ACTIVE_BANK = i then s else s.setP Obj.ACTIVE_BANK (.int i)

def State.startBank (s : State) (b : Nat) (trial : Bool) : State :=
  let o := bankImage (s.bank b)
  s.startImage b (fld o 8 4) (slice o 32 32) trial

def State.startRecovery (s : State) : State := s.startImage 3 Config.recoveryVersion Config.recoveryDigest false

/-- BOOT_FAILED: bank tried, cause, what was started. -/
def State.bootFailed (s : State) (b cause started : Nat) : State :=
  s.raise 0x1203 3 (be 1 b ++ be 1 cause ++ be 1 started)

/-- R438: the bank named, or the other one, or the recovery image. -/
def State.bootBank (s : State) (b : Nat) : State :=
  match s.bankFault b with
  | none => s.startBank b false
  | some f =>
    match s.bankFault (1 - b) with
    | none => (s.bootFailed b f 0).startBank (1 - b) false
    | some g => ((s.bootFailed b f 1).bootFailed (1 - b) g 1).startRecovery

/-! ## The Tack journal and the stages (R445, R447) -/

/-- The bank of the newest CONFIRM_COMMIT, or ACTIVE_BANK where the journal has none (R461). -/
def State.confirmedBank (s : State) : Nat :=
  match s.rst.tack.find? (fun t => t.op == 7) with
  | some t => t.bank % 2
  | none => if s.getN Obj.ACTIVE_BANK < 2 then s.getN Obj.ACTIVE_BANK else 0

/-- The inactive bank. -/
def State.tackTarget (s : State) : Nat := 1 - (if s.getN Obj.ACTIVE_BANK < 2 then s.getN Obj.ACTIVE_BANK else s.confirmedBank)

def State.tackHead (s : State) : TackRec := s.rst.tack.head?.getD default

/-- A record as its 64 octets, the bit map of the segments with bit 0 for offset 0 (R447). -/
def tackOctets (t : TackRec) : Octets :=
  let map := (List.range 96).foldl (fun m i => m + if t.segs.contains i then 2 ^ i else 0) 0
  let body := be 4 t.seq ++ be 1 t.op ++ be 1 t.bank ++ be 1 t.boots ++ be 1 0 ++ be 4 t.handle ++ be 4 t.length ++ be 12 map
    ++ fit 32 t.digest
  body ++ be 4 (crc32c body)

/-- A record is appended and stored: the ring holds 256. -/
def State.tackPut (s : State) (t : TackRec) : State :=
  let seq := s.rst.tack.head?.elim 0 (fun x => (x.seq + 1) % 2 ^ 32)
  let t := { t with seq := seq }
  ((s.updRst (fun r => { r with tack := t :: r.tack.take 255 })).bump Obj.LB_COMMITS).emit (.stored 5 (tackOctets t))

/-- A record of the running Tack with this OP. -/
def State.tackOp (s : State) (op : Nat) : State := s.tackPut { s.tackHead with op := op }

def State.setStage (s : State) (n : Nat) : State := s.setP Obj.TACK_STAGE_NOW (.int n)

/-- A stage is reached: TACK_STAGE. -/
def State.stageEvent (s : State) (n : Nat) : State :=
  let t := s.tackHead
  let v := if n = 1 then 0 else fld (bankImage (s.bank t.bank)) 8 4
  (s.setStage n).raise 0x1301 0 (be 1 n ++ be 4 t.handle ++ be 4 v ++ be 1 t.bank)

/-- The measurement the staged image will have. -/
def State.tackMeas (s : State) : Octets := measOf s.tackHead.digest

/-- Two sealings end: the new one is kept, or the old one (R392). Causes 1 CONFIRM, 2 fallback, 3 abort, and 0 where SEAL
failed. -/
def State.sealEnd (s : State) (cause : Nat) (keepNew : Bool) : State :=
  let new := s.tackMeas
  let drop := fun (r : KeyRec) => (r.meas == new) != keepNew
  let n := (s.bn.records.filter drop).length
  if s.bn.other = [] then s
  else
    let s := s.updBn (fun b => { b with records := b.records.filter (fun r => !drop r), erased := b.erased + n, other := [] })
    let s := if s.getN Obj.BN_STATE = 2 then s.setN Obj.BN_STATE 0 else s
    s.raiseOn 0x2015 0 0x9000 (be 1 0 ++ be 1 cause ++ be 4 n)

/-- The Tack is over, with no trial and no prediction. -/
def State.tackOver (s : State) : State :=
  let s := ((s.setStage 0).setP Obj.TRIAL (.bool false)).setP Obj.TRIAL_BOOTS (.int 0)
  (s.set Obj.BN_MEAS_PREDICTED (.octets (List.replicate 32 0))).updRst (fun r => { r with confirmed := false })

/-- The Tack ends before its ATTACH: ABANDON, and the old sealing is kept. -/
def State.abandonTack (s : State) : State := ((s.sealEnd 3 false).tackOp 8).tackOver

/-- FALLBACK_COMMIT: the old image has started; TACK_FALLBACK, and the procedure ends FAILED (R451). -/
def State.fallbackCommit (s : State) (cause : Nat) : State :=
  let h := s.tackHead.handle
  let s := ((s.sealEnd 2 false).tackOp 10).tackOver
  (s.raise 0x1303 2 (be 1 cause ++ be 4 h ++ be 4 (s.getN Obj.FIRMWARE_VERSION))).procDone Obj.TACK .internal

/-- The new image starts in trial for the `n`-th time (R448, R449). -/
def State.startTrial (s : State) (n : Nat) : State :=
  let t := s.tackHead
  let s := (s.tackPut { t with op := 11, boots := n }).startBank t.bank true
  let dl := s.time + 120 * secT
  let s := ((s.setP Obj.TRIAL (.bool true)).setP Obj.CONFIRM_DEADLINE (t64 dl)).setP Obj.TRIAL_BOOTS (.int n)
  (s.updRst (fun r => { r with trialFrom := s.now, confirmed := false })).procEst Obj.TACK dl

/-- The staged image cannot be started in trial: the old one is, and the Tack falls back with cause 3. -/
def State.trialFails (s : State) (c : Nat) (fault : Option Nat) : State :=
  let s := match fault with
    | none => s
    | some f => s.bootFailed s.tackHead.bank f 0
  ((s.tackOp 9).bootBank c).fallbackCommit 3

/-- No prediction is armed: a reset has reached PD1 SAFE since VERIFY (R369). -/
def State.unarmed (s : State) : Bool := (s.getO Obj.BN_MEAS_PREDICTED).all (fun b => b == 0)

/-- A Tack goes on at a stage after a reset: TACK_RESUMED will say so. -/
def State.resumeTack (s : State) (stage : Nat) : State :=
  let t := s.tackHead
  (s.setStage stage).updRst (fun r => { r with resumed := some (t.op, stage, t.boots) })

/-- The boot ROM acts on the latest record of the Tack journal (R448, R449). -/
def State.bootTack (s : State) : State :=
  let t := s.tackHead
  let c := s.confirmedBank
  let op := if s.rst.tack = [] then 0 else t.op
  let fault := s.bankFault t.bank
  if op = 5 ∧ s.rst.attaching.isSome then
    if fault.isNone ∧ measOf (slice (bankImage (s.bank t.bank)) 32 32) = s.getO Obj.BN_MEAS_PREDICTED then
      ((s.tackOp 6).startTrial 1).stageEvent 5
    else s.trialFails c fault
  else if op = 6 ∨ op = 11 then
    if 3 ≤ t.boots + 1 then (((s.tackPut { t with op := 9, boots := 3 }).setStage 6).bootBank c).fallbackCommit 2
    else if fault.isSome then s.trialFails c fault
    else (s.startTrial (t.boots + 1)).resumeTack 5
  else if op = 9 then (s.bootBank c).fallbackCommit s.rst.fallCause
  else if op = 1 ∨ op = 2 then (s.bootBank c).resumeTack 1
  else if op = 3 then (s.bootBank c).resumeTack 2
  else if op = 4 ∨ op = 5 then (s.bootBank c).resumeTack (if s.unarmed then 2 else op - 1)
  else s.bootBank c

/-! ## The boot ROM (R434, R438, R439) -/

/-- BOOT_IMAGE_CHECK: the flash shows `mbit` Mbit. Of BOOT: 0 and 3 the banks, 1 a download that is waited for, 2 the recovery
image. -/
def execBootImageCheck (mbit : Option Nat) (s : State) : Res :=
  if s.isOn 1 = false ∨ s.isOn 2 = false ∨ s.mg.busy = false ∨ s.rst.image.isSome ∨ s.rst.waitImage ∨ s.dead then .next s
  else
    let m := mapOf mbit
    let s := ((s.setN Obj.FLASH_MAP m).setN Obj.BN_BLOB_CAPACITY (mapRecords m)).bankVersions
    let boot := s.getN Obj.STRAPS % 4
    if boot = 1 then .next ((s.set Obj.BN_MEAS_DEV (.octets measDev)).updRst (fun r => { r with waitImage := true }))
    else if boot = 2 then .next s.startRecovery
    else
      let b := s.confirmedBank
      let s := if m = 0 then (s.bootFailed b 5 1).startRecovery else s.bootTack
      .next (if boot = 3 then s.bootFailed b 6 (if s.rst.image = some 3 then 1 else 0) else s)

/-- BOOT_IMAGE_WRITE: the boot ROM's own service, on the Quay port; elsewhere the object does not exist. -/
def execBootImageWrite (r : Req) (w : Wire) (s : State) : Res :=
  if s.rst.waitImage = false ∨ r.via ≠ .quay ∨ s.isOn 1 = false ∨ s.dead then
    .next (s.write r 0xA020 1 w (fun _ _ _ => none) (fun s _ _ => s))
  else
    match s.block r 0 Obj.BOOT_IMAGE w with
    | .stop s => .next s
    | .whole w s =>
      let ask : Ask := { kind := 1, ix := 0xA020, sub := 1, new := w.cbor }
      match w with
      | .bytes o =>
        if 6291456 < o.length then .next (s.refuse ask 0 r .range)
        else if (imageFault o s.floor).isSome then .next (s.refuse ask 0 r .verifyFail)
        else
          let s := s.journal 1 0 0xA020 1 .ok [] w.cbor
          .next ((s.startImage 2 (fld o 8 4) (slice o 32 32) false).reply 0 (r.answers Obj.BOOT_IMAGE) coapChanged .none)
      | _ => .next (s.refuse ask 0 r .type)

/-! ## Tack (R445–R452, R457) -/

/-- TACK: the inactive bank is erased. The recovery image may run one in its Lodestar service. -/
def execTack (r : Req) (w : Wire) (s : State) : Res :=
  .next (s.start r Obj.TACK w
    (fun s _ v =>
      let o := v.toOctets
      let t := ofT64Octets (slice o 8 12)
      if fld o 0 4 < 32769 ∨ 6291456 < fld o 0 4 ∨ 999999999 < fld o 14 4 ∨ s.time + 86400 * secT < t then
        some .range
      else none)
    (fun s v => if ofT64Octets (slice v.toOctets 8 12) = 0 then Config.freeValue s.free else ofT64Octets (slice v.toOctets 8 12))
    (fun s _ v =>
      let o := v.toOctets
      let b := s.tackTarget
      let t : TackRec := { seq := 0, op := 1, bank := b, boots := 0, handle := s.procHandle Obj.TACK, length := fld o 0 4,
                           segs := [], digest := List.replicate 32 0 }
      let s := (s.fresh.2).updRst (fun r => { r with banks := upd r.banks b (fun _ => []), attachAt := ofT64Octets (slice o 8 12) })
      ((s.tackPut t).bankVersions).stageEvent 1))

/-- TACK_SEGMENT: programmed and read back; the last one ends STAGE. -/
def execTackSegment (r : Req) (w : Wire) (s : State) : Res :=
  .next (s.write r 0xA000 0x0C w
    (fun s _ v =>
      let o := v.toOctets
      if fld o 0 4 % segSize ≠ 0 ∨ s.tackHead.length < fld o 0 4 + (o.length - 4) then some .range
      else none)
    (fun s _ v =>
      let o := v.toOctets
      let off := fld o 0 4
      let t := s.tackHead
      let n := off / segSize
      let segs := if t.segs.contains n then t.segs else n :: t.segs
      let s := s.updRst (fun r =>
        { r with banks := upd r.banks t.bank (fun b => (off, o.drop 4) :: b.filter (fun e => e.1 != off)) })
      let s := s.tackPut { t with op := 2, segs := segs }
      if (List.range (cdiv t.length segSize)).all segs.contains then (s.tackOp 3).stageEvent 2 else s))

/-- TACK_VERIFY_DONE: the prediction is armed and SEAL begins; after a reset a sealed Tack goes on to ATTACH. -/
def execTackVerifyDone (s : State) : Res :=
  if s.getN Obj.TACK_STAGE_NOW ≠ 2 ∨ s.mg.busy ∨ s.dead then .next s
  else
    let t := s.tackHead
    let o := bankImage (s.bank t.bank)
    let arm := fun (s : State) => s.set Obj.BN_MEAS_PREDICTED (.octets (measOf (slice o 32 32)))
    if engines ≤ s.bn.keccakOut.length then .next ((s.abandonTack).procDone Obj.TACK .internal)
    else
      match imageFault o s.floor with
      | some f => .next ((s.abandonTack).procDone Obj.TACK (if f = 1 ∨ f = 2 then .verifyFail else .range))
      | none =>
        let s := (arm s).bankVersions
        if t.op = 5 then .next (s.stageEvent 4)
        else if t.op = 4 then .next (s.stageEvent 3)
        else .next ((s.tackPut { t with op := 4, digest := slice o 32 32 }).stageEvent 3)

/-- The records that SEAL writes: of every in-force record and every bound JOIN_PSK that has no predicted sealing yet. -/
def State.sealList (s : State) : List KeyRec :=
  let new := s.tackMeas
  let mine := s.bn.records.filter (fun r => r.meas == s.getO Obj.BN_MEAS)
  let done := fun (r : KeyRec) => s.bn.records.any (fun x => x.meas == new && x.kind == r.kind && x.keyId == r.keyId && x.gen == r.gen)
  let bound := fun (r : KeyRec) => r.kind == kJoin && s.alm.nodes.any (fun n => n.keyId == r.keyId && n.keyGen == r.gen)
  mine.filter (fun r => (s.inForce r.kind r.keyId == some r || bound r) && !done r)

/-- SEAL_DONE: the second sealing is complete, or there are too few records. -/
def execSealDone (s : State) : Res :=
  if s.getN Obj.TACK_STAGE_NOW ≠ 3 ∨ s.mg.busy ∨ s.dead then .next s
  else
    let l := s.sealList
    if s.freeRecords < l.length then
      .next ((s.abandonTack).procDone Obj.TACK .refusedCapacity)
    else if s.binnacleSound = false ∨ 3 ≤ s.bn.badBlocks then .next ((s.abandonTack).procDone Obj.TACK .internal)
    else
      let new := s.tackMeas
      let s := (s.writeBlobs (l.map (fun r => { r with meas := new }))).updBn (fun b => { b with other := new })
      let s := (s.setN Obj.BN_STATE 2).raiseOn 0x2015 0 0x9000 (be 1 1 ++ be 1 0 ++ be 4 l.length)
      .next ((s.tackOp 5).stageEvent 4)

/-- TACK_ATTACH_TIME: at the attach time, or at SEAL_COMMIT if later. -/
def execTackAttachTime (s : State) : Res := if s.attachDue ∧ s.dead = false then .next (s.tackReset 10) else .next s

/-- TACK_CONFIRM: in CONFIRM only. -/
def execTackConfirm (r : Req) (w : Wire) (s : State) : Res :=
  .next (s.write r 0xA000 9 w (fun _ _ _ => none)
    (fun s _ _ => s.updRst (fun r => { r with confirmed := true })))

/-- The conditions of R450. -/
def State.soaked (s : State) : Bool :=
  decide (s.getN Obj.TACK_STAGE_NOW = 5) && !s.mg.busy && decide (s.rst.trialFrom + s.getN Obj.TACK_SOAK * secC ≤ s.now) &&
    s.rst.lookAt.elim true (fun t => decide (t < s.rst.trialFrom)) &&
    s.rst.upPorts.all (fun p => s.getN (Obj.TT_LINK_STATE p) == 4) && s.getN Obj.BN_STATE == 2 &&
    (s.getN Obj.TACK_CONFIRM_MODE == 0 || s.rst.confirmed)

/-- TACK_SOAK_DONE: CONFIRM_COMMIT makes the new bank the active one. -/
def execTackSoakDone (s : State) : Res :=
  if s.soaked = false ∨ s.dead then .next s
  else
    let t := s.tackHead
    let roll := fld (bankImage (s.bank t.bank)) 12 4
    let s := (s.sealEnd 1 true).tackOp 7
    let s := s.setP Obj.ACTIVE_BANK (.int t.bank)
    let s := if s.floor < roll then s.setP Obj.ROLLBACK_FLOOR (.int (min 64 roll : Nat)) else s
    .next ((s.tackOver).procDone Obj.TACK .ok)

/-- The old image is to be started again (R449, R451, R452): FALLBACK_BEGIN, and CORE is reset into the old bank. -/
def State.fallBack (s : State) (cause : Nat) : State :=
  let s := ((s.tackOp 9).stageEvent 6).updRst (fun r => { r with fallCause := cause })
  s.tackReset 11

/-- CONFIRM_DEADLINE. -/
def execConfirmDeadline (s : State) : Res :=
  if s.getN Obj.TACK_STAGE_NOW ≠ 5 ∨ s.dead ∨ s.time < s.getT Obj.CONFIRM_DEADLINE then .next s else .next (s.fallBack 0)

end Sys2Proof.Machine
end

