-- ==== Sys2Proof/Machine/Abort.lean ====
section
/-! DEFINITION. PROC_ABORT (spec 02 R62, R65, R66; 13 R452): the one write that ends procedures and stalled reads. -/
namespace Sys2Proof.Machine

/-- The FIFO a handle names, by the index in its upper half: an event FIFO n, or 8 + n for capture FIFO n. -/
def handleFifo (ix : Nat) : Option Nat :=
  if 0x1200 ≤ ix ∧ ix < 0x1208 then some (ix - 0x1200)
  else if 0xB500 ≤ ix ∧ ix < 0xB504 then some (ix - 0xB500 + 8)
  else none

/-- The reads stalled on a FIFO. -/
def State.stalledOn (s : State) (n : Nat) : List Stalled :=
  if n < 8 then (nth s.mg.fifos n).stalled else (nth s.diag.caps (n - 8)).stalled

def State.setStalled (s : State) (n : Nat) (l : List Stalled) : State :=
  if n < 8 then s.updFifo n (fun f => { f with stalled := l }) else s.updCap (n - 8) (fun f => { f with stalled := l })

/-- The stalled reads of a session on a FIFO end with ABORTED. -/
def State.abortReads (s : State) (n sess : Nat) : State :=
  let mine := (s.stalledOn n).filter (fun x => x.sess == sess)
  let s := s.setStalled n ((s.stalledOn n).filter (fun x => x.sess != sess))
  (mine.foldl (fun s x => s.replyRc x.sess x.tok .aborted) s).touch sess

/-- An abort of TACK (R452): before CORE is reset the old image stays; in CONFIRM the fallback follows the reply. -/
def State.abortTack (s : State) : Option State :=
  let n := s.getN Obj.TACK_STAGE_NOW
  if 1 ≤ n ∧ n ≤ 4 then
    let b := s.tackHead.bank
    let s := s.abandonTack
    some ((s.updRst (fun r => { r with banks := upd r.banks b (fun _ => []) })).bankVersions)
  else if n = 5 then some s
  else none

/-- What an abort of the running procedure at `ix` does to its work; `none` where it is refused. -/
def State.abortOf (s : State) (ix : Nat) : Option State := if ix = Obj.TACK then s.abortTack else s.abortWork ix

/-- The refusal of an abort: RANGE for a handle that names nothing, STATE_CONFLICT for what does not run. -/
def State.abortBad (s : State) (h : Nat) : Option Rc :=
  let ix := h / 65536
  let lo := h % 65536
  match handleFifo ix with
  | some n =>
    if lo = 0 then some .range
    else if 0xFF00 ≤ lo ∧ (s.stalledOn n).any (fun x => x.sess == lo - 0xFF00) then none else some .stateConflict
  | none =>
    if procTable.all (fun p => p.ix != ix) ∨ lo = 0 then some .range
    else if s.procRunning ix = false ∨ s.procHandle ix ≠ h ∨ (s.abortOf ix).isNone then some .stateConflict
    else none

/-- The abort takes effect. -/
def State.abortApply (s : State) (h : Nat) : State :=
  match handleFifo (h / 65536) with
  | some n => s.abortReads n (h % 65536 - 0xFF00)
  | none => ((s.abortOf (h / 65536)).getD s).procAborted (h / 65536)

/-- PROC_ABORT: any session may end any procedure or stalled read; it passes during STANDBY entry (R408). -/
def execProcAbort (r : Req) (w : Wire) (s : State) : Res :=
  let ask : Ask := { kind := 3, ix := 0xF001, sub := 0, new := w.cbor }
  match s.gate r ask true with
  | .stop s => .next s
  | .go sess s =>
    match (Ty.u 32).read w with
    | .error rc => .next (s.refuse ask sess r rc)
    | .ok v =>
      let h := v.toInt.toNat
      match s.abortBad h with
      | some rc => .next (s.refuse ask sess r rc)
      | none =>
        let trial := h / 65536 = Obj.TACK ∧ s.getN Obj.TACK_STAGE_NOW = 5
        let s := (s.lbDrain).journal 3 sess 0xF001 0 .ok [] w.cbor
        let s := (s.abortApply h).reply sess (r.answers Obj.PROC_ABORT) coapChanged .none
        .next (if trial then s.fallBack 1 else s)

end Sys2Proof.Machine
end

