-- ==== Sys2Proof/Machine/Logbook.lean ====
section
/-! DEFINITION. The commands of chapter 14: Logbook, wear and scrubbing, die temperature, ageing, self-tests, capture FIFOs,
memory errors. -/
namespace Sys2Proof.Machine

/-! ## Logbook (R460–R468) -/

/-- LOGBOOK_COMMIT: the commit at the head of the write queue. -/
def execLogbookCommit (s : State) : Res :=
  match s.lb.queue with
  | [] => .next s
  | e :: rest =>
    if s.isOn 1 = false ∨ s.pwr.anchor.isSome then .next s
    else .next (({ s with lb := { s.lb with queue := rest } }).lbCommit e.1 e.2)

/-- Logbook has 131,072 lines. -/
def lbLines : Nat := 131072

/-- A pass is complete: LB_SCRUB_DONE. -/
def State.scrubDone (s : State) : State :=
  let x := s.lb.scrub
  let s := s.raise 0x8004 0 (be 4 x.lines ++ be 4 x.bits ++ be 4 x.moved ++ be 1 (b2n x.catchUp))
  let s := (s.setQ Obj.LB_SCRUB_LAST (t64 s.time)).setN Obj.LB_SCRUB_POINTER 0
  let y : Scrub := { lines := 0, bits := 0, moved := 0, catchUp := false, doneHours := s.getN Obj.LB_POWER_ON_HOURS }
  { s with lb := { s.lb with scrub := y } }

/-- SCRUB_LINE: the next line is rewritten, or skipped as written since the pass began; `bits` of it were corrected. An
uncorrectable line (`bad`) moves to a spare, and the record that it held a copy of is repaired; of the change journal the record
stays as it is (R462). -/
def execScrubLine (skip : Bool) (bits : Nat) (bad : Option (Option LbRead)) (s : State) : Res :=
  if s.isOn 1 = false ∨ s.pwr.anchor.isSome then .next s
  else
    let x := s.lb.scrub
    let y : Scrub := if skip then { x with lines := x.lines + 1 }
      else { x with lines := x.lines + 1, bits := x.bits + bits, moved := x.moved + b2n bad.isSome }
    let s : State := { s with lb := { s.lb with scrub := y } }
    let s : State := if skip then s
      else
        let s := if bits = 0 then s
          else s.setQ Obj.LB_ECC_CORRECTED (.int (((s.getN Obj.LB_ECC_CORRECTED + bits) % 2 ^ 64 : Nat) : Int))
        match bad with
        | none => s
        | some none => s.bumpQ Obj.LB_RECORDS_LOST
        | some (some r) => s.lbRead r
    let p := s.getN Obj.LB_SCRUB_POINTER + 1
    .next (if lbLines ≤ p then s.scrubDone else s.setN Obj.LB_SCRUB_POINTER p)

/-- A day of powered time, in minutes. -/
def dayMinutes : Nat := 1440

/-- The region of a record, by its row in R458 from 0. -/
def wearRegion (k : Nat) : Nat :=
  if k = wearSummary then 10 else if k = wearChart then 8 else if 2 ^ 80 ≤ k then 3
  else if k / 256 = 0x9010 then 11 else 1

/-- The record whose lines have been written most. -/
def State.wornKey (s : State) : Nat := (s.lb.wear.foldl (fun (m : Wear) w => if m.wear < w.wear then w else m) default).key

/-- WEAR_PROJECTION: hours × 10^10 / LB_WEAR_MAX, in years of 8,766 h. -/
def execWearProjection (s : State) : Res :=
  if s.isOn 1 = false ∨ s.diag.minutes < s.diag.wearAt + dayMinutes then .next s
  else
    let h := s.getN Obj.LB_POWER_ON_HOURS
    let years := if s.wearMax = 0 then 65535 else min 65535 (h * 10000000000 / s.wearMax / 8766)
    let s := ({ s with diag := { s.diag with wearAt := s.diag.minutes } }).setQ Obj.LB_WEAR_YEARS (.int years)
    if years < 40 ∧ s.lb.wearEvAt.elim true (fun t => decide (t + 720 ≤ h)) then
      .next (({ s with lb := { s.lb with wearEvAt := some h } }).raise 0x8005 2
        (be 8 s.wearMax ++ be 2 years ++ be 1 (wearRegion s.wornKey)))
    else .next s

/-- Insert by falling number of writes of the day. -/
def wearInsert (w : Wear) : List Wear → List Wear
  | [] => [w]
  | x :: t => if x.day < w.day then w :: x :: t else x :: wearInsert w t

/-- A record of up to one line: 64 octets with its header and its CRC. -/
def State.oneLine (s : State) (k : Nat) : Bool := decide ((s.get k).cbor.length ≤ 48)

/-- ROTATION_REASSIGN: the 64 objects of up to one line with the most writes of the last 24 h of powered time. -/
def execRotationReassign (s : State) : Res :=
  if s.isOn 1 = false ∨ s.diag.minutes < s.diag.rotationAt + dayMinutes then .next s
  else
    let l := s.lb.wear.filter (fun w => decide (w.key < 2 ^ 80 ∧ 0 < w.day) && s.oneLine w.key)
    let top := ((l.foldl (fun acc w => wearInsert w acc) []).take 64).map (·.key)
    let lb := { s.lb with rotating := top, wear := s.lb.wear.map (fun w => { w with day := 0 }) }
    .next { s with lb := lb, diag := { s.diag with rotationAt := s.diag.minutes } }

/-! ## Temperature and ageing (R469, R471) -/

/-- TJ_SAMPLE: what the die sensors read, in 0.1 °C. -/
def execTjSample (temps : List Int) (s : State) : Res :=
  match temps with
  | [] => .next s
  | t0 :: rest =>
    if s.isOn 1 = false then .next s
    else
      let t := clampI (-400) 1500 (rest.foldl max t0)
      let s := s.setI Obj.TJ_NOW t
      let s := if s.getI Obj.TJ_MAX_LIFE < t then s.setQ Obj.TJ_MAX_LIFE (.int t) else s
      .next { s with diag := { s.diag with minuteMax := some (s.diag.minuteMax.elim t (max t)) } }

/-- The bin of a temperature, 0 to 7: the number of edges it has reached. -/
def tjBin (t : Int) : Nat := ([250, 550, 850, 1050, 1150, 1250, 1350].filter (fun (e : Int) => decide (e ≤ t))).length

/-- TJ_MINUTE: a powered minute has passed; every sixtieth is an hour of LB_POWER_ON_HOURS. -/
def execTjMinute (s : State) : Res :=
  if s.isOn 1 = false then .next s
  else
    let k := Obj.TJ_MINUTES (tjBin (s.diag.minuteMax.getD (s.getI Obj.TJ_NOW)))
    let s := s.setQ k (.int (min 0xFFFFFFFF (s.getN k + 1) : Nat))
    let n := s.diag.minutes + 1
    let s : State := { s with diag := { s.diag with minutes := n, minuteMax := none } }
    .next (if n % 60 = 0 then s.bumpQ Obj.LB_POWER_ON_HOURS else s)

/-- The timing margin of a critical path, in 0.1 % of the clock period, rounded downward (R471); 0x7FFF with no monitor, whose
period is 0. -/
def marginOf (delay period : Nat) : Int :=
  if period = 0 then 0x7FFF else clampI (-0x8000) 0x7FFE (((period : Int) - delay) * 1000 / period)

/-- The trim of one measurement, which holds the margin at AGE_FLOOR + 2.0 % (R471): toward forward bias below it and toward
reverse bias above it, by 1 to 5 mV at once, of which `want` is what the trim asks for, and within ±100 mV (R402, R510). At the
margin itself the bias stays. -/
def trimBias (old margin floor want : Int) : Int :=
  if margin < floor + 20 then min 100 (clampI (old + 1) (old + 5) want)
  else if floor + 20 < margin then max (-100) (clampI (old - 5) (old - 1) want)
  else old

/-- AGEING_MEASURE: the monitor of domain `d` shows the delay of its path against the period of its clock, both in one unit, and
the body bias is trimmed toward `bias` mV. MARGIN_LOW where the margin stays below AGE_FLOOR with the bias at its forward limit
since an earlier measurement (R35, R471). -/
def execAgeingMeasure (d delay period : Nat) (bias : Int) (s : State) : Res :=
  if 16 ≤ d ∨ s.isOn d = false ∨ s.isOn 1 = false then .next s
  else
    let margin := marginOf delay period
    let s := s.setI (Obj.AGE_MARGIN d) margin
    if margin = 0x7FFF then .next s
    else
      let old := s.getI (Obj.AGE_BIAS d)
      let bias := trimBias old margin (s.getI Obj.AGE_FLOOR) bias
      let s := if s.getI (Obj.AGE_BIAS d) = bias then s else s.setQ (Obj.AGE_BIAS d) (.int bias)
      let last := s.diag.marginAt.getD d none
      if margin < s.getI Obj.AGE_FLOOR ∧ old = 100 ∧ last.elim true (fun t => decide (t + 86400 * secC ≤ s.now)) then
        .next (({ s with diag := { s.diag with marginAt := upd s.diag.marginAt d (fun _ => some s.now) } }).raise 0x8006 2
          (be 1 d ++ beI 2 margin ++ beI 2 bias))
      else .next s

/-! ## Self-tests (R472–R477) -/

/-- Live banks of each array (R473). -/
def liveBanks (a : Nat) : Nat := [16, 4, 4, 4, 8].getD a 1

/-- How often a background test is due, in COUNT. -/
def State.testPeriod (s : State) (code target : Nat) : Count :=
  if code = 1 then s.getN Obj.ST_ADC_PERIOD * secC
  else if code = 2 then s.getN Obj.ST_BIST_CYCLE * secC / liveBanks target
  else if code = 5 then s.getN Obj.LB_SCRUB_PERIOD * 86400 * secC
  else s.getN Obj.ST_KAT_PERIOD * secC

/-- The end of the last run. -/
def State.lastTest (s : State) (code target : Nat) : Count :=
  ((s.diag.lastTest.find? (fun e => e.1 == (code, target))).map (·.2)).getD 0

/-- Tj has moved 8 °C since the port's last calibration. -/
def State.tjMoved (s : State) (port : Nat) : Bool := decide (80 ≤ (s.getI Obj.TJ_NOW - s.diag.calTj.getD port 0).natAbs)

/-- Since when a background test is due; the engines take turns. `moved` says that the port's calibration follows Tj, which it does
when Tj has moved 8 °C since the last one. -/
def State.testDue (s : State) (code target : Nat) (moved : Bool) : Option Count :=
  let last := if code = 3 ∨ code = 4 then ((List.range engines).map (s.lastTest code)).foldl max 0 else s.lastTest code target
  let turn := !(code == 3 || code == 4) || (List.range engines).all (fun e => decide (s.lastTest code target ≤ s.lastTest code e))
  if code = 0 ∨ 5 < code ∨ bit (s.getN Obj.ST_ENABLE) (code - 1) = false ∨ turn = false then none
  else if code = 1 ∧ moved ∧ s.tjMoved target then some (min s.now (last + s.testPeriod code target))
  else if last + s.testPeriod code target ≤ s.now then some (last + s.testPeriod code target)
  else none

/-- A target that the test has (R475). -/
def targetOk (code target : Nat) : Bool :=
  if code = 1 then decide (target < 4)
  else if code = 2 then decide (target < 5)
  else if code = 3 ∨ code = 4 then decide (target < engines)
  else if code = 5 then decide (target = 0)
  else decide (code = 6 ∧ target < 3)

def State.engineOut (s : State) (code target : Nat) : Bool :=
  if code = 3 then s.bn.keccakOut.contains target else s.bn.aesOut.contains target

/-- The gap that a background test runs in (R472). -/
def State.testGap (s : State) (code target : Nat) : Bool :=
  if code = 1 then
    s.isOn (rxDom target) && !(nth s.rx.gates target).listening && s.rx.recs.all (fun r => winPort r.win != target) &&
      (s.gateCells target).all (fun c => decide (s.time + 400 * usT < c.opens ∨ c.closes < s.time))
  else if code = 2 then
    let b := nth s.diag.banks target
    s.isOn 4 && !b.copying && b.freed.isNone && !b.retired
  else if code = 3 ∨ code = 4 then s.isOn 1 && s.bn.attest.isNone && !s.engineOut code target
  else s.isOn 1 && s.lb.queue.isEmpty

/-- A test begins; the first run of a procedure gives its actual start (R64). -/
def State.testBegin (s : State) (t : TestRun) : State :=
  let t' := { t with began := true, start := s.now }
  let mine := s.diag.tests.filter (fun x => x.handle == t.handle)
  let s := if t.handle ≠ 0 ∧ t.handle = s.procHandle Obj.SELFTEST_RUN ∧ mine.length = t.runs ∧ mine.all (fun x => !x.began) then
      s.procEst Obj.SELFTEST_RUN s.time
    else s
  let s : State := { s with diag := { s.diag with tests := s.diag.tests.filter (fun x => x != t) ++ [t'] } }
  if t.code = 1 then s.holdHunters t.target true
  else if t.code = 2 then { s with diag := { s.diag with banks := upd s.diag.banks t.target (fun b => { b with copying := true }) } }
  else s

/-- BACKGROUND_TEST_RUN: a test that waits, or that is due, has found its gap. -/
def execBackgroundTestRun (code target : Nat) (moved : Bool) (s : State) : Res :=
  if s.isOn 4 = false ∨ targetOk code target = false ∨ 5 < code ∨ s.testGap code target = false ∨
      s.diag.tests.any (fun t => t.code == code && t.target == target && t.began) then .next s
  else
    match s.diag.tests.find? (fun t => t.code == code && t.target == target) with
    | some t => .next (s.testBegin t)
    | none =>
      match s.testDue code target moved with
      | none => .next s
      | some due =>
        let t : TestRun :=
          { code := code, target := target, handle := 0, due := due, began := false, start := 0, late := false, runs := 0 }
        .next (s.testBegin t)

/-- SELFTEST_LATE: no gap within the period after the test fell due. It stays pending. -/
def execSelftestLate (code target : Nat) (s : State) : Res :=
  let cur := s.diag.tests.find? (fun t => t.code == code && t.target == target && t.handle == 0)
  let due := match cur with
    | some t => if t.began ∨ t.late then none else some t.due
    | none => s.testDue code target false
  match due with
  | none => .next s
  | some d =>
    if s.isOn 4 = false ∨ code = 5 ∨ targetOk code target = false ∨ s.now < d + s.testPeriod code target then .next s
    else
      let t : TestRun := { code := code, target := target, handle := 0, due := d, began := false, start := 0, late := true, runs := 0 }
      let rest := s.diag.tests.filter (fun x => !(x.code == code && x.target == target && x.handle == 0))
      let s : State := { s with diag := { s.diag with tests := rest ++ [t] } }
      .next ((s.bump Obj.ST_LATE).raise 0x8009 1 (be 1 code ++ be 1 target ++ be 4 ((s.now - d) / secC)))

/-- BANK_SWAP: at the end of the copy the spare takes the live bank's place; the freed bank is under test. -/
def execBankSwap (a : Nat) (s : State) : Res :=
  let b := nth s.diag.banks a
  if 5 ≤ a ∨ s.isOn 4 = false ∨ b.copying = false then .next s
  else
    let b' : Banks := { b with turn := (b.turn + 1) % liveBanks a, copying := false, freed := some b.turn }
    .next { s with diag := { s.diag with banks := upd s.diag.banks a (fun _ => b') } }

/-- The test code that a SELFTEST_RUN asks for; any other argument goes to the first row. -/
def testCode (w : Wire) : Nat :=
  match w with
  | .bytes o => if 2 ≤ fld o 0 1 ∧ fld o 0 1 ≤ 6 then fld o 0 1 else 1
  | _ => 1

/-- The chain's first port allowed by CC_PORTS. -/
def State.calPort (s : State) (c : Nat) : Nat := (((bandPorts (chainBand c)).filter (fun p => s.mayDrive c p)).head?).getD 0

/-- The runs of a SELFTEST_RUN: one, or one for each engine. -/
def State.testRuns (s : State) (o : Octets) : List TestRun :=
  let targets := if (fld o 0 1 = 3 ∨ fld o 0 1 = 4) ∧ fld o 1 1 = 0xFF then List.range engines else [fld o 1 1]
  targets.map (fun t =>
    { code := fld o 0 1, target := t, handle := s.procHandle Obj.SELFTEST_RUN, due := s.now, began := false, start := 0,
      late := false, runs := targets.length })

/-- SELFTEST_RUN of a row: a background test waits for its gap; the power calibration drives its chain into the dummy load. -/
def State.selftest (s : State) (code : Nat) (r : Req) (w : Wire) : State :=
  if testCode (s.itemSoFar r (Obj.key Obj.SELFTEST_RUN 3) w) ≠ code then s
  else
    s.start r Obj.SELFTEST_RUN w
      (fun s _ v =>
        let o := v.toOctets
        let all := (code = 3 ∨ code = 4) ∧ fld o 1 1 = 0xFF
        if fld o 0 1 ≠ code ∨ ¬(all ∨ targetOk code (fld o 1 1)) then some .range
        else if code = 6 ∧ (List.range 4).any (fun p => s.getB (Obj.PN_ENABLE p) &&
            s.getN (Obj.PN_BAND p) == chainBand (fld o 1 1)) then some .stateConflict
        else none)
      (fun s _ => if code = 6 then s.time else Config.freeValue s.free)
      (fun s _ v =>
        let l := s.testRuns v.toOctets
        let s : State := { s with diag := { s.diag with tests := s.diag.tests ++ l }, free := s.free + 1 }
        if code = 6 then
          let c := fld v.toOctets 1 1
          let s := l.foldl (fun s t => s.testBegin t) (s.switch (chainDom c) true)
          s.femTransmit (s.calPort c) 3 0
        else s)

/-- SELFTEST_ADC_CALIBRATION. -/
def execSelftestAdcCalibration (r : Req) (w : Wire) (s : State) : Res := .next (s.selftest 1 r w)
/-- SELFTEST_BANK_BIST. -/
def execSelftestBankBist (r : Req) (w : Wire) (s : State) : Res := .next (s.selftest 2 r w)
/-- SELFTEST_KECCAK_KAT. -/
def execSelftestKeccakKat (r : Req) (w : Wire) (s : State) : Res := .next (s.selftest 3 r w)
/-- SELFTEST_AES_KAT. -/
def execSelftestAesKat (r : Req) (w : Wire) (s : State) : Res := .next (s.selftest 4 r w)
/-- SELFTEST_LOGBOOK_READ. -/
def execSelftestLogbookRead (r : Req) (w : Wire) (s : State) : Res := .next (s.selftest 5 r w)
/-- SELFTEST_TX_POWER_CAL. -/
def execSelftestTxPowerCal (r : Req) (w : Wire) (s : State) : Res := .next (s.selftest 6 r w)

/-- The new DRV_GAIN of each entry of a chain: journaled writes by session 0, all within one commit (R476). -/
def State.writeGains (s : State) (c : Nat) (gains : List Nat) : State :=
  let s := (List.range 64).foldl (fun s i =>
    let k := Obj.CC_PTAB c i
    let old := s.getN k
    let v : Val := .int ((old / 256 * 256 + gains.getD i 0 % 256 : Nat) : Int)
    let s := s.journal 1 0 (k / 256) (k % 256) .ok (Val.int old).cbor v.cbor
    let s := s.set k v
    ({ s with lb := { s.lb with committed := Store.put k v s.lb.committed } }).wearOut k) s
  s.bump Obj.LB_COMMITS

/-- An engine that fails goes out of service (R394). -/
def State.engineFails (s : State) (code e : Nat) : State :=
  let s := s.updBn (fun b =>
    if code = 3 then { b with keccakOut := e :: b.keccakOut.filter (fun x => x != e) }
    else { b with aesOut := e :: b.aesOut.filter (fun x => x != e) })
  s.raiseOn 0x2014 3 0x9000 (be 1 2 ++ be 1 e)

/-- What the end of a run does to what it tested. -/
def State.testEffect (s : State) (t : TestRun) (fail : Bool) (gains : List Nat) : State :=
  if t.code = 1 then
    let s : State := { s with diag := { s.diag with calTj := upd s.diag.calTj t.target (fun _ => s.getI Obj.TJ_NOW) } }
    s.holdHunters t.target false
  else if t.code = 2 then
    let s : State := { s with diag := { s.diag with banks := upd s.diag.banks t.target (fun b =>
      { b with freed := none, retired := b.retired || fail }) } }
    if fail then s.bumpQ Obj.ST_RETIRED_BANKS else s
  else if t.code = 3 ∨ t.code = 4 then (if fail then s.engineFails t.code t.target else s)
  else if t.code = 6 then
    let s := s.calChainOff t.target
    if fail then s else s.writeGains t.target gains
  else s

/-- SELFTEST_RESULT: a run completes; `detail` is the failing bank, engine vector or entry, `gains` what test 6 found. -/
def execSelftestResult (code target : Nat) (fail : Bool) (detail : Nat) (gains : List Nat) (s : State) : Res :=
  match s.diag.tests.find? (fun t => t.code == code && t.target == target && t.began) with
  | none => .next s
  | some t =>
    if s.isOn 4 = false ∨ (code = 2 ∧ (nth s.diag.banks target).freed.isNone) then .next s
    else
      let ends := ((code, target), s.now) :: s.diag.lastTest.filter (fun e => e.1 != (code, target))
      let s : State := { s with diag := { s.diag with tests := s.diag.tests.filter (fun x => x != t), lastTest := ends } }
      let s := (s.bump Obj.ST_RUNS).testEffect t fail gains
      let s := if fail then (s.bump Obj.ST_FAILS).raise 0x8008 3 (be 1 code ++ be 1 target ++ be 4 detail) else s
      let s := s.testResult t (b2n fail) ((s.now - t.start) / usC)
      if t.handle ≠ 0 ∧ s.diag.tests.all (fun x => x.handle != t.handle) ∧ s.procHandle Obj.SELFTEST_RUN = t.handle then
        .next (s.procDone Obj.SELFTEST_RUN (if code = 6 ∧ fail then .range else .ok))
      else .next s

/-! ## Capture FIFOs (R480) -/

/-- CAP_RECORDS_READ: the oldest whole records, or a stalled read. -/
def execCapRecordsRead (r : Req) (n : Nat) (s : State) : Res :=
  .next (s.readChecked r (0xB500 + n) 1 (fun s sess =>
    let f := nth s.diag.caps n
    if f.recs = [] ∨ f.stalled ≠ [] then
      s.updCap n (fun f => { f with stalled := f.stalled ++ [{ sess := sess, tok := r.answers (Obj.CAP_RECORDS n), asked := r.asked }] })
    else
      let k := capBatch f.recs
      (s.updCap n (fun f => { f with recs := f.recs.drop k })).replyRead r sess (Obj.CAP_RECORDS n)
        (.octets (capOctets (f.recs.take k)))))

/-- CAP_FLUSH: every record present is discarded and counted. -/
def execCapFlush (r : Req) (n : Nat) (w : Wire) (s : State) : Res :=
  .next (s.write r (0xB500 + n) 4 w (fun _ _ _ => none) (fun s _ _ =>
    s.updCap n (fun f => { f with recs := [], flushed := (f.flushed + f.recs.length) % 2 ^ 64 })))

/-! ## Memory errors (R27, R31, R470) -/

/-- DRAM_ECC_ERROR: corrected, or answered to the initiator of the access with an error response; an uncorrectable error in a table
or queue leads to WARM. -/
def execDramEccError (channel addr : Nat) (corrected table : Bool) (s : State) : Res :=
  if s.isOn 5 = false ∨ s.dead then .next s
  else if corrected then .next (s.bump Obj.DRAM_ECC_CORRECTED)
  else
    let s := s.dramFault channel addr table
    .next (if table then s.assertReset srcWarm 0 8 else s)

/-- SRAM_ECC_ERROR: corrected and counted, or a WARM reset. -/
def execSramEccError (corrected : Bool) (s : State) : Res :=
  if s.dead then .next s
  else if corrected then .next (s.bump Obj.SRAM_ECC_CORRECTED)
  else .next (s.assertReset srcWarm 0 0)

end Sys2Proof.Machine
end

