-- ==== Sys2Proof/Machine/Serve.lean ====
section
/-! DEFINITION. A Quay request as its frame brings it (spec 02 R42, R46–R48): the fields of BODY, the request they make, and the
meaning that serves it, that of the row the object has. QUAY_FRAME_DISCARD is the row that octets on the Quay port come in. -/
namespace Sys2Proof.Machine

/-- The fields of a request's BODY (R46). -/
structure QuayReq where
  tok : Nat
  code : Nat
  ix : Nat
  sub : Nat
  block : Nat
  flags : Nat
  payload : Octets
deriving DecidableEq, Repr, Inhabited

/-- BODY in its fields. -/
def QuayReq.ofBody (o : Octets) : QuayReq :=
  { tok := fld o 1 1, code := fld o 2 1, ix := fld o 3 2, sub := fld o 5 1, block := fld o 6 3, flags := fld o 9 1, payload := o.drop 10 }

/-- CoAP codes of the methods (R46). -/
def codeGet : Nat := 1
def codePut : Nat := 3

/-- A write is block-wise where BLOCK says that more is to come or names a later block (R46). -/
def QuayReq.blockwise (q : QuayReq) : Bool := q.block != 0

/-- The request a BODY makes. The block number of a GET asks for that block (R45). Reserved flags are ignored (R7). -/
def QuayReq.req (q : QuayReq) : Req :=
  { via := .quay, tok := q.tok,
    blk := if q.code = codePut ∧ q.blockwise then some (q.block % 2 ^ 23, bit q.block 23) else none,
    blk2 := if q.code = codeGet ∧ q.blockwise then some (q.block % 2 ^ 23) else none,
    other := !(q.code == codeGet || q.code == codePut), cancel := bit q.flags 1 }

/-- The item a BODY carries: in a block-wise write the octets of one block. -/
def QuayReq.wire (q : QuayReq) : Wire := if q.blockwise then .other q.payload else Wire.ofCbor q.payload

/-- Rows of one object one after the other: each acts on the values that are its own, and on no other. -/
def inTurn (l : List (State → Res)) (s : State) : Res :=
  l.foldl (fun r f => match r with
    | .next s => f s
    | x => x) (.next s)

/-- The start of a procedure by its row. Whether a blob opens and the material it holds, which Binnacle finds in the octets, are
free values here (log 6). -/
def State.servePut3 (s : State) (r : Req) (ix : Nat) (w : Wire) : Res :=
  let a := s.fresh
  let b := a.2.fresh
  let c := b.2.fresh
  let material := be (c.1 % 65) (c.1 / 65)
  if ix = Obj.POWER_STATE_SET then inTurn [execEnterFullService r w, execEnterHold r w, execEnterStandby r w] s
  else if ix = Obj.WARM_RESTART then execWarmRestart r w s
  else if ix = Obj.DOMAIN_RESET then execDomainReset r w s
  else if ix = Obj.CAL_FROM_SEXTANT then execCalFromSextant r w s
  else if ix = Obj.BEARING_RETUNE then inTurn [execBearingRetuneSearch r w, execBearingRetuneSet r w] s
  else if ix = Obj.SYNTH_CALIBRATE then execSynthCalibrate r w s
  else if ix = Obj.RX_WINDOW_APPLY then execRxWindowApply r w s
  else if ix = Obj.SCHEDULE_COMMIT then execScheduleCommit r w s
  else if ix = Obj.NODE_ADD then execNodeAdd r w s
  else if ix = Obj.NODE_REMOVE then execNodeRemove r w s
  else if ix = Obj.NODE_REHASH then execNodeRehash r w s
  else if ix = Obj.ALMANAC_CHECKPOINT then execAlmanacCheckpoint r w s
  else if ix = Obj.TRUNK_RETRAIN then execTrunkRetrain r w s
  else if ix = Obj.TRUNK_LOOPBACK then execTrunkLoopback r w s
  else if ix = Obj.CONSORT_HANDOVER then execConsortHandover r w s
  else if ix = Obj.BN_IMPORT then execBnImport r (a.1 % 2 == 1) material w c.2
  else if ix = Obj.BN_REPLACE then execBnReplace r (a.1 % 2 == 1) (b.1 % 2 == 1) material w c.2
  else if ix = Obj.BN_REMOVE then execBnRemove r w s
  else if ix = Obj.BN_ATTEST then execBnAttest r w s
  else if ix = Obj.GROUP_ROLLOVER then execGroupRollover r w s
  else if ix = Obj.TACK then execTack r w s
  else
    inTurn [execSelftestAdcCalibration r w, execSelftestBankBist r w, execSelftestKeccakKat r w, execSelftestAesKat r w,
      execSelftestLogbookRead r w, execSelftestTxPowerCal r w] s

/-- A PUT by the row of its object (R42). -/
def State.servePut (s : State) (r : Req) (ix sub : Nat) (w : Wire) : Res :=
  let k := Obj.key ix sub
  if procTable.any (fun p => p.ix == ix) && sub == 3 then s.servePut3 r ix w
  else if ownRow k = false ∧ k ≠ Obj.BOOT_IMAGE then execObjectWrite r ix sub w s
  else if k = Obj.BOOT_IMAGE then execBootImageWrite r w s
  else if k = Obj.SESSION_CLOSE then execSessionClose r w s
  else if k = Obj.PROC_ABORT then execProcAbort r w s
  else if k = Obj.CELL_ENTRY then execCellEntryStage r w s
  else if k = Obj.SCHED_DISCARD then execSchedDiscard r w s
  else if k = Obj.NODE_FIND_EUI then execNodeFindEui r w s
  else if k = Obj.SX_SOURCE then execSxSourceWrite r w s
  else if k = Obj.SX_RATE then execSxRateWrite r w s
  else if k = Obj.SX_SET then inTurn [execSxSetAbsolute r w, execSxSetRelative r w] s
  else if k = Obj.CAL_SET then execCalSet r w s
  else if k = Obj.CAL_HALT then execCalHaltWrite r w s
  else if k = Obj.CAL_OSF then execCalOsfClear r w s
  else if k = Obj.CAL_ALARM then execCalAlarmWrite r w s
  else if k = Obj.FLOW_CONFIG then execFlowConfig r w s
  else if k = Obj.CS_FAULT_CLEAR then execCsFaultClear r w s
  else if k = Obj.POWER_MODE then execPowerModeWrite r w s
  else if k = Obj.TACK_SEGMENT then execTackSegment r w s
  else if k = Obj.TACK_CONFIRM then execTackConfirm r w s
  else if ix / 16 = 0x120 then execEvtFlush r (ix - 0x1200) w s
  else if ix / 16 = 0xB50 then execCapFlush r (ix - 0xB500) w s
  else if ix / 16 = 0x400 then inTurn [execPanEnable r (ix - 0x4000) w, execPanStop r (ix - 0x4000) w] s
  else if ix / 16 = 0x700 then execTtEnableWrite r (ix - 0x7000) w s
  else if ix = 0x7030 then execTrunkAddressWrite r sub w s
  else execAdmitCtxKeyid r (sub - 1) w s

/-- A GET by the row of its object; with FLAGS[0] it registers an observation of an event FIFO's records (R42, R46). -/
def State.serveGet (s : State) (r : Req) (ix sub : Nat) (observe : Bool) : Res :=
  let k := Obj.key ix sub
  if ownRead k = false then execWakeOnAccessRead r ⟨ix, sub⟩ s
  else if k = Obj.JOURNAL_RECORD then execJournalRecordRead r s
  else if k = Obj.VSENSE_MIN then execVsenseMinRead r s
  else if ix = 0x2400 then execCalFieldRead r sub s
  else if ix / 16 = 0xB50 then execCapRecordsRead r (ix - 0xB500) s
  else if observe then execEvtObserveRegister r (ix - 0x1200) s
  else execEvtRecordsRead r (ix - 0x1200) s

/-- A good frame is served where it is a request (R46): another method is answered 4.05 (R42); frames of the other KINDs go from the
device to the host only, and ask nothing of it. -/
def State.serveQuay (s : State) (body : Octets) : Res :=
  let q := QuayReq.ofBody body
  if fld body 0 1 ≠ 1 then .next s
  else if q.code = codePut then s.servePut q.req q.ix q.sub q.wire
  else s.serveGet q.req q.ix q.sub (bit q.flags 0)

/-- QUAY_FRAME_DISCARD (R46–R48): `raw` are the octets clocked in after those still to be hunted through. A bad frame is discarded
and counted; the request of a good one is served. -/
def execQuayFrameDiscard (raw : Octets) (s : State) : Res :=
  let a := s.quayIn raw
  let s := a.2
  match quayHunt (s.mg.quay.hunt ++ a.1) with
  | .wait o => .next (s.setQuay (fun q => { q with hunt := o }))
  | .discard o => .next ((s.bump Obj.QUAY_CRC_ERRORS).setQuay (fun q => { q with hunt := o }))
  | .good body o => (s.setQuay (fun q => { q with hunt := o })).serveQuay body

end Sys2Proof.Machine
end

