-- ==== Sys2Proof/Machine/Dispatch.lean ====
section
/-! DEFINITION. One arm per command: the direct call of its meaning. -/
namespace Sys2Proof.Machine

def exec (i : Instr) (s : State) : Host.Outcome State Fault Refusal :=
  match i with
  | .objectWrite r ix sub w => Sys2Proof.Machine.execObjectWrite r ix sub w s
  | .wakeOnAccessRead r o => Sys2Proof.Machine.execWakeOnAccessRead r o s
  | .blockTransferTimeout sess => Sys2Proof.Machine.execBlockTransferTimeout sess s
  | .quayFrameDiscard raw => Sys2Proof.Machine.execQuayFrameDiscard raw s
  | .quayUartEntry octets baud => Sys2Proof.Machine.execQuayUartEntry octets baud s
  | .quayCsFall clkHigh => Sys2Proof.Machine.execQuayCsFall clkHigh s
  | .quayFrameSent => Sys2Proof.Machine.execQuayFrameSent s
  | .sessionIdleTimeout n => Sys2Proof.Machine.execSessionIdleTimeout n s
  | .sessionClose r w => Sys2Proof.Machine.execSessionClose r w s
  | .evtRecordsRead r n => Sys2Proof.Machine.execEvtRecordsRead r n s
  | .stalledReadServed n => Sys2Proof.Machine.execStalledReadServed n s
  | .evtObserveRegister r n => Sys2Proof.Machine.execEvtObserveRegister r n s
  | .observeNotify n => Sys2Proof.Machine.execObserveNotify n s
  | .notificationAck n => Sys2Proof.Machine.execNotificationAck n s
  | .notificationTimeout n => Sys2Proof.Machine.execNotificationTimeout n s
  | .evtFlush r n w => Sys2Proof.Machine.execEvtFlush r n w s
  | .journalRecordRead r => Sys2Proof.Machine.execJournalRecordRead r s
  | .procAbort r w => Sys2Proof.Machine.execProcAbort r w s
  | .gainStepDown p samples => Sys2Proof.Machine.execGainStepDown p samples s
  | .gainStepUp p heldMs => Sys2Proof.Machine.execGainStepUp p heldMs s
  | .txGroupStart c psdus => Sys2Proof.Machine.execTxGroupStart c psdus s
  | .txGroupEnd c rl iso => Sys2Proof.Machine.execTxGroupEnd c rl iso s
  | .mismatchSevere c m => Sys2Proof.Machine.execMismatchSevere c m s
  | .retuneRun p c winUs => Sys2Proof.Machine.execRetuneRun p c winUs s
  | .retuneDone p rls => Sys2Proof.Machine.execRetuneDone p rls s
  | .retuneHoldoffExpiry p => Sys2Proof.Machine.execRetuneHoldoffExpiry p s
  | .bearingRetuneSearch r w => Sys2Proof.Machine.execBearingRetuneSearch r w s
  | .bearingRetuneSet r w => Sys2Proof.Machine.execBearingRetuneSet r w s
  | .synthCalibrate r w => Sys2Proof.Machine.execSynthCalibrate r w s
  | .synthTempSample c temp => Sys2Proof.Machine.execSynthTempSample c temp s
  | .synthCalStart c winUs => Sys2Proof.Machine.execSynthCalStart c winUs s
  | .synthCalEnd c temp => Sys2Proof.Machine.execSynthCalEnd c temp s
  | .synthLock c => Sys2Proof.Machine.execSynthLock c s
  | .synthUnlock u => Sys2Proof.Machine.execSynthUnlock u s
  | .chainPowerUp c => Sys2Proof.Machine.execChainPowerUp c s
  | .txDomainOff d => Sys2Proof.Machine.execTxDomainOff d s
  | .aerialModeApply b => Sys2Proof.Machine.execAerialModeApply b s
  | .claimRound senses quals => Sys2Proof.Machine.execClaimRound senses quals s
  | .sfdFound d rssi freqOff both => Sys2Proof.Machine.execSfdFound d rssi freqOff both s
  | .sfdTimeout d => Sys2Proof.Machine.execSfdTimeout d s
  | .phrError d failed modeSwitch len mcs => Sys2Proof.Machine.execPhrError d failed modeSwitch len mcs s
  | .rxFrameEnd d f => Sys2Proof.Machine.execRxFrameEnd d f s
  | .diversityHoldEnd n => Sys2Proof.Machine.execDiversityHoldEnd n s
  | .rxGateOpen p => Sys2Proof.Machine.execRxGateOpen p s
  | .listenWindowOpen p => Sys2Proof.Machine.execListenWindowOpen p s
  | .rxGateClose p w energy => Sys2Proof.Machine.execRxGateClose p w energy s
  | .starvationIntervalEnd => Sys2Proof.Machine.execStarvationIntervalEnd s
  | .falsePreambleCheck w => Sys2Proof.Machine.execFalsePreambleCheck w s
  | .rxWindowApply r w => Sys2Proof.Machine.execRxWindowApply r w s
  | .windowApplyBoundary => Sys2Proof.Machine.execWindowApplyBoundary s
  | .windowRearmDone => Sys2Proof.Machine.execWindowRearmDone s
  | .slotBoundary pan ebPsdu => Sys2Proof.Machine.execSlotBoundary pan ebPsdu s
  | .planFreeze b t ending => Sys2Proof.Machine.execPlanFreeze b t ending s
  | .quietSlotInsert kind ix => Sys2Proof.Machine.execQuietSlotInsert kind ix s
  | .frameDecision f ending => Sys2Proof.Machine.execFrameDecision f ending s
  | .ackCompose n => Sys2Proof.Machine.execAckCompose n s
  | .ackWaitClose n => Sys2Proof.Machine.execAckWaitClose n s
  | .cellEnd pan asn => Sys2Proof.Machine.execCellEnd pan asn s
  | .dutyBinBoundary b => Sys2Proof.Machine.execDutyBinBoundary b s
  | .panEnable r p w => Sys2Proof.Machine.execPanEnable r p w s
  | .panStop r p w => Sys2Proof.Machine.execPanStop r p w s
  | .cellEntryStage r w => Sys2Proof.Machine.execCellEntryStage r w s
  | .schedDiscard r w => Sys2Proof.Machine.execSchedDiscard r w s
  | .scheduleCommit r w => Sys2Proof.Machine.execScheduleCommit r w s
  | .slotframeSwitch f => Sys2Proof.Machine.execSlotframeSwitch f s
  | .helmLockstep steps => Sys2Proof.Machine.execHelmLockstep steps s
  | .nodeFindEui r w => Sys2Proof.Machine.execNodeFindEui r w s
  | .tableInsert => Sys2Proof.Machine.execTableInsert s
  | .nodeAdd r w => Sys2Proof.Machine.execNodeAdd r w s
  | .nodeRemove r w => Sys2Proof.Machine.execNodeRemove r w s
  | .nodeRemoveFinish n => Sys2Proof.Machine.execNodeRemoveFinish n s
  | .nodeRehash r w => Sys2Proof.Machine.execNodeRehash r w s
  | .rehashBuildDone eccError => Sys2Proof.Machine.execRehashBuildDone eccError s
  | .migrateStart => Sys2Proof.Machine.execMigrateStart s
  | .migrateBucket => Sys2Proof.Machine.execMigrateBucket s
  | .migrateEnd => Sys2Proof.Machine.execMigrateEnd s
  | .sweeperPass => Sys2Proof.Machine.execSweeperPass s
  | .joinTimeout n => Sys2Proof.Machine.execJoinTimeout n s
  | .joinVerify eui pan relayed ok psdu => Sys2Proof.Machine.execJoinVerify eui pan relayed ok psdu s
  | .shortAddrRelease n => Sys2Proof.Machine.execShortAddrRelease n s
  | .learnApply b => Sys2Proof.Machine.execLearnApply b s
  | .neighbourSweep b => Sys2Proof.Machine.execNeighbourSweep b s
  | .daoReceived d psdu => Sys2Proof.Machine.execDaoReceived d psdu s
  | .disReceived p => Sys2Proof.Machine.execDisReceived p s
  | .dioTrickleFire p psdu => Sys2Proof.Machine.execDioTrickleFire p psdu s
  | .reassemblyTimeout b n => Sys2Proof.Machine.execReassemblyTimeout b n s
  | .checkpointPeriod => Sys2Proof.Machine.execCheckpointPeriod s
  | .almanacCheckpoint r w => Sys2Proof.Machine.execAlmanacCheckpoint r w s
  | .checkpointDone => Sys2Proof.Machine.execCheckpointDone s
  | .almanacRestored loadUs => Sys2Proof.Machine.execAlmanacRestored loadUs s
  | .almanacMirrorReload loadUs => Sys2Proof.Machine.execAlmanacMirrorReload loadUs s
  | .uplinkTxSelect p bytes => Sys2Proof.Machine.execUplinkTxSelect p bytes s
  | .admissionMessage x => Sys2Proof.Machine.execAdmissionMessage x s
  | .admitQueueTimeout n => Sys2Proof.Machine.execAdmitQueueTimeout n s
  | .admissionCompute => Sys2Proof.Machine.execAdmissionCompute s
  | .query => Sys2Proof.Machine.execQuery s
  | .handoverEntry ref => Sys2Proof.Machine.execHandoverEntry ref s
  | .reportDeadline ref => Sys2Proof.Machine.execReportDeadline ref s
  | .wheelCoarseSlot => Sys2Proof.Machine.execWheelCoarseSlot s
  | .flowConfig r w => Sys2Proof.Machine.execFlowConfig r w s
  | .admitCtxKeyid r ctx w => Sys2Proof.Machine.execAdmitCtxKeyid r ctx w s
  | .paSample => Sys2Proof.Machine.execPaSample s
  | .sampleIntervalEnd => Sys2Proof.Machine.execSampleIntervalEnd s
  | .ledgerSummaryMirror log => Sys2Proof.Machine.execLedgerSummaryMirror log s
  | .nextEligibleTime node key => Sys2Proof.Machine.execNextEligibleTime node key s
  | .listenPaging p => Sys2Proof.Machine.execListenPaging p s
  | .wakePatternSend p => Sys2Proof.Machine.execWakePatternSend p s
  | .pageReceived p o maskOk fault dist => Sys2Proof.Machine.execPageReceived p o maskOk fault dist s
  | .announceTimeout p fault dist => Sys2Proof.Machine.execAnnounceTimeout p fault dist s
  | .trainPhase p snr partner fault dist => Sys2Proof.Machine.execTrainPhase p snr partner fault dist s
  | .linkUp p => Sys2Proof.Machine.execLinkUp p s
  | .retrainHoldoffExpiry p => Sys2Proof.Machine.execRetrainHoldoffExpiry p s
  | .oamSend p m100 m1000 m2500 snr => Sys2Proof.Machine.execOamSend p m100 m1000 m2500 snr s
  | .oamReceived p b => Sys2Proof.Machine.execOamReceived p b s
  | .codewordLockLost x => Sys2Proof.Machine.execCodewordLockLost x s
  | .signalLost x => Sys2Proof.Machine.execSignalLost x s
  | .snrLinkLost p x => Sys2Proof.Machine.execSnrLinkLost p x s
  | .snrWarn p x => Sys2Proof.Machine.execSnrWarn p x s
  | .ttEnableWrite r p w => Sys2Proof.Machine.execTtEnableWrite r p w s
  | .trunkRetrain r w => Sys2Proof.Machine.execTrunkRetrain r w s
  | .trunkLoopback r w => Sys2Proof.Machine.execTrunkLoopback r w s
  | .loopbackEnd p m100 m1000 m2500 snr => Sys2Proof.Machine.execLoopbackEnd p m100 m1000 m2500 snr s
  | .trunkWakeDetect p x => Sys2Proof.Machine.execTrunkWakeDetect p x s
  | .trunkFrameReceived p f fill idle => Sys2Proof.Machine.execTrunkFrameReceived p f fill idle s
  | .xoffRefresh p fill => Sys2Proof.Machine.execXoffRefresh p fill s
  | .pfcReceived p quanta => Sys2Proof.Machine.execPfcReceived p quanta s
  | .pauseExpiry p prio => Sys2Proof.Machine.execPauseExpiry p prio s
  | .supervisionSend => Sys2Proof.Machine.execSupervisionSend s
  | .redPartnerTimeout b => Sys2Proof.Machine.execRedPartnerTimeout b s
  | .trunkAddressWrite r sub w => Sys2Proof.Machine.execTrunkAddressWrite r sub w s
  | .trainingLockTimeout p fault dist => Sys2Proof.Machine.execTrainingLockTimeout p fault dist s
  | .pulseSend heard => Sys2Proof.Machine.execPulseSend heard s
  | .pulseReceived w => Sys2Proof.Machine.execPulseReceived w s
  | .pulseLoss => Sys2Proof.Machine.execPulseLoss s
  | .pairingTimeout => Sys2Proof.Machine.execPairingTimeout s
  | .streamReceived x => Sys2Proof.Machine.execStreamReceived x s
  | .streamResend => Sys2Proof.Machine.execStreamResend s
  | .streamResync => Sys2Proof.Machine.execStreamResync s
  | .resyncDone => Sys2Proof.Machine.execResyncDone s
  | .revertStart => Sys2Proof.Machine.execRevertStart s
  | .handoverInstant => Sys2Proof.Machine.execHandoverInstant s
  | .consortHandover r w => Sys2Proof.Machine.execConsortHandover r w s
  | .csFaultClear r w => Sys2Proof.Machine.execCsFaultClear r w s
  | .ptpSyncMeasurement p ident m logInt => Sys2Proof.Machine.execPtpSyncMeasurement p ident m logInt s
  | .ptpAnnounce p a => Sys2Proof.Machine.execPtpAnnounce p a s
  | .ptpMasterLoss p => Sys2Proof.Machine.execPtpMasterLoss p s
  | .ppsInEdge rising => Sys2Proof.Machine.execPpsInEdge rising s
  | .ppsInLost => Sys2Proof.Machine.execPpsInLost s
  | .ppsOutEdge => Sys2Proof.Machine.execPpsOutEdge s
  | .sxSourceWrite r w => Sys2Proof.Machine.execSxSourceWrite r w s
  | .sxRateWrite r w => Sys2Proof.Machine.execSxRateWrite r w s
  | .sxSetAbsolute r w => Sys2Proof.Machine.execSxSetAbsolute r w s
  | .sxSetRelative r w => Sys2Proof.Machine.execSxSetRelative r w s
  | .slowTickLatch => Sys2Proof.Machine.execSlowTickLatch s
  | .slowRatioMeasure => Sys2Proof.Machine.execSlowRatioMeasure s
  | .sextantReconcile ticks => Sys2Proof.Machine.execSextantReconcile ticks s
  | .calCarry => Sys2Proof.Machine.execCalCarry s
  | .calOscStopped => Sys2Proof.Machine.execCalOscStopped s
  | .calTrimApply => Sys2Proof.Machine.execCalTrimApply s
  | .calTrimAutoUpdate => Sys2Proof.Machine.execCalTrimAutoUpdate s
  | .calSet r w => Sys2Proof.Machine.execCalSet r w s
  | .calHaltWrite r w => Sys2Proof.Machine.execCalHaltWrite r w s
  | .calOsfClear r w => Sys2Proof.Machine.execCalOsfClear r w s
  | .calAlarmWrite r w => Sys2Proof.Machine.execCalAlarmWrite r w s
  | .calFieldRead r sub => Sys2Proof.Machine.execCalFieldRead r sub s
  | .calShadowRelease sess => Sys2Proof.Machine.execCalShadowRelease sess s
  | .calFromSextant r w => Sys2Proof.Machine.execCalFromSextant r w s
  | .calFromSextantApply => Sys2Proof.Machine.execCalFromSextantApply s
  | .delayReqSend p => Sys2Proof.Machine.execDelayReqSend p s
  | .bnImport r opens material w => Sys2Proof.Machine.execBnImport r opens material w s
  | .bnReplace r opens proof material w => Sys2Proof.Machine.execBnReplace r opens proof material w s
  | .keyCommit n => Sys2Proof.Machine.execKeyCommit n s
  | .bnRemove r w => Sys2Proof.Machine.execBnRemove r w s
  | .bnAttest r w => Sys2Proof.Machine.execBnAttest r w s
  | .attestDone => Sys2Proof.Machine.execAttestDone s
  | .groupRollover r w => Sys2Proof.Machine.execGroupRollover r w s
  | .groupKeySwitch => Sys2Proof.Machine.execGroupKeySwitch s
  | .groupOverlapEnd => Sys2Proof.Machine.execGroupOverlapEnd s
  | .retainedGenExpiry => Sys2Proof.Machine.execRetainedGenExpiry s
  | .entropyBlock ok => Sys2Proof.Machine.execEntropyBlock ok s
  | .blobDirectoryRebuilt => Sys2Proof.Machine.execBlobDirectoryRebuilt s
  | .sectorCompaction n => Sys2Proof.Machine.execSectorCompaction n s
  | .enterFullService r w => Sys2Proof.Machine.execEnterFullService r w s
  | .enterHold r w => Sys2Proof.Machine.execEnterHold r w s
  | .holdEntry => Sys2Proof.Machine.execHoldEntry s
  | .enterStandby r w => Sys2Proof.Machine.execEnterStandby r w s
  | .coreIdleRetention => Sys2Proof.Machine.execCoreIdleRetention s
  | .powerModeWrite r w => Sys2Proof.Machine.execPowerModeWrite r w s
  | .ookPatternMatch chips => Sys2Proof.Machine.execOokPatternMatch chips s
  | .wakeNLow us => Sys2Proof.Machine.execWakeNLow us s
  | .wakeDeclared => Sys2Proof.Machine.execWakeDeclared s
  | .vsenseWarn low mv us => Sys2Proof.Machine.execVsenseWarn low mv us s
  | .sagCrossing mv us => Sys2Proof.Machine.execSagCrossing mv us s
  | .anchorSaveDone => Sys2Proof.Machine.execAnchorSaveDone s
  | .supplyReturn mv => Sys2Proof.Machine.execSupplyReturn mv s
  | .thermalLimit tj n => Sys2Proof.Machine.execThermalLimit tj n s
  | .thermalTrip tj n => Sys2Proof.Machine.execThermalTrip tj n s
  | .thermalRecovery tj secs => Sys2Proof.Machine.execThermalRecovery tj secs s
  | .railBad mv us => Sys2Proof.Machine.execRailBad mv us s
  | .vbatMeasure mv => Sys2Proof.Machine.execVbatMeasure mv s
  | .aonBrownout => Sys2Proof.Machine.execAonBrownout s
  | .holdUpSupplyLoss n => Sys2Proof.Machine.execHoldUpSupplyLoss n s
  | .aonSupplyChange vbat => Sys2Proof.Machine.execAonSupplyChange vbat s
  | .vsenseMinRead r => Sys2Proof.Machine.execVsenseMinRead r s
  | .sealDone => Sys2Proof.Machine.execSealDone s
  | .poraAssert => Sys2Proof.Machine.execPoraAssert s
  | .pinAssert ns => Sys2Proof.Machine.execPinAssert ns s
  | .pinRelease x => Sys2Proof.Machine.execPinRelease x s
  | .warmAssert detail => Sys2Proof.Machine.execWarmAssert detail s
  | .coreAssert detail => Sys2Proof.Machine.execCoreAssert detail s
  | .resetHoldEnd => Sys2Proof.Machine.execResetHoldEnd s
  | .trimLoadDone words => Sys2Proof.Machine.execTrimLoadDone words s
  | .pllLock => Sys2Proof.Machine.execPllLock s
  | .domainRelease rootOk rd => Sys2Proof.Machine.execDomainRelease rootOk rd s
  | .bootImageCheck mbit => Sys2Proof.Machine.execBootImageCheck mbit s
  | .bootImageWrite r w => Sys2Proof.Machine.execBootImageWrite r w s
  | .firmwareAttach => Sys2Proof.Machine.execFirmwareAttach s
  | .lodestarStart => Sys2Proof.Machine.execLodestarStart s
  | .chartStateWrite => Sys2Proof.Machine.execChartStateWrite s
  | .tack r w => Sys2Proof.Machine.execTack r w s
  | .tackSegment r w => Sys2Proof.Machine.execTackSegment r w s
  | .tackVerifyDone => Sys2Proof.Machine.execTackVerifyDone s
  | .tackAttachTime => Sys2Proof.Machine.execTackAttachTime s
  | .tackConfirm r w => Sys2Proof.Machine.execTackConfirm r w s
  | .tackSoakDone => Sys2Proof.Machine.execTackSoakDone s
  | .confirmDeadline => Sys2Proof.Machine.execConfirmDeadline s
  | .coreHeartbeat core => Sys2Proof.Machine.execCoreHeartbeat core s
  | .lookoutWarn core => Sys2Proof.Machine.execLookoutWarn core s
  | .lookoutLevel1 core => Sys2Proof.Machine.execLookoutLevel1 core s
  | .lookoutLevel2 x => Sys2Proof.Machine.execLookoutLevel2 x s
  | .warmRestart r w => Sys2Proof.Machine.execWarmRestart r w s
  | .domainReset r w => Sys2Proof.Machine.execDomainReset r w s
  | .poraRelease x test supply => Sys2Proof.Machine.execPoraRelease x test supply s
  | .refclkLoss => Sys2Proof.Machine.execRefclkLoss s
  | .logbookCommit => Sys2Proof.Machine.execLogbookCommit s
  | .scrubLine skip bits bad => Sys2Proof.Machine.execScrubLine skip bits bad s
  | .wearProjection => Sys2Proof.Machine.execWearProjection s
  | .rotationReassign => Sys2Proof.Machine.execRotationReassign s
  | .tjSample temps => Sys2Proof.Machine.execTjSample temps s
  | .tjMinute => Sys2Proof.Machine.execTjMinute s
  | .ageingMeasure d delay period bias => Sys2Proof.Machine.execAgeingMeasure d delay period bias s
  | .backgroundTestRun code target moved => Sys2Proof.Machine.execBackgroundTestRun code target moved s
  | .selftestLate code target => Sys2Proof.Machine.execSelftestLate code target s
  | .bankSwap a => Sys2Proof.Machine.execBankSwap a s
  | .selftestAdcCalibration r w => Sys2Proof.Machine.execSelftestAdcCalibration r w s
  | .selftestBankBist r w => Sys2Proof.Machine.execSelftestBankBist r w s
  | .selftestKeccakKat r w => Sys2Proof.Machine.execSelftestKeccakKat r w s
  | .selftestAesKat r w => Sys2Proof.Machine.execSelftestAesKat r w s
  | .selftestLogbookRead r w => Sys2Proof.Machine.execSelftestLogbookRead r w s
  | .selftestTxPowerCal r w => Sys2Proof.Machine.execSelftestTxPowerCal r w s
  | .selftestResult code target fail detail gains => Sys2Proof.Machine.execSelftestResult code target fail detail gains s
  | .capRecordsRead r n => Sys2Proof.Machine.execCapRecordsRead r n s
  | .capFlush r n w => Sys2Proof.Machine.execCapFlush r n w s
  | .dramEccError channel addr corrected table => Sys2Proof.Machine.execDramEccError channel addr corrected table s
  | .sramEccError corrected => Sys2Proof.Machine.execSramEccError corrected s

end Sys2Proof.Machine
end

