-- ==== Sys2Proof/Safety.lean ====
section
/-! DEFINITION. The words the statements use: a command that completes, an event raised, a request answered, the conditions of
a request, what a command may change, and what holds of every state a step reaches. -/
namespace Sys2Proof.Machine

/-! ## Completion -/

/-- The command `c` answers a next state from `s`, and `P` holds of it. -/
def Gives (c : Instr) (s : State) (P : State → Prop) : Prop := ∃ t, exec c s = .next t ∧ P t

/-- A counter object has gone up by one, modulo its width (R6). -/
abbrev Bumped (s t : State) (k : Nat) : Prop := t.getN k = (s.getN k + 1) % 2 ^ Obj.bits k

/-! ## Events (R72, R73, R79) -/

/-- The newest record of event FIFO `n`: of those held while no Attach has followed a reset, else of those written. -/
def State.lastEvent (s : State) (n : Nat) : Option EvRec :=
  let f := nth s.mg.fifos n
  if s.mg.busy then f.held.getLast? else f.recs.getLast?

/-- The newest record of the event's FIFO has this code, severity and PARAM. -/
abbrev Raised (t : State) (code sev : Nat) (param : Octets) : Prop :=
  (t.lastEvent (fifoOf code)).map (fun r => (r.code, r.sev, r.param)) = some (code, sev, fit 36 param)

/-! ## Requests (R40–R44, R53, R62–R65, R520) -/

/-- The newest frame of the Quay response queue answers request `r` with this code and payload. -/
abbrev Replied (t : State) (r : Req) (code : Nat) (p : Payload) : Prop :=
  t.mg.quay.responses.getLast?.map (fun f => (f.kind, f.tok, f.code, f.payload)) = some (2, r.tok, code, p)

/-- What the first reply to a read on the Quay port carries: the whole payload, or its first 1,024 octets (R45, R46). -/
def firstBlock (r : Req) (p : Payload) : Payload :=
  if p.cbor.length ≤ 1024 then p else .block 0 true r.szx (p.cbor.take 1024)

/-- A request on the Quay port, in one piece and by a method of R42, that passes the gate of R520: PD1 SAFE works, the firmware is
attached, no entry to STANDBY and no Anchor save is under way, fewer than eight requests of the session are outstanding, and the
queue of responses has a place (R49). -/
abbrev Ready (s : State) (r : Req) : Prop :=
  r.via = .quay ∧ r.blk = none ∧ r.blk2 = none ∧ r.other = false ∧ s.cond 1 ≠ .reset ∧ s.cond 1 ≠ .off ∧ s.pwr.off = false ∧
    s.pwr.standby = false ∧ s.pwr.anchor = none ∧ s.pwr.entry = none ∧ s.mg.busy = false ∧ s.outstanding 0 < 8 ∧
    s.mg.quay.responses.length < responsePlaces

/-- The state behind the gate: CORE awake, and the session's last request now. -/
def State.entered (s : State) : State :=
  let s := s.coreWake
  let s : State := { s with pwr := { s.pwr with lastRequest := s.now } }
  s.updSession 0 (fun x => { x with lastReq := s.now })

/-- A write of `w` to `ix:sub` passes the checks of R520, and `v` is the value it writes. -/
abbrev Takes (s : State) (r : Req) (ix sub : Nat) (w : Wire) (v : Val) : Prop :=
  Ready s r ∧ (s.entered.checkWrite 0 ix sub w (fun _ => none)).toOption = some v

/-- The error of a result, where it is one. -/
def errorOf {ε α : Type} (x : Except ε α) : Option ε :=
  match x with
  | .error e => some e
  | .ok _ => none

/-- A start of the procedure at `ix`, owned by domain `d`, is not refused before its arguments are looked at. -/
abbrev CanStart (s : State) (r : Req) (ix d : Nat) : Prop :=
  Ready s r ∧ s.isOn d = true ∧ s.shadowed = false ∧ s.procRunning ix = false

/-- The procedure at `ix` is RUNNING, and the request is answered with the handle of the next start count (R63). -/
abbrev Starts (s t : State) (r : Req) (ix : Nat) : Prop :=
  t.procState ix = 1 ∧ Replied t r coapChanged (.handle (ix * 65536 + nextStart (s.startCount ix)))

/-- The objects that every session or every node has its own value of: a write of one is kept there, not in the dictionary. -/
def tableKept (k : Nat) : Bool :=
  [Obj.JOURNAL_CURSOR, Obj.CELL_NUMBER, Obj.NODE_SELECT, Obj.FLOW_SELECT, Obj.NODE_NOTE, Obj.NODE_FPW, Obj.NODE_FPH].contains k

/-- The pulse that the device has sent, where it sent one. -/
def pulseSaid (o : Out) : Option Pulse :=
  match o with
  | .pulse q _ => some q
  | _ => none

/-! ## Frames -/

/-- The parts of the state: the dictionary, the working state of each chapter, COUNT, what has been given out, the queue. -/
inductive Part where
  | obj | lb | mg | fe | rx | helm | alm | pilot | tk | cs | bn | sx | pwr | diag | rst | now | free | out | pending
deriving DecidableEq, Repr

/-- A part is the same in two states. -/
def Part.same (p : Part) (s t : State) : Prop :=
  match p with
  | .obj => t.obj = s.obj
  | .lb => t.lb = s.lb
  | .mg => t.mg = s.mg
  | .fe => t.fe = s.fe
  | .rx => t.rx = s.rx
  | .helm => t.helm = s.helm
  | .alm => t.alm = s.alm
  | .pilot => t.pilot = s.pilot
  | .tk => t.tk = s.tk
  | .cs => t.cs = s.cs
  | .bn => t.bn = s.bn
  | .sx => t.sx = s.sx
  | .pwr => t.pwr = s.pwr
  | .diag => t.diag = s.diag
  | .rst => t.rst = s.rst
  | .now => t.now = s.now
  | .free => t.free = s.free
  | .out => t.out = s.out
  | .pending => t.pending = s.pending

/-- From `s` to `t` nothing has changed but the parts listed. -/
def Only (l : List Part) (s t : State) : Prop := ∀ p, p ∉ l → p.same s t

/-- From `s` to `t` no object reads otherwise but those listed. -/
def Objects (l : List Nat) (s t : State) : Prop := ∀ k, k ∉ l → t.get k = s.get k

/-! ## What every step keeps -/

/-- The canonical form of the stores: the dictionary and the values committed in Logbook (R9, R39). -/
def Canonical (s : State) : Prop := Store.wf s.obj = true ∧ Store.wf s.lb.committed = true

/-- Eight event FIFOs within their depth (R72, R74, R79), and a change journal of 1 to 65,536 records (R58, R521). -/
def Bounded (s : State) : Prop :=
  s.mg.fifos.length = 8 ∧ (∀ f ∈ s.mg.fifos, f.recs.length ≤ fifoDepth ∧ f.held.length ≤ fifoDepth) ∧
    s.lb.journal ≠ [] ∧ s.lb.journal.length ≤ journalSize

end Sys2Proof.Machine
end

