-- ==== Sys2Proof/Certificates/Slice0/Obligations.lean ====
section
/-! DEFINITION. The statements about the block that the provers prove: what each command does where it completes, what it
leaves alone, what every step keeps, and rules of the spec. -/
open Sys2Proof Sys2Proof.Machine

/-- The Quay port: UART entry, a chip-select fall, a frame discarded, a frame sent (R46, R47, R49, R50, R51). -/
def Obligations.QuayPortCompletes : Prop :=
  (∀ (s : State) (b : Nat),
    115200 ≤ b ∧ b ≤ 3000000 →
    Gives (.quayUartEntry (List.replicate 16 0xA5) b) s (fun t =>
      t = { s with mg := { s.mg with quay := { s.mg.quay with uart := true, baud := b } } })) ∧
  (∀ (s : State) (clk : Bool),
    s.pwr.standby = false ∧ s.pwr.entry = none →
    Gives (.quayCsFall clk) s (fun t =>
      t.mg.quay.uart = false ∧ t.mg.quay.spiMode = (if clk then 3 else 0) ∧ t.mg.quay.quad = (s.getN Obj.QUAY_MODE == 1) ∧
      t.obj = s.obj)) ∧
  (∀ (s : State) (clk : Bool),
    s.pwr.standby = true →
    Gives (.quayCsFall clk) s (fun t =>
      bit (t.getN Obj.WAKE_CAUSE) 5 = true ∧ t.pwr.woken = true ∧ t.mg.quay.wakeWait = true)) ∧
  (∀ (s : State) (len : Nat) (c : Nat) (body : Octets),
    s.pwr.standby = false ∧ s.pwr.wakeAt = none ∧ s.mg.quay.wakeWait = false ∧
    (s.mg.quay.uart = true ∨ s.mg.quay.quad = false) ∧ s.mg.quay.hunt = [] ∧ 10 ≤ len ∧ len ≤ 1034 ∧ body.length = len ∧
    c < 65536 ∧ c ≠ crc16 (be 2 len ++ body) →
    Gives (.quayFrameDiscard (0xA5 :: (be 2 len ++ body ++ be 2 c))) s (fun t =>
      Bumped s t (Obj.QUAY_CRC_ERRORS) ∧ t.mg.quay.hunt = be 2 len ++ body ++ be 2 c ∧
      t.mg.quay.responses = s.mg.quay.responses)) ∧
  (∀ (s : State) (tok : Nat) (ix : Nat) (sub : Nat),
    Ready s { via := .quay, tok := tok, blk := none } ∧ s.pwr.wakeAt = none ∧ s.mg.quay.wakeWait = false ∧
    s.mg.quay.uart = true ∧ s.mg.quay.hunt = [] ∧ tok < 256 ∧ ix < 65536 ∧ sub < 256 ∧ ownRead (Obj.key ix sub) = false ∧
    s.entered.checkRead 0 ix sub = none →
    Gives (.quayFrameDiscard (0xA5 :: (be 2 10 ++ (be 1 1 ++ be 1 tok ++ be 1 1 ++ be 2 ix ++ be 1 sub ++ be 4 0) ++ be 2 (crc16 (be 2 10 ++ (be 1 1 ++ be 1 tok ++ be 1 1 ++ be 2 ix ++ be 1 sub ++ be 4 0)))))) s (fun t =>
      Replied t { via := .quay, tok := tok, blk := none } coapContent (firstBlock { via := .quay, tok := tok, blk := none } (.value (s.entered.view 0 (Obj.key ix sub)))) ∧
      t.mg.quay.hunt = [])) ∧
  (∀ (s : State) (fr : QuayFrame) (rest : List QuayFrame),
    s.mg.quay.notifications = [] ∧ s.mg.quay.responses = fr :: rest ∧ s.mg.quay.waiting = [] ∧ fr.takes = none ∧
    rest.all (fun x => x.ord != fr.ord) →
    Gives .quayFrameSent s (fun t =>
      t = { s with mg := { s.mg with quay := { s.mg.quay with responses := rest, sent := s.mg.quay.sent - fr.octets.length } } })) ∧
  (∀ (s : State) (fr : QuayFrame) (w : QuayFrame) (rest : List QuayFrame) (ws : List QuayFrame),
    s.mg.quay.notifications = [] ∧ s.mg.quay.responses = fr :: rest ∧ s.mg.quay.waiting = w :: ws ∧ fr.takes = none ∧
    rest.all (fun x => x.ord != fr.ord) ∧ rest.length < responsePlaces →
    Gives .quayFrameSent s (fun t =>
      t.mg.quay.responses = rest ++ [w] ∧ t.mg.quay.waiting = ws)) ∧
  (∀ (s : State) (fr : QuayFrame) (n : Nat) (last : Nat),
    s.mg.quay.notifications = [fr] ∧ s.mg.quay.responses = [] ∧ fr.takes = some (n, last) ∧
    (nth s.mg.fifos n).observer = some { sess := 0, tok := fr.tok, outstanding := some last } ∧ n < s.mg.fifos.length →
    Gives .quayFrameSent s (fun t =>
      t.mg.quay.notifications = [] ∧ nth t.mg.fifos n = ((nth s.mg.fifos n).leave last).settle)) ∧
  (∀ (s : State) (fr : QuayFrame) (n : Nat) (last : Nat),
    s.mg.quay.notifications = [fr] ∧ s.mg.quay.responses = [] ∧ fr.takes = some (n, last) ∧
    (nth s.mg.fifos n).observer ≠ some { sess := 0, tok := fr.tok, outstanding := some last } →
    Gives .quayFrameSent s (fun t =>
      t.mg.quay.notifications = [] ∧ t.mg.fifos = s.mg.fifos))

/-- Sessions and plain objects: idle and commanded closing, block transfers, a write of an object and the wake-on-access read (R39, R45, R52, R54, R56, R59). -/
def Obligations.SessionsComplete : Prop :=
  (∀ (s : State) (n : Nat) (x : Transfer),
    x ∈ s.mg.transfers ∧ x.sess = n ∧ x.last + 60 * secC ≤ s.now →
    Gives (.blockTransferTimeout n) s (fun t =>
      x ∉ t.mg.transfers ∧ (∀ y ∈ s.mg.transfers, y.sess ≠ n → y ∈ t.mg.transfers) ∧
      t = { s with mg := { s.mg with transfers := t.mg.transfers } })) ∧
  (∀ (s : State) (n : Nat) (x : Session),
    s.session? n = some x ∧ n ≠ 0 ∧ x.lastReq + s.getN Obj.SESSION_IDLE * secC ≤ s.now ∧ s.outstanding n = 0 ∧
    (s.mg.fifos.all (fun f => f.observer.elim true (fun o => o.sess != n))) = true ∧ s.mg.fifos.length = 8 →
    Gives (.sessionIdleTimeout n) s (fun t =>
      t.session? n = none ∧ Raised t 0x2002 0 (be 1 n ++ be 1 0 ++ be 1 0xFF))) ∧
  (∀ (s : State) (r : Req) (n : Nat),
    Ready s r ∧ s.isOn 1 = true ∧ n ≠ 0 ∧ n < 16 ∧ (s.session? n).isSome = true →
    Gives (.sessionClose r (.uint n)) s (fun t =>
      t.session? n = none ∧ Replied t r coapChanged .none)) ∧
  (∀ (s : State) (r : Req) (ix : Nat) (sub : Nat),
    Ready s r ∧ ownRead (Obj.key ix sub) = false ∧ s.entered.checkRead 0 ix sub = none →
    Gives (.wakeOnAccessRead r { ix := ix, sub := sub }) s (fun t =>
      Replied t r coapContent (firstBlock r (.value (s.entered.view 0 (Obj.key ix sub)))) ∧ t.lb = s.lb ∧ t.obj = s.obj)) ∧
  (∀ (s : State) (r : Req) (ix : Nat) (sub : Nat) (rc : Rc),
    Ready s r ∧ ownRead (Obj.key ix sub) = false ∧ s.entered.checkRead 0 ix sub = some rc →
    Gives (.wakeOnAccessRead r { ix := ix, sub := sub }) s (fun t =>
      Replied t r rc.coap (.detail rc none) ∧ t.lb = s.lb ∧ t.obj = s.obj)) ∧
  (∀ (s : State) (r : Req) (ix : Nat) (sub : Nat) (w : Wire) (v : Val),
    Ready s r ∧ ownRow (Obj.key ix sub) = false ∧ tableKept (Obj.key ix sub) = false ∧
    (s.entered.checkWrite 0 ix sub w (fun v => s.entered.lateCause (Obj.key ix sub) v)).toOption = some v →
    Gives (.objectWrite r ix sub w) s (fun t =>
      t.get (Obj.key ix sub) = v ∧ Replied t r coapChanged .none ∧
      (t.lb.journal.head?.map (fun j => (j.kind, j.index, j.sub, j.result))) = some (1, ix, sub, .ok)))

/-- The event FIFOs: reading, a stalled read served, observing, notifying, flushing (R75, R76, R77, R78). -/
def Obligations.EventFifosComplete : Prop :=
  (∀ (s : State) (r : Req) (n : Nat),
    Ready s r ∧ s.isOn 1 = true ∧ r.cancel = false ∧ n < s.mg.fifos.length ∧ n < 8 ∧ (nth s.mg.fifos n).observer = none ∧
    (nth s.mg.fifos n).recs ≠ [] ∧ (nth s.mg.fifos n).stalled = [] →
    Gives (.evtRecordsRead r n) s (fun t =>
      Replied t r coapContent (.records ((nth s.mg.fifos n).recs.take 15)) ∧
      (nth t.mg.fifos n).recs = (nth s.mg.fifos n).recs.drop 15)) ∧
  (∀ (s : State) (r : Req) (n : Nat),
    Ready s r ∧ s.isOn 1 = true ∧ r.cancel = false ∧ n < s.mg.fifos.length ∧ n < 8 ∧ (nth s.mg.fifos n).observer = none ∧
    ((nth s.mg.fifos n).recs = [] ∨ (nth s.mg.fifos n).stalled ≠ []) →
    Gives (.evtRecordsRead r n) s (fun t =>
      (nth t.mg.fifos n).stalled = (nth s.mg.fifos n).stalled ++ [{ sess := 0, tok := r.answers (Obj.key (0x1200 + n) 1), asked := r.asked }] ∧
      t.mg.quay.responses = s.mg.quay.responses)) ∧
  (∀ (s : State) (n : Nat) (x : Stalled) (rest : List Stalled),
    n < s.mg.fifos.length ∧ n < 8 ∧ (nth s.mg.fifos n).stalled = x :: rest ∧ x.sess = 0 ∧ (nth s.mg.fifos n).recs ≠ [] ∧
    x.asked.blk2 = none ∧ (Payload.records ((nth s.mg.fifos n).recs.take 15)).cbor.length ≤ x.asked.size ∧
    s.mg.quay.responses.length < responsePlaces →
    Gives (.stalledReadServed n) s (fun t =>
      (nth t.mg.fifos n).stalled = rest ∧ (nth t.mg.fifos n).recs = (nth s.mg.fifos n).recs.drop 15 ∧
      Replied t { via := .quay, tok := x.tok.tok, blk := none } coapContent (.records ((nth s.mg.fifos n).recs.take 15)))) ∧
  (∀ (s : State) (r : Req) (n : Nat),
    Ready s r ∧ s.isOn 1 = true ∧ n < s.mg.fifos.length ∧ n < 8 ∧ (nth s.mg.fifos n).observer = none →
    Gives (.evtObserveRegister r n) s (fun t =>
      (nth t.mg.fifos n).observer = some { sess := 0, tok := r.tok, outstanding := none } ∧
      (nth t.mg.fifos n).recs = (nth s.mg.fifos n).recs)) ∧
  (∀ (s : State) (n : Nat) (o : Observer),
    n < s.mg.fifos.length ∧ (nth s.mg.fifos n).observer = some o ∧ o.sess = 0 ∧ o.outstanding = none ∧
    (nth s.mg.fifos n).recs ≠ [] ∧ s.mg.quay.notifications.length < 16 →
    Gives (.observeNotify n) s (fun t =>
      (t.mg.quay.notifications.getLast?.map (fun f => (f.kind, f.tok, f.payload))) = some (3, o.tok, .records ((nth s.mg.fifos n).recs.take 15)) ∧
      ((nth t.mg.fifos n).observer.bind (·.outstanding)).isSome = true ∧ (nth t.mg.fifos n).recs = (nth s.mg.fifos n).recs)) ∧
  (∀ (s : State) (n : Nat) (o : Observer) (last : Nat),
    n < s.mg.fifos.length ∧ (nth s.mg.fifos n).observer = some o ∧ o.sess ≠ 0 ∧ o.outstanding = some last →
    Gives (.notificationAck n) s (fun t =>
      t = { s with mg := { s.mg with fifos := upd s.mg.fifos n (fun f => (f.leave last).settle) } })) ∧
  (∀ (s : State) (n : Nat) (o : Observer),
    n < s.mg.fifos.length ∧ (nth s.mg.fifos n).observer = some o ∧ o.sess ≠ 0 ∧ o.outstanding.isSome = true →
    Gives (.notificationTimeout n) s (fun t =>
      (nth t.mg.fifos n).observer = none ∧ (nth t.mg.fifos n).recs = (nth s.mg.fifos n).recs)) ∧
  (∀ (s : State) (r : Req) (n : Nat),
    Ready s r ∧ s.isOn 1 = true ∧ n < s.mg.fifos.length ∧ n < 8 →
    Gives (.evtFlush r n (.bool true)) s (fun t =>
      (nth t.mg.fifos n).recs = [] ∧
      (nth t.mg.fifos n).flushed = ((nth s.mg.fifos n).flushed + (nth s.mg.fifos n).recs.length) % 2 ^ 64 ∧
      (nth t.mg.fifos n).lost = (nth s.mg.fifos n).lost ∧ Replied t r coapChanged .none)) ∧
  (∀ (s : State) (r : Req) (x : Session) (j : JRec),
    Ready s r ∧ s.isOn 1 = true ∧ s.session? 0 = some x ∧ s.lb.journal.find? (fun j => j.seq == x.cursor) = some j →
    Gives (.journalRecordRead r) s (fun t =>
      Replied t r coapContent (firstBlock r (.octets j.octets)) ∧ (t.session 0).cursor = (x.cursor + 1) % 2 ^ 32 ∧
      t.lb.journal = s.lb.journal))

/-- PROC_ABORT: the procedure runs no longer; what becomes of the work of four procedures; a stalled read; what is refused (R62, R65, R66). -/
def Obligations.ProcAbortCompletes : Prop :=
  (∀ (s : State) (r : Req) (h : Nat),
    Ready s r ∧ h < 2 ^ 32 ∧ handleFifo (h / 65536) = none ∧ h / 65536 ≠ Obj.TACK ∧ s.entered.abortBad h = none →
    Gives (.procAbort r (.uint h)) s (fun t =>
      t.procRunning (h / 65536) = false ∧ t.pwr.anchor = none ∧ t.pending = s.pending)) ∧
  (∀ (s : State) (r : Req) (h : Nat) (rc : Rc),
    Ready s r ∧ h < 2 ^ 32 ∧ s.entered.abortBad h = some rc →
    Gives (.procAbort r (.uint h)) s (fun t =>
      Replied t r rc.coap (.detail rc none) ∧ (t.lb.journal.head?.map (fun j => (j.kind, j.result))) = some (3, rc) ∧
      t.obj = s.entered.obj ∧ t.bn = s.bn ∧ t.helm = s.helm)) ∧
  (∀ (s : State) (r : Req) (n : Nat),
    Ready s r ∧ 1 ≤ n ∧ n ≤ 0xFEFF ∧ s.procRunning Obj.CAL_FROM_SEXTANT = true ∧
    s.procHandle Obj.CAL_FROM_SEXTANT = Obj.CAL_FROM_SEXTANT * 65536 + n →
    Gives (.procAbort r (.uint (Obj.CAL_FROM_SEXTANT * 65536 + n))) s (fun t =>
      t.procState Obj.CAL_FROM_SEXTANT = 3 ∧ t.getN (Obj.key Obj.CAL_FROM_SEXTANT 2) = Rc.aborted.code ∧
      t.sx.fromSext = none ∧ Replied t r coapChanged .none ∧
      (t.lb.journal.head?.map (fun j => (j.kind, j.result))) = some (3, .ok))) ∧
  (∀ (s : State) (r : Req) (n : Nat) (c : Commit),
    Ready s r ∧ 1 ≤ n ∧ n ≤ 0xFEFF ∧ s.procRunning Obj.SCHEDULE_COMMIT = true ∧
    s.procHandle Obj.SCHEDULE_COMMIT = Obj.SCHEDULE_COMMIT * 65536 + n ∧ s.helm.commit = some c ∧ c.switched = false →
    Gives (.procAbort r (.uint (Obj.SCHEDULE_COMMIT * 65536 + n))) s (fun t =>
      t.procState Obj.SCHEDULE_COMMIT = 3 ∧ t.getN (Obj.key Obj.SCHEDULE_COMMIT 2) = Rc.aborted.code ∧
      t.helm.commit = none ∧ t.helm.cells = s.helm.cells ∧ Replied t r coapChanged .none ∧
      (t.lb.journal.head?.map (fun j => (j.kind, j.result))) = some (3, .ok))) ∧
  (∀ (s : State) (r : Req) (n : Nat),
    Ready s r ∧ 1 ≤ n ∧ n ≤ 0xFEFF ∧ s.procRunning Obj.BN_ATTEST = true ∧
    s.procHandle Obj.BN_ATTEST = Obj.BN_ATTEST * 65536 + n →
    Gives (.procAbort r (.uint (Obj.BN_ATTEST * 65536 + n))) s (fun t =>
      t.procState Obj.BN_ATTEST = 3 ∧ t.getN (Obj.key Obj.BN_ATTEST 2) = Rc.aborted.code ∧ t.bn.attest = none ∧
      t.bn.records = s.bn.records ∧ Replied t r coapChanged .none ∧
      (t.lb.journal.head?.map (fun j => (j.kind, j.result))) = some (3, .ok))) ∧
  (∀ (s : State) (r : Req) (n : Nat) (x : Rollover),
    Ready s r ∧ 1 ≤ n ∧ n ≤ 0xFEFF ∧ s.procRunning Obj.GROUP_ROLLOVER = true ∧
    s.procHandle Obj.GROUP_ROLLOVER = Obj.GROUP_ROLLOVER * 65536 + n ∧ s.bn.roll = some x ∧ x.switched = none →
    Gives (.procAbort r (.uint (Obj.GROUP_ROLLOVER * 65536 + n))) s (fun t =>
      t.procState Obj.GROUP_ROLLOVER = 3 ∧ t.getN (Obj.key Obj.GROUP_ROLLOVER 2) = Rc.aborted.code ∧ t.bn.roll = none ∧
      t.bn.records = s.bn.records ∧ Replied t r coapChanged .none ∧
      (t.lb.journal.head?.map (fun j => (j.kind, j.result))) = some (3, .ok))) ∧
  (∀ (s : State) (r : Req) (n : Nat),
    Ready s r ∧ n < 8 ∧ n < s.mg.fifos.length ∧ ((nth s.mg.fifos n).stalled.any (fun x => x.sess == 0)) = true ∧
    s.mg.quay.responses.length + ((nth s.mg.fifos n).stalled.filter (fun x => x.sess == 0)).length < responsePlaces →
    Gives (.procAbort r (.uint ((0x1200 + n) * 65536 + 0xFF00))) s (fun t =>
      (nth t.mg.fifos n).stalled = (nth s.mg.fifos n).stalled.filter (fun x => x.sess != 0) ∧ Replied t r coapChanged .none))

/-- Gain steps: one step down on clipping, one step up after the hold (R82, R83, R84). -/
def Obligations.GainStepsComplete : Prop :=
  (∀ (s : State) (p : Nat) (n : Nat),
    p < 4 ∧ s.isOn (rxDom p) = true ∧ s.getN (Obj.PP_GAIN_MODE p) = 0 ∧ bit (s.getN Obj.TRIM_STATUS) 3 = false ∧
    (s.port p).blanked = false ∧ 16 ≤ n ∧ 0 < s.getN (Obj.PP_GAIN_STEP_NOW p) ∧ (s.port p).clipAt + usC ≤ s.now →
    Gives (.gainStepDown p n) s (fun t =>
      t.getN (Obj.PP_GAIN_STEP_NOW p) = s.getN (Obj.PP_GAIN_STEP_NOW p) - 1 ∧ Bumped s t (Obj.PP_CLIP_EVENTS p) ∧
      (t.rx.recs.all (fun r => winPort r.win != p || r.gainStep)) = true)) ∧
  (∀ (s : State) (p : Nat) (ms : Nat),
    p < 4 ∧ s.isOn (rxDom p) = true ∧ s.getN (Obj.PP_GAIN_MODE p) = 0 ∧ bit (s.getN Obj.TRIM_STATUS) 3 = false ∧
    (s.port p).blanked = false ∧ s.getN (Obj.PP_GAIN_UP_HOLD p) ≤ ms ∧ s.getN (Obj.PP_GAIN_STEP_NOW p) < topStep p →
    Gives (.gainStepUp p ms) s (fun t =>
      t.getN (Obj.PP_GAIN_STEP_NOW p) = s.getN (Obj.PP_GAIN_STEP_NOW p) + 1 ∧
      (t.rx.recs.all (fun r => winPort r.win != p || r.gainStep)) = true ∧ t.fe.chains = s.fe.chains ∧
      t.getN (Obj.PP_CLIP_EVENTS p) = s.getN (Obj.PP_CLIP_EVENTS p)))

/-- Transmission groups: start, end and the cut at a severe mismatch (R86, R87, R96, R109, R114). -/
def Obligations.TransmissionGroupsComplete : Prop :=
  (∀ (s : State) (c : Nat) (ps : List Octets) (g : Group) (f : AirFrame),
    s.planOf c = some g ∧ g.chain = c ∧ c < s.fe.chains.length ∧ g.port < s.fe.ports.length ∧ (s.chain c).group = none ∧
    s.getN (Obj.PP_MATCH_STATE g.port) ≠ 2 ∧ s.isOn (chainDom c) = true ∧ s.getN (Obj.CC_SYNTH_STATE c) = 2 ∧
    s.getN (Obj.CC_SYNTH_FREQ c) = g.freq ∧ s.silent = false ∧ g.frames = [f] ∧ 1 ≤ s.getN (Obj.CC_CARRIER_LIMIT c) ∧
    s.heldUntil g = none ∧ (s.dropPlan g).wouldDrop (blankingOf s.onAir) g.port [f.freq] [] = false →
    Gives (.txGroupStart c ps) s (fun t =>
      ((t.chain c).group.map (fun x => (x.port, x.start, x.frames.length))) = some (g.port, g.start, 1) ∧
      (t.port g.port).tr = true ∧ (t.port g.port).blanked = true ∧ Bumped s t (Obj.CC_TX_GROUPS c))) ∧
  (∀ (s : State) (c : Nat) (rl : Nat) (iso : Nat) (g : Group),
    (s.chain c).group = some g ∧ (s.chain c).drv.isSome = true ∧ g.chain = c ∧ c < s.fe.chains.length ∧
    g.port < s.fe.ports.length ∧ s.silent = false →
    Gives (.txGroupEnd c rl iso) s (fun t =>
      (t.chain c).group = none ∧ (t.chain c).lastGroupEnd = s.now ∧ (t.port g.port).tr = false)) ∧
  (∀ (s : State) (c : Nat) (m : CutMeasure) (g : Group),
    (s.chain c).group = some g ∧ (s.chain c).drv.isSome = true ∧ 40 ≤ s.airedUs g ∧ g.chain = c ∧ c < s.fe.chains.length ∧
    m.rl < 35 ∧ s.silent = false ∧ s.mg.fifos.length = 8 →
    Gives (.mismatchSevere c m) s (fun t =>
      (t.chain c).group = none ∧ t.getN (Obj.PP_MATCH_STATE g.port) = 2 ∧
      Raised t 0x3002 3 (be 1 g.port ++ be 2 m.rl ++ be 1 c ++ be 1 (s.ended g).length)))

/-- Retunes: the two commanded starts, the run, its result, the holdoff (R89, R90, R91, R92, R93). -/
def Obligations.RetunesComplete : Prop :=
  (∀ (s : State) (r : Req) (p : Nat),
    Ready s r ∧ s.isOn 1 = true ∧ p < 4 ∧ p < s.fe.ports.length ∧ s.procRunning Obj.BEARING_RETUNE = false ∧
    s.retunable p = true →
    Gives (.bearingRetuneSearch r (.bytes (be 1 p ++ be 3 0))) s (fun t =>
      ((t.port p).retuneReq.map (fun q => (q.cause, q.set))) = some (2, none) ∧ t.procState Obj.BEARING_RETUNE = 1 ∧
      Replied t r coapChanged (.handle (Obj.BEARING_RETUNE * 65536 + nextStart (s.startCount Obj.BEARING_RETUNE))))) ∧
  (∀ (s : State) (r : Req) (p : Nat) (a : Nat) (b : Nat),
    Ready s r ∧ s.isOn 1 = true ∧ p < 4 ∧ p < s.fe.ports.length ∧ a < 64 ∧ b < 64 ∧
    s.procRunning Obj.BEARING_RETUNE = false ∧ s.retunable p = true →
    Gives (.bearingRetuneSet r (.bytes (be 1 p ++ be 1 1 ++ be 1 a ++ be 1 b))) s (fun t =>
      ((t.port p).retuneReq.map (fun q => (q.cause, q.set))) = some (2, some (a, b)) ∧ t.procState Obj.BEARING_RETUNE = 1 ∧
      Replied t r coapChanged (.handle (Obj.BEARING_RETUNE * 65536 + nextStart (s.startCount Obj.BEARING_RETUNE))))) ∧
  (∀ (s : State) (p : Nat) (c : Nat) (us : Nat) (q : RetuneReq),
    p < s.fe.ports.length ∧ (s.port p).retuneReq = some q ∧ s.silent = false ∧ 250 ≤ us ∧
    (s.chainsOf p).contains c = true ∧ s.lockedFree c = true ∧ (s.port p).retuneRun = none ∧
    s.getB (Obj.CC_CAL_PENDING c) = false ∧ (s.chain c).calQueue = [] ∧ s.windowFree c = true ∧
    s.quietFor (fun g => g.port == p || g.chain == c) (fun a => a.port == p || a.chain == c) = true ∧
    (s.inQuiet 1 p || s.noneDue p) = true ∧ (s.fe.chains.all (fun x => x.group.elim true (fun g => g.port != p))) = true ∧
    (s.rx.recs.all (fun r => r.sfd.isNone || winPort r.win != p)) = true →
    Gives (.retuneRun p c us) s (fun t =>
      (t.port p).retuneReq = none ∧ ((t.port p).retuneRun.map (fun x => (x.req, x.chain))) = some (q, c) ∧
      (t.port p).blanked = true)) ∧
  (∀ (s : State) (p : Nat) (x : Nat) (a : Nat) (b : Nat) (run : RetuneRun),
    p < 4 ∧ p < s.fe.ports.length ∧ (s.port p).retuneRun = some run ∧ run.req.set = some (a, b) →
    Gives (.retuneDone p [x]) s (fun t =>
      (t.port p).retuneRun = none ∧ t.getN (Obj.PP_TUNE_C1 p) = a ∧ t.getN (Obj.PP_TUNE_C2 p) = b ∧
      t.getN (Obj.PP_RETURN_LOSS p) = min 400 x ∧
      t.getN (Obj.PP_MATCH_STATE p) = (if 60 ≤ x then 0 else if 35 ≤ x then 1 else 2) ∧ Bumped s t (Obj.PP_RETUNE_COUNT p))) ∧
  (∀ (s : State) (p : Nat) (e : Count),
    p < s.fe.ports.length ∧ (s.port p).holdoff = some e ∧ e ≤ s.now ∧ s.getN (Obj.PP_MATCH_STATE p) ≠ 0 ∧
    s.retunable p = true ∧ (s.port p).retuneReq = none →
    Gives (.retuneHoldoffExpiry p) s (fun t =>
      (t.port p).holdoff = none ∧ ((t.port p).retuneReq.map (·.cause)) = some (s.getN (Obj.PP_MATCH_STATE p) - 1) ∧
      t.obj = s.obj))

/-- Synthesisers: calibration asked for, pending, begun and ended; lock, unlock, power, aerial modes (R100, R101, R102, R103, R104, R106, R107, R111). -/
def Obligations.SynthesisersComplete : Prop :=
  (∀ (s : State) (r : Req) (n : Nat),
    Ready s r ∧ s.isOn 1 = true ∧ 1 ≤ n ∧ n < 8 ∧ s.procRunning Obj.SYNTH_CALIBRATE = false →
    Gives (.synthCalibrate r (.uint n)) s (fun t =>
      t.fe.calProc = (List.range 3).filter (fun c => bit n c) ∧ (∀ c ∈ List.range 3, c < s.fe.chains.length →
      bit n c = true → (t.chain c).calQueue = (s.chain c).calQueue ++ [0]) ∧ t.procState Obj.SYNTH_CALIBRATE = 1 ∧
      Replied t r coapChanged (.handle (Obj.SYNTH_CALIBRATE * 65536 + nextStart (s.startCount Obj.SYNTH_CALIBRATE))))) ∧
  (∀ (s : State) (c : Nat) (x : Int),
    c < 3 ∧ c < s.fe.chains.length ∧ s.getN (Obj.CC_CAL_DELTA_T c) * 10 ≤ (x - s.getI (Obj.CC_CAL_TEMP c)).natAbs ∧
    s.getB (Obj.CC_CAL_PENDING c) = false →
    Gives (.synthTempSample c x) s (fun t =>
      t.getB (Obj.CC_CAL_PENDING c) = true ∧ (t.chain c).pendingSince = some s.now)) ∧
  (∀ (s : State) (c : Nat) (us : Nat) (q : Nat) (rest : List Nat),
    c < 3 ∧ c < s.fe.chains.length ∧ (s.chain c).calQueue = q :: rest ∧ (s.chain c).group = none ∧
    (s.chain c).calRun = none ∧ s.cond (chainDom c) ≠ .reset ∧ s.pwr.off = false ∧ s.pwr.standby = false ∧
    s.retuneOn c = none ∧ q ≠ 1 →
    Gives (.synthCalStart c us) s (fun t =>
      t.getN (Obj.CC_SYNTH_STATE c) = 3 ∧ t.getB (Obj.CC_CAL_PENDING c) = false ∧
      ((t.chain c).calRun.map (·.cause)) = some q ∧ (t.chain c).calQueue = rest ∧
      (t.chain c).stateSince = (if s.isOn (chainDom c) then s.now else s.now + 40 * usC))) ∧
  (∀ (s : State) (c : Nat) (us : Nat),
    c < 3 ∧ c < s.fe.chains.length ∧ (s.chain c).calQueue = [] ∧ s.getB (Obj.CC_CAL_PENDING c) = true ∧ 250 ≤ us ∧
    s.windowFree c = true ∧ s.quietFor (fun g => g.chain == c) (fun a => a.chain == c) = true ∧ (s.chain c).group = none ∧
    (s.chain c).calRun = none ∧ s.cond (chainDom c) ≠ .reset ∧ s.pwr.off = false ∧ s.pwr.standby = false ∧
    s.retuneOn c = none →
    Gives (.synthCalStart c us) s (fun t =>
      t.getN (Obj.CC_SYNTH_STATE c) = 3 ∧ t.getB (Obj.CC_CAL_PENDING c) = false ∧
      ((t.chain c).calRun.map (·.cause)) = some 1 ∧ (t.chain c).calQueue = [] ∧ (t.chain c).window = some (s.now + us * usC))) ∧
  (∀ (s : State) (c : Nat) (x : Int) (run : CalRun),
    c < 3 ∧ c < s.fe.chains.length ∧ (s.chain c).calRun = some run ∧ (s.chain c).stateSince + 180 * usC ≤ s.now ∧
    s.isOn (chainDom c) = true →
    Gives (.synthCalEnd c x) s (fun t =>
      t.getN (Obj.CC_SYNTH_STATE c) = (if t.isOn (chainDom c) = true then 1 else 0) ∧ (t.chain c).calRun = none ∧
      t.getI (Obj.CC_CAL_TEMP c) = x ∧ t.get (Obj.CC_CAL_TIME c) = t64 s.time)) ∧
  (∀ (s : State) (c : Nat),
    c < 3 ∧ c < s.fe.chains.length ∧ s.isOn (chainDom c) = true ∧ s.getN (Obj.CC_SYNTH_STATE c) = 1 →
    Gives (.synthLock c) s (fun t =>
      t.getN (Obj.CC_SYNTH_STATE c) = 2 ∧ (t.chain c).lastLocked = some (s.getN (Obj.CC_SYNTH_FREQ c)) ∧ t.helm = s.helm)) ∧
  (∀ (s : State) (c : Nat),
    c < 3 ∧ c < s.fe.chains.length ∧ s.isOn (chainDom c) = true ∧ s.getN (Obj.CC_SYNTH_STATE c) = 4 ∧
    (s.chain c).stateSince + usC ≤ s.now →
    Gives (.synthLock c) s (fun t =>
      t.getN (Obj.CC_SYNTH_STATE c) = 2 ∧ (t.chain c).lastLocked = some (s.getN (Obj.CC_SYNTH_FREQ c)) ∧ t.helm = s.helm)) ∧
  (∀ (s : State) (u : LockLoss),
    u.c < 3 ∧ u.c < s.fe.chains.length ∧ s.getN (Obj.CC_SYNTH_STATE u.c) = 2 ∧ (s.chain u.c).drv = none ∧
    (s.chain u.c).lastUnlock = none ∧ s.mg.fifos.length = 8 →
    Gives (.synthUnlock u) s (fun t =>
      t.getN (Obj.CC_SYNTH_STATE u.c) = 4 ∧ (t.chain u.c).lastUnlock = some s.now ∧
      Raised t 0x3007 2 (be 1 u.c ++ be 1 0 ++ be 1 0 ++ be 4 (s.getN (Obj.CC_SYNTH_FREQ u.c))))) ∧
  (∀ (s : State) (c : Nat) (f : Nat),
    c < 3 ∧ c < s.fe.chains.length ∧ s.dueFreq c = some f ∧ s.cond (chainDom c) = .off ∧ chainDom c < s.pwr.dom.length ∧
    (s.chain c).group = none ∧ (s.chain c).calRun = none ∧ s.pwr.off = false ∧ s.pwr.standby = false →
    Gives (.chainPowerUp c) s (fun t =>
      t.cond (chainDom c) = .on ∧ t.getN (Obj.CC_SYNTH_FREQ c) = f ∧ t.getN (Obj.CC_SYNTH_STATE c) = 1 ∧
      (t.chain c).stateSince = s.now + 40 * usC)) ∧
  (∀ (s : State) (d : Nat),
    (d = 12 ∨ d = 13) ∧ s.pwr.dom.length = 16 ∧ s.pwr.modeInForce = 1 ∧ s.isOn d = true ∧
    (s.fe.chains.all (fun c => c.group.isNone && c.calRun.isNone && decide (c.lastGroupEnd + 50 * usC ≤ s.now))) = true ∧
    s.fe.chains.length = 3 ∧ s.fe.ports.length = 4 ∧ (s.fe.ports.all (fun p => p.retuneRun.isNone)) = true ∧
    s.helm.plans = [] ∧ s.helm.acks = [] →
    Gives (.txDomainOff d) s (fun t =>
      t.cond d = .off ∧ (if d = 12 then t.getN (Obj.CC_SYNTH_STATE 0) = 0 ∧
      t.getN (Obj.CC_SYNTH_STATE 1) = 0 else t.getN (Obj.CC_SYNTH_STATE 2) = 0))) ∧
  (∀ (s : State) (b : Nat),
    b < 2 ∧ s.fe.modeWrite.getD b false = true ∧ s.fe.modeWrite.length = 2 ∧
    (s.onAir.all (fun g => bandOf g.port != b)) = true →
    Gives (.aerialModeApply b) s (fun t =>
      t.getN (if b = 0 then Obj.LOW_AERIAL_IN_FORCE else Obj.HIGH_AERIAL_IN_FORCE) = s.getN (if b = 0 then Obj.LOW_AERIAL_MODE else Obj.HIGH_AERIAL_MODE) ∧
      t.fe.modeWrite.getD b false = false))

/-- A reception from the claim round to the report, and its two failures (R127, R130, R132, R133, R135, R137). -/
def Obligations.ReceptionsComplete : Prop :=
  (∀ (s : State) (x : Sense) (c : Cand),
    s.rx.recs = [] ∧ s.rx.starved = [] ∧ s.rx.lodestar = false ∧ s.cand x = some c ∧
    (s.port (winPort x.win)).retuneRun = none →
    Gives (.claimRound [x] []) s (fun t =>
      (t.rx.recs.map (fun r => (r.demod, r.win, r.k, r.mode, r.q))) = [(0, c.win, c.k, c.mode, c.q)] ∧ t.obj = s.obj)) ∧
  (∀ (s : State) (d : Nat) (rssi : Int) (off : Int) (r : Recep),
    s.rx.recs = [r] ∧ r.demod = d ∧ r.sfd = none ∧ r.offsetOk off = true →
    Gives (.sfdFound d rssi off none) s (fun t =>
      (t.rx.recs.map (·.sfd)) = [some (s.time - s.getN (Obj.PP_RX_DELAY (winPort r.win)) * nsT, s.now, s.rssiAt (winPort r.win) (s.getN (Obj.PP_GAIN_STEP_NOW (winPort r.win))) rssi, off, s.getN (Obj.PP_GAIN_STEP_NOW (winPort r.win)))] ∧
      t.obj = s.obj)) ∧
  (∀ (s : State) (d : Nat) (r : Recep),
    s.rx.recs = [r] ∧ r.demod = d ∧ r.sfd = none ∧
    r.claimedAt + sfdTimeoutNs r.mode (s.getN (Obj.WW_PREAMBLE_MAX_NOW r.win)) ≤ s.now →
    Gives (.sfdTimeout d) s (fun t =>
      t.rx.recs = [] ∧ Bumped s t (Obj.PP_FALSE_PREAMBLE (winPort r.win)))) ∧
  (∀ (s : State) (d : Nat) (len : Nat) (mcs : Nat) (ms : Bool) (r : Recep),
    s.rx.recs = [r] ∧ r.demod = d ∧ r.sfd.isSome = true →
    Gives (.phrError d true ms len mcs) s (fun t =>
      t.rx.recs = [] ∧ Bumped s t (Obj.PP_PHR_ERROR (winPort r.win)) ∧ t.rx.toHelm = s.rx.toHelm)) ∧
  (∀ (s : State) (d : Nat) (f : RxFrame) (r : Recep),
    s.rx.recs = [r] ∧ r.demod = d ∧ r.sfd.isSome = true ∧ f.crcOk = true ∧ s.rx.held = [] ∧ s.rx.passed = [] →
    Gives (.rxFrameEnd d f) s (fun t =>
      t.rx.recs = [] ∧ Bumped s t (Obj.PP_RX_FRAMES (winPort r.win)) ∧ Bumped s t Obj.RX_REPORTS ∧
      (t.rx.toHelm.getLast?.map (fun x => (x.psdu, x.port, x.win, x.chan, x.mode, x.rxSeq))) = some (f.psdu, winPort r.win, r.win, r.k, r.mode, s.rx.rxSeq))) ∧
  (∀ (s : State) (i : Nat) (h : Held),
    s.rx.held[i]? = some h ∧ h.since + 50 * usC ≤ s.now →
    Gives (.diversityHoldEnd i) s (fun t =>
      t.rx.toHelm = s.rx.toHelm ++ [h.rep] ∧ h ∉ t.rx.held ∧ t.obj = s.obj))

/-- Gated reception, the interval counts, and the change of band windows (R134, R144, R145, R147, R149). -/
def Obligations.GatedReceptionCompletes : Prop :=
  (∀ (s : State) (p : Nat),
    p < 4 ∧ s.rx.gates.length = 4 ∧ s.pwr.dom.length = 16 ∧ s.pwr.modeInForce = 1 ∧ s.rxWanted p = true ∧
    s.cond (rxDom p) = .off ∧ s.pwr.off = false ∧ s.pwr.standby = false ∧
    (∃ c ∈ s.gateCells p, c.start ≤ s.time + gateLead ∧ s.time < c.guard) →
    Gives (.rxGateOpen p) s (fun t =>
      t.cond (rxDom p) = .on ∧
      nth t.rx.gates p = { open' := true, listening := false, fired := false, energy := false, since := 0, lastUse := s.now } ∧
      Bumped s t (Obj.PP_GATE_OPENS p))) ∧
  (∀ (s : State) (p : Nat),
    p < 4 ∧ s.rx.gates.length = 4 ∧ s.isOn (rxDom p) = true ∧ (nth s.rx.gates p).open' = true ∧
    (nth s.rx.gates p).listening = false ∧ (∃ c ∈ s.gateCells p, c.opens ≤ s.time ∧ s.time ≤ c.closes) →
    Gives (.listenWindowOpen p) s (fun t =>
      (nth t.rx.gates p).listening = true ∧ (nth t.rx.gates p).fired = false ∧ (nth t.rx.gates p).energy = false ∧
      (nth t.rx.gates p).open' = true ∧ (nth t.rx.gates p).lastUse = (nth s.rx.gates p).lastUse ∧ t.obj = s.obj ∧
      t.rx.recs = s.rx.recs)) ∧
  (∀ (s : State) (p : Nat) (w : Nat) (e : Int),
    p < 4 ∧ s.rx.gates.length = 4 ∧ s.pwr.dom.length = 16 ∧ s.pwr.modeInForce = 1 ∧ (nth s.rx.gates p).open' = true ∧
    (nth s.rx.gates p).lastUse + 2 * usC ≤ s.now ∧ (s.rx.recs.all (fun r => winPort r.win != p)) = true ∧
    (∀ c ∈ s.gateCells p, s.time + gateLead + 300 * usT ≤ c.start ∨ c.guard + 2 * usT ≤ s.time ∧
    c.start ≤ s.time + gateLead) ∧ s.bandKept (bandOf p) s.time (s.time + gateLead + 300 * usT) = false →
    Gives (.rxGateClose p w e) s (fun t =>
      t.cond (rxDom p) = .off ∧
      nth t.rx.gates p = { open' := false, listening := false, fired := false, energy := false, since := (nth s.rx.gates p).since, lastUse := (nth s.rx.gates p).lastUse })) ∧
  (∀ (s : State),
    s.rx.peakBusy < 256 →
    Gives .starvationIntervalEnd s (fun t =>
      t.getN Obj.DEMOD_BUSY_PEAK = s.rx.peakBusy ∧ t.rx.peakBusy = s.rx.recs.length ∧ t.rx.starvedCount = [0, 0] ∧
      t.rx.preemptCount = [0, 0])) ∧
  (∀ (s : State) (w : Nat),
    w < 6 ∧ s.rx.falseCount.length = 6 ∧ s.mg.fifos.length = 8 ∧ s.getN (Obj.WW_FALSE_LIMIT_NOW w) ≠ 0 ∧
    s.getN (Obj.WW_FALSE_LIMIT_NOW w) < s.rx.falseCount.getD w 0 ∧ s.rx.falseEventAt.getD w none = none →
    Gives (.falsePreambleCheck w) s (fun t =>
      t.rx.falseCount.getD w 0 = 0 ∧
      Raised t 0x3012 1 (be 1 w ++ be 4 (s.rx.falseCount.getD w 0) ++ be 1 (s.getN (Obj.WW_HUNT_Q_NOW w))))) ∧
  (∀ (s : State) (r : Req),
    CanStart s r Obj.RX_WINDOW_APPLY 1 ∧ s.windowsFail s.stagedSet = none →
    Gives (.rxWindowApply r (.arr3 0 0 0)) s (fun t =>
      (t.rx.apply.map (fun a => (a.at', a.aborted, a.rearm))) = some (0, false, none) ∧
      t.procState Obj.RX_WINDOW_APPLY = 1 ∧
      Replied t r coapChanged (.handle (Obj.RX_WINDOW_APPLY * 65536 + nextStart (s.startCount Obj.RX_WINDOW_APPLY))))) ∧
  (∀ (s : State) (a : WinApply),
    s.rx.apply = some a ∧ a.rearm = none ∧ a.at' ≤ s.time ∧ a.staged = s.stagedSet →
    Gives .windowApplyBoundary s (fun t =>
      (t.rx.apply.bind (·.rearm)).isSome = true ∧
      (∀ w ∈ List.range 6, t.get (Obj.WW_ENABLE_NOW w) = s.get (Obj.WW_ENABLE w) ∧
      t.get (Obj.WW_FIRST_NOW w) = s.get (Obj.WW_FIRST w)))) ∧
  (∀ (s : State) (a : WinApply) (l : List Nat) (n : Nat),
    s.rx.rearming = [] ∧ s.rx.apply = some a ∧ a.rearm = some (l, n) ∧ a.handle ≠ 0 ∧
    s.procRunning Obj.RX_WINDOW_APPLY = true →
    Gives .windowRearmDone s (fun t =>
      t.rx.apply = none ∧ (∀ w ∈ l, s.rearmHolds.contains w = false → t.rx.heldWin.getD w false = false) ∧
      t.rx.heldPort = s.rx.heldPort ∧ t.procState Obj.RX_WINDOW_APPLY = 2))

/-- Slots, the freeze, quiet slots, and the end of a cell (R151, R157, R161, R162, R166, R260). -/
def Obligations.SlotsComplete : Prop :=
  (∀ (s : State) (pan : Nat) (eb : Nat),
    pan < 4 ∧ pan < s.helm.pans.length ∧ s.isOn 3 = true ∧ (nth s.helm.pans pan).stopping = false ∧
    s.getB (Obj.PN_ENABLE pan) = true ∧ s.epoch pan ≤ (s.time : Int) →
    Gives (.slotBoundary pan eb) s (fun t =>
      (nth t.helm.pans pan).running = true ∧ t.getN (Obj.PN_ASN pan) = s.asnAt pan s.time ∧
      t.getN Obj.UPCOMING_DEPTH = t.helm.upcoming.length)) ∧
  (∀ (s : State) (pan : Nat) (eb : Nat),
    pan < 4 ∧ pan < s.helm.pans.length ∧ s.isOn 3 = true ∧ (nth s.helm.pans pan).stopping = true →
    Gives (.slotBoundary pan eb) s (fun t =>
      (nth t.helm.pans pan).running = false ∧ (nth t.helm.pans pan).stopping = false)) ∧
  (∀ (s : State) (b : Nat) (p : Nat) (c : Nat) (f : Nat) (bw : Nat) (ti : Tick) (d : Due),
    b < 2 ∧ s.isOn 3 = true ∧ s.time ≤ ti ∧ ti ≤ s.time + 150 * usT ∧ s.helm.due = [d] ∧ d.kind = 2 ∧ d.start = ti ∧
    d.cell ≠ noCell ∧ s.getN (Obj.PN_BAND d.pan) = b ∧ s.panServed d.pan = true ∧ s.getN Obj.CS_STATE ≠ 1 ∧
    s.getN Obj.CS_STATE ≠ 4 ∧
    ({ s with helm := { s.helm with due := [] } }.placeDue [] d ti []).toOption = some (p, c, f, bw) →
    Gives (.planFreeze b ti []) s (fun t =>
      t.helm.due = [] ∧
      (t.helm.plans.drop s.helm.plans.length).map (fun g => (g.chain, g.port, g.start, g.frames.map (fun x => (x.kind, x.freq, x.air)))) = [(c, p, ti, [(2, f, d.air)])])) ∧
  (∀ (s : State) (b : Nat) (r : Nat) (ti : Tick) (d : Due),
    b < 2 ∧ s.isOn 3 = true ∧ s.time ≤ ti ∧ ti ≤ s.time + 150 * usT ∧ s.helm.due = [d] ∧ d.kind = 2 ∧ d.start = ti ∧
    d.cell ≠ noCell ∧ s.getN (Obj.PN_BAND d.pan) = b ∧ s.panServed d.pan = true ∧ s.getN Obj.CS_STATE ≠ 1 ∧
    s.getN Obj.CS_STATE ≠ 4 ∧ r ≠ 10 ∧
    errorOf ({ s with helm := { s.helm with due := [] } }.placeDue [] d ti []) = some (r, none) →
    Gives (.planFreeze b ti []) s (fun t =>
      t.helm.due = [] ∧ t.helm.plans = s.helm.plans ∧ Bumped s t Obj.BEACONS_SKIPPED)) ∧
  (∀ (s : State) (c : Nat) (p : Nat) (t0 : Count),
    c < 3 ∧ c < s.helm.lastQuiet.length ∧ (s.chain c).pendingSince = some t0 ∧ s.shortestPan (chainBand c) = some p ∧
    t0 + 2 * secC ≤ s.now ∧ s.helm.lastQuiet.getD c none = none ∧
    (s.helm.quiet.all (fun q => !(q.kind == 0 && q.chain == c))) = true →
    Gives (.quietSlotInsert 0 c) s (fun t =>
      t.helm.quiet.map (fun q => (q.kind, q.chain, q.pan)) = s.helm.quiet.map (fun q => (q.kind, q.chain, q.pan)) ++ [(0, c, p)] ∧
      t.helm.lastQuiet.getD c none = some s.now ∧ Bumped s t Obj.QUIET_SLOTS)) ∧
  (∀ (s : State) (p : Nat) (c : Nat) (pan : Nat) (q : RetuneReq),
    p < 4 ∧
    ((((s.chainsOf p).find? s.lockedFree).orElse (fun _ => (s.chainsOf p).find? s.chainFree)).orElse (fun _ => (s.chainsOf p).head?)) = some c ∧
    c < s.helm.lastQuiet.length ∧ (s.port p).retuneReq = some q ∧ s.shortestPan (chainBand c) = some pan ∧
    q.since + 2 * secC ≤ s.now ∧ s.helm.lastQuiet.getD c none = none ∧
    (s.helm.quiet.all (fun q => !(q.kind == 1 && q.port == p))) = true →
    Gives (.quietSlotInsert 1 p) s (fun t =>
      t.helm.quiet.map (fun q => (q.kind, q.chain, q.port, q.pan)) = s.helm.quiet.map (fun q => (q.kind, q.chain, q.port, q.pan)) ++ [(1, c, p, pan)] ∧
      Bumped s t Obj.QUIET_SLOTS)) ∧
  (∀ (s : State) (pan : Nat) (asn : Nat),
    s.cellStart pan (asn + 1) ≤ s.time ∧ s.shadowed = false ∧ s.pilot.frames = [] →
    Gives (.cellEnd pan asn) s (fun t =>
      t.helm.due = s.helm.due.filter (fun d => !(d.pan == pan && d.cell != noCell && !d.shared && decide (d.asn ≤ asn))) ∧
      t.helm.oldCells = [] ∧ t.helm.cells = s.helm.cells ∧ t.obj = s.obj)) ∧
  (∀ (s : State) (pan : Nat) (asn : Nat) (f : Frame) (i : Inst),
    s.cellStart pan (asn + 1) ≤ s.time ∧ s.shadowed = false ∧ s.pilot.frames = [f] ∧ f.insts = [i] ∧ i.pan = pan ∧
    i.asn ≤ asn ∧ s.fe.chains.filterMap (·.group) = [] ∧ s.helm.waits = [] ∧ (nth s.helm.pans pan).running = true ∧
    s.time < f.promise →
    Gives (.cellEnd pan asn) s (fun t =>
      t.pilot.frames = [{ f with made := f.made + 1, reason := 15, insts := [] }] ∧ t.pilot.reports = s.pilot.reports)) ∧
  (∀ (s : State) (b : Nat),
    b < 16 ∧ b < s.helm.duty.length ∧ s.getB (Obj.SB_ENABLE b) = true ∧ s.isOn 3 = true ∧
    (nth s.helm.duty b).bin < s.binAt b s.now →
    Gives (.dutyBinBoundary b) s (fun t =>
      (nth t.helm.duty b).limit = s.getN (Obj.SB_LIMIT b) * s.getN (Obj.SB_WINDOW b) ∧
      (nth t.helm.duty b).charges = (nth s.helm.duty b).charges.filter (fun e => decide ((s.binAt b s.now : Int) ≤ e.1 + 64)) ∧
      t.helm.away = [] ∧ t.helm.mirror = t.helm.duty ∧ t.helm.mirrorAt = some s.now ∧ t.obj = s.obj))

/-- A frame heard: accepted or filtered; its acknowledgement composed; a wait for an acknowledgement that closes (R169, R175, R176, R177, R178, R183). -/
def Obligations.FramesHeardComplete : Prop :=
  (∀ (s : State) (f : MacFrame) (e : List Nat) (r : Report) (rest : List Report) (pan : Nat) (n : Node) (cell : Nat × Cell × Nat × Int),
    s.rx.toHelm = r :: rest ∧ r.crcOk = true ∧ s.heardPan (bandOf r.port) f = some pan ∧ f.version = 2 ∧ f.ftype = 1 ∧
    f.secured = true ∧ f.level = s.getN (Obj.PN_SEC_LEVEL pan) ∧ f.keyIx = none ∧ f.ccmOk = true ∧
    s.addrOk pan f.dst = true ∧ s.nodeBySrc f.src = some n ∧ n.lastSeq = none ∧
    s.rxCell r pan (some n) (r.sfdTime - s.preNs pan r.mode * nsT) = some cell ∧
    ({ s with rx := { s.rx with toHelm := rest } }.useLink n false).2 = true ∧ s.getB Obj.LODESTAR_ACTIVE = false →
    Gives (.frameDecision f e) s (fun t =>
      t.rx.toHelm = rest ∧ Bumped s t Obj.RX_ACCEPTED)) ∧
  (∀ (s : State) (f : MacFrame) (e : List Nat) (r : Report) (rest : List Report),
    s.rx.toHelm = r :: rest ∧ (r.crcOk = false ∨ s.heardPan (bandOf r.port) f = none) →
    Gives (.frameDecision f e) s (fun t =>
      t.rx.toHelm = rest ∧ Bumped s t Obj.ADDR_FILTERED)) ∧
  (∀ (s : State) (i : Nat) (a : AckPlan),
    s.helm.acks[i]? = some a ∧ a.start ≤ s.time + 40 * usT ∧ s.node? a.node = none ∧ (s.chain a.chain).group = none ∧
    s.helm.plans = [] →
    Gives (.ackCompose i) s (fun t =>
      t.helm.acks = s.helm.acks.eraseIdx i ∧
      t.helm.plans.map (fun g => (g.chain, g.port, g.start, g.frames.map (fun x => (x.kind, x.ref, x.air)))) = [(a.chain, a.port, a.start, [(1, a.who, a.air)])])) ∧
  (∀ (s : State) (i : Nat) (w : AckWait) (n : Node),
    s.helm.waits[i]? = some w ∧ w.latestSfd ≤ s.time ∧ w.shared = false ∧ s.shadowed = false ∧ s.node? w.node = some n ∧
    n.state = .active ∧ n.misses + 1 < s.getN Obj.DRIFT_MISSES ∧ n.misses < 64 ∧ s.waitBusy w = false →
    Gives (.ackWaitClose i) s (fun t =>
      t.helm.waits = s.helm.waits.eraseIdx i ∧
      (t.node? w.node).map (fun x => (x.misses, x.state)) = some (n.misses + 1, .active)))

/-- PAN service: enabled and stopped by a write (R155). -/
def Obligations.PanServiceCompletes : Prop :=
  (∀ (s : State) (r : Req) (p : Nat),
    Takes s r (0x4000 + p) 1 (.bool true) (.bool true) ∧ p < 4 ∧ p < s.helm.pans.length ∧
    s.getB (Obj.PN_ENABLE p) = false ∧ s.panRefusal p = none →
    Gives (.panEnable r p (.bool true)) s (fun t =>
      t.getB (Obj.PN_ENABLE p) = true ∧ (nth t.helm.pans p).running = decide (s.epoch p ≤ (s.time : Int)) ∧
      Replied t r coapChanged .none)) ∧
  (∀ (s : State) (r : Req) (p : Nat),
    Takes s r (0x4000 + p) 1 (.bool false) (.bool false) ∧ p < 4 ∧ p < s.helm.pans.length →
    Gives (.panStop r p (.bool false)) s (fun t =>
      t.getB (Obj.PN_ENABLE p) = false ∧ (nth t.helm.pans p).stopping = (nth s.helm.pans p).running ∧
      Replied t r coapChanged .none))

/-- The schedule: a cell staged, the staged set discarded, a commit and its switches (R156, R158, R159, R194, R195). -/
def Obligations.ScheduleCompletes : Prop :=
  (∀ (s : State) (r : Req) (w : Wire) (v : Val),
    Takes s r 0x4200 2 w v ∧ cellEncodingOk v.toOctets = true ∧ s.stagedCount < stagedMax →
    Gives (.cellEntryStage r w) s (fun t =>
      t.helm.staged = cellInsert (s.session 0).cellNumber (Cell.ofOctets v.toOctets) s.helm.staged ∧
      t.helm.cells = s.helm.cells ∧ Replied t r coapChanged .none)) ∧
  (∀ (s : State) (r : Req) (w : Wire) (v : Val),
    Takes s r 0x4200 7 w v ∧ s.helm.sfs.length = 64 →
    Gives (.schedDiscard r w) s (fun t =>
      t.helm.staged = [] ∧ t.stagedCount = 0 ∧ Replied t r coapChanged .none)) ∧
  (∀ (s : State) (r : Req) (e : Nat) (at' : Tick),
    Ready s r ∧ s.isOn 1 = true ∧ s.shadowed = false ∧ s.procRunning Obj.SCHEDULE_COMMIT = false ∧ e < 2 ^ 32 ∧
    at' < 2 ^ 48 * secT ∧ s.farAhead at' = false ∧ s.helm.commit = none ∧
    s.scheduleFail e s.stagedSfs s.mergedCells = none ∧ sfChanges s.helm.sfs s.stagedSfs s.helm.cells s.mergedCells ≠ [] →
    Gives (.scheduleCommit r (.bytes (be 4 e ++ t64Octets at'))) s (fun t =>
      t.helm.commit.map (fun c => (c.epoch, c.applyAt, c.switched, c.sfs, c.cells)) = some (e, at', false, s.stagedSfs, s.mergedCells) ∧
      t.procState Obj.SCHEDULE_COMMIT = 1 ∧ t.helm.cells = s.helm.cells ∧
      Replied t r coapChanged (.handle (Obj.SCHEDULE_COMMIT * 65536 + nextStart (s.startCount Obj.SCHEDULE_COMMIT))))) ∧
  (∀ (s : State) (f : Nat) (c : Commit),
    f < 64 ∧ f < s.helm.sfs.length ∧ s.helm.commit = some c ∧ c.left = [f] ∧ s.switchAt c f ≤ s.time →
    Gives (.slotframeSwitch f) s (fun t =>
      t.helm.commit = none ∧ nth t.helm.sfs f = nth c.sfs f ∧ t.getN Obj.SCHED_EPOCH = c.epoch ∧
      t.getN (Obj.SS_CELLS_IN_FORCE f) = (c.cells.filter (fun e => e.2.sf == f)).length))

/-- The node table: looking up, inserting, adding, removing (R196, R202, R211, R234, R235). -/
def Obligations.TableChangesComplete : Prop :=
  (∀ (s : State) (r : Req) (w : Wire) (v : Val) (n : Node),
    Takes s r 0x5030 1 w v ∧ (s.session? 0).isSome = true ∧ s.nodeByEui (num v.toOctets) = some n →
    Gives (.nodeFindEui r w) s (fun t =>
      (t.session 0).nodeSelect = n.idx ∧ Replied t r coapChanged .none ∧ t.alm = s.alm)) ∧
  (∀ (s : State) (q : Insertion) (rest : List Insertion) (i : Nat),
    s.alm.queue = q :: rest ∧ s.alm.rehash.phase < 2 ∧ s.alm.loaded = true ∧ s.isOn 4 = true ∧ s.nodeByEui q.eui = none ∧
    s.newIndex = some i ∧ (s.alm.table.insert s.hashes q.eui).2 = true ∧ s.shadowed = false ∧ s.mg.fifos.length = 8 →
    Gives .tableInsert s (fun t =>
      t.alm.queue = rest ∧
      t.alm.nodes.map (fun n => (n.idx, n.eui, n.state)) = s.alm.nodes.map (fun n => (n.idx, n.eui, n.state)) ++ [(i, q.eui, .joining)] ∧
      Bumped s t Obj.TABLE_INSERTS ∧ Raised t 0x6001 0 (be 4 i ++ be 8 q.eui ++ be 1 q.pan ++ be 1 q.cause))) ∧
  (∀ (s : State) (r : Req) (eui : Nat) (pan : Nat) (f : Nat),
    CanStart s r Obj.NODE_ADD 4 ∧ eui < 2 ^ 64 ∧ pan < 4 ∧ f < 2 ∧ s.nodeByEui eui = none ∧ s.alm.queue.length < 256 →
    Gives (.nodeAdd r (.bytes (be 8 eui ++ be 1 pan ++ be 1 f ++ be 2 0))) s (fun t =>
      t.alm.queue.map (fun q => (q.eui, q.pan, q.pinned, q.cause)) = s.alm.queue.map (fun q => (q.eui, q.pan, q.pinned, q.cause)) ++ [(eui, pan, f == 1, 1)] ∧
      t.alm.nodes = s.alm.nodes ∧ Starts s t r Obj.NODE_ADD)) ∧
  (∀ (s : State) (r : Req) (i : Nat) (n : Node),
    CanStart s r Obj.NODE_REMOVE 4 ∧ i < 262143 ∧ s.node? i = some n →
    Gives (.nodeRemove r (.uint i)) s (fun t =>
      t.alm.removing = s.alm.removing ++ [i] ∧ (t.node? i).map (·.closed) = some true ∧ Starts s t r Obj.NODE_REMOVE)) ∧
  (∀ (s : State) (i : Nat) (n : Node),
    s.node? i = some n ∧ s.alm.removing.contains i = true ∧ s.nodeBusy i = false ∧ s.shadowed = false ∧
    s.mg.fifos.length = 8 →
    Gives (.nodeRemoveFinish i) s (fun t =>
      t.alm.nodes = s.alm.nodes.filter (fun x => x.idx != i) ∧ t.alm.removing = s.alm.removing.filter (fun x => x != i) ∧
      Raised t 0x6002 0 (be 4 i ++ be 8 n.eui ++ be 1 1 ++ be 1 (nodeCode n.state))))

/-- The rehash of the node table: its start, build, hold, migration and end (R204, R205, R206, R207). -/
def Obligations.RehashCompletes : Prop :=
  (∀ (s : State) (r : Req),
    CanStart s r Obj.NODE_REHASH 4 ∧ s.alm.rehash.phase = 0 ∧ s.bn.badBlocks < 3 →
    Gives (.nodeRehash r (.uint 0)) s (fun t =>
      (t.alm.rehash.phase, t.alm.rehash.tried, t.alm.rehash.restarts, t.alm.rehash.byProc) = (1, 1, 0, true) ∧
      t.getN Obj.REHASH_PHASE = 1 ∧ t.alm.table = s.alm.table ∧ Starts s t r Obj.NODE_REHASH)) ∧
  (∀ (s : State) (l : List ((Nat × Nat) × Nat)),
    s.alm.rehash.phase = 1 ∧ s.alm.rehash.delta < 16384 ∧
    layoutOf s.alm.rehash.newSeeds (s.alm.nodes.map (·.eui)) = some l →
    Gives (.rehashBuildDone false) s (fun t =>
      t.alm = { s.alm with rehash := { s.alm.rehash with phase := 2, layout := l, held := s.now } } ∧
      t.getN Obj.REHASH_PHASE = 2)) ∧
  (∀ (s : State),
    s.alm.rehash.phase = 2 →
    Gives .migrateStart s (fun t =>
      t.alm = { s.alm with rehash := { s.alm.rehash with phase := 3, oldSeeds := s.tableSeeds, pointer := 0 } } ∧
      t.get Obj.TABLE_SEEDS = .octets (be 8 s.alm.rehash.newSeeds.1 ++ be 8 s.alm.rehash.newSeeds.2) ∧
      t.getN Obj.REHASH_PHASE = 3 ∧ t.getN Obj.MIGRATE_POINTER = 0)) ∧
  (∀ (s : State),
    s.alm.rehash.phase = 3 ∧ s.alm.rehash.pointer < 65536 →
    Gives .migrateBucket s (fun t =>
      t.alm.table.slots = s.alm.table.slots.filter (fun e => e.1.1 != s.alm.rehash.pointer) ++ s.alm.rehash.layout.filter (fun e => e.1.1 == s.alm.rehash.pointer) ∧
      t.alm.rehash.pointer = s.alm.rehash.pointer + 1 ∧ t.getN Obj.MIGRATE_POINTER = s.alm.rehash.pointer + 1)) ∧
  (∀ (s : State),
    s.alm.rehash.phase = 3 ∧ 65536 ≤ s.alm.rehash.pointer ∧ s.alm.heldNodes = [] ∧ s.mg.fifos.length = 8 →
    Gives .migrateEnd s (fun t =>
      t.alm.table.stash = [] ∧ t.alm.rehash.phase = 0 ∧ t.getN Obj.REHASH_PHASE = 0 ∧ t.alm.mirrorTable = t.alm.table ∧
      t.alm.mirror = s.alm.nodes ∧
      Raised t 0x6006 0 (be 2 0 ++ be 1 s.alm.rehash.tried ++ be 1 s.alm.rehash.restarts ++ be 4 ((s.now - s.alm.rehash.held) / usC) ++ be 4 (s.procHandle Obj.NODE_REHASH))))

/-- Ageing, joining and short addresses (R208, R209, R210, R212, R213, R214, R215). -/
def Obligations.AgeingAndJoinsComplete : Prop :=
  (∀ (s : State) (n : Node),
    s.shadowed = false ∧ s.alm.loaded = true ∧ s.isOn 4 = true ∧ s.alm.nodes = [n] ∧ n.pinned = true ∧ n.state = .active ∧
    s.getN Obj.NODE_STALE ≤ s.ageOf n.lastHeard ∧ s.mg.fifos.length = 8 →
    Gives .sweeperPass s (fun t =>
      t.alm.nodes = [{ n with state := .stale }] ∧ Raised t 0x6003 0 (be 4 1 ++ be 4 0 ++ be 4 0 ++ be 4 0xFFFFFFFF))) ∧
  (∀ (s : State) (n : Node),
    s.shadowed = false ∧ s.alm.loaded = true ∧ s.isOn 4 = true ∧ s.alm.nodes = [n] ∧ n.pinned = false ∧
    n.state ≠ .joining ∧ s.getN Obj.NODE_EVICT ≠ 0 ∧ s.getN Obj.NODE_EVICT ≤ s.ageOf n.lastHeard ∧ s.pilot.frames = [] ∧
    s.mg.fifos.length = 8 →
    Gives .sweeperPass s (fun t =>
      t.alm.nodes = [] ∧ Bumped s t Obj.NODE_EVICTIONS ∧
      Raised t 0x6003 0 (be 4 0 ++ be 4 1 ++ be 4 0 ++ be 4 (min 0xFFFFFFFF n.idx)))) ∧
  (∀ (s : State) (i : Nat) (n : Node),
    s.node? i = some n ∧ n.state = .joining ∧ n.auto = true ∧ n.created + s.getN Obj.JOIN_TIMEOUT * secC ≤ s.now ∧
    s.shadowed = false ∧ s.mg.fifos.length = 8 →
    Gives (.joinTimeout i) s (fun t =>
      t.alm.nodes = s.alm.nodes.filter (fun x => x.idx != i) ∧ Raised t 0x6002 0 (be 4 i ++ be 8 n.eui ++ be 1 2 ++ be 1 0))) ∧
  (∀ (s : State) (eui : Nat) (pan : Nat) (psdu : Nat) (ok : Bool),
    s.shadowed = false ∧ s.getB Obj.LODESTAR_ACTIVE = false ∧ s.isOn 4 = true ∧ s.nodeByEui eui = none ∧
    bit (s.getN Obj.JOIN_ENABLE) pan = true ∧ pan < 4 ∧ s.joiningCount < s.getN Obj.JOIN_LIMIT ∧ s.alm.queue = [] →
    Gives (.joinVerify eui pan true ok psdu) s (fun t =>
      t.alm.queue = [{ eui := eui, pan := pan, pinned := false, cause := 2, sess := 0, ident := none, digest := [] }] ∧
      t.alm.nodes = s.alm.nodes ∧ t.alm.table = s.alm.table)) ∧
  (∀ (s : State) (eui : Nat) (pan : Nat) (psdu : Nat) (relayed : Bool) (n : Node) (k : KeyRec),
    s.shadowed = false ∧ s.getB Obj.LODESTAR_ACTIVE = false ∧ s.isOn 4 = true ∧ s.nodeByEui eui = some n ∧
    n.state = .joining ∧ s.inForce kJoin eui = some k ∧ (s.reread.useFor k false).2 = true ∧
    ((s.reread.useFor k false).1.useFor k true).2 = true →
    Gives (.joinVerify eui pan relayed true psdu) s (fun t =>
      (t.node? n.idx).map (fun x => (x.state, x.keyId, x.keyGen, x.response.map (·.2))) = some (NodeState.active, n.eui, k.gen, some psdu))) ∧
  (∀ (s : State) (i : Nat) (a : Nat) (t0 : Count) (n : Node),
    s.node? i = some n ∧ n.short = some a ∧ n.shortClear = some t0 ∧ n.neighbour = false ∧
    t0 + s.getN Obj.SHORT_HOLD * secC ≤ s.now →
    Gives (.shortAddrRelease i) s (fun t =>
      (t.node? i).map (fun x => (x.short, x.shortClear)) = some (none, none) ∧ t.alm.shorts = (a, s.now) :: s.alm.shorts))

/-- Neighbour tables, RPL and reassembly (R217, R218, R219, R220, R223, R224, R228). -/
def Obligations.NeighboursAndRoutesComplete : Prop :=
  (∀ (s : State) (b : Nat) (e : NbEntry) (rest : List NbEntry),
    b < 2 ∧ s.isOn 4 = true ∧ (s.pipe b).learn = e :: rest ∧ ((s.pipe b).nb.any (fun x => x.eui == e.eui)) = true →
    Gives (.learnApply b) s (fun t =>
      t.pipe b = { s.pipe b with learn := rest, nb := (s.pipe b).nb.map (fun x => if x.eui = e.eui then { x with second := e.second, lqi := e.lqi, stamp := e.stamp } else x) } ∧
      t.alm.nodes = s.alm.nodes)) ∧
  (∀ (s : State) (b : Nat) (e : NbEntry) (rest : List NbEntry),
    b < 2 ∧ s.isOn 4 = true ∧ (s.pipe b).learn = e :: rest ∧ ((s.pipe b).nb.any (fun x => x.eui == e.eui)) = false ∧
    ((s.pipe b).nbTable.place (nbHashes (s.pipe b)) e.eui).2 = true →
    Gives (.learnApply b) s (fun t =>
      (t.pipe b).learn = rest ∧
      (t.pipe b).nb = (s.pipe b).nb ++ [{ e with idx := (s.nodeByEui e.eui).elim e.idx (·.idx) }] ∧
      t.alm.nodes = s.alm.nodes)) ∧
  (∀ (s : State) (b : Nat),
    b < 2 ∧ s.isOn 4 = true →
    Gives (.neighbourSweep b) s (fun t =>
      (t.pipe b).nb = (s.pipe b).nb.filter (fun e => decide (s.ageOf e.stamp ≤ s.getN Obj.LEARN_AGE)) ∧
      (t.pipe b).learn = (s.pipe b).learn)) ∧
  (∀ (s : State) (d : Dao) (psdu : Nat) (n : Node),
    s.node? d.node = some n ∧ s.shadowed = false ∧ s.getB Obj.LODESTAR_ACTIVE = false ∧ s.isOn 4 = true ∧
    n.state ≠ .joining ∧ n.state ≠ .lost ∧ n.daoSeq = none ∧ d.kflag = false →
    Gives (.daoReceived d psdu) s (fun t =>
      (t.node? d.node).map (fun x => (x.daoSeq, x.parents)) = some (some d.seq, if d.lifetime = 0 then [] else s.daoParents d))) ∧
  (∀ (s : State) (p : Nat),
    p < s.alm.rpl.length ∧ (nth s.alm.rpl p).started = true →
    Gives (.disReceived p) s (fun t =>
      nth t.alm.rpl p = (if (nth s.alm.rpl p).interval = s.getN (Obj.RP_DIO_IMIN p) then nth s.alm.rpl p else { interval := s.getN (Obj.RP_DIO_IMIN p), counter := 0, started := true, since := s.now, fired := false }) ∧
      t.obj = s.obj ∧ t.alm.nodes = s.alm.nodes)) ∧
  (∀ (s : State) (p : Nat) (psdu : Nat),
    p < 4 ∧ p < s.alm.rpl.length ∧ (nth s.alm.rpl p).started = true ∧ s.isOn 4 = true ∧
    (nth s.alm.rpl p).since + 2 ^ (nth s.alm.rpl p).interval * msC ≤ s.now →
    Gives (.dioTrickleFire p psdu) s (fun t =>
      nth t.alm.rpl p = { interval := min (s.getN (Obj.RP_DIO_IMIN p) + s.getN (Obj.RP_DIO_DOUBLINGS p)) ((nth s.alm.rpl p).interval + 1), counter := 0, started := true, since := (nth s.alm.rpl p).since + 2 ^ (nth s.alm.rpl p).interval * msC, fired := false } ∧
      t.obj = s.obj ∧ t.out = s.out)) ∧
  (∀ (s : State) (p : Nat) (psdu : Nat),
    p < 4 ∧ p < s.alm.rpl.length ∧ (nth s.alm.rpl p).started = true ∧ (nth s.alm.rpl p).fired = false ∧ s.isOn 4 = true ∧
    s.silent = false ∧ (nth s.alm.rpl p).counter < 10 ∧
    (nth s.alm.rpl p).since + 2 ^ (nth s.alm.rpl p).interval * msC / 2 ≤ s.now ∧
    s.now < (nth s.alm.rpl p).since + 2 ^ (nth s.alm.rpl p).interval * msC →
    Gives (.dioTrickleFire p psdu) s (fun t =>
      (nth t.alm.rpl p).fired = true ∧ (nth t.alm.rpl p).interval = (nth s.alm.rpl p).interval ∧
      t.out = .control 5 0x3FFFF :: .message (.dio p (s.getN (Obj.RP_INSTANCE p)) (s.getN (Obj.RP_VERSION p)) (s.getN (Obj.RP_OCP p)) (s.deviceAddr p) (s.getO (Obj.RP_PREFIX p)) (s.getN (Obj.RP_DIO_IMIN p)) (s.getN (Obj.RP_DIO_DOUBLINGS p)) 10 (s.getN (Obj.RP_LIFETIME_UNIT p)) (s.getN (Obj.RP_DEFAULT_LIFETIME p))) :: s.out)) ∧
  (∀ (s : State) (b : Nat) (i : Nat) (x : Reasm),
    (s.pipe b).reasm[i]? = some x ∧ x.last + s.getN Obj.REASSEMBLY_TIMEOUT * secC ≤ s.now →
    Gives (.reassemblyTimeout b i) s (fun t =>
      (t.pipe b).reasm = (s.pipe b).reasm.eraseIdx i ∧ Bumped s t Obj.REASSEMBLY_DROPS))

/-- Checkpoints of the node table and its restore (R230, R231, R232, R235). -/
def Obligations.CheckpointsComplete : Prop :=
  (∀ (s : State),
    s.alm.ckpt = none ∧ s.alm.loaded = true ∧ s.isOn 2 = true ∧ s.isOn 4 = true ∧
    (s.getT Obj.CKPT_LAST + s.getN Obj.CKPT_PERIOD * secT ≤ s.time ∨ 12288 ≤ s.alm.ring.length) →
    Gives .checkpointPeriod s (fun t =>
      t = { s with alm := { s.alm with sinceCkpt := 0, ckpt := some { nodes := s.alm.nodes, table := s.alm.table, time := s.time, complete := false }, ckptB := some { nodes := s.alm.nodes, table := s.alm.table, time := s.time, complete := false } } })) ∧
  (∀ (s : State) (r : Req),
    CanStart s r Obj.ALMANAC_CHECKPOINT 4 ∧ s.alm.ckpt = none →
    Gives (.almanacCheckpoint r (.bool true)) s (fun t =>
      t.alm.ckpt.map (fun c => (c.nodes, c.table, c.complete)) = some (s.alm.nodes, s.alm.table, false) ∧
      Starts s t r Obj.ALMANAC_CHECKPOINT)) ∧
  (∀ (s : State) (c : Checkpoint),
    s.alm.ckpt = some c →
    Gives .checkpointDone s (fun t =>
      t.alm.ckpt = none ∧ t.alm.ckptA = some { c with complete := true } ∧ t.alm.ckptB = s.alm.ckptA ∧
      t.alm.ring = s.alm.ring.take s.alm.sinceCkpt ∧ t.get Obj.CKPT_LAST = t64 c.time ∧ t.alm.nodes = s.alm.nodes)) ∧
  (∀ (s : State) (us : Nat),
    s.alm.loaded = false ∧ s.alm.source = 1 ∧ s.isOn 4 = true ∧ s.getB Obj.AON_LOST = false ∧ s.mg.fifos.length = 8 ∧
    s.storedNodes.length ≤ 1 →
    Gives (.almanacRestored us) s (fun t =>
      t.alm.loaded = true ∧
      t.alm.nodes = (s.storedNodes.filter (fun n => decide (n.idx < flashNodes (s.getN Obj.FLASH_MAP)))).map (fun n => fromCheckpoint n true) ∧
      t.alm.mirror = t.alm.nodes ∧ t.alm.mirrorTable = t.alm.table ∧
      Raised t 0x600A 0 (be 1 1 ++ be 4 t.alm.nodes.length ++ be 2 s.alm.ring.length ++ be 4 us ++ be 1 (b2n s.alm.outage)))) ∧
  (∀ (s : State) (us : Nat),
    s.alm.loaded = false ∧ s.alm.source = 0 ∧ s.isOn 4 = true ∧ s.mg.fifos.length = 8 →
    Gives (.almanacMirrorReload us) s (fun t =>
      t.alm.loaded = true ∧ t.alm.nodes = s.alm.mirror ∧ t.alm.table = s.alm.mirrorTable ∧
      Raised t 0x600A 0 (be 1 0 ++ be 4 s.alm.mirror.length ++ be 2 0 ++ be 4 us ++ be 1 1) ∧ t.obj = s.obj))

/-- The uplink scheduler and admission messages (R242, R243, R252, R254, R256, R257, R264). -/
def Obligations.UplinkAndAdmissionComplete : Prop :=
  (∀ (s : State) (p : Nat) (c : Nat) (fl : Nat) (w : WireFrame) (f : UpFrame),
    p < 2 ∧ p < s.pilot.ports.length ∧ p < s.tk.ports.length ∧ s.getN (Obj.TT_LINK_STATE p) = 4 ∧ s.nextClass p = some c ∧
    (s.sched p).nextFlow c = some fl ∧ (s.serve p c fl).2 = some f ∧ f.event = none ∧ s.wireFree p = true ∧
    64 ≤ (s.wireOctets p f w).length ∧ (s.wireOctets p f w).length ≤ 9216 →
    Gives (.uplinkTxSelect p w) s (fun t =>
      t.out = .trunkFrame p f f.trailer :: .blocks p ((List.range 58).map (fun i => bit s.fresh.2.fresh.1 i)) (scramble ((List.range 58).map (fun i => bit s.fresh.2.fresh.1 i)) (frameBlocks (s.wireOctets p f w))) :: s.frameHead p f w :: s.out ∧
      (nth t.tk.ports p).wire = some (f.id, s.now + frameNs (s.getN (Obj.TT_TIER_NOW p)) (s.wireOctets p f w).length) ∧
      (t.sched p).frames = (s.sched p).frames.filter (fun g => g.id != f.id) ∧ Bumped s t (Obj.TT_FRAMES_TX p))) ∧
  (∀ (s : State) (x : AdmWire) (m : AdmMsg) (b : AdmitBody),
    s.admRead x = some m ∧ s.isOn 4 = true ∧ s.pwr.anchor = none ∧ m.ctx < 16 ∧ s.ctxKey m.ctx ≠ 0 ∧
    (nth s.pilot.ctxs m.ctx).fresh m.seq = true ∧ (s.checkKey kAdmit (s.ctxKey m.ctx) 2 m.old m.ok).2 = true ∧
    m.body = .request b ∧ b.dstOk = true ∧ s.remembered m.ctx b.reqId = none ∧ s.pilot.queue.length < 64 →
    Gives (.admissionMessage x) s (fun t =>
      t.pilot.queue = s.pilot.queue ++ [{ msg := m, cls := (s.flow b.flow).cls, arrival := s.now }] ∧
      t.getN (Obj.ADMIT_SEQ_IN m.ctx) = max (nth s.pilot.ctxs m.ctx).high m.seq ∧ Bumped s t Obj.ADMIT_REQUESTS)) ∧
  (∀ (s : State) (x : AdmWire) (m : AdmMsg) (ref : Nat),
    s.admRead x = some m ∧ s.isOn 4 = true ∧ s.pwr.anchor = none ∧ m.ctx < 16 ∧ s.ctxKey m.ctx ≠ 0 ∧
    (nth s.pilot.ctxs m.ctx).fresh m.seq = true ∧ (s.checkKey kAdmit (s.ctxKey m.ctx) 2 m.old m.ok).2 = true ∧
    m.body = .query ref ∧ s.pilot.queue.length < 64 →
    Gives (.admissionMessage x) s (fun t =>
      t.pilot.queue = s.pilot.queue ++ [{ msg := m, cls := 1, arrival := s.now }] ∧
      t.getN (Obj.ADMIT_SEQ_IN m.ctx) = max (nth s.pilot.ctxs m.ctx).high m.seq)) ∧
  (∀ (s : State) (i : Nat) (r : AdmReq) (b : AdmitBody),
    s.pilot.queue[i]? = some r ∧ r.msg.body = .request b ∧ s.silent = false ∧ r.arrival + 150 * usC ≤ s.now →
    Gives (.admitQueueTimeout i) s (fun t =>
      t.pilot.queue = s.pilot.queue.eraseIdx i ∧
      (t.pilot.answered.head?.map (fun a => (a.ctx, a.reqId, a.detail))) = some (r.msg.ctx, b.reqId, 11) ∧
      Bumped s t Obj.ADMIT_BUSY)) ∧
  (∀ (s : State) (r : AdmReq) (b : AdmitBody) (d : Nat) (p : Option Tick),
    s.nextRequest = some r ∧ r.msg.body = .request b ∧ s.remembered r.msg.ctx b.reqId = none ∧
    s.getB Obj.LODESTAR_ACTIVE = false ∧ s.pwr.holdWait = false ∧ s.silent = false ∧
    ((s.dequeue r).compute b r.arrival false).2 = .refuse d p →
    Gives .admissionCompute s (fun t =>
      t.pilot.queue = s.pilot.queue.erase r ∧ t.pilot.frames = s.pilot.frames ∧
      (t.pilot.answered.head?.map (fun a => (a.ctx, a.reqId, a.detail, a.ref, a.promise))) = some (r.msg.ctx, b.reqId, d, 0, p))) ∧
  (∀ (s : State) (r : AdmReq) (b : AdmitBody) (f : Frame),
    s.nextRequest = some r ∧ r.msg.body = .request b ∧ s.remembered r.msg.ctx b.reqId = none ∧
    s.getB Obj.LODESTAR_ACTIVE = false ∧ s.pwr.holdWait = false ∧ s.silent = false ∧
    ((s.dequeue r).compute b r.arrival false).2 = .grant f →
    Gives .admissionCompute s (fun t =>
      t.pilot.queue = s.pilot.queue.erase r ∧
      (t.pilot.frames.getLast?.map (fun x => (x.ref, x.node, x.hop, x.flow, x.insts, x.promise))) = some (s.getN Obj.NEXT_ADMISSION_REF, f.node, f.hop, f.flow, f.insts, f.promise) ∧
      (t.pilot.answered.head?.map (fun a => (a.ctx, a.reqId, a.detail, a.ref, a.promise))) = some (r.msg.ctx, b.reqId, 0, s.getN Obj.NEXT_ADMISSION_REF, some f.promise))) ∧
  (∀ (s : State) (r : AdmReq) (ref : Nat),
    s.nextRequest = some r ∧ r.msg.body = .query ref ∧ s.silent = false ∧ s.getB Obj.LODESTAR_ACTIVE = false ∧
    s.upPorts ≠ [] ∧ s.ctxKey r.msg.ctx ≠ 0 ∧
    (((s.dequeue r).seqOut r.msg.ctx).2.useKey kAdmit (s.ctxKey r.msg.ctx) 2 true).2 = true →
    Gives .query s (fun t =>
      t.pilot.queue = s.pilot.queue.erase r ∧
      t.out.contains (.queryReply r.msg.src r.msg.ctx (s.getN (Obj.ADMIT_SEQ_OUT r.msg.ctx)) (s.queryTerm ref).eui (s.queryTerm ref)) = true))

/-- The ledger, the timing wheel, flow settings, sampling and the ledger summary (R237, R248, R250, R260, R261, R265, R266). -/
def Obligations.LedgerAndSettingsComplete : Prop :=
  (∀ (s : State) (ref : Nat) (w : Wheel) (f : Frame) (i : Inst),
    s.fires 0 ref = some w ∧ s.frame? ref = some f ∧ s.nextInst f = some i ∧ s.panServed i.pan = true ∧
    (s.flow f.flow).rate ≠ 0 →
    Gives (.handoverEntry ref) s (fun t =>
      t.helm.due.map (fun d => (d.kind, d.ref, d.cell, d.asn, d.start)) = s.helm.due.map (fun d => (d.kind, d.ref, d.cell, d.asn, d.start)) ++ [(0, ref, i.cell, i.asn, i.start)] ∧
      t.pilot.frames = s.pilot.frames)) ∧
  (∀ (s : State) (ref : Nat) (w : Wheel) (f : Frame) (i : Inst),
    s.fires 0 ref = some w ∧ s.frame? ref = some f ∧ s.nextInst f = some i ∧ s.panServed i.pan = true ∧
    (s.flow f.flow).rate = 0 ∧ s.shadowed = false →
    Gives (.handoverEntry ref) s (fun t =>
      t.helm.due = s.helm.due ∧ (t.frame? ref).map (fun x => (x.made, x.reason)) = some (f.made + 1, 12))) ∧
  (∀ (s : State) (ref : Nat) (w : Wheel) (f : Frame),
    s.fires 1 ref = some w ∧ s.frame? ref = some f ∧ s.shadowed = false →
    Gives (.reportDeadline ref) s (fun t =>
      t.frame? ref = none ∧ (t.pilot.reports.head?.map (fun x => (x.ref, x.state))) = some (ref, 3))) ∧
  (∀ (s : State),
    Gives .wheelCoarseSlot s (fun t =>
      t.pilot.fine = s.pilot.fine ++ s.pilot.coarse.filter (fun w => decide (w.due / coarseSlot ≤ s.now / coarseSlot)) ∧
      t.pilot.coarse = s.pilot.coarse.filter (fun w => decide (s.now / coarseSlot < w.due / coarseSlot)) ∧ t.obj = s.obj)) ∧
  (∀ (s : State) (b : Bool) (key : Nat) (w : Wheel),
    s.fires (if b then 3 else 2) key = some w →
    Gives (.nextEligibleTime b key) s (fun t =>
      t.pilot.fine = s.pilot.fine.filter (fun x => !(x.kind == (if b then 3 else 2) && x.key == key)) ∧ t.obj = s.obj)) ∧
  (∀ (s : State) (r : Req) (w : Wire) (v : Val),
    Takes s r 0x6100 2 w v ∧ flowOk v.toOctets = true ∧ s.flowPending (s.session 0).flowSelect = 0 →
    Gives (.flowConfig r w) s (fun t =>
      (fun f : Flow => (f.num, f.enabled, f.down, f.cls, f.weight, f.rate, f.burst, f.attempts, f.pendMax)) (t.flow (s.session 0).flowSelect) = ((s.session 0).flowSelect, bit (fld v.toOctets 0 1) 0, bit (fld v.toOctets 0 1) 1, fld v.toOctets 1 1, fld v.toOctets 2 2, fld v.toOctets 4 4, fld v.toOctets 8 2, fld v.toOctets 10 1, fld v.toOctets 12 4) ∧
      Replied t r coapChanged .none)) ∧
  (∀ (s : State) (r : Req) (x : Nat) (w : Wire) (v : Val),
    Takes s r 0x6500 (x + 1) w v ∧ x < 16 ∧ x < s.pilot.ctxs.length →
    Gives (.admitCtxKeyid r x w) s (fun t =>
      t.get (Obj.ADMIT_CTX_KEYID x) = v ∧ nth t.pilot.ctxs x = { high := 0, seen := [] } ∧
      t.getN (Obj.ADMIT_SEQ_IN x) = 0 ∧ Replied t r coapChanged .none)) ∧
  (∀ (s : State),
    s.isOn 4 = true ∧ s.pwr.anchor = none →
    Gives .paSample s (fun t =>
      (t.pilot.samples.find? (fun x => x.key == classKey 0)).bind (·.depths.head?) = some (((s.sched 0).frames.filter (fun x => x.cls == 0)).length + ((s.sched 1).frames.filter (fun x => x.cls == 0)).length) ∧
      t.obj = s.obj ∧ t.pilot.frames = s.pilot.frames)) ∧
  (∀ (s : State),
    Gives .sampleIntervalEnd s (fun t =>
      t.pilot.samples = [] ∧ (∀ f ∈ s.enabledFlows, (t.pilot.flowStats.find? (fun e => e.1 == f.num)).isSome = true) ∧
      t.pilot.frames = s.pilot.frames)) ∧
  (∀ (s : State) (log : Bool),
    s.isOn 4 = true ∧ s.pwr.anchor = none →
    Gives (.ledgerSummaryMirror log) s (fun t =>
      (if log then t.pilot.sumLog else t.pilot.sumDram) = s.summary ∧ t.pilot.frames = s.pilot.frames))

/-- Training of a trunk port: paging, announcing, its phases, the link up, its failures (R282, R283, R284, R287, R288, R289). -/
def Obligations.TrainingCompletes : Prop :=
  (∀ (s : State) (p : Nat),
    s.inLink p 1 = true ∧ p < s.tk.ports.length ∧ (s.tport p).paged = false ∧ (s.tport p).since + msC ≤ s.now →
    Gives (.listenPaging p) s (fun t =>
      (t.tport p).paged = true ∧
      t.out.take 2 = [.line 0 p [s.tiers p, s.getN (Obj.TT_ROLE p), s.fresh.1 % 2 ^ 32, 0, 8, s.fresh.2.fresh.1 % 50001], .levels p (pageChips (pageOctets (s.tiers p) (s.getN (Obj.TT_ROLE p)) (s.fresh.1 % 2 ^ 32) false true)) (shaped (s.taps p 1) (pageChips (pageOctets (s.tiers p) (s.getN (Obj.TT_ROLE p)) (s.fresh.1 % 2 ^ 32) false true)))] ∧
      t.obj = s.obj)) ∧
  (∀ (s : State) (p : Nat),
    s.inLink p 1 = true ∧ p < s.tk.ports.length ∧ s.getN (Obj.TT_WAKE_PERIOD p) ≠ 0 ∧
    max (s.tport p).since (s.tport p).wakeAt + s.getN (Obj.TT_WAKE_PERIOD p) * msC ≤ s.now →
    Gives (.wakePatternSend p) s (fun t =>
      (t.tport p).wakeAt = s.now ∧
      t.out = .line 1 p [24, 100] :: .levels p wakeBurst (shaped (s.taps p 1) wakeBurst) :: s.out ∧ t.obj = s.obj)) ∧
  (∀ (s : State) (p : Nat) (o : Octets) (psd : List Int) (fault : Nat) (dist : Nat),
    s.inLink p 1 = true ∧ p < s.tk.ports.length ∧ (pageOf o).crcOk = true ∧ (pageOf o).version = 1 ∧ (pageOf o).role ≤ 2 ∧
    (pageOf o).tiers < 8 ∧ ((s.livePlan p).template ≠ 2 ∨ maskHolds (s.getO (Obj.TT_MASK_POINTS p)) psd = true) ∧
    (pageOf o).ack = false →
    Gives (.pageReceived p o psd fault dist) s (fun t =>
      t.link p = 2 ∧ (t.tport p).page = some (pageOf o) ∧ (t.tport p).same = 1 ∧ (t.tport p).firstPage = s.now ∧
      (t.tport p).holdoff = none ∧ (t.tport p).plan = s.livePlan p)) ∧
  (∀ (s : State) (p : Nat) (fault : Nat) (dist : Nat),
    s.inLink p 2 = true ∧ p < s.tk.ports.length ∧ (s.tport p).announce + 2 * msC ≤ s.now ∧ s.mg.fifos.length = 8 →
    Gives (.announceTimeout p fault dist) s (fun t =>
      (t.tport p).holdoff = some (s.now + s.getN (Obj.TT_RETRAIN_HOLDOFF p) * msC) ∧
      t.getN (Obj.TT_CABLE_FAULT_M p) = dist ∧
      Raised t 0x7003 2 (be 1 p ++ be 1 1 ++ be 1 3 ++ be 1 (s.tport p).tried ++ beI 2 (s.tport p).best ++ be 1 fault ++ be 2 dist))) ∧
  (∀ (s : State) (p : Nat) (fault : Nat) (dist : Nat) (snr : Int) (q : Bool),
    s.inLink p 3 = true ∧ p < s.tk.ports.length ∧ (s.tport p).phase < 2 ∧
    (s.tport p).t1 + phaseEnd (s.tport p).phase ≤ s.now →
    Gives (.trainPhase p snr q fault dist) s (fun t =>
      t.tk = (s.updTport p (fun x => { x with phase := (s.tport p).phase + 1 })).tk ∧ t.obj = s.obj ∧ t.helm = s.helm ∧
      t.pilot = s.pilot)) ∧
  (∀ (s : State) (p : Nat) (fault : Nat) (dist : Nat) (snr : Int) (q : Bool),
    s.inLink p 3 = true ∧ p < s.tk.ports.length ∧ (s.tport p).phase = 2 ∧
    (s.tport p).t1 + phaseEnd (s.tport p).phase ≤ s.now →
    Gives (.trainPhase p snr q fault dist) s (fun t =>
      (t.tport p).phase = 3 ∧ t.obj = s.obj ∧
      t.out.drop 1 = .prbs p 11 (s.fresh.1 % 2047 + 1) 1024 true (s.taps p (s.getN (Obj.TT_TIER_NOW p))) :: s.out)) ∧
  (∀ (s : State) (p : Nat) (fault : Nat) (dist : Nat) (snr : Int) (q : Bool),
    s.inLink p 3 = true ∧ p < s.tk.ports.length ∧ (s.tport p).phase = 3 ∧ (s.tport p).t1 + 110 * msC ≤ s.now →
    Gives (.trainPhase p snr q fault dist) s (fun t =>
      t.getI (Obj.TT_SNR p) = snr ∧ (t.tport p).phase = 4 ∧ (t.tport p).best = max (s.tport p).best snr)) ∧
  (∀ (s : State) (p : Nat) (fault : Nat) (dist : Nat) (snr : Int),
    s.inLink p 3 = true ∧ p < s.tk.ports.length ∧ (s.tport p).phase = 4 ∧ (s.tport p).t1 + 111 * msC ≤ s.now ∧
    snrThreshold (s.getN (Obj.TT_TIER_NOW p)) ≤ s.getI (Obj.TT_SNR p) →
    Gives (.trainPhase p snr true fault dist) s (fun t =>
      t = s.updTport p (fun x => { x with phase := 5 }))) ∧
  (∀ (s : State) (x : PortLock) (p : Nat),
    x.p = p ∧ s.inLink p 3 = true ∧ p < s.tk.ports.length ∧ (s.tport p).phase = 5 ∧
    lockHolds x (s.getN (Obj.TT_TIER_NOW p)) = true ∧ s.mg.fifos.length = 8 →
    Gives (.linkUp x) s (fun t =>
      t.link p = 4 ∧ (t.tport p).since = s.now ∧
      Raised t 0x7001 0 (be 1 p ++ be 1 (s.getN (Obj.TT_TIER_NOW p)) ++ be 1 (s.getN (Obj.TT_ROLE_NOW p)) ++ beI 2 (s.getI (Obj.TT_SNR p)) ++ be 4 ((s.now - (s.tport p).firstPage) / usC) ++ be 1 (b2n (bit (s.tport p).tried 0) + b2n (bit (s.tport p).tried 1) + b2n (bit (s.tport p).tried 2))))) ∧
  (∀ (s : State) (p : Nat) (fault : Nat) (dist : Nat),
    s.inLink p 3 = true ∧ p < s.tk.ports.length ∧ (s.tport p).phase = 5 ∧ (s.tport p).t1 + 116 * msC ≤ s.now ∧
    s.mg.fifos.length = 8 →
    Gives (.trainingLockTimeout p fault dist) s (fun t =>
      (t.tport p).holdoff = some (s.now + s.getN (Obj.TT_RETRAIN_HOLDOFF p) * msC) ∧
      Raised t 0x7003 2 (be 1 p ++ be 1 2 ++ be 1 5 ++ be 1 (s.tport p).tried ++ beI 2 (s.tport p).best ++ be 1 fault ++ be 2 dist))) ∧
  (∀ (s : State) (p : Nat) (e : Count),
    p < 2 ∧ p < s.tk.ports.length ∧ (s.tport p).holdoff = some e ∧ e ≤ s.now →
    Gives (.retrainHoldoffExpiry p) s (fun t =>
      t.link p = 1 ∧ (t.tport p).holdoff = none ∧ (t.tport p).paged = false))

/-- OAM, the losses of a link, its SNR warning (R281, R285, R286). -/
def Obligations.LinkLossCompletes : Prop :=
  (∀ (s : State) (p : Nat) (a : List (List Int)) (b : List (List Int)) (c : List (List Int)) (snr : Int),
    s.inLink p 4 = true ∧ p < s.tk.ports.length →
    Gives (.oamSend p a b c snr) s (fun t =>
      t.getN (Obj.TT_CW_CORRECTED p) = (s.getN (Obj.TT_CW_CORRECTED p) + (lineTallies a b c).corrected) % 2 ^ Obj.bits (Obj.TT_CW_CORRECTED p) ∧
      t.getI (Obj.TT_SNR p) = snr ∧ (t.tport p).oamSeq = ((s.tport p).oamSeq + 1) % 65536 ∧
      t.out.head? = some (.line 2 p [1, s.getN (Obj.TT_TIER_NOW p), (clampI 0 1023 snr).toNat, min 255 ((lineTallies a b c).uncorr + (((s.tport p).bad.filter (fun e => decide (s.now < e.1 + secC))).map (·.2)).sum), ((s.tport p).oamSeq + 1) % 65536]))) ∧
  (∀ (s : State) (p : Nat) (b : CodeBlock),
    s.inLink p 4 = true ∧ p < s.tk.ports.length ∧ (s.tport p).pauses = [] ∧ s.mg.fifos.length = 8 ∧
    (oamOf b).crcOk = true ∧ (oamOf b).kind = 2 →
    Gives (.oamReceived p b) s (fun t =>
      t.link p = 1 ∧ t.getN (Obj.TT_TIER_NOW p) = 0 ∧
      Raised t 0x7002 2 (be 1 p ++ be 1 4 ++ be 1 (s.getN (Obj.TT_TIER_NOW p)) ++ be 4 ((s.now - (s.tport p).since) / secC)))) ∧
  (∀ (s : State) (p : Nat) (n : Nat),
    s.inLink p 4 = true ∧ p < s.tk.ports.length ∧ (s.tport p).pauses = [] ∧ s.mg.fifos.length = 8 ∧ 8 ≤ n →
    Gives (.codewordLockLost { p := p, n := n }) s (fun t =>
      t.link p = 1 ∧ t.getN (Obj.TT_TIER_NOW p) = 0 ∧
      Raised t 0x7002 2 (be 1 p ++ be 1 0 ++ be 1 (s.getN (Obj.TT_TIER_NOW p)) ++ be 4 ((s.now - (s.tport p).since) / secC)))) ∧
  (∀ (s : State) (p : Nat) (us : Nat),
    s.inLink p 4 = true ∧ p < s.tk.ports.length ∧ (s.tport p).pauses = [] ∧ s.mg.fifos.length = 8 ∧ 4 ≤ us →
    Gives (.signalLost { p := p, n := us }) s (fun t =>
      t.link p = 1 ∧ t.getN (Obj.TT_TIER_NOW p) = 0 ∧
      Raised t 0x7002 2 (be 1 p ++ be 1 1 ++ be 1 (s.getN (Obj.TT_TIER_NOW p)) ++ be 4 ((s.now - (s.tport p).since) / secC)))) ∧
  (∀ (s : State) (p : Nat) (x : SnrFall),
    s.inLink p 4 = true ∧ p < s.tk.ports.length ∧ (s.tport p).pauses = [] ∧ s.mg.fifos.length = 8 ∧ 10000 ≤ x.us ∧
    x.snr < snrThreshold (s.getN (Obj.TT_TIER_NOW p)) - 30 →
    Gives (.snrLinkLost p x) s (fun t =>
      t.link p = 1 ∧ t.getN (Obj.TT_TIER_NOW p) = 0 ∧
      Raised t 0x7002 2 (be 1 p ++ be 1 2 ++ be 1 (s.getN (Obj.TT_TIER_NOW p)) ++ be 4 ((s.now - (s.tport p).since) / secC)))) ∧
  (∀ (s : State) (p : Nat) (x : SnrFall),
    s.inLink p 4 = true ∧ 1000000 ≤ x.us ∧ x.snr < snrThreshold (s.getN (Obj.TT_TIER_NOW p)) + s.getN (Obj.TT_SNR_WARN p) ∧
    s.mg.fifos.length = 8 →
    Gives (.snrWarn p x) s (fun t =>
      t.getI (Obj.TT_SNR p) = x.snr ∧ t.link p = 4 ∧
      Raised t 0x7005 1 (be 1 p ++ be 1 (s.getN (Obj.TT_TIER_NOW p)) ++ beI 2 x.snr)))

/-- Enabling, retraining, loopback and waking by a trunk port; the trunk addresses (R282, R286, R289, R292, R302, R303). -/
def Obligations.TrunkRequestsComplete : Prop :=
  (∀ (s : State) (r : Req) (p : Nat),
    Takes s r (0x7000 + p) 1 (.bool true) (.bool true) ∧ p < 2 ∧ p < s.tk.ports.length ∧ s.pwr.dom.length = 16 ∧
    s.link p = 0 ∧ s.cond (trunkDom p) = .off ∧ (s.tport p).loop = none →
    Gives (.ttEnableWrite r p (.bool true)) s (fun t =>
      t.getB (Obj.TT_ENABLE p) = true ∧ t.link p = 1 ∧ t.cond (trunkDom p) = .on ∧ Replied t r coapChanged .none)) ∧
  (∀ (s : State) (r : Req) (p : Nat),
    Takes s r (0x7000 + p) 1 (.bool false) (.bool false) ∧ p < 2 ∧ p < s.tk.ports.length ∧ s.pwr.dom.length = 16 ∧
    s.cond (trunkDom p) = .on ∧ (s.tport p).loop = none →
    Gives (.ttEnableWrite r p (.bool false)) s (fun t =>
      t.getB (Obj.TT_ENABLE p) = false ∧ t.link p = 0 ∧ t.cond (trunkDom p) = .off ∧ Replied t r coapChanged .none)) ∧
  (∀ (s : State) (r : Req) (m : Nat),
    CanStart s r Obj.TRUNK_RETRAIN 1 ∧ (m = 1 ∨ m = 2 ∨ m = 3) ∧ s.tk.ports.length = 2 ∧
    (∀ p ∈ List.range 2, bit m p = true → s.link p ≠ 0) →
    Gives (.trunkRetrain r (.uint m)) s (fun t =>
      (∀ p ∈ List.range 2, bit m p = true → t.link p = 1) ∧ t.tk.retrain = [0, 1].filter (fun p => bit m p) ∧
      Starts s t r Obj.TRUNK_RETRAIN)) ∧
  (∀ (s : State) (r : Req) (p : Nat) (tier : Nat) (n : Nat),
    CanStart s r Obj.TRUNK_LOOPBACK 1 ∧ p < 2 ∧ p < s.tk.ports.length ∧ 1 ≤ tier ∧ tier ≤ 3 ∧ 1 ≤ n ∧ n ≤ 60 ∧
    s.getB (Obj.TT_ENABLE p) = false →
    Gives (.trunkLoopback r (.bytes (be 1 p ++ be 1 tier ++ be 1 n ++ be 1 0))) s (fun t =>
      (t.tport p).loop = some { tier := tier, stop := s.now + n * secC, tally := noTally, snr := 0 } ∧
      Starts s t r Obj.TRUNK_LOOPBACK)) ∧
  (∀ (s : State) (p : Nat) (a : List (List Int)) (b : List (List Int)) (c : List (List Int)) (snr : Int) (x : Loopback),
    p < 2 ∧ p < s.tk.ports.length ∧ (s.tport p).loop = some x ∧ x.stop ≤ s.now ∧ s.getB (Obj.TT_ENABLE p) = false ∧
    s.mg.fifos.length = 8 →
    Gives (.loopbackEnd p a b c snr) s (fun t =>
      (t.tport p).loop = none ∧ t.link p = 0 ∧
      Raised t 0x7007 0 (be 1 p ++ be 1 x.tier ++ be 8 (x.tally.add (lineTallies a b c)).codewords ++ be 8 (x.tally.add (lineTallies a b c)).symbols ++ be 4 (x.tally.add (lineTallies a b c)).uncorr ++ beI 2 snr))) ∧
  (∀ (s : State) (p : Nat) (x : WakeTone),
    p < 2 ∧ s.link p ≠ 4 ∧ s.getN Obj.TRUNK_WAKE_MODE < 2 ∧ (wakePattern x.gaps = true ∨ s.getN Obj.TRUNK_WAKE_MODE = 1 ∧
    s.getN Obj.TRUNK_WAKE_ENERGY < x.mv ∧ 1 ≤ x.us) ∧ (s.pwr.standby = true ∨ s.pwr.entry.isSome = true) →
    Gives (.trunkWakeDetect p x) s (fun t =>
      bit (t.getN Obj.WAKE_CAUSE) p = true ∧ t.pwr.woken = true ∧ t.tk = s.tk)) ∧
  (∀ (s : State) (r : Req) (n : Nat) (w : Wire) (v : Val),
    Takes s r 0x7030 n w v ∧ 2 ≤ n ∧ n ≤ 0x0B →
    Gives (.trunkAddressWrite r n w) s (fun t =>
      t.get (Obj.key 0x7030 n) = v ∧ Replied t r coapChanged .none))

/-- Trunk frames, flow control and redundancy (R290, R294, R295, R296, R297). -/
def Obligations.TrunkFramesComplete : Prop :=
  (∀ (s : State) (p : Nat) (fill : Nat) (f : TrunkFrame) (idle : Bool),
    s.inLink p 4 = true ∧ p < s.tk.ports.length ∧ (frameReceived f).2 = true ∧ 64 ≤ (frameReceived f).1.length ∧
    (frameReceived f).1.length ≤ 9216 ∧ fcsHolds (frameReceived f).1 = true ∧ fill ≤ 1048576 →
    Gives (.trunkFrameReceived p f fill idle) s (fun t =>
      Bumped s t (Obj.TT_FRAMES_RX p) ∧ (t.tport p).fill = fill)) ∧
  (∀ (s : State) (p : Nat) (fill : Nat) (f : TrunkFrame) (idle : Bool),
    s.inLink p 4 = true ∧ (frameReceived f).2 = true ∧
    ((frameReceived f).1.length < 64 ∨ 9216 < (frameReceived f).1.length) →
    Gives (.trunkFrameReceived p f fill idle) s (fun t =>
      t = s.bump (Obj.TT_LENGTH_ERRORS p))) ∧
  (∀ (s : State) (p : Nat) (fill : Nat) (f : TrunkFrame) (idle : Bool),
    s.inLink p 4 = true ∧ ((frameReceived f).2 = false ∨ 64 ≤ (frameReceived f).1.length ∧
    (frameReceived f).1.length ≤ 9216 ∧ fcsHolds (frameReceived f).1 = false) →
    Gives (.trunkFrameReceived p f fill idle) s (fun t =>
      Bumped s t (Obj.TT_FCS_ERRORS p) ∧ t.tk = s.tk)) ∧
  (∀ (s : State) (p : Nat) (fill : Nat),
    s.inLink p 4 = true ∧ p < s.tk.ports.length ∧ 786432 < fill ∧ s.mayPause p = true ∧ (s.tport p).xoff = none ∧
    (s.tport p).xoffAfter ≤ s.now →
    Gives (.xoffRefresh p fill) s (fun t =>
      (t.tport p).xoff = some (s.now, s.now) ∧ (t.tport p).fill = fill ∧ Bumped s t (Obj.TT_PFC_TX p))) ∧
  (∀ (s : State) (p : Nat) (fill : Nat),
    s.inLink p 4 = true ∧ p < s.tk.ports.length ∧ fill ≤ 786432 ∧ (s.tport p).xoff = none →
    Gives (.xoffRefresh p fill) s (fun t =>
      t = s.updTport p (fun x => { x with fill := fill }))) ∧
  (∀ (s : State) (p : Nat) (prio : Nat) (q : Nat),
    s.inLink p 4 = true ∧ p < s.tk.ports.length ∧ prio < 8 ∧ q ≠ 0 ∧ (s.tport p).pauses = [] →
    Gives (.pfcReceived p [(prio, q)]) s (fun t =>
      (t.tport p).pauses = [{ prio := prio, until' := s.now + quantaNs (s.getN (Obj.TT_TIER_NOW p)) q, since := s.now }] ∧
      Bumped s t (Obj.TT_PFC_RX p))) ∧
  (∀ (s : State) (p : Nat) (prio : Nat) (x : Pause),
    p < s.tk.ports.length ∧ (s.tport p).pauses = [x] ∧ x.prio = prio ∧ x.until' ≤ s.now →
    Gives (.pauseExpiry p prio) s (fun t =>
      (t.tport p).pauses = [] ∧
      t.getN (Obj.TT_PAUSED_TIME p) = (s.getN (Obj.TT_PAUSED_TIME p) + (x.until' - x.since) / usC) % 2 ^ Obj.bits (Obj.TT_PAUSED_TIME p))) ∧
  (∀ (s : State) (p : Nat),
    s.upPorts = [p] ∧ s.tk.lifeAt = none →
    Gives .supervisionSend s (fun t =>
      t.tk.seq = (s.tk.seq + 1) % 65536 ∧ t.tk.lifeAt = some s.now ∧
      t.out.contains (.line 4 p [(s.tk.seq + 1) % 65536]) = true ∧ Bumped s t (Obj.TT_FRAMES_TX p))) ∧
  (∀ (s : State) (e : Count),
    s.upPorts = [0, 1] ∧ s.tk.lifeAt = some e ∧ e + s.getN Obj.RED_LIFE_CHECK * msC ≤ s.now →
    Gives .supervisionSend s (fun t =>
      t.tk.seq = (s.tk.seq + 1) % 65536 ∧ t.tk.lifeAt = some s.now ∧
      t.out.contains (.line 4 1 [(s.tk.seq + 1) % 65536]) = true ∧
      t.out.contains (.line 4 0 [(s.tk.seq + 1) % 65536]) = true)) ∧
  (∀ (s : State) (b : Nat) (e : Count),
    b < 2 ∧ s.tk.heard.getD b none = some e ∧ e + 3 * s.getN Obj.RED_LIFE_CHECK * msC ≤ s.now ∧
    bit (s.getN Obj.RED_PARTNER_STATE) b = true ∧ s.mg.fifos.length = 8 →
    Gives (.redPartnerTimeout b) s (fun t =>
      t.getN Obj.RED_PARTNER_STATE = s.getN Obj.RED_PARTNER_STATE - 2 ^ b ∧
      Raised t 0x7006 1 (be 1 (s.getN Obj.TRUNK_REDUNDANCY) ++ be 1 (s.getN Obj.RED_PARTNER_STATE) ++ be 1 (s.getN Obj.RED_PARTNER_STATE - 2 ^ b))))

/-- Pulses of a pair: what a pulse sent says; what one received does in each state, with pair formation and a strap conflict; their loss; the timeout of pairing (R310, R313, R319, R320). -/
def Obligations.PulsesComplete : Prop :=
  (∀ (s : State) (heard : List (Nat × Nat × Int)),
    s.paired = true ∧ s.isOn 3 = true ∧ windowT ≤ s.time ∧
    (s.cs.windows.all (fun w => decide (w.k < s.time / windowT - 1))) = true ∧ s.cs.pulseIn ≠ some (s.time / windowT - 1) ∧
    s.upPorts ≠ [] ∧ (s.useKey kPair s.pairKey 3 true).2 = true →
    Gives (.pulseSend heard) s (fun t =>
      t.cs.windows.head?.map (fun w => (w.k, w.done)) = some (s.time / windowT - 1, false) ∧
      (t.out.head?.bind pulseSaid).map (fun q => (q.counter, q.pairId, q.member, q.state, q.outFault, q.epochOk, q.takeover)) = some (s.time / windowT - 1, s.getN Obj.CS_PAIR_ID, s.getN Obj.CS_PAIRSEL, s.getN Obj.CS_STATE, s.getB Obj.CS_OUTPUT_FAULT, s.epochOk, s.cs.takeover) ∧
      (t.out.head?.bind pulseSaid).map (fun q => (q.epoch, q.schedDigest, q.sent, q.acked)) = some (s.getN Obj.SCHED_EPOCH, s.digestNow, s.cs.sent, s.cs.acked))) ∧
  (∀ (s : State) (heard : List (Nat × Nat × Int)),
    s.paired = true ∧ s.isOn 3 = true ∧ windowT ≤ s.time ∧
    (s.cs.windows.all (fun w => decide (w.k < s.time / windowT - 1))) = true ∧ s.cs.pulseIn ≠ some (s.time / windowT - 1) ∧
    s.upPorts = [] →
    Gives (.pulseSend heard) s (fun t =>
      t.cs.windows.head?.map (fun w => (w.k, w.done)) = some (s.time / windowT - 1, false) ∧ t.cs.windows.length ≤ 32 ∧
      t.out = s.out)) ∧
  (∀ (s : State) (w : PairWire) (q : Pulse),
    readPulse w = some q ∧ (s.pairMsg q.src q.pairId q.old q.authentic).2 = true ∧
    s.cs.pulseIn.elim true (fun n => decide (n < q.counter)) = true ∧ q.member ≠ s.getN Obj.CS_PAIRSEL →
    Gives (.pulseReceived w) s (fun t =>
      t.cs.pulse = some q ∧ t.cs.lastPulse = some s.now ∧ t.cs.pulseIn = some q.counter ∧
      t.getN Obj.CS_PARTNER_STATE = q.state)) ∧
  (∀ (s : State) (w : PairWire) (q : Pulse),
    readPulse w = some q ∧ (s.pairMsg q.src q.pairId q.old q.authentic).2 = true ∧ s.cs.pulseIn = none ∧
    q.member ≠ s.getN Obj.CS_PAIRSEL ∧ s.getN Obj.CS_STATE = 1 ∧ s.getN Obj.CS_PAIRSEL = 1 ∧ q.state = 1 ∧
    s.mg.fifos.length = 8 →
    Gives (.pulseReceived w) s (fun t =>
      t.getN Obj.CS_STATE = 2 ∧ t.cs.since = s.now ∧
      Raised t 0x7105 0 (be 1 q.member ++ be 1 2 ++ fit 8 (s.getO Obj.CS_PARTNER_EUI)))) ∧
  (∀ (s : State) (w : PairWire) (q : Pulse),
    readPulse w = some q ∧ (s.pairMsg q.src q.pairId q.old q.authentic).2 = true ∧ s.cs.pulseIn = none ∧
    q.member ≠ s.getN Obj.CS_PAIRSEL ∧ s.getN Obj.CS_STATE = 1 ∧ q.state = 2 ∧ s.mg.fifos.length = 8 →
    Gives (.pulseReceived w) s (fun t =>
      t.getN Obj.CS_STATE = 4 ∧ t.cs.since = s.now ∧ t.cs.full = 0 ∧
      Raised t 0x7105 0 (be 1 q.member ++ be 1 4 ++ fit 8 (s.getO Obj.CS_PARTNER_EUI)))) ∧
  (∀ (s : State) (w : PairWire) (q : Pulse),
    readPulse w = some q ∧ (s.pairMsg q.src q.pairId q.old q.authentic).2 = true ∧ s.cs.pulseIn = none ∧
    q.member = s.getN Obj.CS_PAIRSEL ∧ s.getN Obj.CS_STATE = 1 ∧ s.cs.pulse = none ∧ s.mg.fifos.length = 8 →
    Gives (.pulseReceived w) s (fun t =>
      t.getN Obj.CS_STATE = 1 ∧ t.cs.lastPulse = some s.now ∧ t.getN Obj.CS_PARTNER_STATE = q.state ∧
      Raised t 0x7107 3 (be 1 q.member))) ∧
  (∀ (s : State) (e : Count),
    s.cs.lastPulse = some e ∧ e + 300 * usC ≤ s.now ∧ s.getN Obj.CS_PARTNER_STATE ≠ 0xFF ∧ s.getN Obj.CS_STATE < 2 →
    Gives .pulseLoss s (fun t =>
      t = s.setN Obj.CS_PARTNER_STATE 0xFF)) ∧
  (∀ (s : State) (e : Count),
    s.cs.lastPulse = some e ∧ e + 300 * usC ≤ s.now ∧ s.getN Obj.CS_PARTNER_STATE ≠ 0xFF ∧
    (s.getN Obj.CS_STATE = 3 ∨ s.getN Obj.CS_STATE = 4) →
    Gives .pulseLoss s (fun t =>
      t.getN Obj.CS_PARTNER_STATE = 0xFF ∧ t.getN Obj.CS_STATE = 2 ∧ t.cs.handover = none ∧ Bumped s t Obj.CS_TAKEOVERS ∧
      t.get Obj.CS_LAST_FAULT = t64 ((s.cs.pulseIn.getD 0 + 2) * windowT))) ∧
  (∀ (s : State) (e : Count),
    s.cs.lastPulse = some e ∧ e + 300 * usC ≤ s.now ∧ s.getN Obj.CS_PARTNER_STATE ≠ 0xFF ∧ s.getN Obj.CS_STATE = 2 ∧
    s.mg.fifos.length = 8 →
    Gives .pulseLoss s (fun t =>
      t.getN Obj.CS_PARTNER_STATE = 0xFF ∧ t.getN Obj.CS_STATE = 2 ∧ t.cs.handover = none ∧
      t.cs.bothSince = some (s.now, 0) ∧ Raised t 0x7104 2 (be 1 2 ++ be 8 (s.cs.pulse.elim 0 (·.acked))))) ∧
  (∀ (s : State),
    s.getN Obj.CS_STATE = 1 ∧ s.cs.lastPulse = none ∧ s.cs.since + secC ≤ s.now →
    Gives .pairingTimeout s (fun t =>
      t.getN Obj.CS_STATE = 2 ∧ t.cs.since = s.now ∧ t.cs.bothSince = some (s.now, 0) ∧
      t.getN Obj.CS_PARTNER_STATE = s.getN Obj.CS_PARTNER_STATE ∧ t.getN Obj.CS_TAKEOVERS = s.getN Obj.CS_TAKEOVERS))

/-- The state stream of a pair: received, sent again, given up, and the end of a resynchronisation (R310, R314). -/
def Obligations.StreamCompletes : Prop :=
  (∀ (s : State) (x : StreamWire) (m : StreamMsg) (ti : Tick) (l : List (Item × Nat)),
    readStream x.wire x.recs = some m ∧ (s.pairMsg m.src m.pairId m.old m.authentic).2 = true ∧
    m.member ≠ s.getN Obj.CS_PAIRSEL ∧ s.getN Obj.CS_STATE = 3 ∧ m.counter = s.cs.acked + 1 ∧ m.recs = [.plan ti l] ∧
    s.cs.waiting = [] →
    Gives (.streamReceived x) s (fun t =>
      t.cs.acked = m.counter ∧ t.cs.plans = s.cs.plans ++ [{ start := ti, items := l, came := s.time }])) ∧
  (∀ (s : State) (x : StreamWire) (m : StreamMsg),
    readStream x.wire x.recs = some m ∧ (s.pairMsg m.src m.pairId m.old m.authentic).2 = true ∧
    m.member ≠ s.getN Obj.CS_PAIRSEL ∧ s.getN Obj.CS_STATE = 3 ∧ s.cs.acked + 1 < m.counter ∧
    (s.cs.waiting.all (fun x => x.counter != m.counter)) = true →
    Gives (.streamReceived x) s (fun t =>
      t.cs.waiting = s.cs.waiting ++ [m] ∧ t.cs.acked = s.cs.acked)) ∧
  (∀ (s : State) (x : SentMsg),
    s.getN Obj.CS_STATE = 2 ∧ s.cs.unacked = [x] ∧ x.last + 500 * usC ≤ s.now ∧ s.upPorts ≠ [] ∧
    (s.useKey kPair s.pairKey 3 true).2 = true →
    Gives .streamResend s (fun t =>
      t = (s.sendStream x.seq x.recs).updCs (fun c => { c with unacked := [{ x with last := s.now }] }) ∧
      t.out.head? = some (.stream x.seq x.recs))) ∧
  (∀ (s : State) (n : Nat) (b : Count),
    s.getN Obj.CS_STATE = 3 ∧ s.cs.sentAt.head? = some (n, b) ∧ b + 50 * msC ≤ s.now →
    Gives .streamResync s (fun t =>
      t.getN Obj.CS_STATE = 4 ∧ t.cs.full = 0 ∧ t.cs.since = s.now ∧ t.helm.plans = [])) ∧
  (∀ (s : State) (x : SentMsg),
    s.getN Obj.CS_STATE = 2 ∧ s.cs.unacked.head? = some x ∧ x.first + 50 * msC ≤ s.now →
    Gives .streamResync s (fun t =>
      t.cs.unacked = [] ∧ t.getN Obj.CS_STREAM_BACKLOG = 0)) ∧
  (∀ (s : State) (q : Pulse),
    s.getN Obj.CS_STATE = 4 ∧ s.cs.full = 2 ∧ s.cs.pulse = some q ∧ q.sent ≤ s.cs.acked ∧ q.state = 2 ∧
    s.mg.fifos.length = 8 →
    Gives .resyncDone s (fun t =>
      t.getN Obj.CS_STATE = 3 ∧ t.cs.since = s.now ∧
      Raised t 0x7106 0 (be 4 ((s.now - s.cs.since) / msC) ++ be 4 s.cs.resyncRecs)))

/-- Revert, handover and the clearing of the output fault (R322, R325, R326, R331). -/
def Obligations.HandoversComplete : Prop :=
  (∀ (s : State) (e : Count),
    s.getN Obj.CS_PAIRSEL = 1 ∧ s.getN Obj.CS_STATE = 3 ∧ s.getB Obj.CS_OUTPUT_FAULT = false ∧
    s.getN Obj.CS_REVERT_HOLD ≠ 0 ∧ s.cs.handover = none ∧ s.cs.holdSince = some e ∧
    e + s.getN Obj.CS_REVERT_HOLD * secC ≤ s.now →
    Gives .revertStart s (fun t =>
      t = { s with cs := { s.cs with handover := some { at' := s.handoverAt, revert := true, byProc := false } } })) ∧
  (∀ (s : State) (h : Handover),
    s.cs.handover = some h ∧ h.at' ≤ s.time ∧ s.getN Obj.CS_STATE = 3 →
    Gives .handoverInstant s (fun t =>
      t.getN Obj.CS_STATE = 2 ∧ t.cs.handover = none ∧ Bumped s t Obj.CS_TAKEOVERS ∧ t.get Obj.CS_LAST_FAULT = t64 h.at')) ∧
  (∀ (s : State) (h : Handover),
    s.cs.handover = some h ∧ h.at' ≤ s.time ∧ s.getN Obj.CS_STATE = 2 →
    Gives .handoverInstant s (fun t =>
      t.getN Obj.CS_STATE = 3 ∧ t.cs.handover = none ∧ Bumped s t Obj.CS_YIELDS)) ∧
  (∀ (s : State) (r : Req) (q : Pulse),
    CanStart s r Obj.CONSORT_HANDOVER 1 ∧ s.getN Obj.CS_STATE = 2 ∧ s.getN Obj.CS_PARTNER_STATE = 3 ∧ s.cs.pulse = some q ∧
    q.outFault = false →
    Gives (.consortHandover r (.uint 0)) s (fun t =>
      t.cs.handover = some { at' := s.handoverAt, revert := false, byProc := true } ∧ Starts s t r Obj.CONSORT_HANDOVER)) ∧
  (∀ (s : State) (r : Req) (w : Wire) (v : Val),
    Takes s r 0x7400 9 w v →
    Gives (.csFaultClear r w) s (fun t =>
      t.getB Obj.CS_OUTPUT_FAULT = false ∧ Replied t r coapChanged .none))

/-- PTP and PPS (R339, R340, R341, R342, R343). -/
def Obligations.PtpAndPpsComplete : Prop :=
  (∀ (s : State) (p : Nat) (ident : Octets) (m : SyncTimes) (li : Int) (a : Announce),
    -7 ≤ li ∧ li ≤ 1 ∧ p < 2 ∧ p < s.sx.ptp.length ∧ s.isOn 3 = true ∧ s.getN (Obj.TT_PTP_STATE p) = 9 ∧
    s.sx.selected = some a ∧ a.ident = ident →
    Gives (.ptpSyncMeasurement p ident m li) s (fun t =>
      t.getI Obj.PTP_OFFSET = ((s.mdiRx p m.group m.pos : Int) - m.origin) / 65536 - s.ptpMean p ∧
      t.getN Obj.PTP_MASTER_PORT = p ∧ (nth t.sx.ptp p).lastSync = some s.now)) ∧
  (∀ (s : State) (p : Nat) (ident : Octets) (m : SyncTimes) (li : Int) (a : Announce),
    -7 ≤ li ∧ li ≤ 1 ∧ p < 2 ∧ p < s.sx.ptp.length ∧ s.isOn 3 = true ∧ s.getN (Obj.TT_PTP_STATE p) = 8 ∧
    s.sx.selected = some a ∧ a.ident = ident ∧ s.sx.syncs + 1 < s.getN Obj.PTP_QUALIFY →
    Gives (.ptpSyncMeasurement p ident m li) s (fun t =>
      t.sx.syncs = s.sx.syncs + 1 ∧ t.getN (Obj.TT_PTP_STATE p) = 8 ∧ t.sx.offset = s.sx.offset)) ∧
  (∀ (s : State) (p : Nat) (a : Announce),
    p < 2 ∧ s.isOn 3 = true ∧ s.getN (Obj.TT_LINK_STATE p) = 4 ∧ a.domain = s.getN Obj.PTP_DOMAIN ∧ s.mg.busy = false ∧
    s.sx.selected = none ∧ s.sx.masters = [] ∧ -3 ≤ a.logInt ∧ a.logInt ≤ 3 →
    Gives (.ptpAnnounce p a) s (fun t =>
      t.sx.selected = some a ∧ t.sx.syncs = 0 ∧ t.sx.masters = [{ ann := a, port := p, heard := s.now }] ∧
      t.get Obj.PTP_MASTER_ID = .octets (fit 10 a.ident) ∧ t.getI Obj.SX_UTC_OFFSET = a.utc)) ∧
  (∀ (s : State) (p : Nat) (e : Count),
    p < 2 ∧ s.isOn 3 = true ∧ s.getN (Obj.TT_PTP_STATE p) = 9 ∧ (nth s.sx.ptp p).lastSync = some e ∧
    e + 3 * (nth s.sx.ptp p).syncInt ≤ s.now ∧ s.getN (Obj.TT_PTP_STATE (1 - p)) = 3 →
    Gives (.ptpMasterLoss p) s (fun t =>
      t.getN (Obj.TT_PTP_STATE p) = 4 ∧ t.sx.selected = none ∧ t.getN Obj.PTP_MASTER_PORT = 0xFF)) ∧
  (∀ (s : State) (p : Nat),
    p < 2 ∧ s.isOn 3 = true ∧ s.getN (Obj.TT_LINK_STATE p) = 4 ∧ s.getN (Obj.TT_PTP_DELAY_MECH p) = 1 ∧
    (nth s.sx.ptp p).askedAt.elim true (fun x => decide (x + logNs (s.getI Obj.PTP_PDELAY_LOG) ≤ s.now)) = true →
    Gives (.delayReqSend p) s (fun t =>
      t.sx = (s.updPtp p (fun x => { x with asked := some (s.mdiTx p).1, askedAt := some s.now })).sx ∧
      t.out = .line 8 p [1, s.getN Obj.PTP_TRANSPORT, s.getN Obj.PTP_DOMAIN, (s.mdiTx p).1] :: s.out ∧ t.obj = s.obj ∧
      t.now = s.now)) ∧
  (∀ (s : State) (p : Nat),
    p < 2 ∧ s.isOn 3 = true ∧ s.getN (Obj.TT_LINK_STATE p) = 4 ∧ s.getN (Obj.TT_PTP_DELAY_MECH p) ≠ 1 ∧
    7 ≤ s.getN (Obj.TT_PTP_STATE p) ∧
    (nth s.sx.ptp p).askedAt.elim true (fun x => decide (x + logNs (nth s.sx.ptp p).askLog ≤ s.now)) = true →
    Gives (.delayReqSend p) s (fun t =>
      t.sx = (s.updPtp p (fun x => { x with asked := some (s.mdiTx p).1, askedAt := some s.now })).sx ∧
      t.out = .line 8 p [0, s.getN Obj.PTP_TRANSPORT, s.getN Obj.PTP_DOMAIN, (s.mdiTx p).1] :: s.out ∧ t.obj = s.obj ∧
      t.now = s.now)) ∧
  (∀ (s : State) (b : Bool),
    s.isOn 3 = true ∧ (s.getN Obj.SX_PPS_IN_EDGE == 0) = b ∧ s.getN Obj.SX_SOURCE ≠ 2 →
    Gives (.ppsInEdge b) s (fun t =>
      t.get Obj.SX_PPS_IN_STAMP = t64 s.time ∧ t.sx.ppsLast = some s.time ∧ t.sx.ppsLastAt = some s.now ∧
      t.sx.offset = s.sx.offset)) ∧
  (∀ (s : State) (b : Bool) (n : Nat) (u : Nat),
    s.isOn 3 = true ∧ (s.getN Obj.SX_PPS_IN_EDGE == 0) = b ∧ s.getN Obj.SX_SOURCE = 2 ∧ s.sx.setPending = some (n, u) →
    Gives (.ppsInEdge b) s (fun t =>
      t.sx.setPending = none ∧ t.sx.offset = (n : Int) * (secT : Int) ∧ t.sx.base = s.now ∧ t.getB Obj.SX_TIME_VALID = true)) ∧
  (∀ (s : State) (e : Count),
    s.sx.ppsLastAt = some e ∧ s.isOn 3 = true ∧ s.getN Obj.SX_SOURCE = 2 ∧ e + 1500 * msC ≤ s.now ∧
    s.getN Obj.SX_STATE = 2 →
    Gives .ppsInLost s (fun t =>
      t.sx.ppsLastAt = none ∧ t.sx.ppsEdges = 0 ∧ t.getN Obj.SX_STATE = 3)) ∧
  (∀ (s : State),
    s.isOn 3 = true ∧ s.sx.ppsOut = false ∧ s.ppsMay = true ∧ s.timeAt (s.now - 1) < (s.time / secT * secT : Nat) ∧
    s.sx.ppsHas (s.time / secT) = false →
    Gives .ppsOutEdge s (fun t =>
      t = { s with sx := { s.sx with ppsOut := true, ppsRise := s.now, ppsDone := ppsAdd (s.time / secT) s.sx.ppsDone } })) ∧
  (∀ (s : State),
    s.isOn 3 = true ∧ s.sx.ppsOut = true ∧ s.sx.ppsRise + s.getN Obj.SX_PPS_WIDTH * msC ≤ s.now →
    Gives .ppsOutEdge s (fun t =>
      t = { s with sx := { s.sx with ppsOut := false } }))

/-- Writes of Sextant: its source, its rate, and a set time (R334, R337, R363). -/
def Obligations.SextantWritesComplete : Prop :=
  (∀ (s : State) (r : Req) (w : Wire) (v : Val),
    Takes s r 0x8000 7 w v →
    Gives (.sxSourceWrite r w) s (fun t =>
      t.get Obj.SX_SOURCE = v ∧ t.getN Obj.SX_STATE = (if v.toInt.toNat = 0 then 0 else 3) ∧ t.sx.setPending = none ∧
      Replied t r coapChanged .none)) ∧
  (∀ (s : State) (r : Req) (w : Wire) (v : Val),
    Takes s r 0x8000 3 w v →
    Gives (.sxRateWrite r w) s (fun t =>
      t.getI Obj.SX_RATE = clampI (-s.rateMax) s.rateMax v.toInt ∧ t.sx.offset = s.timeAt s.now ∧ t.sx.base = s.now ∧
      Replied t r coapChanged .none)) ∧
  (∀ (s : State) (r : Req) (o : Octets),
    Takes s r 0x8000 8 (.bytes o) (.octets o) ∧ fld o 0 1 = 0 ∧ s.sxSetBad o = none ∧ s.getN Obj.SX_SOURCE ≠ 2 →
    Gives (.sxSetAbsolute r (.bytes o)) s (fun t =>
      t.sx.offset = (ofT64Octets (slice o 4 12) : Int) ∧ t.sx.base = s.now ∧ t.getB Obj.SX_TIME_VALID = true ∧
      t.sx.u0 = fld o 16 4 ∧ Bumped s t Obj.SX_STEPS ∧ Replied t r coapChanged .none)) ∧
  (∀ (s : State) (r : Req) (o : Octets),
    Takes s r 0x8000 8 (.bytes o) (.octets o) ∧ fld o 0 1 = 0 ∧ s.sxSetBad o = none ∧ s.getN Obj.SX_SOURCE = 2 →
    Gives (.sxSetAbsolute r (.bytes o)) s (fun t =>
      t.sx.setPending = some (fld o 4 6, fld o 16 4) ∧ t.sx.offset = s.sx.offset ∧ Replied t r coapChanged .none)) ∧
  (∀ (s : State) (r : Req) (o : Octets),
    Takes s r 0x8000 8 (.bytes o) (.octets o) ∧ fld o 0 1 = 1 →
    Gives (.sxSetRelative r (.bytes o)) s (fun t =>
      t.sx.offset = s.timeAt s.now + numI (slice o 4 8) * 65536 ∧ t.sx.base = s.now ∧ Bumped s t Obj.SX_STEPS ∧
      Replied t r coapChanged .none))

/-- The slow counter, its ratio, and the reconciliation of COUNT (R346, R347, R348, R349). -/
def Obligations.SlowTimeCompletes : Prop :=
  (∀ (s : State),
    s.sx.pll = true →
    Gives .slowTickLatch s (fun t =>
      t.sx.slow = (s.sx.slow + 1) % 2 ^ 48 ∧ t.sx.pair.tick = (s.sx.slow + 1) % 2 ^ 48 ∧ t.sx.pair.count = s.now ∧
      t.sx.runTicks = s.sx.runTicks + 1 ∧ t.sx.calRun = true)) ∧
  (∀ (s : State),
    s.sx.pll = false →
    Gives .slowTickLatch s (fun t =>
      t.sx.slow = (s.sx.slow + 1) % 2 ^ 48 ∧ t.sx.pair = s.sx.pair ∧ t.sx.calRun = true)) ∧
  (∀ (s : State),
    s.sx.pll = true ∧ 32768 ≤ s.sx.runTicks →
    Gives .slowRatioMeasure s (fun t =>
      t.getN Obj.SX_SLOW_RATIO = (s.sx.pair.count - s.sx.runStart) * 65536 / s.sx.runTicks % 2 ^ 32 ∧
      t.sx.ratioMeasured = true ∧ t.sx.runTicks = 0 ∧ t.sx.runStart = s.sx.pair.count)) ∧
  (∀ (s : State) (n : Nat),
    s.sx.pll = false ∧ s.rst.pll = true ∧ s.sx.aonLost = false ∧ s.sx.first = false →
    Gives (.sextantReconcile n) s (fun t =>
      t.now = s.sx.pair.count + (2 * (((s.sx.slow + n) % 2 ^ 48 + 2 ^ 48 - s.sx.pair.tick) % 2 ^ 48 * s.getN Obj.SX_SLOW_RATIO) + 65536) / 131072 ∧
      t.sx.pll = true ∧ t.sx.slow = (s.sx.slow + n) % 2 ^ 48)) ∧
  (∀ (s : State) (n : Nat),
    s.sx.pll = false ∧ s.rst.pll = true ∧ (s.sx.aonLost = true ∨ s.sx.first = true) →
    Gives (.sextantReconcile n) s (fun t =>
      t.now = s.sx.saved.count ∧ t.sx.offset = (s.sx.saved.offset : Int) + 0 ∧ t.sx.pll = true ∧ t.sx.aonLost = false ∧
      t.sx.first = false ∧ t.getB Obj.SX_TIME_VALID = false))

/-- The calendar: its carry, its crystal, its trim, and its writes and reads (R351, R352, R353, R354, R355, R358). -/
def Obligations.CalendarCompletes : Prop :=
  (∀ (s : State),
    s.calCounts = true ∧
    (dayNo (nth s.calNow 0) (nth s.calNow 1) (nth s.calNow 2) * 86400 + nth s.calNow 3 * 3600 + nth s.calNow 4 * 60 + nth s.calNow 5 + 1) < 31556995200 →
    Gives .calCarry s (fun t =>
      t.calNow = calFields (dayNo (nth s.calNow 0) (nth s.calNow 1) (nth s.calNow 2) * 86400 + nth s.calNow 3 * 3600 + nth s.calNow 4 * 60 + nth s.calNow 5 + 1) ∧
      t.getN Obj.CAL_SUBSEC = 0)) ∧
  (∀ (s : State),
    s.getB Obj.CAL_OSF = false ∧ s.mg.fifos.length = 8 →
    Gives .calOscStopped s (fun t =>
      t.getB Obj.CAL_OSF = true ∧ t.sx.calRun = false ∧ Raised t 0x1401 2 (be 1 1))) ∧
  (∀ (s : State),
    s.calCounts = true ∧ bit (s.getN Obj.TRIM_STATUS) 0 = false ∧ 0 ≤ s.getI Obj.CAL_TRIM ∧
    s.getN Obj.CAL_SUBSEC + (s.getI Obj.CAL_TRIM).toNat < 32768 →
    Gives .calTrimApply s (fun t =>
      t.getN Obj.CAL_SUBSEC = s.getN Obj.CAL_SUBSEC + (s.getI Obj.CAL_TRIM).toNat ∧ t.sx = s.sx)) ∧
  (∀ (s : State),
    s.calCounts = true ∧ bit (s.getN Obj.TRIM_STATUS) 0 = false ∧ s.getI Obj.CAL_TRIM < 0 →
    Gives .calTrimApply s (fun t =>
      t = { s with sx := { s.sx with withheld := s.sx.withheld + (s.getI Obj.CAL_TRIM).natAbs } })) ∧
  (∀ (s : State),
    s.getB Obj.CAL_TRIM_AUTO = true ∧ s.getN Obj.SX_STATE = 2 ∧ s.sx.trimAt + 1024 * secC ≤ s.now →
    Gives .calTrimAutoUpdate s (fun t =>
      t.getI Obj.CAL_TRIM = trimOf (s.getN Obj.SX_SLOW_RATIO) (s.getI Obj.SX_RATE) ∧ t.sx.trimAt = s.now ∧
      (t.lb.journal.head?.map (fun j => (j.kind, j.session, j.index, j.sub))) = some (1, 0, 0x2400, 0x0E))) ∧
  (∀ (s : State) (r : Req) (w : Wire) (v : Val),
    Takes s r 0x2400 9 w v ∧ dateOk (calParse v.toOctets) = true →
    Gives (.calSet r w) s (fun t =>
      t.calNow.take 6 = (calParse v.toOctets).take 6 ∧ t.getN Obj.CAL_SUBSEC = 0 ∧ t.getB Obj.CAL_END = false ∧
      Replied t r coapChanged .none)) ∧
  (∀ (s : State) (r : Req) (b : Bool),
    Takes s r 0x2400 0x0A (.bool b) (.bool b) ∧ s.getB Obj.CAL_HALT = !b →
    Gives (.calHaltWrite r (.bool b)) s (fun t =>
      t.getB Obj.CAL_HALT = b ∧ (b = false → t.getN Obj.CAL_SUBSEC = 0) ∧ Replied t r coapChanged .none)) ∧
  (∀ (s : State) (r : Req) (w : Wire) (v : Val),
    Takes s r 0x2400 0x0B w v →
    Gives (.calOsfClear r w) s (fun t =>
      t.getB Obj.CAL_OSF = false ∧ Replied t r coapChanged .none)) ∧
  (∀ (s : State) (r : Req) (w : Wire) (v : Val),
    Takes s r 0x2400 0x10 w v ∧ alarmOk v.toOctets = true →
    Gives (.calAlarmWrite r w) s (fun t =>
      t.get Obj.CAL_ALARM = .octets (v.toOctets.take 7 ++ be 1 (fld v.toOctets 7 1 % 128)) ∧ Replied t r coapChanged .none)) ∧
  (∀ (s : State) (r : Req) (n : Nat) (x : Session),
    Ready s r ∧ s.isOn 0 = true ∧ 1 ≤ n ∧ n ≤ 8 ∧ s.session? 0 = some x ∧ x.shadow = none →
    Gives (.calFieldRead r n) s (fun t =>
      Replied t r coapContent (.value (.int ((nth (s.calNow ++ [s.getN Obj.CAL_SUBSEC]) (n - 1) : Nat) : Int))) ∧
      (t.session 0).shadow = (if n = 8 then none else some { fields := s.calNow ++ [s.getN Obj.CAL_SUBSEC], since := s.now }) ∧
      t.obj = s.obj)) ∧
  (∀ (s : State) (n : Nat) (x : Session) (y : CalShadow),
    s.session? n = some x ∧ x.shadow = some y ∧ y.since + secC ≤ s.now →
    Gives (.calShadowRelease n) s (fun t =>
      (t.session n).shadow = none ∧ t.obj = s.obj)) ∧
  (∀ (s : State) (r : Req) (n : Nat),
    CanStart s r Obj.CAL_FROM_SEXTANT 0 ∧ n < 2 ^ 31 →
    Gives (.calFromSextant r (.uint n)) s (fun t =>
      t.sx.fromSext = some (s.time / secT + 1, (n : Int)) ∧ Starts s t r Obj.CAL_FROM_SEXTANT)) ∧
  (∀ (s : State) (sec : Nat) (off : Int),
    s.sx.fromSext = some (sec, off) ∧ s.procRunning Obj.CAL_FROM_SEXTANT = true ∧ sec * secT ≤ s.time ∧
    s.getB Obj.SX_TIME_VALID = true ∧ 0 ≤ (sec : Int) + off ∧ (sec : Int) + off ≤ 31556995199 →
    Gives .calFromSextantApply s (fun t =>
      t.sx.fromSext = none ∧ t.procState Obj.CAL_FROM_SEXTANT = 2 ∧
      t.calNow.take 6 = (calFields ((sec : Int) + off).toNat).take 6))

/-- Keys of Binnacle: imports, replacements, their commit, removal (R378, R382, R383, R384, R385, R387). -/
def Obligations.KeysComplete : Prop :=
  (∀ (s : State) (r : Req) (material : Octets) (o : Octets),
    CanStart s r Obj.BN_IMPORT 1 ∧ (o.length = 1648 ∨ o.length = 1696) ∧
    s.keyBad false true true o (keyOf o (s.getO Obj.BN_MEAS) material (s.getN Obj.LB_BOOT_COUNT)) = none →
    Gives (.bnImport r true material (.bytes o)) s (fun t =>
      t.bn.imports = s.bn.imports ++ [{ replace := false, new := keyOf o (s.getO Obj.BN_MEAS) material (s.getN Obj.LB_BOOT_COUNT), old := ((s.inForce (fld o 3 1) (fld o 8 8)).elim 0 (·.gen)), prepared := true, handle := Obj.BN_IMPORT * 65536 + nextStart (s.startCount Obj.BN_IMPORT) }] ∧
      (t.bn.journal.head?.map (fun j => (j.op, j.kind, j.keyId, j.newGen))) = some (1, fld o 3 1, fld o 8 8, fld o 16 4) ∧
      t.bn.records = s.bn.records ∧ Starts s t r Obj.BN_IMPORT)) ∧
  (∀ (s : State) (r : Req) (material : Octets) (o : Octets),
    CanStart s r Obj.BN_REPLACE 1 ∧ (o.length = 1664 ∨ o.length = 1712) ∧
    s.keyBad true true true o (keyOf o (s.getO Obj.BN_MEAS) material (s.getN Obj.LB_BOOT_COUNT)) = none ∧
    s.keyWaits true (fld o 3 1) = false →
    Gives (.bnReplace r true true material (.bytes o)) s (fun t =>
      t.bn.imports = s.bn.imports ++ [{ replace := true, new := keyOf o (s.getO Obj.BN_MEAS) material (s.getN Obj.LB_BOOT_COUNT), old := ((s.inForce (fld o 3 1) (fld o 8 8)).elim 0 (·.gen)), prepared := true, handle := Obj.BN_REPLACE * 65536 + nextStart (s.startCount Obj.BN_REPLACE) }] ∧
      (t.bn.journal.head?.map (fun j => (j.op, j.kind, j.keyId, j.newGen))) = some (1, fld o 3 1, fld o 8 8, fld o 16 4) ∧
      t.bn.records = s.bn.records ∧ Starts s t r Obj.BN_REPLACE)) ∧
  (∀ (s : State) (i : Nat) (x : ImportRun),
    s.bn.imports[i]? = some x ∧ s.isOn 1 = true ∧ s.bn.badBlocks < 3 ∧ x.prepared = true ∧ x.replace = false ∧
    s.mg.fifos.length = 8 →
    Gives (.keyCommit i) s (fun t =>
      t.bn.records.take s.bn.records.length = s.bn.records ∧
      (t.bn.records.drop s.bn.records.length).map (fun k => { k with iv := x.new.iv }) = s.sealings.map (fun m => { x.new with meas := m }) ∧
      (∀ y ∈ t.bn.imports, y.handle ≠ x.handle) ∧
      (t.bn.journal.head?.map (fun j => (j.op, j.kind, j.keyId, j.newGen, j.handle))) = some (2, x.new.kind, x.new.keyId, x.new.gen, x.handle) ∧
      Raised t 0x2010 0 (be 1 x.new.kind ++ be 1 0 ++ be 8 x.new.keyId ++ be 4 x.new.gen ++ be 4 x.handle))) ∧
  (∀ (s : State) (i : Nat) (x : ImportRun),
    s.bn.imports[i]? = some x ∧ s.isOn 1 = true ∧ s.bn.badBlocks < 3 ∧ x.prepared = true ∧ x.replace = true ∧
    x.old < x.new.gen ∧ (s.alm.nodes.any (fun n => n.keyId == x.new.keyId && n.keyGen == x.old)) = false ∧
    s.mg.fifos.length = 8 →
    Gives (.keyCommit i) s (fun t =>
      (∀ m ∈ s.sealings, ∃ k ∈ t.bn.records, { k with iv := x.new.iv } = { x.new with meas := m }) ∧
      (∀ y ∈ t.bn.records, y.kind = x.new.kind → y.keyId = x.new.keyId → y.gen ≠ x.old) ∧
      (t.bn.journal.head?.map (fun j => (j.op, j.kind, j.keyId, j.oldGen, j.newGen))) = some (3, x.new.kind, x.new.keyId, x.old, x.new.gen) ∧
      Raised t 0x2010 0 (be 1 x.new.kind ++ be 1 1 ++ be 8 x.new.keyId ++ be 4 x.new.gen ++ be 4 x.handle))) ∧
  (∀ (s : State) (r : Req) (o : Octets),
    CanStart s r Obj.BN_REMOVE 1 ∧ o.length = 9 ∧ 1 ≤ fld o 0 1 ∧ fld o 0 1 ≤ 4 ∧
    s.removeBad (fld o 0 1) (fld o 1 8) = none ∧ s.mg.fifos.length = 8 →
    Gives (.bnRemove r (.bytes o)) s (fun t =>
      (∀ y ∈ t.bn.records, y.kind = fld o 0 1 → y.keyId ≠ fld o 1 8) ∧
      (∀ y ∈ s.bn.records, (y.kind ≠ fld o 0 1 ∨ y.keyId ≠ fld o 1 8) → y ∈ t.bn.records) ∧
      (t.bn.journal.head?.map (fun j => (j.op, j.kind, j.keyId))) = some (5, fld o 0 1, fld o 1 8) ∧
      t.procState Obj.BN_REMOVE = 2 ∧
      Replied t r coapChanged (.handle (Obj.BN_REMOVE * 65536 + nextStart (s.startCount Obj.BN_REMOVE))) ∧
      Raised t 0x2010 0 (be 1 (fld o 0 1) ++ be 1 2 ++ be 8 (fld o 1 8) ++ be 4 0xFFFFFFFF ++ be 4 (Obj.BN_REMOVE * 65536 + nextStart (s.startCount Obj.BN_REMOVE)))))

/-- Attestation, group keys, and the upkeep of Binnacle (R366, R367, R371, R372, R378, R379, R384, R388, R389). -/
def Obligations.BinnacleRestComplete : Prop :=
  (∀ (s : State) (r : Req) (o : Octets),
    CanStart s r Obj.BN_ATTEST 1 ∧ fld o 32 2 ≤ 64 ∧ o.length = 34 + 9 * fld o 32 2 →
    Gives (.bnAttest r (.bytes o)) s (fun t =>
      t.bn.attest = some (0, o) ∧ Starts s t r Obj.BN_ATTEST)) ∧
  (∀ (s : State) (n : Nat) (o : Octets),
    s.bn.attest = some (n, o) ∧ s.binnacleSound = true ∧ (s.session? n).isSome = true ∧ s.procRunning Obj.BN_ATTEST = true →
    Gives .attestDone s (fun t =>
      t.bn.attest = none ∧ (t.session n).statement = s.statement o ∧ t.procState Obj.BN_ATTEST = 2)) ∧
  (∀ (s : State) (r : Req) (o : Octets),
    CanStart s r Obj.GROUP_ROLLOVER 1 ∧ o.length = 16 ∧ fld o 0 1 ≤ 3 ∧ fld o 1 1 ≠ 0 ∧ fld o 2 2 ≠ 0 ∧
    fld o 10 4 ≤ 999999999 ∧ ofT64Octets (slice o 4 12) ≤ s.time + 86400 * secT ∧
    (s.inForce kGroup (groupId (fld o 0 1) (fld o 1 1))).isSome = true ∧ s.groupTx (fld o 0 1) ≠ some (fld o 1 1) →
    Gives (.groupRollover r (.bytes o)) s (fun t =>
      t.bn.roll = some { pan := fld o 0 1, key := fld o 1 1, overlap := fld o 2 2, at' := s.rollAt o, switched := none } ∧
      t.bn.txKey = s.bn.txKey ∧ Starts s t r Obj.GROUP_ROLLOVER)) ∧
  (∀ (s : State) (x : Rollover),
    s.bn.roll = some x ∧ x.switched = none ∧ x.at' ≤ s.time ∧ x.pan < s.bn.txKey.length ∧ s.mg.fifos.length = 8 →
    Gives .groupKeySwitch s (fun t =>
      t.bn.txKey[x.pan]? = some (some x.key) ∧
      t.bn.roll = some { x with switched := some (s.now + x.overlap * secC, s.groupTx x.pan) } ∧
      t.bn.records = s.bn.records ∧
      Raised t 0x2010 0 (be 1 2 ++ be 1 3 ++ be 8 (groupId x.pan x.key) ++ be 4 ((s.inForce kGroup (groupId x.pan x.key)).elim 0xFFFFFFFF (·.gen)) ++ be 4 (s.procHandle Obj.GROUP_ROLLOVER)))) ∧
  (∀ (s : State) (x : Rollover) (e : Count) (k : Nat),
    s.bn.roll = some x ∧ x.switched = some (e, some k) ∧ e ≤ s.now ∧ (s.inForce kGroup (groupId x.pan k)).isSome = true ∧
    s.procRunning Obj.GROUP_ROLLOVER = true →
    Gives .groupOverlapEnd s (fun t =>
      t.bn.roll = none ∧ (∀ y ∈ t.bn.records, y.kind = kGroup → y.keyId ≠ groupId x.pan k) ∧
      (t.bn.journal.head?.map (fun j => (j.op, j.kind, j.keyId))) = some (5, kGroup, groupId x.pan k) ∧
      t.procState Obj.GROUP_ROLLOVER = 2)) ∧
  (∀ (s : State) (x : Rollover) (e : Count),
    s.bn.roll = some x ∧ x.switched = some (e, none) ∧ e ≤ s.now ∧ s.procRunning Obj.GROUP_ROLLOVER = true →
    Gives .groupOverlapEnd s (fun t =>
      t.bn = { s.bn with roll := none } ∧ t.procState Obj.GROUP_ROLLOVER = 2)) ∧
  (∀ (s : State),
    Gives .retainedGenExpiry s (fun t =>
      (∀ x ∈ t.bn.retained, s.now < x.until') ∧ (∀ x ∈ s.bn.retained, s.now < x.until' → x ∈ t.bn.retained) ∧
      t = { s with bn := { s.bn with retained := t.bn.retained } })) ∧
  (∀ (s : State),
    s.isOn 1 = true →
    Gives (.entropyBlock true) s (fun t =>
      t = { s with bn := { s.bn with badBlocks := 0 } })) ∧
  (∀ (s : State),
    s.isOn 1 = true ∧ s.bn.badBlocks = 2 ∧ s.mg.fifos.length = 8 →
    Gives (.entropyBlock false) s (fun t =>
      t.bn.badBlocks = 3 ∧ Raised t 0x2014 3 (be 1 1 ++ be 1 0xFF))) ∧
  (∀ (s : State),
    s.isOn 1 = true ∧ s.bn.badBlocks ≠ 2 →
    Gives (.entropyBlock false) s (fun t =>
      t = { s with bn := { s.bn with badBlocks := s.bn.badBlocks + 1 } })) ∧
  (∀ (s : State),
    s.isOn 1 = true →
    Gives .blobDirectoryRebuilt s (fun t =>
      t = { s with bn := { s.bn with directory := true } })) ∧
  (∀ (s : State) (n : Nat),
    s.isOn 1 = true →
    Gives (.sectorCompaction n) s (fun t =>
      t = { s with bn := { s.bn with erased := s.bn.erased - n } }))

/-- POWER_STATE_SET and POWER_MODE, and what they begin (R403, R404, R405, R406, R407, R408). -/
def Obligations.PowerRequestsComplete : Prop :=
  (∀ (s : State) (r : Req),
    CanStart s r Obj.POWER_STATE_SET 0 ∧ s.getN Obj.POWER_STATE = 2 →
    Gives (.enterFullService r (.uint 0)) s (fun t =>
      t.getN Obj.POWER_STATE = s.getN Obj.POWER_MODE ∧ t.getB Obj.LODESTAR_ACTIVE = false ∧
      t.pwr.modeInForce = s.getN Obj.POWER_MODE ∧ t.procState Obj.POWER_STATE_SET = 2 ∧
      Replied t r coapChanged (.handle (Obj.POWER_STATE_SET * 65536 + nextStart (s.startCount Obj.POWER_STATE_SET))))) ∧
  (∀ (s : State) (r : Req),
    CanStart s r Obj.POWER_STATE_SET 0 ∧ s.getN Obj.POWER_STATE ≠ 2 →
    Gives (.enterFullService r (.uint 0)) s (fun t =>
      t.getN Obj.POWER_STATE = s.getN Obj.POWER_STATE ∧ t.procState Obj.POWER_STATE_SET = 2 ∧
      Replied t r coapChanged (.handle (Obj.POWER_STATE_SET * 65536 + nextStart (s.startCount Obj.POWER_STATE_SET))))) ∧
  (∀ (s : State) (r : Req),
    CanStart s r Obj.POWER_STATE_SET 0 ∧ s.getN Obj.POWER_STATE ≠ 2 ∧ s.paired = false ∧ s.tackUnderWay = false →
    Gives (.enterHold r (.uint 1)) s (fun t =>
      t.pwr.holdWait = true ∧ t.getN Obj.POWER_STATE = s.getN Obj.POWER_STATE ∧ Starts s t r Obj.POWER_STATE_SET)) ∧
  (∀ (s : State),
    s.pwr.holdWait = true ∧ s.pilot.frames = [] ∧ s.pwr.anchor = none ∧ s.procRunning Obj.POWER_STATE_SET = true →
    Gives .holdEntry s (fun t =>
      t.pwr.holdWait = false ∧ t.getN Obj.POWER_STATE = 2 ∧ t.getB Obj.LODESTAR_ACTIVE = true ∧ t.rx.lodestar = true ∧
      t.pwr.modeInForce = 1 ∧ t.procState Obj.POWER_STATE_SET = 2)) ∧
  (∀ (s : State) (r : Req),
    CanStart s r Obj.POWER_STATE_SET 0 ∧ (∀ p ∈ List.range 4, s.getB (Obj.PN_ENABLE p) = false) ∧ s.pilot.frames = [] ∧
    s.getN Obj.SPOOL_FRAMES = 0 ∧ s.mg.running = [] ∧ s.tackUnderWay = false →
    Gives (.enterStandby r (.uint 2)) s (fun t =>
      t.pwr.entry = some { step := 1, t0 := s.now, from' := s.getN Obj.POWER_STATE, abort := false } ∧
      t.pwr.woken = false ∧ t.getN Obj.POWER_STATE = 3 ∧ t.getN Obj.WAKE_CAUSE = 0 ∧ Starts s t r Obj.POWER_STATE_SET)) ∧
  (∀ (s : State),
    s.getN Obj.POWER_STATE = 2 ∧ s.cond 2 = .on ∧ s.mg.busy = false ∧ s.mg.running = [] ∧
    s.pwr.lastRequest + s.getN Obj.HOLD_CORE_IDLE * msC ≤ s.now →
    Gives .coreIdleRetention s (fun t =>
      t = s.setCond 2 .retention)) ∧
  (∀ (s : State) (r : Req) (w : Wire) (v : Val),
    Takes s r 0x2000 1 w v ∧ (s.helm.pans.any (·.running)) = true →
    Gives (.powerModeWrite r w) s (fun t =>
      t.get Obj.POWER_MODE = v ∧ t.pwr.modeFrom = some (s.now + msC) ∧ t.getN Obj.POWER_STATE = s.getN Obj.POWER_STATE ∧
      Replied t r coapChanged .none)) ∧
  (∀ (s : State) (r : Req) (w : Wire) (v : Val),
    Takes s r 0x2000 1 w v ∧ (s.helm.pans.any (·.running)) = false ∧ s.getN Obj.POWER_STATE < 2 ∧
    v.toInt.toNat ≠ s.getN Obj.POWER_STATE →
    Gives (.powerModeWrite r w) s (fun t =>
      t.get Obj.POWER_MODE = v ∧ t.getN Obj.POWER_STATE = v.toInt.toNat ∧ t.pwr.modeInForce = v.toInt.toNat ∧
      t.pwr.modeFrom = none ∧ Replied t r coapChanged .none))

/-- Wake sources and the wake (R410, R411, R412). -/
def Obligations.WakeComplete : Prop :=
  (∀ (s : State) (n : Nat),
    s.getN Obj.OOK_WAKE_CODE = n ∧ bit (s.getN Obj.WAKE_ENABLE) 0 = true ∧ s.watching = true →
    Gives (.ookPatternMatch (ookChips n)) s (fun t =>
      bit (t.getN Obj.WAKE_CAUSE) 2 = true ∧ t.pwr.woken = true ∧ t.pwr.standby = s.pwr.standby)) ∧
  (∀ (s : State) (chips : List Bool),
    chips.length = 40 ∧ chips.take 8 = ookSync ∧ chips ≠ ookChips (s.getN Obj.OOK_WAKE_CODE) ∧
    bit (s.getN Obj.WAKE_ENABLE) 0 = true ∧ s.watching = true →
    Gives (.ookPatternMatch chips) s (fun t =>
      Bumped s t Obj.OOK_PARTIAL ∧ t.pwr = s.pwr ∧ t.getN Obj.WAKE_CAUSE = s.getN Obj.WAKE_CAUSE)) ∧
  (∀ (s : State) (us : Nat),
    bit (s.getN Obj.WAKE_ENABLE) 1 = true ∧ 10 ≤ us ∧ s.watching = true →
    Gives (.wakeNLow us) s (fun t =>
      bit (t.getN Obj.WAKE_CAUSE) 4 = true ∧ t.pwr.woken = true ∧ t.pwr.standby = s.pwr.standby)) ∧
  (∀ (s : State),
    s.pwr.standby = true ∧ s.pwr.woken = true ∧ s.pwr.dom.length = 16 →
    Gives .wakeDeclared s (fun t =>
      t.pwr.standby = false ∧ t.pwr.woken = false ∧ t.pwr.wakeAt = some s.now ∧ t.cond 1 = .on ∧
      (∀ d ∈ List.range 16, 2 ≤ d → t.cond d = .reset) ∧ t.cond 0 = s.cond 0))

/-- The supply watch and Anchor (R413, R414, R415, R416, R417, R496). -/
def Obligations.SupplyComplete : Prop :=
  (∀ (s : State) (mv : Nat) (us : Nat),
    s.pwr.off = false ∧ 2 ≤ us ∧ s.pwr.warn = false ∧ s.maySink mv 900 = true ∧ s.mg.fifos.length = 8 →
    Gives (.vsenseWarn true mv us) s (fun t =>
      t.pwr.warn = true ∧ t.pwr.warnMin = min 1500 mv ∧ t.getN Obj.VSENSE_NOW = min 1500 mv ∧
      t.getN Obj.VSENSE_MIN = min (min 1500 mv) (s.getN Obj.VSENSE_MIN) ∧ Bumped s t Obj.VSENSE_WARNINGS ∧
      Raised t 0x1104 2 (be 1 0 ++ be 2 (min 1500 mv)))) ∧
  (∀ (s : State) (mv : Nat) (us : Nat),
    s.pwr.off = false ∧ 2 ≤ us ∧ s.pwr.warn = true ∧ s.mayRise mv 930 = true ∧ s.mg.fifos.length = 8 →
    Gives (.vsenseWarn false mv us) s (fun t =>
      t.pwr.warn = false ∧ t.getN Obj.VSENSE_NOW = min 1500 mv ∧
      Raised t 0x1104 2 (be 1 1 ++ be 2 (min (min 1500 mv) s.pwr.warnMin)))) ∧
  (∀ (s : State) (r : Req),
    Ready s r ∧ s.isOn 0 = true →
    Gives (.vsenseMinRead r) s (fun t =>
      Replied t r coapContent (.value (.int (s.getN Obj.VSENSE_MIN))) ∧ t.getN Obj.VSENSE_MIN = s.getN Obj.VSENSE_NOW)) ∧
  (∀ (s : State) (mv : Nat) (us : Nat),
    s.pwr.off = false ∧ 2 ≤ us ∧ s.maySink mv 820 = true ∧ s.pwr.anchor = none ∧ s.pwr.standby = false →
    Gives (.sagCrossing mv us) s (fun t =>
      t.rst.supply = false ∧ t.pwr.anchor = some { thermal := false, start := s.now, vsense := mv } ∧ t.pwr.entry = none ∧
      t.pwr.off = false)) ∧
  (∀ (s : State) (mv : Nat) (us : Nat),
    s.pwr.off = false ∧ 2 ≤ us ∧ s.maySink mv 820 = true ∧ s.pwr.anchor = none ∧ s.pwr.standby = true →
    Gives (.sagCrossing mv us) s (fun t =>
      t.pwr.off = true ∧ t.pwr.standby = false ∧ t.pwr.pfailN = false ∧ t.pwr.anchor = none)) ∧
  (∀ (s : State) (mv : Nat) (us : Nat),
    s.pwr.off = false ∧ 2 ≤ us ∧ s.pwr.anchor = none ∧ s.pwr.standby = false ∧ s.isOn 1 = true →
    Gives (.railBad mv us) s (fun t =>
      t.rst.supply = false ∧ t.pwr.anchor = some { thermal := false, start := s.now, vsense := mv } ∧ t.pwr.entry = none)) ∧
  (∀ (s : State) (a : Anchor),
    s.pwr.anchor = some a ∧ (s.rst.supply = false ∨ s.pwr.thermal = true) →
    Gives .anchorSaveDone s (fun t =>
      t.pwr.anchor = none ∧ t.pwr.off = true ∧ t.pwr.pfailN = false ∧
      t.pwr.anchorEv = some { outcome := 0, record := 8, micros := (s.now - a.start) / usC, vsense := a.vsense, trigger := b2n a.thermal })) ∧
  (∀ (s : State) (a : Anchor),
    s.pwr.anchor = some a ∧ s.rst.supply = true ∧ s.pwr.thermal = false ∧ s.pwr.off = false →
    Gives .anchorSaveDone s (fun t =>
      t.pwr.anchor = none ∧ t.pwr.off = false ∧ t.pwr.pfailN = false ∧ t.held srcSag = true ∧
      t.pwr.anchorEv = some { outcome := 2, record := 8, micros := (s.now - a.start) / usC, vsense := a.vsense, trigger := b2n a.thermal })) ∧
  (∀ (s : State) (n : Nat) (a : Anchor),
    s.pwr.anchor = some a ∧ n < 8 →
    Gives (.holdUpSupplyLoss n) s (fun t =>
      t.pwr.anchor = none ∧ t.pwr.off = true ∧ t.rst.supply = false ∧
      t.pwr.anchorEv = some { outcome := 1, record := n, micros := (s.now - a.start) / usC, vsense := a.vsense, trigger := b2n a.thermal })) ∧
  (∀ (s : State) (mv : Nat) (a : Anchor),
    s.rst.supply = false ∧ s.mayRise mv 930 = true ∧ s.pwr.anchor = some a →
    Gives (.supplyReturn mv) s (fun t =>
      t.rst.supply = true ∧ t.rst.metAt = s.now ∧ t.pwr.anchor = some a ∧ t.pwr.off = s.pwr.off ∧
      t.getN Obj.VSENSE_NOW = min 1500 mv)) ∧
  (∀ (s : State) (mv : Nat),
    s.rst.supply = false ∧ s.mayRise mv 930 = true ∧ s.pwr.anchor = none ∧ s.pwr.off = true ∧ s.pwr.thermal = false ∧
    s.pwr.dom.length = 16 →
    Gives (.supplyReturn mv) s (fun t =>
      t.rst.supply = true ∧ t.rst.metAt = s.now ∧ t.pwr.off = false ∧ (∀ d ∈ List.range 16, 1 ≤ d → t.cond d = .reset)))

/-- The thermal limits, the backup cell and the loss of PD0 AON (R27, R359, R417, R419, R420). -/
def Obligations.ThermalAndCellComplete : Prop :=
  (∀ (s : State) (tj : Int) (n : Nat),
    s.pwr.off = false ∧ 1250 < tj ∧ s.mg.fifos.length = 8 →
    Gives (.thermalLimit tj n) s (fun t =>
      Raised t 0x1108 2 (beI 2 tj ++ be 1 n ++ be 1 0) ∧ t.obj = s.obj)) ∧
  (∀ (s : State) (tj : Int) (n : Nat),
    s.pwr.off = false ∧ 1350 ≤ tj ∧ s.pwr.anchor = none ∧ s.pwr.standby = false →
    Gives (.thermalTrip tj n) s (fun t =>
      t.pwr.thermal = true ∧ t.pwr.anchor = some { thermal := true, start := s.now, vsense := s.getN Obj.VSENSE_NOW } ∧
      t.pwr.entry = none)) ∧
  (∀ (s : State) (tj : Int) (secs : Nat),
    s.pwr.thermal = true ∧ s.pwr.off = true ∧ tj ≤ 1100 ∧ 10 ≤ secs ∧ s.rst.supply = true →
    Gives (.thermalRecovery tj secs) s (fun t =>
      t.pwr.thermal = false ∧ t.pwr.off = false ∧ t.getN Obj.RESET_DETAIL = 3)) ∧
  (∀ (s : State) (mv : Nat),
    s.getN Obj.AON_SUPPLY = 0 ∧ s.pwr.vbatAt = none ∧ s.pwr.vbatLowAt = none ∧ min 4000 mv < s.getN Obj.VBAT_LOW_LIMIT ∧
    s.mg.fifos.length = 8 →
    Gives (.vbatMeasure mv) s (fun t =>
      t.getN Obj.VBAT_NOW = min 4000 mv ∧ t.pwr.vbatAt = some s.now ∧ t.pwr.vbatLowAt = some s.now ∧
      Raised t 0x1107 2 (be 2 (min 4000 mv)))) ∧
  (∀ (s : State) (mv : Nat),
    s.getN Obj.AON_SUPPLY = 0 ∧ s.pwr.vbatAt = none ∧ s.getN Obj.VBAT_LOW_LIMIT ≤ min 4000 mv →
    Gives (.vbatMeasure mv) s (fun t =>
      t.getN Obj.VBAT_NOW = min 4000 mv ∧ t.pwr.vbatAt = some s.now ∧ t.pwr.vbatLowAt = s.pwr.vbatLowAt ∧ t.mg = s.mg)) ∧
  (∀ (s : State) (vbat : Bool),
    Gives (.aonSupplyChange vbat) s (fun t =>
      t.getN Obj.AON_SUPPLY = b2n vbat ∧ t = { s with obj := t.obj })) ∧
  (∀ (s : State),
    Gives .aonBrownout s (fun t =>
      t.getB Obj.AON_LOST = true ∧ t.getB Obj.SX_TIME_VALID = false ∧ t.pwr.brownout = true ∧ t.pwr.aonCause = some 1 ∧
      t.sx.slow = 0 ∧ t.sx.aonLost = true ∧ t.calNow = [2000, 1, 1, 0, 0, 0, 6] ∧ t.held srcPora = true))

/-- The reset sources: PORA, PIN, WARM, CORE, DOMAIN, their holds (R424, R425, R426, R430, R454, R455). -/
def Obligations.ResetSourcesComplete : Prop :=
  (∀ (s : State),
    Gives .poraAssert s (fun t =>
      t.held srcPora = true ∧ t.getB Obj.AON_LOST = true ∧ t.pwr.aonCause = some (if s.sx.first then 0 else 2) ∧
      t.rst.supply = false ∧ t.sx.aonLost = true)) ∧
  (∀ (s : State) (x : Straps) (test : Bool) (supply : Bool),
    s.held srcPora = true ∧ s.pwr.dom.length = 16 →
    Gives (.poraRelease x test supply) s (fun t =>
      t.held srcPora = false ∧ t.rst.test = test ∧ t.rst.supply = supply ∧ t.rst.metAt = s.now ∧ t.pwr.brownout = false ∧
      t.pwr.pfailN = true ∧ t.cond 0 = .on ∧
      t.getN Obj.STRAPS = x.boot % 4 + 4 * (x.clkMode % 4) + 16 * (x.rstSeq % 2) + 32 * (x.pairSel % 4) ∧
      t.getN Obj.CS_PAIRSEL = x.pairSel % 4 ∧ t.sx.clkMode = x.clkMode % 4)) ∧
  (∀ (s : State) (ns : Nat),
    1000 ≤ ns ∧ s.pwr.anchor = none ∧ s.pwr.off = false ∧ s.pwr.dom.length = 16 →
    Gives (.pinAssert ns) s (fun t =>
      t.held srcPin = true ∧ t.mg.busy = true ∧ t.rst.pll = false ∧ (∀ d ∈ List.range 16, 1 ≤ d → t.cond d = .reset) ∧
      t.cond 0 = s.cond 0)) ∧
  (∀ (s : State) (ns : Nat),
    ns < 200 →
    Gives (.pinAssert ns) s (fun t =>
      t = s)) ∧
  (∀ (s : State) (ns : Nat),
    200 ≤ ns ∧ ns < 1000 →
    Gives (.pinAssert ns) s (fun t =>
      t.held srcPin = true ∨ t = { s with free := s.free + 1 })) ∧
  (∀ (s : State) (x : Straps),
    s.held srcPin = true →
    Gives (.pinRelease x) s (fun t =>
      t.held srcPin = false ∧ t.rst.metAt = s.now ∧
      t.getN Obj.STRAPS = x.boot % 4 + 4 * (x.clkMode % 4) + 16 * (x.rstSeq % 2) + 32 * (x.pairSel % 4) ∧ t.pwr = s.pwr)) ∧
  (∀ (s : State) (n : Nat),
    s.dead = false ∧ 5 ≤ n ∧ n ≤ 8 ∧ s.pwr.dom.length = 16 →
    Gives (.warmAssert n) s (fun t =>
      t.held srcWarm = true ∧ t.mg.busy = true ∧ (∀ d ∈ reach 3 0, t.cond d = .reset))) ∧
  (∀ (s : State) (e : Count),
    s.dead = false ∧ s.rst.warmAt = some e ∧ e ≤ s.now ∧ s.pwr.dom.length = 16 →
    Gives (.warmAssert 9) s (fun t =>
      t.held srcWarm = true ∧ t.mg.busy = true ∧ t.rst.warmAt = none ∧ (∀ d ∈ reach 3 0, t.cond d = .reset))) ∧
  (∀ (s : State),
    s.dead = false ∧ s.pwr.dom.length = 16 →
    Gives (.coreAssert 4) s (fun t =>
      t.held srcCore = true ∧ t.mg.busy = true ∧ t.cond 2 = .reset)) ∧
  (∀ (s : State),
    s.dead = false ∧ s.attachDue = true ∧ s.pwr.dom.length = 16 →
    Gives (.coreAssert 10) s (fun t =>
      t.held srcCore = true ∧ t.mg.busy = true ∧ t.cond 2 = .reset ∧ t.rst.attaching = some s.now ∧
      t.mg.attachBy = some (s.now + attachPause))) ∧
  (∀ (s : State),
    s.dead = false ∧ s.getN Obj.TACK_STAGE_NOW = 6 ∧ s.mg.busy = false ∧ s.pwr.dom.length = 16 →
    Gives (.coreAssert 11) s (fun t =>
      t.held srcCore = true ∧ t.mg.busy = true ∧ t.cond 2 = .reset ∧ t.rst.attaching = some s.now)) ∧
  (∀ (s : State) (n : Nat),
    s.dead = false ∧ s.isOn 3 = true ∧ s.pwr.dom.length = 16 →
    Gives (.helmLockstep n) s (fun t =>
      t.held srcWarm = true ∧ t.mg.busy = true ∧ (∀ d ∈ reach 3 0, t.cond d = .reset))) ∧
  (∀ (s : State) (r : Req),
    CanStart s r Obj.WARM_RESTART 0 →
    Gives (.warmRestart r (.bool true)) s (fun t =>
      t.rst.warmAt = some (s.now + msC) ∧ Starts s t r Obj.WARM_RESTART)) ∧
  (∀ (s : State) (r : Req) (d : Nat),
    CanStart s r Obj.DOMAIN_RESET 0 ∧ 3 ≤ d ∧ d ≤ 15 ∧ (d ≤ 5 → ∀ p ∈ List.range 4, s.getB (Obj.PN_ENABLE p) = false) ∧
    s.tackUnderWay = false ∧ s.domOnAir d = false ∧ s.pwr.dom.length = 16 →
    Gives (.domainReset r (.uint d)) s (fun t =>
      t.cond d = .reset ∧ t.held srcDomain = true ∧ t.rst.domNo = d ∧ t.rst.domWait = none ∧ Starts s t r Obj.DOMAIN_RESET)) ∧
  (∀ (s : State) (r : Req) (d : Nat),
    CanStart s r Obj.DOMAIN_RESET 0 ∧ 3 ≤ d ∧ d ≤ 15 ∧ (d ≤ 5 → ∀ p ∈ List.range 4, s.getB (Obj.PN_ENABLE p) = false) ∧
    s.tackUnderWay = false ∧ s.domOnAir d = true →
    Gives (.domainReset r (.uint d)) s (fun t =>
      t.rst.domWait = some d ∧ t.rst.holds = s.rst.holds ∧ Starts s t r Obj.DOMAIN_RESET)) ∧
  (∀ (s : State) (h : Hold),
    h ∈ s.rst.holds ∧ s.holdOver h = true →
    Gives .resetHoldEnd s (fun t =>
      h ∉ t.rst.holds ∧ (∀ x ∈ t.rst.holds, s.holdOver x = false) ∧ (∀ x ∈ s.rst.holds, s.holdOver x = false →
      x ∈ t.rst.holds) ∧ t.rst.metAt = s.now))

/-- Trim, the PLL, the release of domains (R427, R428, R429, R431, R432, R433, R27). -/
def Obligations.ClockAndReleaseComplete : Prop :=
  (∀ (s : State) (words : List TrimWord),
    s.rst.trimRun = true →
    Gives (.trimLoadDone words) s (fun t =>
      t.rst.trimRun = false ∧ t.getB Obj.TRIM_VALID = true ∧ t.rst.metAt = s.now ∧ (words = [] →
      t.getN Obj.TRIM_STATUS = 0 ∧ t.getN Obj.SEQ_GAP = 256))) ∧
  (∀ (s : State),
    s.rst.pll = false ∧ s.dead = false ∧ s.pwr.entry = none ∧ s.held srcPora = false ∧ s.held srcSag = false ∧
    s.held srcPin = false →
    Gives .pllLock s (fun t =>
      t = { s with rst := { s.rst with pll := true, metAt := s.now } })) ∧
  (∀ (s : State),
    s.rst.pll = true ∧ s.dead = false ∧ s.pwr.dom.length = 16 →
    Gives .refclkLoss s (fun t =>
      t.rst.pll = false ∧ t.mg.busy = true ∧ (∀ d ∈ List.range 16, 1 ≤ d → t.cond d = .reset) ∧ t.rst.holds = s.rst.holds)) ∧
  (∀ (s : State) (rootOk : Bool) (rd : List LbRead),
    s.mayRelease = true ∧ bit (s.getN Obj.STRAPS) 4 = true ∧ s.releasable.head? = some 5 ∧
    s.rst.metAt + s.cyclesNs (s.getN Obj.SEQ_GAP) ≤ s.now ∧ s.rst.domNo ≠ 5 ∧ s.pwr.dom.length = 16 →
    Gives (.domainRelease rootOk rd) s (fun t =>
      t.cond 5 = .on ∧ (∀ d ∈ List.range 16, d ≠ 5 → t.cond d = s.cond d) ∧ t.rst.metAt = s.now ∧ t.pwr.pfailN = true)) ∧
  (∀ (s : State) (rootOk : Bool) (rd : List LbRead),
    s.mayRelease = true ∧ bit (s.getN Obj.STRAPS) 4 = false ∧ s.releasable = [2] ∧ s.rst.metAt + s.cyclesNs 64 ≤ s.now ∧
    s.rst.attaching = none ∧ s.rst.domNo ≠ 2 ∧ s.pwr.dom.length = 16 →
    Gives (.domainRelease rootOk rd) s (fun t =>
      t.cond 2 = .on ∧ t.rst.coreRel = some s.now ∧ t.rst.image = none ∧ t.mg.attachBy = some (s.now + attachBound) ∧
      t.rst.metAt = s.now ∧ t.pwr.pfailN = true))

/-- Attach, Lodestar, the chart and Lookout (R79, R441, R442, R443, R444, R453). -/
def Obligations.AttachAndLookoutComplete : Prop :=
  (∀ (s : State) (i : Nat),
    s.dead = false ∧ s.isOn 1 = true ∧ s.isOn 2 = true ∧ s.isOn 3 = true ∧ s.isOn 4 = true ∧ s.mg.busy = true ∧
    s.rst.image = some i →
    Gives .firmwareAttach s (fun t =>
      t.mg.busy = false ∧ t.mg.attachBy = none ∧ t.rst.coreRel = none ∧ t.rst.fresh = true ∧ t.rst.reattach = [] ∧
      (∀ f ∈ t.mg.fifos, f.held = []))) ∧
  (∀ (s : State) (c : Chart),
    s.rst.lodestar = true ∧ s.isOn 3 = true ∧ s.pwr.wakeAt = none ∧ s.dead = false ∧ s.rst.chart = some c →
    Gives .lodestarStart s (fun t =>
      t.rst.lodestar = false ∧ t.getB Obj.LODESTAR_ACTIVE = true ∧ t.rx.lodestar = true ∧ t.helm.sfs = c.sfs ∧
      t.helm.cells = c.cells)) ∧
  (∀ (s : State),
    s.rst.lodestar = true ∧ s.isOn 3 = true ∧ s.pwr.wakeAt = none ∧ s.dead = false ∧ s.rst.chart = none →
    Gives .lodestarStart s (fun t =>
      t.rst.lodestar = false ∧ t.getB Obj.LODESTAR_ACTIVE = true ∧ t.rx.lodestar = true ∧ t.helm = s.helm)) ∧
  (∀ (s : State) (c : Chart),
    s.isOn 1 = true ∧ s.isOn 3 = true ∧ s.dead = false ∧ s.rst.chart = some c ∧
    (c.state.elim true (fun x => decide (x.time + secT ≤ s.time))) = true →
    Gives .chartStateWrite s (fun t =>
      (t.rst.chart.map (fun x => (x.gen, x.cells, x.state.map (fun y => (y.time, y.unc))))) = some (c.gen, c.cells, some (s.time, s.timeUnc)) ∧
      Bumped s t Obj.LB_COMMITS ∧ t.helm = s.helm)) ∧
  (∀ (s : State) (n : Nat),
    s.isOn 2 = true ∧ n < 4 ∧ n < s.rst.beats.length →
    Gives (.coreHeartbeat n) s (fun t =>
      t.rst.beats[n]? = some { last := s.now, warned := false } ∧ t = { s with rst := { s.rst with beats := t.rst.beats } })) ∧
  (∀ (s : State) (n : Nat),
    s.isOn 2 = true ∧ n < 4 ∧ (nth s.rst.beats n).warned = false ∧
    (nth s.rst.beats n).last + beatC + s.getN Obj.LOOKOUT_WARN_TIME * msC ≤ s.now ∧ n < s.rst.beats.length ∧
    s.mg.fifos.length = 8 →
    Gives (.lookoutWarn n) s (fun t =>
      (nth t.rst.beats n).warned = true ∧ t.rst.lookAt = some s.now ∧ Bumped s t Obj.LOOKOUT_WARNS ∧
      Raised t 0x1501 2 (be 1 n ++ be 4 ((s.now - ((nth s.rst.beats n).last + beatC)) / msC)))) ∧
  (∀ (s : State) (n : Nat),
    s.dead = false ∧ s.isOn 2 = true ∧ n < 4 ∧ (nth s.rst.beats n).last + s.getN Obj.LOOKOUT_CORE_TIME * msC ≤ s.now ∧
    s.pwr.dom.length = 16 ∧ s.mg.fifos.length = 8 →
    Gives (.lookoutLevel1 n) s (fun t =>
      t.held srcCore = true ∧ t.cond 2 = .reset ∧ t.mg.busy = true ∧ t.rst.l1 = s.now :: s.rst.l1 ∧
      t.rst.lookAt = some s.now ∧ Raised t 0x1502 3 (be 1 1 ++ be 1 0 ++ be 1 n))) ∧
  (∀ (s : State) (n : Nat) (e : Count),
    s.dead = false ∧ s.isOn 2 = true ∧ 4 ≤ n ∧ s.rst.coreRel = some e ∧ e + 2 * secC ≤ s.now ∧ s.pwr.dom.length = 16 ∧
    s.mg.fifos.length = 8 →
    Gives (.lookoutLevel1 n) s (fun t =>
      t.held srcCore = true ∧ t.cond 2 = .reset ∧ t.rst.l1 = s.now :: s.rst.l1 ∧
      Raised t 0x1502 3 (be 1 1 ++ be 1 1 ++ be 1 0xFF))) ∧
  (∀ (s : State) (n : Nat) (us : Nat),
    s.dead = false ∧ ((n = 2 ∧ 3 ≤ (s.rst.l1.filter (fun e => decide (s.now < e + 600 * secC))).length) ∨ (n = 3 ∧
    s.isOn 3 = true ∧ s.helmStall ≤ us) ∨ ((n = 4 ∨ n = 5) ∧ s.isOn 4 = true ∧ 1000 ≤ us)) ∧ s.pwr.dom.length = 16 ∧
    s.mg.fifos.length = 8 →
    Gives (.lookoutLevel2 { cause := n, us := us }) s (fun t =>
      t.held srcWarm = true ∧ (∀ d ∈ reach 3 0, t.cond d = .reset) ∧ t.rst.l1 = [] ∧ t.rst.lookAt = some s.now ∧
      Raised t 0x1502 3 (be 1 2 ++ be 1 n ++ be 1 0xFF)))

/-- The boot ROM: what it starts, and the Quay download (R434, R437, R438, R439). -/
def Obligations.BootComplete : Prop :=
  (∀ (s : State) (m : Option Nat),
    s.isOn 1 = true ∧ s.isOn 2 = true ∧ s.mg.busy = true ∧ s.rst.image = none ∧ s.rst.waitImage = false ∧ s.dead = false ∧
    s.getN Obj.STRAPS % 4 = 2 →
    Gives (.bootImageCheck m) s (fun t =>
      t.rst.image = some 3 ∧ t.rst.waitImage = false ∧ t.getN Obj.FLASH_MAP = mapOf m ∧
      t.getN Obj.FIRMWARE_VERSION = Config.recoveryVersion)) ∧
  (∀ (s : State) (m : Option Nat),
    s.isOn 1 = true ∧ s.isOn 2 = true ∧ s.mg.busy = true ∧ s.rst.image = none ∧ s.rst.waitImage = false ∧ s.dead = false ∧
    s.getN Obj.STRAPS % 4 = 1 →
    Gives (.bootImageCheck m) s (fun t =>
      t.rst.image = none ∧ t.rst.waitImage = true ∧ t.getN Obj.FLASH_MAP = mapOf m)) ∧
  (∀ (s : State) (m : Option Nat),
    s.isOn 1 = true ∧ s.isOn 2 = true ∧ s.mg.busy = true ∧ s.rst.image = none ∧ s.rst.waitImage = false ∧ s.dead = false ∧
    s.getN Obj.STRAPS % 4 = 0 ∧ mapOf m = 0 →
    Gives (.bootImageCheck m) s (fun t =>
      t.rst.image = some 3 ∧ t.getN Obj.FLASH_MAP = 0 ∧ t.getN Obj.FIRMWARE_VERSION = Config.recoveryVersion)) ∧
  (∀ (s : State) (m : Option Nat) (i : Nat),
    s.isOn 1 = true ∧ s.isOn 2 = true ∧ s.mg.busy = true ∧ s.rst.image = none ∧ s.rst.waitImage = false ∧ s.dead = false ∧
    s.getN Obj.STRAPS % 4 = 0 ∧ mapOf m ≠ 0 ∧ s.rst.tack = [] ∧ s.confirmedBank = i ∧ i < 2 →
    Gives (.bootImageCheck m) s (fun t =>
      (s.bankFault i = none → t.rst.image = some i) ∧ (s.bankFault i ≠ none → s.bankFault (1 - i) = none →
      t.rst.image = some (1 - i)) ∧ (s.bankFault i ≠ none → s.bankFault (1 - i) ≠ none → t.rst.image = some 3))) ∧
  (∀ (s : State) (r : Req) (o : Octets),
    s.rst.waitImage = true ∧ r.via = .quay ∧ r.blk = none ∧ s.mg.quay.responses.length < responsePlaces ∧ s.isOn 1 = true ∧
    s.dead = false ∧ s.rst.image = none ∧ o.length ≤ 6291456 →
    Gives (.bootImageWrite r (.bytes o)) s (fun t =>
      (imageFault o s.floor = none → t.rst.image = some 2 ∧ t.rst.waitImage = false ∧
      t.getN Obj.FIRMWARE_VERSION = fld o 8 4 ∧ Replied t r coapChanged .none) ∧ (imageFault o s.floor ≠ none →
      t.rst.image = none ∧ t.rst.waitImage = true ∧ Replied t r Rc.verifyFail.coap (.detail .verifyFail none))))

/-- The stages of a Tack (R445, R446, R447, R449, R450, R451, R457). -/
def Obligations.TackComplete : Prop :=
  (∀ (s : State) (r : Req) (o : Octets),
    CanStart s r Obj.TACK 1 ∧ o.length = 20 ∧ 32769 ≤ fld o 0 4 ∧ fld o 0 4 ≤ 6291456 ∧ fld o 4 4 = 0 ∧
    fld o 14 4 ≤ 999999999 ∧ ofT64Octets (slice o 8 12) ≤ s.time + 86400 * secT ∧ s.getN Obj.TACK_STAGE_NOW = 0 ∧
    s.getN Obj.POWER_STATE ≠ 2 ∧ s.getB Obj.LODESTAR_ACTIVE = false ∧ s.rst.banks.length = 2 →
    Gives (.tack r (.bytes o)) s (fun t =>
      t.getN Obj.TACK_STAGE_NOW = 1 ∧ t.rst.attachAt = ofT64Octets (slice o 8 12) ∧ t.rst.banks[s.tackTarget]? = some [] ∧
      (t.rst.tack.head?.map (fun x => (x.op, x.bank, x.length, x.segs))) = some (1, s.tackTarget, fld o 0 4, []) ∧
      Starts s t r Obj.TACK)) ∧
  (∀ (s : State) (r : Req) (w : Wire) (v : Val),
    Takes s r 0xA000 0x0C w v ∧ s.getN Obj.TACK_STAGE_NOW = 1 ∧ fld v.toOctets 0 4 % segSize = 0 ∧
    fld v.toOctets 0 4 + (v.toOctets.length - 4) ≤ s.tackHead.length ∧ s.tackHead.bank < s.rst.banks.length ∧
    1 < cdiv s.tackHead.length segSize ∧ s.tackHead.segs = [] →
    Gives (.tackSegment r w) s (fun t =>
      (fld v.toOctets 0 4, v.toOctets.drop 4) ∈ nth t.rst.banks s.tackHead.bank ∧
      (t.rst.tack.head?.map (fun x => (x.op, x.segs))) = some (2, [fld v.toOctets 0 4 / segSize]) ∧
      t.getN Obj.TACK_STAGE_NOW = 1 ∧ Replied t r coapChanged .none)) ∧
  (∀ (s : State) (r : Req) (w : Wire) (v : Val),
    Takes s r 0xA000 0x0C w v ∧ s.getN Obj.TACK_STAGE_NOW = 1 ∧ fld v.toOctets 0 4 = 65536 ∧
    fld v.toOctets 0 4 + (v.toOctets.length - 4) ≤ s.tackHead.length ∧ s.tackHead.bank < s.rst.banks.length ∧
    cdiv s.tackHead.length segSize = 2 ∧ s.tackHead.segs = [0] →
    Gives (.tackSegment r w) s (fun t =>
      (65536, v.toOctets.drop 4) ∈ nth t.rst.banks s.tackHead.bank ∧
      (t.rst.tack.head?.map (fun x => (x.op, x.segs))) = some (3, [1, 0]) ∧ t.getN Obj.TACK_STAGE_NOW = 2 ∧
      Replied t r coapChanged .none)) ∧
  (∀ (s : State),
    s.getN Obj.TACK_STAGE_NOW = 2 ∧ s.mg.busy = false ∧ s.dead = false ∧ s.bn.keccakOut.length < 8 ∧ s.tackHead.op = 3 ∧
    s.procRunning Obj.TACK = true →
    Gives .tackVerifyDone s (fun t =>
      (imageFault (bankImage (s.bank s.tackHead.bank)) s.floor = none → t.getN Obj.TACK_STAGE_NOW = 3 ∧
      (t.rst.tack.head?.map (·.op)) = some 4 ∧ t.procState Obj.TACK = 1) ∧
      (imageFault (bankImage (s.bank s.tackHead.bank)) s.floor ≠ none → t.getN Obj.TACK_STAGE_NOW = 0 ∧
      (t.rst.tack.head?.map (·.op)) = some 8 ∧ t.procState Obj.TACK = 4))) ∧
  (∀ (s : State),
    s.getN Obj.TACK_STAGE_NOW = 3 ∧ s.mg.busy = false ∧ s.dead = false ∧ s.sealList.length ≤ s.freeRecords ∧
    s.binnacleSound = true ∧ s.bn.badBlocks < 3 →
    Gives .sealDone s (fun t =>
      t.bn.records.take s.bn.records.length = s.bn.records ∧
      (t.bn.records.drop s.bn.records.length).map (fun k => { k with iv := [] }) = s.sealList.map (fun x => { x with meas := s.tackMeas, iv := [] }) ∧
      t.bn.other = s.tackMeas ∧ t.getN Obj.BN_STATE = 2 ∧ t.getN Obj.TACK_STAGE_NOW = 4 ∧
      (t.rst.tack.head?.map (·.op)) = some 5)) ∧
  (∀ (s : State),
    s.attachDue = true ∧ s.dead = false ∧ s.pwr.dom.length = 16 →
    Gives .tackAttachTime s (fun t =>
      t.held srcCore = true ∧ t.cond 2 = .reset ∧ t.mg.busy = true ∧ t.mg.attachBy = some (s.now + attachPause) ∧
      t.rst.attaching = some s.now ∧ t.rst.upPorts = [0, 1].filter (fun p => s.getN (Obj.TT_LINK_STATE p) == 4))) ∧
  (∀ (s : State) (r : Req) (w : Wire) (v : Val),
    Takes s r 0xA000 9 w v ∧ s.getN Obj.TACK_STAGE_NOW = 5 →
    Gives (.tackConfirm r w) s (fun t =>
      t.rst.confirmed = true ∧ Replied t r coapChanged .none)) ∧
  (∀ (s : State),
    s.soaked = true ∧ s.dead = false ∧ s.procRunning Obj.TACK = true ∧ s.tackHead.bank < 2 →
    Gives .tackSoakDone s (fun t =>
      t.getN Obj.ACTIVE_BANK = s.tackHead.bank ∧ t.getN Obj.TACK_STAGE_NOW = 0 ∧ (t.rst.tack.head?.map (·.op)) = some 7 ∧
      t.getB Obj.TRIAL = false ∧ t.procState Obj.TACK = 2)) ∧
  (∀ (s : State),
    s.getN Obj.TACK_STAGE_NOW = 5 ∧ s.dead = false ∧ s.getT Obj.CONFIRM_DEADLINE ≤ s.time ∧ s.pwr.dom.length = 16 →
    Gives .confirmDeadline s (fun t =>
      t.held srcCore = true ∧ t.cond 2 = .reset ∧ t.mg.busy = true ∧ t.rst.fallCause = 0 ∧ t.rst.attaching = some s.now ∧
      (t.rst.tack.head?.map (·.op)) = some 9))

/-- Logbook: commits, scrubbing, wear (R460, R465, R466, R467, R468). -/
def Obligations.LogbookComplete : Prop :=
  (∀ (s : State) (e : Nat × Val) (rest : List (Nat × Val)),
    s.lb.queue = e :: rest ∧ s.isOn 1 = true ∧ s.pwr.anchor = none →
    Gives .logbookCommit s (fun t =>
      t.lb.queue = rest ∧ t.lb.committed = Store.put e.1 e.2 s.lb.committed ∧ t.lb.journal = s.lb.journal ∧
      Bumped s t Obj.LB_COMMITS)) ∧
  (∀ (s : State) (n : Nat) (b : Option (Option LbRead)),
    s.isOn 1 = true ∧ s.pwr.anchor = none ∧ s.getN Obj.LB_SCRUB_POINTER + 1 < lbLines →
    Gives (.scrubLine true n b) s (fun t =>
      t.getN Obj.LB_SCRUB_POINTER = s.getN Obj.LB_SCRUB_POINTER + 1 ∧
      t.lb.scrub = { s.lb.scrub with lines := s.lb.scrub.lines + 1 })) ∧
  (∀ (s : State) (n : Nat),
    s.isOn 1 = true ∧ s.pwr.anchor = none ∧ s.getN Obj.LB_SCRUB_POINTER + 1 < lbLines ∧ n ≠ 0 →
    Gives (.scrubLine false n none) s (fun t =>
      t.getN Obj.LB_SCRUB_POINTER = s.getN Obj.LB_SCRUB_POINTER + 1 ∧
      t.lb.scrub = { s.lb.scrub with lines := s.lb.scrub.lines + 1, bits := s.lb.scrub.bits + n } ∧
      t.getN Obj.LB_ECC_CORRECTED = (s.getN Obj.LB_ECC_CORRECTED + n) % 2 ^ 64)) ∧
  (∀ (s : State) (n : Nat) (b : Option (Option LbRead)),
    s.isOn 1 = true ∧ s.pwr.anchor = none ∧ s.getN Obj.LB_SCRUB_POINTER = lbLines - 1 ∧ s.mg.fifos.length = 8 →
    Gives (.scrubLine true n b) s (fun t =>
      t.getN Obj.LB_SCRUB_POINTER = 0 ∧ t.lb.scrub.lines = 0 ∧ t.lb.scrub.doneHours = s.getN Obj.LB_POWER_ON_HOURS ∧
      t.get Obj.LB_SCRUB_LAST = t64 s.time ∧
      Raised t 0x8004 0 (be 4 (s.lb.scrub.lines + 1) ++ be 4 s.lb.scrub.bits ++ be 4 s.lb.scrub.moved ++ be 1 (b2n s.lb.scrub.catchUp)))) ∧
  (∀ (s : State),
    s.isOn 1 = true ∧ s.diag.wearAt + dayMinutes ≤ s.diag.minutes →
    Gives .wearProjection s (fun t =>
      t.diag.wearAt = s.diag.minutes ∧
      t.getN Obj.LB_WEAR_YEARS = (if s.wearMax = 0 then 65535 else min 65535 (s.getN Obj.LB_POWER_ON_HOURS * 10000000000 / s.wearMax / 8766)))) ∧
  (∀ (s : State),
    s.isOn 1 = true ∧ s.diag.rotationAt + dayMinutes ≤ s.diag.minutes →
    Gives .rotationReassign s (fun t =>
      t.lb.rotating.length ≤ 64 ∧ (∀ k ∈ t.lb.rotating, ∃ x ∈ s.lb.wear, x.key = k ∧ 0 < x.day) ∧
      (∀ x ∈ t.lb.wear, x.day = 0) ∧ t.diag.rotationAt = s.diag.minutes))

/-- Die temperature, ageing, memory errors, capture (R469, R470, R471, R480). -/
def Obligations.DiagnosticsComplete : Prop :=
  (∀ (s : State) (x : Int) (l : List Int),
    s.isOn 1 = true →
    Gives (.tjSample (x :: l)) s (fun t =>
      t.getI Obj.TJ_NOW = clampI (-400) 1500 (l.foldl max x) ∧
      t.getI Obj.TJ_MAX_LIFE = max (s.getI Obj.TJ_MAX_LIFE) (clampI (-400) 1500 (l.foldl max x)) ∧
      t.diag.minuteMax = some (s.diag.minuteMax.elim (clampI (-400) 1500 (l.foldl max x)) (max (clampI (-400) 1500 (l.foldl max x)))))) ∧
  (∀ (s : State) (b : Int),
    s.isOn 1 = true ∧ s.diag.minuteMax.getD (s.getI Obj.TJ_NOW) = b →
    Gives .tjMinute s (fun t =>
      t.getN (Obj.TJ_MINUTES (tjBin b)) = min 0xFFFFFFFF (s.getN (Obj.TJ_MINUTES (tjBin b)) + 1) ∧
      t.diag = { s.diag with minutes := s.diag.minutes + 1, minuteMax := none } ∧
      t.getN Obj.LB_POWER_ON_HOURS = (if (s.diag.minutes + 1) % 60 = 0 then (s.getN Obj.LB_POWER_ON_HOURS + 1) % 2 ^ Obj.bits Obj.LB_POWER_ON_HOURS else s.getN Obj.LB_POWER_ON_HOURS))) ∧
  (∀ (s : State) (d : Nat) (a : Nat) (n : Nat) (bias : Int),
    d < 16 ∧ s.isOn d = true ∧ s.isOn 1 = true ∧ n ≠ 0 ∧ s.getI Obj.AGE_FLOOR + 20 < marginOf a n ∧ -100 ≤ bias ∧
    s.getI (Obj.AGE_BIAS d) - 5 ≤ bias ∧ bias < s.getI (Obj.AGE_BIAS d) →
    Gives (.ageingMeasure d a n bias) s (fun t =>
      t.getI (Obj.AGE_MARGIN d) = marginOf a n ∧ t.getI (Obj.AGE_BIAS d) = bias ∧ t.mg = s.mg)) ∧
  (∀ (s : State) (d : Nat) (a : Nat) (n : Nat) (bias : Int),
    d < 16 ∧ s.isOn d = true ∧ s.isOn 1 = true ∧ n ≠ 0 ∧ s.getI Obj.AGE_FLOOR ≤ marginOf a n ∧
    marginOf a n < s.getI Obj.AGE_FLOOR + 20 ∧ bias ≤ 100 ∧ s.getI (Obj.AGE_BIAS d) < bias ∧
    bias ≤ s.getI (Obj.AGE_BIAS d) + 5 →
    Gives (.ageingMeasure d a n bias) s (fun t =>
      t.getI (Obj.AGE_MARGIN d) = marginOf a n ∧ t.getI (Obj.AGE_BIAS d) = bias ∧ t.mg = s.mg)) ∧
  (∀ (s : State) (d : Nat) (a : Nat) (n : Nat) (bias : Int),
    s.getI (Obj.AGE_BIAS d) = 100 ∧ d < 16 ∧ s.isOn d = true ∧ s.isOn 1 = true ∧ n ≠ 0 ∧
    marginOf a n < s.getI Obj.AGE_FLOOR ∧ s.diag.marginAt[d]? = some none ∧ s.mg.fifos.length = 8 →
    Gives (.ageingMeasure d a n bias) s (fun t =>
      t.getI (Obj.AGE_MARGIN d) = marginOf a n ∧ t.getI (Obj.AGE_BIAS d) = 100 ∧ t.diag.marginAt[d]? = some (some s.now) ∧
      Raised t 0x8006 2 (be 1 d ++ beI 2 (marginOf a n) ++ beI 2 100))) ∧
  (∀ (s : State) (r : Req) (n : Nat),
    Ready s r ∧ n < 4 ∧ n < s.diag.caps.length ∧ s.isOn 4 = true ∧ (nth s.diag.caps n).recs ≠ [] ∧
    (nth s.diag.caps n).stalled = [] →
    Gives (.capRecordsRead r n) s (fun t =>
      Replied t r coapContent (firstBlock r (.octets (capOctets ((nth s.diag.caps n).recs.take (capBatch (nth s.diag.caps n).recs))))) ∧
      (nth t.diag.caps n).recs = (nth s.diag.caps n).recs.drop (capBatch (nth s.diag.caps n).recs))) ∧
  (∀ (s : State) (r : Req) (n : Nat) (w : Wire) (v : Val),
    Takes s r (0xB500 + n) 4 w v ∧ n < 4 ∧ n < s.diag.caps.length →
    Gives (.capFlush r n w) s (fun t =>
      (nth t.diag.caps n).recs = [] ∧
      (nth t.diag.caps n).flushed = ((nth s.diag.caps n).flushed + (nth s.diag.caps n).recs.length) % 2 ^ 64 ∧
      (nth t.diag.caps n).lost = (nth s.diag.caps n).lost ∧ Replied t r coapChanged .none)) ∧
  (∀ (s : State) (c : Nat) (a : Nat) (b : Bool),
    s.isOn 5 = true ∧ s.dead = false →
    Gives (.dramEccError c a true b) s (fun t =>
      Bumped s t Obj.DRAM_ECC_CORRECTED ∧ t = { s with obj := t.obj })) ∧
  (∀ (s : State) (c : Nat) (a : Nat),
    s.isOn 5 = true ∧ s.dead = false ∧ s.mg.fifos.length = 8 →
    Gives (.dramEccError c a false false) s (fun t =>
      Bumped s t Obj.DRAM_ECC_UNCORRECTABLE ∧ Raised t 0x800A 3 (be 1 c ++ be 8 a ++ be 1 0) ∧ t.rst.holds = s.rst.holds)) ∧
  (∀ (s : State) (c : Nat) (a : Nat),
    s.isOn 5 = true ∧ s.dead = false ∧ s.pwr.dom.length = 16 →
    Gives (.dramEccError c a false true) s (fun t =>
      t.held srcWarm = true ∧ (∀ d ∈ reach 3 0, t.cond d = .reset))) ∧
  (∀ (s : State),
    s.dead = false →
    Gives (.sramEccError true) s (fun t =>
      Bumped s t Obj.SRAM_ECC_CORRECTED ∧ t = { s with obj := t.obj })) ∧
  (∀ (s : State),
    s.dead = false ∧ s.pwr.dom.length = 16 →
    Gives (.sramEccError false) s (fun t =>
      t.held srcWarm = true ∧ (∀ d ∈ reach 3 0, t.cond d = .reset)))

/-- Self-tests in the background and on request (R472, R473, R474, R475, R476, R477). -/
def Obligations.SelfTestsComplete : Prop :=
  (∀ (s : State) (c : Nat) (n : Nat) (moved : Bool) (x : TestRun),
    s.isOn 4 = true ∧ targetOk c n = true ∧ c ≤ 5 ∧ s.testGap c n = true ∧
    (s.diag.tests.any (fun y => y.code == c && y.target == n && y.began)) = false ∧
    s.diag.tests.find? (fun y => y.code == c && y.target == n) = some x →
    Gives (.backgroundTestRun c n moved) s (fun t =>
      { x with began := true, start := s.now } ∈ t.diag.tests ∧ x ∉ t.diag.tests)) ∧
  (∀ (s : State) (c : Nat) (n : Nat) (moved : Bool) (e : Count),
    s.isOn 4 = true ∧ targetOk c n = true ∧ c ≤ 5 ∧ s.testGap c n = true ∧
    (s.diag.tests.any (fun y => y.code == c && y.target == n)) = false ∧ s.testDue c n moved = some e →
    Gives (.backgroundTestRun c n moved) s (fun t =>
      { code := c, target := n, handle := 0, due := e, began := true, start := s.now, late := false, runs := 0 } ∈ t.diag.tests)) ∧
  (∀ (s : State) (c : Nat) (n : Nat) (e : Count),
    (s.diag.tests.any (fun y => y.code == c && y.target == n && y.handle == 0)) = false ∧ s.testDue c n false = some e ∧
    s.isOn 4 = true ∧ c ≠ 5 ∧ targetOk c n = true ∧ e + s.testPeriod c n ≤ s.now ∧ s.mg.fifos.length = 8 →
    Gives (.selftestLate c n) s (fun t =>
      { code := c, target := n, handle := 0, due := e, began := false, start := 0, late := true, runs := 0 } ∈ t.diag.tests ∧
      Bumped s t Obj.ST_LATE ∧ Raised t 0x8009 1 (be 1 c ++ be 1 n ++ be 4 ((s.now - e) / secC)))) ∧
  (∀ (s : State) (a : Nat) (b : Banks),
    a < 5 ∧ s.isOn 4 = true ∧ s.diag.banks[a]? = some b ∧ b.copying = true →
    Gives (.bankSwap a) s (fun t =>
      t.diag.banks[a]? = some { b with turn := (b.turn + 1) % liveBanks a, copying := false, freed := some b.turn })) ∧
  (∀ (s : State) (r : Req) (n : Nat),
    CanStart s r Obj.SELFTEST_RUN 4 ∧ n < 4 →
    Gives (.selftestAdcCalibration r (.bytes (be 1 1 ++ be 1 n ++ be 2 0))) s (fun t =>
      t.diag.tests = s.diag.tests ++ [{ code := 1, target := n, handle := Obj.SELFTEST_RUN * 65536 + nextStart (s.startCount Obj.SELFTEST_RUN), due := s.now, began := false, start := 0, late := false, runs := 1 }] ∧
      Starts s t r Obj.SELFTEST_RUN)) ∧
  (∀ (s : State) (r : Req) (n : Nat),
    CanStart s r Obj.SELFTEST_RUN 4 ∧ n < 5 →
    Gives (.selftestBankBist r (.bytes (be 1 2 ++ be 1 n ++ be 2 0))) s (fun t =>
      t.diag.tests = s.diag.tests ++ [{ code := 2, target := n, handle := Obj.SELFTEST_RUN * 65536 + nextStart (s.startCount Obj.SELFTEST_RUN), due := s.now, began := false, start := 0, late := false, runs := 1 }] ∧
      Starts s t r Obj.SELFTEST_RUN)) ∧
  (∀ (s : State) (r : Req) (n : Nat),
    CanStart s r Obj.SELFTEST_RUN 4 ∧ n < 8 →
    Gives (.selftestKeccakKat r (.bytes (be 1 3 ++ be 1 n ++ be 2 0))) s (fun t =>
      t.diag.tests = s.diag.tests ++ [{ code := 3, target := n, handle := Obj.SELFTEST_RUN * 65536 + nextStart (s.startCount Obj.SELFTEST_RUN), due := s.now, began := false, start := 0, late := false, runs := 1 }] ∧
      Starts s t r Obj.SELFTEST_RUN)) ∧
  (∀ (s : State) (r : Req) (n : Nat),
    CanStart s r Obj.SELFTEST_RUN 4 ∧ n < 8 →
    Gives (.selftestAesKat r (.bytes (be 1 4 ++ be 1 n ++ be 2 0))) s (fun t =>
      t.diag.tests = s.diag.tests ++ [{ code := 4, target := n, handle := Obj.SELFTEST_RUN * 65536 + nextStart (s.startCount Obj.SELFTEST_RUN), due := s.now, began := false, start := 0, late := false, runs := 1 }] ∧
      Starts s t r Obj.SELFTEST_RUN)) ∧
  (∀ (s : State) (r : Req) (n : Nat),
    CanStart s r Obj.SELFTEST_RUN 4 ∧ n = 0 →
    Gives (.selftestLogbookRead r (.bytes (be 1 5 ++ be 1 n ++ be 2 0))) s (fun t =>
      t.diag.tests = s.diag.tests ++ [{ code := 5, target := n, handle := Obj.SELFTEST_RUN * 65536 + nextStart (s.startCount Obj.SELFTEST_RUN), due := s.now, began := false, start := 0, late := false, runs := 1 }] ∧
      Starts s t r Obj.SELFTEST_RUN)) ∧
  (∀ (s : State) (r : Req),
    CanStart s r Obj.SELFTEST_RUN 4 →
    Gives (.selftestKeccakKat r (.bytes (be 1 3 ++ be 1 0xFF ++ be 2 0))) s (fun t =>
      t.diag.tests = s.diag.tests ++ (List.range 8).map (fun n => ({ code := 3, target := n, handle := Obj.SELFTEST_RUN * 65536 + nextStart (s.startCount Obj.SELFTEST_RUN), due := s.now, began := false, start := 0, late := false, runs := 8 } : TestRun)) ∧
      Starts s t r Obj.SELFTEST_RUN)) ∧
  (∀ (s : State) (r : Req),
    CanStart s r Obj.SELFTEST_RUN 4 →
    Gives (.selftestAesKat r (.bytes (be 1 4 ++ be 1 0xFF ++ be 2 0))) s (fun t =>
      t.diag.tests = s.diag.tests ++ (List.range 8).map (fun n => ({ code := 4, target := n, handle := Obj.SELFTEST_RUN * 65536 + nextStart (s.startCount Obj.SELFTEST_RUN), due := s.now, began := false, start := 0, late := false, runs := 8 } : TestRun)) ∧
      Starts s t r Obj.SELFTEST_RUN)) ∧
  (∀ (s : State) (r : Req) (n : Nat),
    CanStart s r Obj.SELFTEST_RUN 4 ∧ n < 3 ∧ (∀ p ∈ List.range 4, s.getB (Obj.PN_ENABLE p) = false) →
    Gives (.selftestTxPowerCal r (.bytes (be 1 6 ++ be 1 n ++ be 2 0))) s (fun t =>
      { code := 6, target := n, handle := Obj.SELFTEST_RUN * 65536 + nextStart (s.startCount Obj.SELFTEST_RUN), due := s.now, began := true, start := s.now, late := false, runs := 1 } ∈ t.diag.tests ∧
      Starts s t r Obj.SELFTEST_RUN)) ∧
  (∀ (s : State) (c : Nat) (n : Nat) (detail : Nat) (fail : Bool) (gains : List Nat) (x : TestRun),
    s.diag.tests.find? (fun y => y.code == c && y.target == n && y.began) = some x ∧ s.isOn 4 = true ∧ (c = 2 →
    (nth s.diag.banks n).freed.isSome = true) ∧ s.mg.fifos.length = 8 ∧ c ≤ 5 →
    Gives (.selftestResult c n fail detail gains) s (fun t =>
      x ∉ t.diag.tests ∧ ((c, n), s.now) ∈ t.diag.lastTest ∧ Bumped s t Obj.ST_RUNS ∧
      Raised t 0x8007 (if fail then 2 else 0) (be 1 c ++ be 1 n ++ be 1 (b2n fail) ++ be 4 x.handle ++ be 4 ((s.now - x.start) / usC)))) ∧
  (∀ (s : State) (n : Nat) (detail : Nat) (gains : List Nat) (x : TestRun),
    s.diag.tests.find? (fun y => y.code == 3 && y.target == n && y.began) = some x ∧ s.isOn 4 = true →
    Gives (.selftestResult 3 n true detail gains) s (fun t =>
      n ∈ t.bn.keccakOut ∧ t.bn.aesOut = s.bn.aesOut ∧ Bumped s t Obj.ST_FAILS))

/-- A step takes the command at the front of the queue and runs it on the state with the rest of the queue. -/
def Obligations.StepRunsFrontCommand : Prop :=
  ∀ (s : State) (c : Instr) (rest : List Instr), s.pending = c :: rest →
    step s = exec c { s with pending := rest }

/-- With no command waiting, a step is the model's own tick (log 1, a choice of the model): COUNT goes up by 1 ns while the
system PLL is locked, and otherwise keeps its value. -/
def Obligations.IdleStepTicks : Prop :=
  ∀ s : State, s.pending = [] →
    ∃ t, step s = .next t ∧ t.now = (if s.rst.pll then s.now + 1 else s.now) ∧ t.pending = []

/-- The state after reset: every object at its default (R9), PD0 to PD15 in RESET with PORA as the one source asserted, the event
FIFOs with no record to read, the first record of the change journal (R521), no command waiting. The defaults the spec does
not give are the model's (log 2). -/
def Obligations.ResetState : Prop :=
  (∀ k, State.reset.get k = Obj.default k) ∧ (∀ d, d < 16 → State.reset.cond d = .reset) ∧
    State.reset.rst.holds = [{ source := 0, dom := 0, until' := none }] ∧
    (∀ f ∈ State.reset.mg.fifos, f.recs = [] ∧ f.lost = 0 ∧ f.flushed = 0 ∧ f.nextSeq = 0) ∧ State.reset.mg.fifos.length = 8 ∧
    State.reset.lb.journal = [{ seq := 0, kind := 4, session := 0, index := 0, sub := 0, persistent := false, result := .ok,
                                time := 0, old := [], new := [] }] ∧ State.reset.pending = []

/-- What every step keeps holds of the state after reset. -/
def Obligations.InvariantsHoldAtReset : Prop :=
  Canonical State.reset ∧ Bounded State.reset

/-- Every step keeps the canonical form of the object dictionary and of the values committed in Logbook: keys rising, each object
listed once, nothing listed that equals its default (R9, R39). -/
def Obligations.StepKeepsCanonicalStores : Prop :=
  ∀ s t : State, Canonical s → step s = .next t → Canonical t

/-- Every step keeps eight event FIFOs of at most 4,096 records, at most 4,096 records held for each until Attach, and a change
journal of at least one and at most 65,536 records (R58, R74, R79, R521). -/
def Obligations.StepKeepsBounds : Prop :=
  ∀ s t : State, Bounded s → step s = .next t → Bounded t

/-- No command stops: every command answers a next state from every state, and leaves the queue of waiting commands as it was. -/
def Obligations.EveryCommandCompletes : Prop :=
  ∀ (c : Instr) (s : State), Gives c s (fun t => t.pending = s.pending)

/-- What the commands of management, front end, reception and Helm leave unchanged: for each command, every part of the state but those listed is unchanged. COUNT, the free values
and the queue are parts too. -/
def Obligations.ManagementAndAirFrames : Prop :=
  (∀ (s : State) (r : Req) (ix sub : Nat) (w : Wire), Gives (.objectWrite r ix sub w) s (fun t => Only [.obj, .lb, .mg, .fe, .rx, .helm, .alm, .pilot, .cs, .bn, .sx, .pwr, .rst, .out] s t)) ∧
  (∀ (s : State) (r : Req) (o : ObjAddr), Gives (.wakeOnAccessRead r o) s (fun t => Only [.obj, .lb, .mg, .fe, .alm, .bn, .pwr, .rst, .out] s t)) ∧
  (∀ (s : State) (sess : Nat), Gives (.blockTransferTimeout sess) s (fun t => Only [.mg] s t)) ∧
  (∀ (s : State) (raw : Octets), Gives (.quayFrameDiscard raw) s (fun t => Only [.obj, .lb, .mg, .fe, .rx, .helm, .alm, .pilot, .tk, .cs, .bn, .sx, .pwr, .diag, .rst, .free, .out] s t)) ∧
  (∀ (s : State) (octets : Octets) (baud : Nat), Gives (.quayUartEntry octets baud) s (fun t => Only [.mg] s t)) ∧
  (∀ (s : State) (clkHigh : Bool), Gives (.quayCsFall clkHigh) s (fun t => Only [.obj, .mg, .pwr] s t)) ∧
  (∀ (s : State), Gives .quayFrameSent s (fun t => Only [.mg] s t)) ∧
  (∀ (s : State) (n : Nat), Gives (.sessionIdleTimeout n) s (fun t => Only [.obj, .lb, .mg, .fe, .bn, .pwr, .diag, .rst, .out] s t)) ∧
  (∀ (s : State) (r : Req) (w : Wire), Gives (.sessionClose r w) s (fun t => Only [.obj, .lb, .mg, .fe, .pilot, .cs, .bn, .pwr, .diag, .rst, .out] s t)) ∧
  (∀ (s : State) (r : Req) (n : Nat), Gives (.evtRecordsRead r n) s (fun t => Only [.obj, .lb, .mg, .fe, .bn, .pwr, .rst, .out] s t)) ∧
  (∀ (s : State) (n : Nat), Gives (.stalledReadServed n) s (fun t => Only [.obj, .lb, .mg, .fe, .bn, .pwr, .diag, .rst, .out] s t)) ∧
  (∀ (s : State) (r : Req) (n : Nat), Gives (.evtObserveRegister r n) s (fun t => Only [.obj, .lb, .mg, .fe, .bn, .pwr, .rst, .out] s t)) ∧
  (∀ (s : State) (n : Nat), Gives (.observeNotify n) s (fun t => Only [.obj, .lb, .mg, .fe, .bn, .pwr, .rst, .out] s t)) ∧
  (∀ (s : State) (n : Nat), Gives (.notificationAck n) s (fun t => Only [.mg] s t)) ∧
  (∀ (s : State) (n : Nat), Gives (.notificationTimeout n) s (fun t => Only [.mg] s t)) ∧
  (∀ (s : State) (r : Req) (n : Nat) (w : Wire), Gives (.evtFlush r n w) s (fun t => Only [.obj, .lb, .mg, .fe, .pilot, .cs, .bn, .pwr, .rst, .out] s t)) ∧
  (∀ (s : State) (r : Req), Gives (.journalRecordRead r) s (fun t => Only [.obj, .lb, .mg, .fe, .bn, .pwr, .rst, .out] s t)) ∧
  (∀ (s : State) (r : Req) (w : Wire), Gives (.procAbort r w) s (fun t => Only [.obj, .lb, .mg, .fe, .rx, .helm, .alm, .pilot, .tk, .cs, .bn, .sx, .pwr, .diag, .rst, .free, .out] s t)) ∧
  (∀ (s : State) (p samples : Nat), Gives (.gainStepDown p samples) s (fun t => Only [.obj, .fe, .rx] s t)) ∧
  (∀ (s : State) (p heldMs : Nat), Gives (.gainStepUp p heldMs) s (fun t => Only [.obj, .fe, .rx] s t)) ∧
  (∀ (s : State) (c : Nat) (psdus : List Octets), Gives (.txGroupStart c psdus) s (fun t => Only [.obj, .fe, .rx, .helm, .pilot, .cs, .diag, .out] s t)) ∧
  (∀ (s : State) (c rl iso : Nat), Gives (.txGroupEnd c rl iso) s (fun t => Only [.obj, .lb, .mg, .fe, .rx, .helm, .pilot, .cs, .bn, .pwr, .rst, .out] s t)) ∧
  (∀ (s : State) (c : Nat) (m : CutMeasure), Gives (.mismatchSevere c m) s (fun t => Only [.obj, .lb, .mg, .fe, .rx, .helm, .alm, .pilot, .cs, .bn, .pwr, .rst, .free, .out] s t)) ∧
  (∀ (s : State) (p c winUs : Nat), Gives (.retuneRun p c winUs) s (fun t => Only [.obj, .lb, .mg, .fe, .rx, .pilot, .cs, .bn, .pwr, .rst, .out] s t)) ∧
  (∀ (s : State) (p : Nat) (rls : List Nat), Gives (.retuneDone p rls) s (fun t => Only [.obj, .lb, .mg, .fe, .rx, .helm, .pwr, .rst, .out] s t)) ∧
  (∀ (s : State) (p : Nat), Gives (.retuneHoldoffExpiry p) s (fun t => Only [.fe] s t)) ∧
  (∀ (s : State) (r : Req) (w : Wire), Gives (.bearingRetuneSearch r w) s (fun t => Only [.obj, .lb, .mg, .fe, .pilot, .cs, .bn, .pwr, .rst, .free, .out] s t)) ∧
  (∀ (s : State) (r : Req) (w : Wire), Gives (.bearingRetuneSet r w) s (fun t => Only [.obj, .lb, .mg, .fe, .pilot, .cs, .bn, .pwr, .rst, .free, .out] s t)) ∧
  (∀ (s : State) (r : Req) (w : Wire), Gives (.synthCalibrate r w) s (fun t => Only [.obj, .lb, .mg, .fe, .pilot, .cs, .bn, .pwr, .rst, .out] s t)) ∧
  (∀ (s : State) (c : Nat) (temp : Int), Gives (.synthTempSample c temp) s (fun t => Only [.obj, .fe] s t)) ∧
  (∀ (s : State) (c winUs : Nat), Gives (.synthCalStart c winUs) s (fun t => Only [.obj, .fe, .pwr] s t)) ∧
  (∀ (s : State) (c : Nat) (temp : Int), Gives (.synthCalEnd c temp) s (fun t => Only [.obj, .lb, .mg, .fe, .rx, .pwr, .rst] s t)) ∧
  (∀ (s : State) (c : Nat), Gives (.synthLock c) s (fun t => Only [.obj, .fe] s t)) ∧
  (∀ (s : State) (u : LockLoss), Gives (.synthUnlock u) s (fun t => Only [.obj, .lb, .mg, .fe, .rx, .helm, .alm, .pilot, .cs, .bn, .pwr, .rst, .free, .out] s t)) ∧
  (∀ (s : State) (c : Nat), Gives (.chainPowerUp c) s (fun t => Only [.obj, .fe, .pwr] s t)) ∧
  (∀ (s : State) (d : Nat), Gives (.txDomainOff d) s (fun t => Only [.obj, .fe, .pwr] s t)) ∧
  (∀ (s : State) (b : Nat), Gives (.aerialModeApply b) s (fun t => Only [.obj, .fe] s t)) ∧
  (∀ (s : State) (senses : List Sense) (quals : List (Nat × Nat)), Gives (.claimRound senses quals) s (fun t => Only [.obj, .fe, .rx] s t)) ∧
  (∀ (s : State) (d : Nat) (rssi freqOff : Int) (both : Option (Int × Int)), Gives (.sfdFound d rssi freqOff both) s (fun t => Only [.obj, .rx, .cs] s t)) ∧
  (∀ (s : State) (d : Nat), Gives (.sfdTimeout d) s (fun t => Only [.obj, .rx] s t)) ∧
  (∀ (s : State) (d : Nat) (failed modeSwitch : Bool) (len mcs : Nat), Gives (.phrError d failed modeSwitch len mcs) s (fun t => Only [.obj, .fe, .rx, .pwr] s t)) ∧
  (∀ (s : State) (d : Nat) (f : RxFrame), Gives (.rxFrameEnd d f) s (fun t => Only [.obj, .fe, .rx, .pwr, .diag] s t)) ∧
  (∀ (s : State) (i : Nat), Gives (.diversityHoldEnd i) s (fun t => Only [.rx] s t)) ∧
  (∀ (s : State) (p : Nat), Gives (.rxGateOpen p) s (fun t => Only [.obj, .fe, .rx, .pwr] s t)) ∧
  (∀ (s : State) (p : Nat), Gives (.listenWindowOpen p) s (fun t => Only [.obj, .rx] s t)) ∧
  (∀ (s : State) (p w : Nat) (energy : Int), Gives (.rxGateClose p w energy) s (fun t => Only [.obj, .fe, .rx, .pwr] s t)) ∧
  (∀ (s : State), Gives .starvationIntervalEnd s (fun t => Only [.obj, .mg, .fe, .rx, .pwr, .rst] s t)) ∧
  (∀ (s : State) (w : Nat), Gives (.falsePreambleCheck w) s (fun t => Only [.mg, .fe, .rx, .pwr, .rst] s t)) ∧
  (∀ (s : State) (r : Req) (w : Wire), Gives (.rxWindowApply r w) s (fun t => Only [.obj, .lb, .mg, .fe, .rx, .pilot, .cs, .bn, .pwr, .rst, .out] s t)) ∧
  (∀ (s : State), Gives .windowApplyBoundary s (fun t => Only [.obj, .lb, .fe, .rx, .pwr, .rst] s t)) ∧
  (∀ (s : State), Gives .windowRearmDone s (fun t => Only [.obj, .mg, .fe, .rx, .pwr, .rst] s t)) ∧
  (∀ (s : State) (pan ebPsdu : Nat), Gives (.slotBoundary pan ebPsdu) s (fun t => Only [.obj, .lb, .mg, .fe, .rx, .helm, .alm, .pilot, .cs, .bn, .pwr, .rst, .out] s t)) ∧
  (∀ (s : State) (b : Nat) (t : Tick) (ending : List Nat), Gives (.planFreeze b t ending) s (fun t => Only [.obj, .lb, .mg, .fe, .helm, .pilot, .cs, .bn, .pwr, .rst, .out] s t)) ∧
  (∀ (s : State) (kind ix : Nat), Gives (.quietSlotInsert kind ix) s (fun t => Only [.obj, .helm] s t)) ∧
  (∀ (s : State) (f : MacFrame) (ending : List Nat), Gives (.frameDecision f ending) s (fun t => Only [.obj, .lb, .mg, .fe, .rx, .helm, .alm, .pilot, .cs, .bn, .pwr, .diag, .rst, .free, .out] s t)) ∧
  (∀ (s : State) (i : Nat), Gives (.ackCompose i) s (fun t => Only [.obj, .lb, .mg, .fe, .helm, .pilot, .cs, .bn, .pwr, .rst, .out] s t)) ∧
  (∀ (s : State) (i : Nat), Gives (.ackWaitClose i) s (fun t => Only [.obj, .lb, .mg, .fe, .helm, .alm, .pilot, .cs, .bn, .pwr, .rst, .free, .out] s t)) ∧
  (∀ (s : State) (pan asn : Nat), Gives (.cellEnd pan asn) s (fun t => Only [.obj, .lb, .mg, .fe, .helm, .pilot, .cs, .bn, .pwr, .rst, .out] s t)) ∧
  (∀ (s : State) (b : Nat), Gives (.dutyBinBoundary b) s (fun t => Only [.helm] s t)) ∧
  (∀ (s : State) (r : Req) (p : Nat) (w : Wire), Gives (.panEnable r p w) s (fun t => Only [.obj, .lb, .mg, .fe, .rx, .helm, .alm, .pilot, .cs, .bn, .pwr, .rst, .out] s t)) ∧
  (∀ (s : State) (r : Req) (p : Nat) (w : Wire), Gives (.panStop r p w) s (fun t => Only [.obj, .lb, .mg, .fe, .rx, .helm, .alm, .pilot, .cs, .bn, .pwr, .rst, .out] s t)) ∧
  (∀ (s : State) (r : Req) (w : Wire), Gives (.cellEntryStage r w) s (fun t => Only [.obj, .lb, .mg, .fe, .helm, .pilot, .cs, .bn, .pwr, .rst, .out] s t)) ∧
  (∀ (s : State) (r : Req) (w : Wire), Gives (.schedDiscard r w) s (fun t => Only [.obj, .lb, .mg, .fe, .helm, .pilot, .cs, .bn, .pwr, .rst, .out] s t)) ∧
  (∀ (s : State) (r : Req) (w : Wire), Gives (.scheduleCommit r w) s (fun t => Only [.obj, .lb, .mg, .fe, .helm, .pilot, .cs, .bn, .pwr, .rst, .out] s t)) ∧
  (∀ (s : State) (f : Nat), Gives (.slotframeSwitch f) s (fun t => Only [.obj, .lb, .mg, .fe, .helm, .pwr, .rst] s t)) ∧
  (∀ (s : State) (steps : Nat), Gives (.helmLockstep steps) s (fun t => Only [.obj, .lb, .mg, .fe, .rx, .helm, .alm, .pilot, .tk, .cs, .bn, .sx, .pwr, .diag, .rst, .free, .out] s t))

/-- What the commands of Almanac, Pilot, Meridian and Consort leave unchanged: for each command, every part of the state but those listed is unchanged. COUNT, the free values
and the queue are parts too. -/
def Obligations.TablesAndTrunkFrames : Prop :=
  (∀ (s : State) (r : Req) (w : Wire), Gives (.nodeFindEui r w) s (fun t => Only [.obj, .lb, .mg, .fe, .pilot, .cs, .bn, .pwr, .rst, .free, .out] s t)) ∧
  (∀ (s : State), Gives .tableInsert s (fun t => Only [.obj, .lb, .mg, .fe, .alm, .pilot, .cs, .bn, .pwr, .rst, .free, .out] s t)) ∧
  (∀ (s : State) (r : Req) (w : Wire), Gives (.nodeAdd r w) s (fun t => Only [.obj, .lb, .mg, .fe, .alm, .pilot, .cs, .bn, .pwr, .rst, .free, .out] s t)) ∧
  (∀ (s : State) (r : Req) (w : Wire), Gives (.nodeRemove r w) s (fun t => Only [.obj, .lb, .mg, .fe, .alm, .pilot, .cs, .bn, .pwr, .rst, .out] s t)) ∧
  (∀ (s : State) (i : Nat), Gives (.nodeRemoveFinish i) s (fun t => Only [.obj, .lb, .mg, .fe, .alm, .pilot, .cs, .bn, .pwr, .rst, .out] s t)) ∧
  (∀ (s : State) (r : Req) (w : Wire), Gives (.nodeRehash r w) s (fun t => Only [.obj, .lb, .mg, .fe, .alm, .pilot, .cs, .bn, .pwr, .rst, .free, .out] s t)) ∧
  (∀ (s : State) (eccError : Bool), Gives (.rehashBuildDone eccError) s (fun t => Only [.obj, .lb, .mg, .fe, .alm, .pilot, .cs, .bn, .pwr, .rst, .free, .out] s t)) ∧
  (∀ (s : State), Gives .migrateStart s (fun t => Only [.obj, .lb, .alm] s t)) ∧
  (∀ (s : State), Gives .migrateBucket s (fun t => Only [.obj, .alm] s t)) ∧
  (∀ (s : State), Gives .migrateEnd s (fun t => Only [.obj, .lb, .mg, .fe, .alm, .pilot, .cs, .bn, .pwr, .rst, .free, .out] s t)) ∧
  (∀ (s : State), Gives .sweeperPass s (fun t => Only [.obj, .lb, .mg, .fe, .alm, .pilot, .cs, .bn, .pwr, .rst, .out] s t)) ∧
  (∀ (s : State) (i : Nat), Gives (.joinTimeout i) s (fun t => Only [.obj, .lb, .mg, .fe, .alm, .pilot, .cs, .bn, .pwr, .rst, .out] s t)) ∧
  (∀ (s : State) (eui pan : Nat) (relayed ok : Bool) (psdu : Nat), Gives (.joinVerify eui pan relayed ok psdu) s (fun t => Only [.obj, .lb, .mg, .fe, .helm, .alm, .pilot, .cs, .bn, .pwr, .rst, .free, .out] s t)) ∧
  (∀ (s : State) (i : Nat), Gives (.shortAddrRelease i) s (fun t => Only [.obj, .lb, .mg, .fe, .alm, .pilot, .cs, .bn, .pwr, .rst, .out] s t)) ∧
  (∀ (s : State) (b : Nat), Gives (.learnApply b) s (fun t => Only [.obj, .alm, .free] s t)) ∧
  (∀ (s : State) (b : Nat), Gives (.neighbourSweep b) s (fun t => Only [.obj, .alm] s t)) ∧
  (∀ (s : State) (d : Dao) (psdu : Nat), Gives (.daoReceived d psdu) s (fun t => Only [.obj, .lb, .mg, .fe, .helm, .alm, .pilot, .cs, .bn, .pwr, .rst, .free, .out] s t)) ∧
  (∀ (s : State) (p : Nat), Gives (.disReceived p) s (fun t => Only [.alm] s t)) ∧
  (∀ (s : State) (p psdu : Nat), Gives (.dioTrickleFire p psdu) s (fun t => Only [.obj, .lb, .mg, .fe, .helm, .alm, .pilot, .cs, .bn, .pwr, .rst, .free, .out] s t)) ∧
  (∀ (s : State) (b i : Nat), Gives (.reassemblyTimeout b i) s (fun t => Only [.obj, .alm] s t)) ∧
  (∀ (s : State), Gives .checkpointPeriod s (fun t => Only [.alm] s t)) ∧
  (∀ (s : State) (r : Req) (w : Wire), Gives (.almanacCheckpoint r w) s (fun t => Only [.obj, .lb, .mg, .fe, .alm, .pilot, .cs, .bn, .pwr, .rst, .out] s t)) ∧
  (∀ (s : State), Gives .checkpointDone s (fun t => Only [.obj, .lb, .mg, .alm] s t)) ∧
  (∀ (s : State) (loadUs : Nat), Gives (.almanacRestored loadUs) s (fun t => Only [.obj, .lb, .mg, .fe, .alm, .pwr, .rst, .free] s t)) ∧
  (∀ (s : State) (loadUs : Nat), Gives (.almanacMirrorReload loadUs) s (fun t => Only [.mg, .fe, .alm, .pwr, .rst] s t)) ∧
  (∀ (s : State) (p : Nat) (w : WireFrame), Gives (.uplinkTxSelect p w) s (fun t => Only [.obj, .mg, .fe, .pilot, .tk, .pwr, .diag, .rst, .free, .out] s t)) ∧
  (∀ (s : State) (x : AdmWire), Gives (.admissionMessage x) s (fun t => Only [.obj, .lb, .mg, .fe, .pilot, .cs, .bn, .pwr, .rst, .out] s t)) ∧
  (∀ (s : State) (i : Nat), Gives (.admitQueueTimeout i) s (fun t => Only [.obj, .lb, .mg, .fe, .pilot, .cs, .bn, .pwr, .rst, .out] s t)) ∧
  (∀ (s : State), Gives .admissionCompute s (fun t => Only [.obj, .lb, .mg, .fe, .helm, .alm, .pilot, .cs, .bn, .pwr, .rst, .free, .out] s t)) ∧
  (∀ (s : State), Gives .query s (fun t => Only [.obj, .lb, .mg, .fe, .pilot, .cs, .bn, .pwr, .rst, .out] s t)) ∧
  (∀ (s : State) (ref : Nat), Gives (.handoverEntry ref) s (fun t => Only [.obj, .lb, .mg, .fe, .helm, .pilot, .cs, .bn, .pwr, .rst, .out] s t)) ∧
  (∀ (s : State) (ref : Nat), Gives (.reportDeadline ref) s (fun t => Only [.obj, .lb, .mg, .fe, .helm, .pilot, .cs, .bn, .pwr, .rst, .out] s t)) ∧
  (∀ (s : State), Gives .wheelCoarseSlot s (fun t => Only [.pilot] s t)) ∧
  (∀ (s : State) (r : Req) (w : Wire), Gives (.flowConfig r w) s (fun t => Only [.obj, .lb, .mg, .fe, .pilot, .cs, .bn, .pwr, .rst, .out] s t)) ∧
  (∀ (s : State) (r : Req) (ctx : Nat) (w : Wire), Gives (.admitCtxKeyid r ctx w) s (fun t => Only [.obj, .lb, .mg, .fe, .pilot, .cs, .bn, .pwr, .rst, .out] s t)) ∧
  (∀ (s : State), Gives .paSample s (fun t => Only [.pilot] s t)) ∧
  (∀ (s : State), Gives .sampleIntervalEnd s (fun t => Only [.obj, .pilot] s t)) ∧
  (∀ (s : State) (log : Bool), Gives (.ledgerSummaryMirror log) s (fun t => Only [.obj, .pilot] s t)) ∧
  (∀ (s : State) (node : Bool) (key : Nat), Gives (.nextEligibleTime node key) s (fun t => Only [.pilot] s t)) ∧
  (∀ (s : State) (p : Nat), Gives (.listenPaging p) s (fun t => Only [.tk, .free, .out] s t)) ∧
  (∀ (s : State) (p : Nat), Gives (.wakePatternSend p) s (fun t => Only [.tk, .out] s t)) ∧
  (∀ (s : State) (p : Nat) (o : Octets) (psd : List Int) (fault dist : Nat), Gives (.pageReceived p o psd fault dist) s (fun t => Only [.obj, .mg, .fe, .tk, .sx, .pwr, .rst, .free, .out] s t)) ∧
  (∀ (s : State) (p fault dist : Nat), Gives (.announceTimeout p fault dist) s (fun t => Only [.obj, .mg, .fe, .tk, .pwr, .rst] s t)) ∧
  (∀ (s : State) (p : Nat) (snr : Int) (partner : Bool) (fault dist : Nat), Gives (.trainPhase p snr partner fault dist) s (fun t => Only [.obj, .mg, .fe, .tk, .pwr, .rst, .free, .out] s t)) ∧
  (∀ (s : State) (x : PortLock), Gives (.linkUp x) s (fun t => Only [.obj, .mg, .fe, .pilot, .tk, .sx, .pwr, .rst] s t)) ∧
  (∀ (s : State) (p : Nat), Gives (.retrainHoldoffExpiry p) s (fun t => Only [.obj, .mg, .fe, .tk, .sx, .pwr, .rst] s t)) ∧
  (∀ (s : State) (p : Nat) (m100 m1000 m2500 : List (List Int)) (snr : Int), Gives (.oamSend p m100 m1000 m2500 snr) s (fun t => Only [.obj, .tk, .free, .out] s t)) ∧
  (∀ (s : State) (p : Nat) (b : CodeBlock), Gives (.oamReceived p b) s (fun t => Only [.obj, .mg, .fe, .pilot, .tk, .sx, .pwr, .rst, .out] s t)) ∧
  (∀ (s : State) (x : PortFault), Gives (.codewordLockLost x) s (fun t => Only [.obj, .mg, .fe, .pilot, .tk, .sx, .pwr, .rst, .out] s t)) ∧
  (∀ (s : State) (x : PortFault), Gives (.signalLost x) s (fun t => Only [.obj, .mg, .fe, .pilot, .tk, .sx, .pwr, .rst, .out] s t)) ∧
  (∀ (s : State) (p : Nat) (x : SnrFall), Gives (.snrLinkLost p x) s (fun t => Only [.obj, .mg, .fe, .pilot, .tk, .sx, .pwr, .rst, .out] s t)) ∧
  (∀ (s : State) (p : Nat) (x : SnrFall), Gives (.snrWarn p x) s (fun t => Only [.obj, .mg, .fe, .pwr, .rst] s t)) ∧
  (∀ (s : State) (r : Req) (p : Nat) (w : Wire), Gives (.ttEnableWrite r p w) s (fun t => Only [.obj, .lb, .mg, .fe, .pilot, .tk, .cs, .bn, .sx, .pwr, .rst, .out] s t)) ∧
  (∀ (s : State) (r : Req) (w : Wire), Gives (.trunkRetrain r w) s (fun t => Only [.obj, .lb, .mg, .fe, .pilot, .tk, .cs, .bn, .sx, .pwr, .rst, .free, .out] s t)) ∧
  (∀ (s : State) (r : Req) (w : Wire), Gives (.trunkLoopback r w) s (fun t => Only [.obj, .lb, .mg, .fe, .pilot, .tk, .cs, .bn, .pwr, .rst, .out] s t)) ∧
  (∀ (s : State) (p : Nat) (m100 m1000 m2500 : List (List Int)) (snr : Int), Gives (.loopbackEnd p m100 m1000 m2500 snr) s (fun t => Only [.obj, .mg, .fe, .tk, .sx, .pwr, .rst] s t)) ∧
  (∀ (s : State) (p : Nat) (x : WakeTone), Gives (.trunkWakeDetect p x) s (fun t => Only [.obj, .pwr] s t)) ∧
  (∀ (s : State) (p : Nat) (f : TrunkFrame) (fill : Nat) (idle : Bool), Gives (.trunkFrameReceived p f fill idle) s (fun t => Only [.obj, .mg, .fe, .pilot, .tk, .sx, .pwr, .diag, .rst, .free, .out] s t)) ∧
  (∀ (s : State) (p fill : Nat), Gives (.xoffRefresh p fill) s (fun t => Only [.obj, .tk, .out] s t)) ∧
  (∀ (s : State) (p : Nat) (quanta : List (Nat × Nat)), Gives (.pfcReceived p quanta) s (fun t => Only [.obj, .mg, .fe, .pilot, .tk, .pwr, .rst] s t)) ∧
  (∀ (s : State) (p prio : Nat), Gives (.pauseExpiry p prio) s (fun t => Only [.obj, .mg, .fe, .pilot, .tk, .pwr, .rst] s t)) ∧
  (∀ (s : State), Gives .supervisionSend s (fun t => Only [.obj, .pilot, .tk, .diag, .free, .out] s t)) ∧
  (∀ (s : State) (b : Nat), Gives (.redPartnerTimeout b) s (fun t => Only [.obj, .mg, .fe, .pwr, .rst] s t)) ∧
  (∀ (s : State) (r : Req) (sub : Nat) (w : Wire), Gives (.trunkAddressWrite r sub w) s (fun t => Only [.obj, .lb, .mg, .fe, .pilot, .cs, .bn, .pwr, .rst, .out] s t)) ∧
  (∀ (s : State) (p fault dist : Nat), Gives (.trainingLockTimeout p fault dist) s (fun t => Only [.obj, .mg, .fe, .tk, .pwr, .rst] s t)) ∧
  (∀ (s : State) (heard : List (Nat × Nat × Int)), Gives (.pulseSend heard) s (fun t => Only [.obj, .lb, .mg, .fe, .helm, .pilot, .cs, .bn, .pwr, .rst, .free, .out] s t)) ∧
  (∀ (s : State) (w : PairWire), Gives (.pulseReceived w) s (fun t => Only [.obj, .lb, .mg, .fe, .helm, .pilot, .cs, .bn, .pwr, .rst, .free, .out] s t)) ∧
  (∀ (s : State), Gives .pulseLoss s (fun t => Only [.obj, .lb, .mg, .fe, .helm, .pilot, .cs, .bn, .pwr, .rst, .free, .out] s t)) ∧
  (∀ (s : State), Gives .pairingTimeout s (fun t => Only [.obj, .helm, .cs] s t)) ∧
  (∀ (s : State) (x : StreamWire), Gives (.streamReceived x) s (fun t => Only [.obj, .lb, .mg, .fe, .rx, .helm, .alm, .pilot, .cs, .bn, .sx, .pwr, .rst, .now, .free, .out] s t)) ∧
  (∀ (s : State), Gives .streamResend s (fun t => Only [.obj, .lb, .mg, .fe, .pilot, .cs, .bn, .pwr, .rst, .out] s t)) ∧
  (∀ (s : State), Gives .streamResync s (fun t => Only [.obj, .mg, .helm, .cs] s t)) ∧
  (∀ (s : State), Gives .resyncDone s (fun t => Only [.obj, .mg, .fe, .cs, .pwr, .rst] s t)) ∧
  (∀ (s : State), Gives .revertStart s (fun t => Only [.cs] s t)) ∧
  (∀ (s : State), Gives .handoverInstant s (fun t => Only [.obj, .lb, .mg, .fe, .helm, .pilot, .cs, .bn, .pwr, .rst, .free, .out] s t)) ∧
  (∀ (s : State) (r : Req) (w : Wire), Gives (.consortHandover r w) s (fun t => Only [.obj, .lb, .mg, .fe, .pilot, .cs, .bn, .pwr, .rst, .out] s t)) ∧
  (∀ (s : State) (r : Req) (w : Wire), Gives (.csFaultClear r w) s (fun t => Only [.obj, .lb, .mg, .fe, .pilot, .cs, .bn, .pwr, .rst, .out] s t))

/-- What the commands of Sextant, Binnacle, power, reset, Tack and Logbook leave unchanged: for each command, every part of the state but those listed is unchanged. COUNT, the free values
and the queue are parts too. -/
def Obligations.TimePowerResetFrames : Prop :=
  (∀ (s : State) (p : Nat) (ident : Octets) (m : SyncTimes) (logInt : Int), Gives (.ptpSyncMeasurement p ident m logInt) s (fun t => Only [.obj, .lb, .mg, .fe, .helm, .alm, .pilot, .cs, .sx, .pwr, .rst] s t)) ∧
  (∀ (s : State) (p : Nat) (a : Announce), Gives (.ptpAnnounce p a) s (fun t => Only [.obj, .mg, .fe, .sx, .pwr, .rst] s t)) ∧
  (∀ (s : State) (p : Nat), Gives (.ptpMasterLoss p) s (fun t => Only [.obj, .mg, .fe, .sx, .pwr, .rst] s t)) ∧
  (∀ (s : State) (rising : Bool), Gives (.ppsInEdge rising) s (fun t => Only [.obj, .lb, .mg, .fe, .helm, .alm, .pilot, .cs, .sx, .pwr, .rst] s t)) ∧
  (∀ (s : State), Gives .ppsInLost s (fun t => Only [.obj, .mg, .fe, .sx, .pwr, .rst] s t)) ∧
  (∀ (s : State), Gives .ppsOutEdge s (fun t => Only [.sx] s t)) ∧
  (∀ (s : State) (r : Req) (w : Wire), Gives (.sxSourceWrite r w) s (fun t => Only [.obj, .lb, .mg, .fe, .pilot, .cs, .bn, .sx, .pwr, .rst, .out] s t)) ∧
  (∀ (s : State) (r : Req) (w : Wire), Gives (.sxRateWrite r w) s (fun t => Only [.obj, .lb, .mg, .fe, .pilot, .cs, .bn, .sx, .pwr, .rst, .out] s t)) ∧
  (∀ (s : State) (r : Req) (w : Wire), Gives (.sxSetAbsolute r w) s (fun t => Only [.obj, .lb, .mg, .fe, .helm, .alm, .pilot, .cs, .bn, .sx, .pwr, .rst, .out] s t)) ∧
  (∀ (s : State) (r : Req) (w : Wire), Gives (.sxSetRelative r w) s (fun t => Only [.obj, .lb, .mg, .fe, .helm, .alm, .pilot, .cs, .bn, .sx, .pwr, .rst, .out] s t)) ∧
  (∀ (s : State), Gives .slowTickLatch s (fun t => Only [.obj, .sx] s t)) ∧
  (∀ (s : State), Gives .slowRatioMeasure s (fun t => Only [.obj, .sx] s t)) ∧
  (∀ (s : State) (ticks : Nat), Gives (.sextantReconcile ticks) s (fun t => Only [.obj, .mg, .fe, .helm, .sx, .pwr, .rst, .now] s t)) ∧
  (∀ (s : State), Gives .calCarry s (fun t => Only [.obj, .mg, .fe, .pwr, .rst] s t)) ∧
  (∀ (s : State), Gives .calOscStopped s (fun t => Only [.obj, .mg, .fe, .sx, .pwr, .rst] s t)) ∧
  (∀ (s : State), Gives .calTrimApply s (fun t => Only [.obj, .mg, .fe, .sx, .pwr, .rst] s t)) ∧
  (∀ (s : State), Gives .calTrimAutoUpdate s (fun t => Only [.obj, .lb, .sx] s t)) ∧
  (∀ (s : State) (r : Req) (w : Wire), Gives (.calSet r w) s (fun t => Only [.obj, .lb, .mg, .fe, .pilot, .cs, .bn, .sx, .pwr, .rst, .out] s t)) ∧
  (∀ (s : State) (r : Req) (w : Wire), Gives (.calHaltWrite r w) s (fun t => Only [.obj, .lb, .mg, .fe, .pilot, .cs, .bn, .sx, .pwr, .rst, .out] s t)) ∧
  (∀ (s : State) (r : Req) (w : Wire), Gives (.calOsfClear r w) s (fun t => Only [.obj, .lb, .mg, .fe, .pilot, .cs, .bn, .pwr, .rst, .out] s t)) ∧
  (∀ (s : State) (r : Req) (w : Wire), Gives (.calAlarmWrite r w) s (fun t => Only [.obj, .lb, .mg, .fe, .pilot, .cs, .bn, .pwr, .rst, .out] s t)) ∧
  (∀ (s : State) (r : Req) (sub : Nat), Gives (.calFieldRead r sub) s (fun t => Only [.obj, .lb, .mg, .fe, .bn, .pwr, .rst, .out] s t)) ∧
  (∀ (s : State) (sess : Nat), Gives (.calShadowRelease sess) s (fun t => Only [.mg] s t)) ∧
  (∀ (s : State) (r : Req) (w : Wire), Gives (.calFromSextant r w) s (fun t => Only [.obj, .lb, .mg, .fe, .pilot, .cs, .bn, .sx, .pwr, .rst, .out] s t)) ∧
  (∀ (s : State), Gives .calFromSextantApply s (fun t => Only [.obj, .mg, .fe, .sx, .pwr, .rst] s t)) ∧
  (∀ (s : State) (p : Nat), Gives (.delayReqSend p) s (fun t => Only [.sx, .free, .out] s t)) ∧
  (∀ (s : State) (r : Req) (opens : Bool) (material : Octets) (w : Wire), Gives (.bnImport r opens material w) s (fun t => Only [.obj, .lb, .mg, .fe, .pilot, .cs, .bn, .pwr, .rst, .out] s t)) ∧
  (∀ (s : State) (r : Req) (opens proof : Bool) (material : Octets) (w : Wire), Gives (.bnReplace r opens proof material w) s (fun t => Only [.obj, .lb, .mg, .fe, .pilot, .cs, .bn, .pwr, .rst, .out] s t)) ∧
  (∀ (s : State) (i : Nat), Gives (.keyCommit i) s (fun t => Only [.obj, .lb, .mg, .fe, .bn, .pwr, .rst, .free, .out] s t)) ∧
  (∀ (s : State) (r : Req) (w : Wire), Gives (.bnRemove r w) s (fun t => Only [.obj, .lb, .mg, .fe, .pilot, .cs, .bn, .pwr, .diag, .rst, .out] s t)) ∧
  (∀ (s : State) (r : Req) (w : Wire), Gives (.bnAttest r w) s (fun t => Only [.obj, .lb, .mg, .fe, .pilot, .cs, .bn, .pwr, .rst, .out] s t)) ∧
  (∀ (s : State), Gives .attestDone s (fun t => Only [.obj, .mg, .bn] s t)) ∧
  (∀ (s : State) (r : Req) (w : Wire), Gives (.groupRollover r w) s (fun t => Only [.obj, .lb, .mg, .fe, .pilot, .cs, .bn, .pwr, .rst, .out] s t)) ∧
  (∀ (s : State), Gives .groupKeySwitch s (fun t => Only [.mg, .fe, .bn, .pwr, .rst] s t)) ∧
  (∀ (s : State), Gives .groupOverlapEnd s (fun t => Only [.obj, .lb, .mg, .fe, .bn, .pwr, .rst, .out] s t)) ∧
  (∀ (s : State), Gives .retainedGenExpiry s (fun t => Only [.bn] s t)) ∧
  (∀ (s : State) (ok : Bool), Gives (.entropyBlock ok) s (fun t => Only [.mg, .fe, .bn, .pwr, .rst] s t)) ∧
  (∀ (s : State), Gives .blobDirectoryRebuilt s (fun t => Only [.bn] s t)) ∧
  (∀ (s : State) (n : Nat), Gives (.sectorCompaction n) s (fun t => Only [.bn] s t)) ∧
  (∀ (s : State) (r : Req) (w : Wire), Gives (.enterFullService r w) s (fun t => Only [.obj, .lb, .mg, .fe, .rx, .pilot, .cs, .bn, .pwr, .rst, .free, .out] s t)) ∧
  (∀ (s : State) (r : Req) (w : Wire), Gives (.enterHold r w) s (fun t => Only [.obj, .lb, .mg, .fe, .pilot, .cs, .bn, .pwr, .rst, .out] s t)) ∧
  (∀ (s : State), Gives .holdEntry s (fun t => Only [.obj, .mg, .fe, .rx, .pwr, .rst, .free] s t)) ∧
  (∀ (s : State) (r : Req) (w : Wire), Gives (.enterStandby r w) s (fun t => Only [.obj, .lb, .mg, .fe, .pilot, .cs, .bn, .pwr, .rst, .out] s t)) ∧
  (∀ (s : State), Gives .coreIdleRetention s (fun t => Only [.fe, .pwr] s t)) ∧
  (∀ (s : State) (r : Req) (w : Wire), Gives (.powerModeWrite r w) s (fun t => Only [.obj, .lb, .mg, .fe, .rx, .pilot, .cs, .bn, .pwr, .rst, .out] s t)) ∧
  (∀ (s : State) (chips : List Bool), Gives (.ookPatternMatch chips) s (fun t => Only [.obj, .pwr] s t)) ∧
  (∀ (s : State) (us : Nat), Gives (.wakeNLow us) s (fun t => Only [.obj, .pwr] s t)) ∧
  (∀ (s : State), Gives .wakeDeclared s (fun t => Only [.mg, .fe, .pwr] s t)) ∧
  (∀ (s : State) (low : Bool) (mv us : Nat), Gives (.vsenseWarn low mv us) s (fun t => Only [.obj, .lb, .mg, .fe, .pwr, .rst] s t)) ∧
  (∀ (s : State) (mv us : Nat), Gives (.sagCrossing mv us) s (fun t => Only [.obj, .lb, .mg, .fe, .rx, .helm, .alm, .pilot, .tk, .cs, .bn, .sx, .pwr, .diag, .rst, .free, .out] s t)) ∧
  (∀ (s : State), Gives .anchorSaveDone s (fun t => Only [.obj, .lb, .mg, .fe, .rx, .helm, .alm, .pilot, .tk, .cs, .bn, .sx, .pwr, .diag, .rst, .free, .out] s t)) ∧
  (∀ (s : State) (mv : Nat), Gives (.supplyReturn mv) s (fun t => Only [.obj, .fe, .pwr, .rst] s t)) ∧
  (∀ (s : State) (tj : Int) (n : Nat), Gives (.thermalLimit tj n) s (fun t => Only [.mg, .fe, .pwr, .rst] s t)) ∧
  (∀ (s : State) (tj : Int) (n : Nat), Gives (.thermalTrip tj n) s (fun t => Only [.obj, .lb, .mg, .fe, .rx, .helm, .alm, .pilot, .tk, .cs, .bn, .sx, .pwr, .diag, .rst, .free, .out] s t)) ∧
  (∀ (s : State) (tj : Int) (secs : Nat), Gives (.thermalRecovery tj secs) s (fun t => Only [.obj, .fe, .pwr] s t)) ∧
  (∀ (s : State) (mv us : Nat), Gives (.railBad mv us) s (fun t => Only [.obj, .lb, .mg, .fe, .rx, .helm, .alm, .pilot, .tk, .cs, .bn, .sx, .pwr, .diag, .rst, .free, .out] s t)) ∧
  (∀ (s : State) (mv : Nat), Gives (.vbatMeasure mv) s (fun t => Only [.obj, .mg, .fe, .pwr, .rst] s t)) ∧
  (∀ (s : State), Gives .aonBrownout s (fun t => Only [.obj, .lb, .mg, .fe, .rx, .helm, .alm, .pilot, .tk, .cs, .bn, .sx, .pwr, .diag, .rst, .free, .out] s t)) ∧
  (∀ (s : State) (n : Nat), Gives (.holdUpSupplyLoss n) s (fun t => Only [.obj, .lb, .mg, .fe, .rx, .helm, .alm, .pilot, .tk, .cs, .bn, .sx, .pwr, .diag, .rst, .free, .out] s t)) ∧
  (∀ (s : State) (vbat : Bool), Gives (.aonSupplyChange vbat) s (fun t => Only [.obj] s t)) ∧
  (∀ (s : State) (r : Req), Gives (.vsenseMinRead r) s (fun t => Only [.obj, .lb, .mg, .fe, .bn, .pwr, .rst, .out] s t)) ∧
  (∀ (s : State), Gives .sealDone s (fun t => Only [.obj, .lb, .mg, .fe, .bn, .pwr, .rst, .free, .out] s t)) ∧
  (∀ (s : State), Gives .poraAssert s (fun t => Only [.obj, .lb, .mg, .fe, .rx, .helm, .alm, .pilot, .tk, .cs, .bn, .sx, .pwr, .diag, .rst, .free, .out] s t)) ∧
  (∀ (s : State) (ns : Nat), Gives (.pinAssert ns) s (fun t => Only [.obj, .lb, .mg, .fe, .rx, .helm, .alm, .pilot, .tk, .cs, .bn, .sx, .pwr, .diag, .rst, .free, .out] s t)) ∧
  (∀ (s : State) (x : Straps), Gives (.pinRelease x) s (fun t => Only [.obj, .sx, .rst] s t)) ∧
  (∀ (s : State) (detail : Nat), Gives (.warmAssert detail) s (fun t => Only [.obj, .lb, .mg, .fe, .rx, .helm, .alm, .pilot, .tk, .cs, .bn, .sx, .pwr, .diag, .rst, .free, .out] s t)) ∧
  (∀ (s : State) (detail : Nat), Gives (.coreAssert detail) s (fun t => Only [.obj, .lb, .mg, .fe, .rx, .helm, .alm, .pilot, .tk, .cs, .bn, .sx, .pwr, .diag, .rst, .free, .out] s t)) ∧
  (∀ (s : State), Gives .resetHoldEnd s (fun t => Only [.obj, .rst] s t)) ∧
  (∀ (s : State) (words : List TrimWord), Gives (.trimLoadDone words) s (fun t => Only [.obj, .lb, .mg, .fe, .pwr, .rst] s t)) ∧
  (∀ (s : State), Gives .pllLock s (fun t => Only [.rst] s t)) ∧
  (∀ (s : State) (rootOk : Bool) (rd : List LbRead), Gives (.domainRelease rootOk rd) s (fun t => Only [.obj, .lb, .mg, .fe, .rx, .helm, .alm, .pilot, .tk, .cs, .bn, .sx, .pwr, .rst, .free, .out] s t)) ∧
  (∀ (s : State) (mbit : Option Nat), Gives (.bootImageCheck mbit) s (fun t => Only [.obj, .lb, .mg, .fe, .bn, .pwr, .rst, .out] s t)) ∧
  (∀ (s : State) (r : Req) (w : Wire), Gives (.bootImageWrite r w) s (fun t => Only [.obj, .lb, .mg, .fe, .pilot, .cs, .bn, .pwr, .rst, .out] s t)) ∧
  (∀ (s : State), Gives .firmwareAttach s (fun t => Only [.obj, .mg, .fe, .rx, .helm, .alm, .pilot, .pwr, .rst] s t)) ∧
  (∀ (s : State), Gives .lodestarStart s (fun t => Only [.obj, .mg, .fe, .rx, .helm, .pwr, .rst] s t)) ∧
  (∀ (s : State), Gives .chartStateWrite s (fun t => Only [.obj, .lb, .rst] s t)) ∧
  (∀ (s : State) (r : Req) (w : Wire), Gives (.tack r w) s (fun t => Only [.obj, .lb, .mg, .fe, .pilot, .cs, .bn, .pwr, .rst, .free, .out] s t)) ∧
  (∀ (s : State) (r : Req) (w : Wire), Gives (.tackSegment r w) s (fun t => Only [.obj, .lb, .mg, .fe, .pilot, .cs, .bn, .pwr, .rst, .out] s t)) ∧
  (∀ (s : State), Gives .tackVerifyDone s (fun t => Only [.obj, .lb, .mg, .fe, .bn, .pwr, .rst, .out] s t)) ∧
  (∀ (s : State), Gives .tackAttachTime s (fun t => Only [.obj, .lb, .mg, .fe, .rx, .helm, .alm, .pilot, .tk, .cs, .bn, .sx, .pwr, .diag, .rst, .free, .out] s t)) ∧
  (∀ (s : State) (r : Req) (w : Wire), Gives (.tackConfirm r w) s (fun t => Only [.obj, .lb, .mg, .fe, .pilot, .cs, .bn, .pwr, .rst, .out] s t)) ∧
  (∀ (s : State), Gives .tackSoakDone s (fun t => Only [.obj, .lb, .mg, .fe, .bn, .pwr, .rst, .out] s t)) ∧
  (∀ (s : State), Gives .confirmDeadline s (fun t => Only [.obj, .lb, .mg, .fe, .rx, .helm, .alm, .pilot, .tk, .cs, .bn, .sx, .pwr, .diag, .rst, .free, .out] s t)) ∧
  (∀ (s : State) (core : Nat), Gives (.coreHeartbeat core) s (fun t => Only [.rst] s t)) ∧
  (∀ (s : State) (core : Nat), Gives (.lookoutWarn core) s (fun t => Only [.obj, .lb, .mg, .fe, .pwr, .rst] s t)) ∧
  (∀ (s : State) (core : Nat), Gives (.lookoutLevel1 core) s (fun t => Only [.obj, .lb, .mg, .fe, .rx, .helm, .alm, .pilot, .tk, .cs, .bn, .sx, .pwr, .diag, .rst, .free, .out] s t)) ∧
  (∀ (s : State) (x : Stall), Gives (.lookoutLevel2 x) s (fun t => Only [.obj, .lb, .mg, .fe, .rx, .helm, .alm, .pilot, .tk, .cs, .bn, .sx, .pwr, .diag, .rst, .free, .out] s t)) ∧
  (∀ (s : State) (r : Req) (w : Wire), Gives (.warmRestart r w) s (fun t => Only [.obj, .lb, .mg, .fe, .pilot, .cs, .bn, .pwr, .rst, .out] s t)) ∧
  (∀ (s : State) (r : Req) (w : Wire), Gives (.domainReset r w) s (fun t => Only [.obj, .lb, .mg, .fe, .rx, .helm, .alm, .pilot, .tk, .cs, .bn, .sx, .pwr, .diag, .rst, .free, .out] s t)) ∧
  (∀ (s : State) (x : Straps) (test supply : Bool), Gives (.poraRelease x test supply) s (fun t => Only [.obj, .fe, .sx, .pwr, .rst] s t)) ∧
  (∀ (s : State), Gives .refclkLoss s (fun t => Only [.obj, .lb, .mg, .fe, .rx, .helm, .alm, .pilot, .tk, .cs, .bn, .sx, .pwr, .diag, .rst, .free, .out] s t)) ∧
  (∀ (s : State), Gives .logbookCommit s (fun t => Only [.obj, .lb] s t)) ∧
  (∀ (s : State) (skip : Bool) (bits : Nat) (bad : Option (Option LbRead)), Gives (.scrubLine skip bits bad) s (fun t => Only [.obj, .lb, .mg, .fe, .alm, .pilot, .bn, .sx, .pwr, .rst] s t)) ∧
  (∀ (s : State), Gives .wearProjection s (fun t => Only [.obj, .lb, .mg, .fe, .pwr, .diag, .rst] s t)) ∧
  (∀ (s : State), Gives .rotationReassign s (fun t => Only [.lb, .diag] s t)) ∧
  (∀ (s : State) (temps : List Int), Gives (.tjSample temps) s (fun t => Only [.obj, .lb, .diag] s t)) ∧
  (∀ (s : State), Gives .tjMinute s (fun t => Only [.obj, .lb, .diag] s t)) ∧
  (∀ (s : State) (d delay period : Nat) (bias : Int), Gives (.ageingMeasure d delay period bias) s (fun t => Only [.obj, .lb, .mg, .fe, .pwr, .diag, .rst] s t)) ∧
  (∀ (s : State) (code target : Nat) (moved : Bool), Gives (.backgroundTestRun code target moved) s (fun t => Only [.obj, .rx, .diag] s t)) ∧
  (∀ (s : State) (code target : Nat), Gives (.selftestLate code target) s (fun t => Only [.obj, .mg, .fe, .pwr, .diag, .rst] s t)) ∧
  (∀ (s : State) (a : Nat), Gives (.bankSwap a) s (fun t => Only [.diag] s t)) ∧
  (∀ (s : State) (r : Req) (w : Wire), Gives (.selftestAdcCalibration r w) s (fun t => Only [.obj, .lb, .mg, .fe, .rx, .pilot, .cs, .bn, .pwr, .diag, .rst, .free, .out] s t)) ∧
  (∀ (s : State) (r : Req) (w : Wire), Gives (.selftestBankBist r w) s (fun t => Only [.obj, .lb, .mg, .fe, .rx, .pilot, .cs, .bn, .pwr, .diag, .rst, .free, .out] s t)) ∧
  (∀ (s : State) (r : Req) (w : Wire), Gives (.selftestKeccakKat r w) s (fun t => Only [.obj, .lb, .mg, .fe, .rx, .pilot, .cs, .bn, .pwr, .diag, .rst, .free, .out] s t)) ∧
  (∀ (s : State) (r : Req) (w : Wire), Gives (.selftestAesKat r w) s (fun t => Only [.obj, .lb, .mg, .fe, .rx, .pilot, .cs, .bn, .pwr, .diag, .rst, .free, .out] s t)) ∧
  (∀ (s : State) (r : Req) (w : Wire), Gives (.selftestLogbookRead r w) s (fun t => Only [.obj, .lb, .mg, .fe, .rx, .pilot, .cs, .bn, .pwr, .diag, .rst, .free, .out] s t)) ∧
  (∀ (s : State) (r : Req) (w : Wire), Gives (.selftestTxPowerCal r w) s (fun t => Only [.obj, .lb, .mg, .fe, .rx, .pilot, .cs, .bn, .pwr, .diag, .rst, .free, .out] s t)) ∧
  (∀ (s : State) (code target : Nat) (fail : Bool) (detail : Nat) (gains : List Nat), Gives (.selftestResult code target fail detail gains) s (fun t => Only [.obj, .lb, .mg, .fe, .rx, .bn, .pwr, .diag, .rst] s t)) ∧
  (∀ (s : State) (r : Req) (n : Nat), Gives (.capRecordsRead r n) s (fun t => Only [.obj, .lb, .mg, .fe, .bn, .pwr, .diag, .rst, .out] s t)) ∧
  (∀ (s : State) (r : Req) (n : Nat) (w : Wire), Gives (.capFlush r n w) s (fun t => Only [.obj, .lb, .mg, .fe, .pilot, .cs, .bn, .pwr, .diag, .rst, .out] s t)) ∧
  (∀ (s : State) (channel addr : Nat) (corrected table : Bool), Gives (.dramEccError channel addr corrected table) s (fun t => Only [.obj, .lb, .mg, .fe, .rx, .helm, .alm, .pilot, .tk, .cs, .bn, .sx, .pwr, .diag, .rst, .free, .out] s t)) ∧
  (∀ (s : State) (corrected : Bool), Gives (.sramEccError corrected) s (fun t => Only [.obj, .lb, .mg, .fe, .rx, .helm, .alm, .pilot, .tk, .cs, .bn, .sx, .pwr, .diag, .rst, .free, .out] s t))

/-- Commands that write a few objects of the dictionary change no other: each clause lists the objects. A dictionary write changes
the object it names, the counters of commits, of the pair's stream and of rejected requests, and the values the spec derives
from a written one (R82, R100, R338, R404, R444). -/
def Obligations.ObjectsFrame : Prop :=
  (∀ (s : State) (p heldMs : Nat), Gives (.gainStepUp p heldMs) s (fun t => Objects [Obj.PP_GAIN_STEP_NOW p] s t)) ∧
  (∀ (s : State) (p samples : Nat), Gives (.gainStepDown p samples) s (fun t => Objects [Obj.PP_GAIN_STEP_NOW p, Obj.PP_CLIP_EVENTS p] s t)) ∧
  (∀ (s : State) (c : Nat), Gives (.synthLock c) s (fun t => Objects [Obj.CC_SYNTH_STATE c] s t)) ∧
  (∀ (s : State) (c : Nat) (temp : Int), Gives (.synthTempSample c temp) s (fun t => Objects [Obj.CC_CAL_PENDING c] s t)) ∧
  (∀ (s : State) (c winUs : Nat), Gives (.synthCalStart c winUs) s (fun t => Objects [Obj.CC_SYNTH_STATE c, Obj.CC_CAL_PENDING c, Obj.key Obj.SYNTH_CALIBRATE 4] s t)) ∧
  (∀ (s : State) (b : Nat), Gives (.aerialModeApply b) s (fun t => Objects [Obj.LOW_AERIAL_IN_FORCE, Obj.HIGH_AERIAL_IN_FORCE] s t)) ∧
  (∀ (s : State) (d : Nat), Gives (.txDomainOff d) s (fun t => Objects [Obj.CC_SYNTH_STATE 0, Obj.CC_SYNTH_STATE 1, Obj.CC_SYNTH_STATE 2] s t)) ∧
  (∀ (s : State) (c : Nat), Gives (.chainPowerUp c) s (fun t => Objects [Obj.CC_SYNTH_FREQ c, Obj.CC_SYNTH_STATE c] s t)) ∧
  (∀ (s : State) (d : Nat), Gives (.sfdTimeout d) s (fun t => Objects (s.rx.recs.map (fun r => Obj.PP_FALSE_PREAMBLE (winPort r.win))) s t)) ∧
  (∀ (s : State) (d : Nat) (rssi freqOff : Int) (both : Option (Int × Int)), Gives (.sfdFound d rssi freqOff both) s (fun t => Objects (s.rx.recs.map (fun r => Obj.PP_FALSE_PREAMBLE (winPort r.win))) s t)) ∧
  (∀ (s : State) (d : Nat) (failed modeSwitch : Bool) (len mcs : Nat), Gives (.phrError d failed modeSwitch len mcs) s (fun t => Objects (s.rx.recs.map (fun r => Obj.PP_PHR_ERROR (winPort r.win))) s t)) ∧
  (∀ (s : State) (p : Nat), Gives (.rxGateOpen p) s (fun t => Objects [Obj.PP_GATE_OPENS p] s t)) ∧
  (∀ (s : State) (p w : Nat) (energy : Int), Gives (.rxGateClose p w energy) s (fun t => Objects [Obj.PP_GATE_ENERGY_ONLY p] s t)) ∧
  (∀ (s : State) (kind ix : Nat), Gives (.quietSlotInsert kind ix) s (fun t => Objects [Obj.QUIET_SLOTS, Obj.key Obj.BEARING_RETUNE 4] s t)) ∧
  (∀ (s : State) (b : Nat), Gives (.learnApply b) s (fun t => Objects [Obj.QQ_LEARN_EVICTIONS b, Obj.LOOKUP_REREADS] s t)) ∧
  (∀ (s : State) (b : Nat), Gives (.neighbourSweep b) s (fun t => Objects [Obj.QQ_NB_AGED b] s t)) ∧
  (∀ (s : State) (b i : Nat), Gives (.reassemblyTimeout b i) s (fun t => Objects [Obj.REASSEMBLY_DROPS] s t)) ∧
  (∀ (s : State), Gives .migrateBucket s (fun t => Objects [Obj.MIGRATE_POINTER] s t)) ∧
  (∀ (s : State), Gives .sampleIntervalEnd s (fun t => Objects ((List.range 8).map Obj.CLASS_STATS) s t)) ∧
  (∀ (s : State) (log : Bool), Gives (.ledgerSummaryMirror log) s (fun t => Objects [Obj.LB_COMMITS] s t)) ∧
  (∀ (s : State), Gives .supervisionSend s (fun t => Objects [Obj.TT_FRAMES_TX 0, Obj.TT_FRAMES_TX 1] s t)) ∧
  (∀ (s : State) (p : Nat) (m100 m1000 m2500 : List (List Int)) (snr : Int), Gives (.oamSend p m100 m1000 m2500 snr) s (fun t => Objects [Obj.TT_CW_CORRECTED p, Obj.TT_SYM_CORRECTED p, Obj.TT_CW_UNCORRECTABLE p, Obj.TT_SNR p, Obj.TT_UP_TIME p] s t)) ∧
  (∀ (s : State) (p : Nat) (x : WakeTone), Gives (.trunkWakeDetect p x) s (fun t => Objects [Obj.WAKE_CAUSE] s t)) ∧
  (∀ (s : State) (us : Nat), Gives (.wakeNLow us) s (fun t => Objects [Obj.WAKE_CAUSE] s t)) ∧
  (∀ (s : State) (chips : List Bool), Gives (.ookPatternMatch chips) s (fun t => Objects [Obj.WAKE_CAUSE, Obj.OOK_PARTIAL] s t)) ∧
  (∀ (s : State) (vbat : Bool), Gives (.aonSupplyChange vbat) s (fun t => Objects [Obj.AON_SUPPLY] s t)) ∧
  (∀ (s : State), Gives .slowTickLatch s (fun t => Objects [Obj.CAL_SUBSEC] s t)) ∧
  (∀ (s : State), Gives .slowRatioMeasure s (fun t => Objects [Obj.SX_SLOW_RATIO] s t)) ∧
  (∀ (s : State) (r : Req) (ix sub : Nat) (w : Wire), Gives (.objectWrite r ix sub w) s (fun t => Objects (Obj.key ix sub :: [Obj.LB_COMMITS, Obj.CS_STREAM_BACKLOG, Obj.UNPROTECTED_REJECTS, Obj.SX_RATE,
      Obj.LODESTAR_CHART_TIME, Obj.CC_SYNTH_STATE 0, Obj.CC_SYNTH_STATE 1, Obj.CC_SYNTH_STATE 2] ++
      (List.range 4).map Obj.PP_GAIN_STEP_NOW) s t))

/-- R38: a request naming an index that does not exist is refused with NO_OBJECT, one naming an existing index with a subindex
that does not exist with NO_SUBINDEX: by the checks of a write and of a read of every session,
and as the answer to a write and to a read on the Quay port. The index of BOOT_IMAGE exists for the boot ROM alone (R439, R514), and a start of a procedure is
a command of its own, as is a write or a read that has a row of the table to itself (ownRow, ownRead). -/
def Obligations.UnknownObjectsRefused : Prop :=
  (∀ (s : State) (sess ix sub : Nat) (w : Wire) (late : Val → Option Rc), Obj.hasIndex ix = false →
    errorOf (s.checkWrite sess ix sub w late) = some .noObject) ∧
  (∀ (s : State) (sess ix sub : Nat) (w : Wire) (late : Val → Option Rc), Obj.hasIndex ix = true → ownRow (Obj.key ix sub) = false →
    Obj.key ix sub ≠ Obj.BOOT_IMAGE → Obj.row (Obj.key ix sub) = none → errorOf (s.checkWrite sess ix sub w late) = some .noSubindex) ∧
  (∀ (s : State) (r : Req) (ix sub : Nat) (w : Wire), Ready s r → sub < 256 → Obj.hasIndex ix = false →
    Gives (.objectWrite r ix sub w) s (fun t =>
      Replied t r Rc.noObject.coap (.detail .noObject none) ∧ t.obj = s.obj)) ∧
  (∀ (s : State) (r : Req) (ix sub : Nat) (w : Wire), Ready s r → sub < 256 → Obj.hasIndex ix = true →
    ownRow (Obj.key ix sub) = false → Obj.key ix sub ≠ Obj.BOOT_IMAGE → Obj.row (Obj.key ix sub) = none →
    Gives (.objectWrite r ix sub w) s (fun t =>
      Replied t r Rc.noSubindex.coap (.detail .noSubindex none) ∧ t.obj = s.obj)) ∧
  (∀ (s : State) (sess ix sub : Nat), Obj.hasIndex ix = false → s.checkRead sess ix sub = some .noObject) ∧
  (∀ (s : State) (sess ix sub : Nat), Obj.hasIndex ix = true → Obj.key ix sub ≠ Obj.BOOT_IMAGE → Obj.row (Obj.key ix sub) = none →
    s.checkRead sess ix sub = some .noSubindex) ∧
  (∀ (s : State) (r : Req) (ix sub : Nat), Ready s r → sub < 256 → Obj.hasIndex ix = false → ownRead (Obj.key ix sub) = false →
    Gives (.wakeOnAccessRead r { ix := ix, sub := sub }) s (fun t =>
      Replied t r Rc.noObject.coap (.detail .noObject none) ∧ t.obj = s.obj)) ∧
  (∀ (s : State) (r : Req) (ix sub : Nat), Ready s r → sub < 256 → Obj.hasIndex ix = true → ownRead (Obj.key ix sub) = false →
    Obj.key ix sub ≠ Obj.BOOT_IMAGE → Obj.row (Obj.key ix sub) = none →
    Gives (.wakeOnAccessRead r { ix := ix, sub := sub }) s (fun t =>
      Replied t r Rc.noSubindex.coap (.detail .noSubindex none) ∧ t.obj = s.obj))

/-- R74: a record raised while its FIFO is full takes the place of the oldest record, LOST goes up by 1 (a 64-bit counter), and
the record carries the FIFO's next sequence number; no other FIFO changes. -/
def Obligations.FullFifoLosesOldest : Prop :=
  ∀ (s : State) (code sev source dom : Nat) (param : Octets) (f : Fifo), s.mg.busy = false →
    s.mg.fifos[fifoOf code]? = some f → f.recs.length = fifoDepth →
    ∃ r, r.code = code ∧ r.sev = sev ∧ r.seq = f.nextSeq ∧ r.time = s.time ∧ r.param = fit 36 param ∧
      (s.raiseFrom code sev source dom param).mg.fifos[fifoOf code]? =
        some { f with recs := f.recs.tail ++ [r], lost := (f.lost + 1) % 2 ^ 64, nextSeq := (f.nextSeq + 1) % 2 ^ 32 } ∧
      ∀ n, n ≠ fifoOf code → (s.raiseFrom code sev source dom param).mg.fifos[n]? = s.mg.fifos[n]?

/-- R520, R59: a write on the Quay port that the checks refuse is answered with the code of the first cause; no object changes; the
newest journal record carries the code. -/
def Obligations.RefusedWriteChangesNothing : Prop :=
  ∀ (s : State) (r : Req) (ix sub : Nat) (w : Wire) (rc : Rc), Ready s r → ownRow (Obj.key ix sub) = false →
    errorOf (s.entered.checkWrite 0 ix sub w (s.entered.lateCause (Obj.key ix sub))) = some rc →
    Gives (.objectWrite r ix sub w) s (fun t =>
      Replied t r rc.coap (.detail rc none) ∧ t.obj = s.obj ∧
      (t.lb.journal.head?.map (fun j => (j.kind, j.session, j.index, j.sub, j.result))) = some (1, 0, ix, sub, rc))
end

