-- ==== Sys2Proof/Laws/State.lean ====
section
/-! SUPPORT. What each update of the state leaves alone: one lemma for every field. -/
namespace Sys2Proof.Machine

/-! ### set -/
@[simp] theorem State.set_obj (s : State) (k : Nat) (v : Val) : (s.set k v).obj = Store.put k v s.obj := rfl
@[simp] theorem State.set_lb (s : State) (k : Nat) (v : Val) : (s.set k v).lb = s.lb := rfl
@[simp] theorem State.set_mg (s : State) (k : Nat) (v : Val) : (s.set k v).mg = s.mg := rfl
@[simp] theorem State.set_fe (s : State) (k : Nat) (v : Val) : (s.set k v).fe = s.fe := rfl
@[simp] theorem State.set_rx (s : State) (k : Nat) (v : Val) : (s.set k v).rx = s.rx := rfl
@[simp] theorem State.set_helm (s : State) (k : Nat) (v : Val) : (s.set k v).helm = s.helm := rfl
@[simp] theorem State.set_alm (s : State) (k : Nat) (v : Val) : (s.set k v).alm = s.alm := rfl
@[simp] theorem State.set_pilot (s : State) (k : Nat) (v : Val) : (s.set k v).pilot = s.pilot := rfl
@[simp] theorem State.set_tk (s : State) (k : Nat) (v : Val) : (s.set k v).tk = s.tk := rfl
@[simp] theorem State.set_cs (s : State) (k : Nat) (v : Val) : (s.set k v).cs = s.cs := rfl
@[simp] theorem State.set_bn (s : State) (k : Nat) (v : Val) : (s.set k v).bn = s.bn := rfl
@[simp] theorem State.set_sx (s : State) (k : Nat) (v : Val) : (s.set k v).sx = s.sx := rfl
@[simp] theorem State.set_pwr (s : State) (k : Nat) (v : Val) : (s.set k v).pwr = s.pwr := rfl
@[simp] theorem State.set_diag (s : State) (k : Nat) (v : Val) : (s.set k v).diag = s.diag := rfl
@[simp] theorem State.set_rst (s : State) (k : Nat) (v : Val) : (s.set k v).rst = s.rst := rfl
@[simp] theorem State.set_now (s : State) (k : Nat) (v : Val) : (s.set k v).now = s.now := rfl
@[simp] theorem State.set_free (s : State) (k : Nat) (v : Val) : (s.set k v).free = s.free := rfl
@[simp] theorem State.set_out (s : State) (k : Nat) (v : Val) : (s.set k v).out = s.out := rfl
@[simp] theorem State.set_pending (s : State) (k : Nat) (v : Val) : (s.set k v).pending = s.pending := rfl

/-! ### setI -/
@[simp] theorem State.setI_lb (s : State) (k : Nat) (i : Int) : (s.setI k i).lb = s.lb := rfl
@[simp] theorem State.setI_mg (s : State) (k : Nat) (i : Int) : (s.setI k i).mg = s.mg := rfl
@[simp] theorem State.setI_fe (s : State) (k : Nat) (i : Int) : (s.setI k i).fe = s.fe := rfl
@[simp] theorem State.setI_rx (s : State) (k : Nat) (i : Int) : (s.setI k i).rx = s.rx := rfl
@[simp] theorem State.setI_helm (s : State) (k : Nat) (i : Int) : (s.setI k i).helm = s.helm := rfl
@[simp] theorem State.setI_alm (s : State) (k : Nat) (i : Int) : (s.setI k i).alm = s.alm := rfl
@[simp] theorem State.setI_pilot (s : State) (k : Nat) (i : Int) : (s.setI k i).pilot = s.pilot := rfl
@[simp] theorem State.setI_tk (s : State) (k : Nat) (i : Int) : (s.setI k i).tk = s.tk := rfl
@[simp] theorem State.setI_cs (s : State) (k : Nat) (i : Int) : (s.setI k i).cs = s.cs := rfl
@[simp] theorem State.setI_bn (s : State) (k : Nat) (i : Int) : (s.setI k i).bn = s.bn := rfl
@[simp] theorem State.setI_sx (s : State) (k : Nat) (i : Int) : (s.setI k i).sx = s.sx := rfl
@[simp] theorem State.setI_pwr (s : State) (k : Nat) (i : Int) : (s.setI k i).pwr = s.pwr := rfl
@[simp] theorem State.setI_diag (s : State) (k : Nat) (i : Int) : (s.setI k i).diag = s.diag := rfl
@[simp] theorem State.setI_rst (s : State) (k : Nat) (i : Int) : (s.setI k i).rst = s.rst := rfl
@[simp] theorem State.setI_now (s : State) (k : Nat) (i : Int) : (s.setI k i).now = s.now := rfl
@[simp] theorem State.setI_free (s : State) (k : Nat) (i : Int) : (s.setI k i).free = s.free := rfl
@[simp] theorem State.setI_out (s : State) (k : Nat) (i : Int) : (s.setI k i).out = s.out := rfl
@[simp] theorem State.setI_pending (s : State) (k : Nat) (i : Int) : (s.setI k i).pending = s.pending := rfl

/-! ### setN -/
@[simp] theorem State.setN_lb (s : State) (k n : Nat) : (s.setN k n).lb = s.lb := rfl
@[simp] theorem State.setN_mg (s : State) (k n : Nat) : (s.setN k n).mg = s.mg := rfl
@[simp] theorem State.setN_fe (s : State) (k n : Nat) : (s.setN k n).fe = s.fe := rfl
@[simp] theorem State.setN_rx (s : State) (k n : Nat) : (s.setN k n).rx = s.rx := rfl
@[simp] theorem State.setN_helm (s : State) (k n : Nat) : (s.setN k n).helm = s.helm := rfl
@[simp] theorem State.setN_alm (s : State) (k n : Nat) : (s.setN k n).alm = s.alm := rfl
@[simp] theorem State.setN_pilot (s : State) (k n : Nat) : (s.setN k n).pilot = s.pilot := rfl
@[simp] theorem State.setN_tk (s : State) (k n : Nat) : (s.setN k n).tk = s.tk := rfl
@[simp] theorem State.setN_cs (s : State) (k n : Nat) : (s.setN k n).cs = s.cs := rfl
@[simp] theorem State.setN_bn (s : State) (k n : Nat) : (s.setN k n).bn = s.bn := rfl
@[simp] theorem State.setN_sx (s : State) (k n : Nat) : (s.setN k n).sx = s.sx := rfl
@[simp] theorem State.setN_pwr (s : State) (k n : Nat) : (s.setN k n).pwr = s.pwr := rfl
@[simp] theorem State.setN_diag (s : State) (k n : Nat) : (s.setN k n).diag = s.diag := rfl
@[simp] theorem State.setN_rst (s : State) (k n : Nat) : (s.setN k n).rst = s.rst := rfl
@[simp] theorem State.setN_now (s : State) (k n : Nat) : (s.setN k n).now = s.now := rfl
@[simp] theorem State.setN_free (s : State) (k n : Nat) : (s.setN k n).free = s.free := rfl
@[simp] theorem State.setN_out (s : State) (k n : Nat) : (s.setN k n).out = s.out := rfl
@[simp] theorem State.setN_pending (s : State) (k n : Nat) : (s.setN k n).pending = s.pending := rfl

/-! ### setB -/
@[simp] theorem State.setB_lb (s : State) (k : Nat) (b : Bool) : (s.setB k b).lb = s.lb := rfl
@[simp] theorem State.setB_mg (s : State) (k : Nat) (b : Bool) : (s.setB k b).mg = s.mg := rfl
@[simp] theorem State.setB_fe (s : State) (k : Nat) (b : Bool) : (s.setB k b).fe = s.fe := rfl
@[simp] theorem State.setB_rx (s : State) (k : Nat) (b : Bool) : (s.setB k b).rx = s.rx := rfl
@[simp] theorem State.setB_helm (s : State) (k : Nat) (b : Bool) : (s.setB k b).helm = s.helm := rfl
@[simp] theorem State.setB_alm (s : State) (k : Nat) (b : Bool) : (s.setB k b).alm = s.alm := rfl
@[simp] theorem State.setB_pilot (s : State) (k : Nat) (b : Bool) : (s.setB k b).pilot = s.pilot := rfl
@[simp] theorem State.setB_tk (s : State) (k : Nat) (b : Bool) : (s.setB k b).tk = s.tk := rfl
@[simp] theorem State.setB_cs (s : State) (k : Nat) (b : Bool) : (s.setB k b).cs = s.cs := rfl
@[simp] theorem State.setB_bn (s : State) (k : Nat) (b : Bool) : (s.setB k b).bn = s.bn := rfl
@[simp] theorem State.setB_sx (s : State) (k : Nat) (b : Bool) : (s.setB k b).sx = s.sx := rfl
@[simp] theorem State.setB_pwr (s : State) (k : Nat) (b : Bool) : (s.setB k b).pwr = s.pwr := rfl
@[simp] theorem State.setB_diag (s : State) (k : Nat) (b : Bool) : (s.setB k b).diag = s.diag := rfl
@[simp] theorem State.setB_rst (s : State) (k : Nat) (b : Bool) : (s.setB k b).rst = s.rst := rfl
@[simp] theorem State.setB_now (s : State) (k : Nat) (b : Bool) : (s.setB k b).now = s.now := rfl
@[simp] theorem State.setB_free (s : State) (k : Nat) (b : Bool) : (s.setB k b).free = s.free := rfl
@[simp] theorem State.setB_out (s : State) (k : Nat) (b : Bool) : (s.setB k b).out = s.out := rfl
@[simp] theorem State.setB_pending (s : State) (k : Nat) (b : Bool) : (s.setB k b).pending = s.pending := rfl

/-! ### bumpBy -/
@[simp] theorem State.bumpBy_lb (s : State) (k n : Nat) : (s.bumpBy k n).lb = s.lb := rfl
@[simp] theorem State.bumpBy_mg (s : State) (k n : Nat) : (s.bumpBy k n).mg = s.mg := rfl
@[simp] theorem State.bumpBy_fe (s : State) (k n : Nat) : (s.bumpBy k n).fe = s.fe := rfl
@[simp] theorem State.bumpBy_rx (s : State) (k n : Nat) : (s.bumpBy k n).rx = s.rx := rfl
@[simp] theorem State.bumpBy_helm (s : State) (k n : Nat) : (s.bumpBy k n).helm = s.helm := rfl
@[simp] theorem State.bumpBy_alm (s : State) (k n : Nat) : (s.bumpBy k n).alm = s.alm := rfl
@[simp] theorem State.bumpBy_pilot (s : State) (k n : Nat) : (s.bumpBy k n).pilot = s.pilot := rfl
@[simp] theorem State.bumpBy_tk (s : State) (k n : Nat) : (s.bumpBy k n).tk = s.tk := rfl
@[simp] theorem State.bumpBy_cs (s : State) (k n : Nat) : (s.bumpBy k n).cs = s.cs := rfl
@[simp] theorem State.bumpBy_bn (s : State) (k n : Nat) : (s.bumpBy k n).bn = s.bn := rfl
@[simp] theorem State.bumpBy_sx (s : State) (k n : Nat) : (s.bumpBy k n).sx = s.sx := rfl
@[simp] theorem State.bumpBy_pwr (s : State) (k n : Nat) : (s.bumpBy k n).pwr = s.pwr := rfl
@[simp] theorem State.bumpBy_diag (s : State) (k n : Nat) : (s.bumpBy k n).diag = s.diag := rfl
@[simp] theorem State.bumpBy_rst (s : State) (k n : Nat) : (s.bumpBy k n).rst = s.rst := rfl
@[simp] theorem State.bumpBy_now (s : State) (k n : Nat) : (s.bumpBy k n).now = s.now := rfl
@[simp] theorem State.bumpBy_free (s : State) (k n : Nat) : (s.bumpBy k n).free = s.free := rfl
@[simp] theorem State.bumpBy_out (s : State) (k n : Nat) : (s.bumpBy k n).out = s.out := rfl
@[simp] theorem State.bumpBy_pending (s : State) (k n : Nat) : (s.bumpBy k n).pending = s.pending := rfl

/-! ### bump -/
@[simp] theorem State.bump_lb (s : State) (k : Nat) : (s.bump k).lb = s.lb := rfl
@[simp] theorem State.bump_mg (s : State) (k : Nat) : (s.bump k).mg = s.mg := rfl
@[simp] theorem State.bump_fe (s : State) (k : Nat) : (s.bump k).fe = s.fe := rfl
@[simp] theorem State.bump_rx (s : State) (k : Nat) : (s.bump k).rx = s.rx := rfl
@[simp] theorem State.bump_helm (s : State) (k : Nat) : (s.bump k).helm = s.helm := rfl
@[simp] theorem State.bump_alm (s : State) (k : Nat) : (s.bump k).alm = s.alm := rfl
@[simp] theorem State.bump_pilot (s : State) (k : Nat) : (s.bump k).pilot = s.pilot := rfl
@[simp] theorem State.bump_tk (s : State) (k : Nat) : (s.bump k).tk = s.tk := rfl
@[simp] theorem State.bump_cs (s : State) (k : Nat) : (s.bump k).cs = s.cs := rfl
@[simp] theorem State.bump_bn (s : State) (k : Nat) : (s.bump k).bn = s.bn := rfl
@[simp] theorem State.bump_sx (s : State) (k : Nat) : (s.bump k).sx = s.sx := rfl
@[simp] theorem State.bump_pwr (s : State) (k : Nat) : (s.bump k).pwr = s.pwr := rfl
@[simp] theorem State.bump_diag (s : State) (k : Nat) : (s.bump k).diag = s.diag := rfl
@[simp] theorem State.bump_rst (s : State) (k : Nat) : (s.bump k).rst = s.rst := rfl
@[simp] theorem State.bump_now (s : State) (k : Nat) : (s.bump k).now = s.now := rfl
@[simp] theorem State.bump_free (s : State) (k : Nat) : (s.bump k).free = s.free := rfl
@[simp] theorem State.bump_out (s : State) (k : Nat) : (s.bump k).out = s.out := rfl
@[simp] theorem State.bump_pending (s : State) (k : Nat) : (s.bump k).pending = s.pending := rfl

/-! ### dropBy -/
@[simp] theorem State.dropBy_lb (s : State) (k n : Nat) : (s.dropBy k n).lb = s.lb := rfl
@[simp] theorem State.dropBy_mg (s : State) (k n : Nat) : (s.dropBy k n).mg = s.mg := rfl
@[simp] theorem State.dropBy_fe (s : State) (k n : Nat) : (s.dropBy k n).fe = s.fe := rfl
@[simp] theorem State.dropBy_rx (s : State) (k n : Nat) : (s.dropBy k n).rx = s.rx := rfl
@[simp] theorem State.dropBy_helm (s : State) (k n : Nat) : (s.dropBy k n).helm = s.helm := rfl
@[simp] theorem State.dropBy_alm (s : State) (k n : Nat) : (s.dropBy k n).alm = s.alm := rfl
@[simp] theorem State.dropBy_pilot (s : State) (k n : Nat) : (s.dropBy k n).pilot = s.pilot := rfl
@[simp] theorem State.dropBy_tk (s : State) (k n : Nat) : (s.dropBy k n).tk = s.tk := rfl
@[simp] theorem State.dropBy_cs (s : State) (k n : Nat) : (s.dropBy k n).cs = s.cs := rfl
@[simp] theorem State.dropBy_bn (s : State) (k n : Nat) : (s.dropBy k n).bn = s.bn := rfl
@[simp] theorem State.dropBy_sx (s : State) (k n : Nat) : (s.dropBy k n).sx = s.sx := rfl
@[simp] theorem State.dropBy_pwr (s : State) (k n : Nat) : (s.dropBy k n).pwr = s.pwr := rfl
@[simp] theorem State.dropBy_diag (s : State) (k n : Nat) : (s.dropBy k n).diag = s.diag := rfl
@[simp] theorem State.dropBy_rst (s : State) (k n : Nat) : (s.dropBy k n).rst = s.rst := rfl
@[simp] theorem State.dropBy_now (s : State) (k n : Nat) : (s.dropBy k n).now = s.now := rfl
@[simp] theorem State.dropBy_free (s : State) (k n : Nat) : (s.dropBy k n).free = s.free := rfl
@[simp] theorem State.dropBy_out (s : State) (k n : Nat) : (s.dropBy k n).out = s.out := rfl
@[simp] theorem State.dropBy_pending (s : State) (k n : Nat) : (s.dropBy k n).pending = s.pending := rfl

/-! ### emit -/
@[simp] theorem State.emit_obj (s : State) (o : Out) : (s.emit o).obj = s.obj := rfl
@[simp] theorem State.emit_lb (s : State) (o : Out) : (s.emit o).lb = s.lb := rfl
@[simp] theorem State.emit_mg (s : State) (o : Out) : (s.emit o).mg = s.mg := rfl
@[simp] theorem State.emit_fe (s : State) (o : Out) : (s.emit o).fe = s.fe := rfl
@[simp] theorem State.emit_rx (s : State) (o : Out) : (s.emit o).rx = s.rx := rfl
@[simp] theorem State.emit_helm (s : State) (o : Out) : (s.emit o).helm = s.helm := rfl
@[simp] theorem State.emit_alm (s : State) (o : Out) : (s.emit o).alm = s.alm := rfl
@[simp] theorem State.emit_pilot (s : State) (o : Out) : (s.emit o).pilot = s.pilot := rfl
@[simp] theorem State.emit_tk (s : State) (o : Out) : (s.emit o).tk = s.tk := rfl
@[simp] theorem State.emit_cs (s : State) (o : Out) : (s.emit o).cs = s.cs := rfl
@[simp] theorem State.emit_bn (s : State) (o : Out) : (s.emit o).bn = s.bn := rfl
@[simp] theorem State.emit_sx (s : State) (o : Out) : (s.emit o).sx = s.sx := rfl
@[simp] theorem State.emit_pwr (s : State) (o : Out) : (s.emit o).pwr = s.pwr := rfl
@[simp] theorem State.emit_diag (s : State) (o : Out) : (s.emit o).diag = s.diag := rfl
@[simp] theorem State.emit_rst (s : State) (o : Out) : (s.emit o).rst = s.rst := rfl
@[simp] theorem State.emit_now (s : State) (o : Out) : (s.emit o).now = s.now := rfl
@[simp] theorem State.emit_free (s : State) (o : Out) : (s.emit o).free = s.free := rfl
@[simp] theorem State.emit_out (s : State) (o : Out) : (s.emit o).out = o :: s.out := rfl
@[simp] theorem State.emit_pending (s : State) (o : Out) : (s.emit o).pending = s.pending := rfl

/-! ### setCond -/
@[simp] theorem State.setCond_obj (s : State) (d : Nat) (c : Cond) : (s.setCond d c).obj = s.obj := rfl
@[simp] theorem State.setCond_lb (s : State) (d : Nat) (c : Cond) : (s.setCond d c).lb = s.lb := rfl
@[simp] theorem State.setCond_mg (s : State) (d : Nat) (c : Cond) : (s.setCond d c).mg = s.mg := rfl
@[simp] theorem State.setCond_rx (s : State) (d : Nat) (c : Cond) : (s.setCond d c).rx = s.rx := rfl
@[simp] theorem State.setCond_helm (s : State) (d : Nat) (c : Cond) : (s.setCond d c).helm = s.helm := rfl
@[simp] theorem State.setCond_alm (s : State) (d : Nat) (c : Cond) : (s.setCond d c).alm = s.alm := rfl
@[simp] theorem State.setCond_pilot (s : State) (d : Nat) (c : Cond) : (s.setCond d c).pilot = s.pilot := rfl
@[simp] theorem State.setCond_tk (s : State) (d : Nat) (c : Cond) : (s.setCond d c).tk = s.tk := rfl
@[simp] theorem State.setCond_cs (s : State) (d : Nat) (c : Cond) : (s.setCond d c).cs = s.cs := rfl
@[simp] theorem State.setCond_bn (s : State) (d : Nat) (c : Cond) : (s.setCond d c).bn = s.bn := rfl
@[simp] theorem State.setCond_sx (s : State) (d : Nat) (c : Cond) : (s.setCond d c).sx = s.sx := rfl
@[simp] theorem State.setCond_diag (s : State) (d : Nat) (c : Cond) : (s.setCond d c).diag = s.diag := rfl
@[simp] theorem State.setCond_rst (s : State) (d : Nat) (c : Cond) : (s.setCond d c).rst = s.rst := rfl
@[simp] theorem State.setCond_now (s : State) (d : Nat) (c : Cond) : (s.setCond d c).now = s.now := rfl
@[simp] theorem State.setCond_free (s : State) (d : Nat) (c : Cond) : (s.setCond d c).free = s.free := rfl
@[simp] theorem State.setCond_out (s : State) (d : Nat) (c : Cond) : (s.setCond d c).out = s.out := rfl
@[simp] theorem State.setCond_pending (s : State) (d : Nat) (c : Cond) : (s.setCond d c).pending = s.pending := rfl
@[simp] theorem State.setCond_fe (s : State) (d : Nat) (c : Cond) : (s.setCond d c).fe = s.femOf d c := rfl

/-! ### updFifo -/
@[simp] theorem State.updFifo_obj (s : State) (n : Nat) (g : Fifo → Fifo) : (s.updFifo n g).obj = s.obj := rfl
@[simp] theorem State.updFifo_lb (s : State) (n : Nat) (g : Fifo → Fifo) : (s.updFifo n g).lb = s.lb := rfl
@[simp] theorem State.updFifo_mg (s : State) (n : Nat) (g : Fifo → Fifo) : (s.updFifo n g).mg = { s.mg with fifos := upd s.mg.fifos n g } := rfl
@[simp] theorem State.updFifo_fe (s : State) (n : Nat) (g : Fifo → Fifo) : (s.updFifo n g).fe = s.fe := rfl
@[simp] theorem State.updFifo_rx (s : State) (n : Nat) (g : Fifo → Fifo) : (s.updFifo n g).rx = s.rx := rfl
@[simp] theorem State.updFifo_helm (s : State) (n : Nat) (g : Fifo → Fifo) : (s.updFifo n g).helm = s.helm := rfl
@[simp] theorem State.updFifo_alm (s : State) (n : Nat) (g : Fifo → Fifo) : (s.updFifo n g).alm = s.alm := rfl
@[simp] theorem State.updFifo_pilot (s : State) (n : Nat) (g : Fifo → Fifo) : (s.updFifo n g).pilot = s.pilot := rfl
@[simp] theorem State.updFifo_tk (s : State) (n : Nat) (g : Fifo → Fifo) : (s.updFifo n g).tk = s.tk := rfl
@[simp] theorem State.updFifo_cs (s : State) (n : Nat) (g : Fifo → Fifo) : (s.updFifo n g).cs = s.cs := rfl
@[simp] theorem State.updFifo_bn (s : State) (n : Nat) (g : Fifo → Fifo) : (s.updFifo n g).bn = s.bn := rfl
@[simp] theorem State.updFifo_sx (s : State) (n : Nat) (g : Fifo → Fifo) : (s.updFifo n g).sx = s.sx := rfl
@[simp] theorem State.updFifo_pwr (s : State) (n : Nat) (g : Fifo → Fifo) : (s.updFifo n g).pwr = s.pwr := rfl
@[simp] theorem State.updFifo_diag (s : State) (n : Nat) (g : Fifo → Fifo) : (s.updFifo n g).diag = s.diag := rfl
@[simp] theorem State.updFifo_rst (s : State) (n : Nat) (g : Fifo → Fifo) : (s.updFifo n g).rst = s.rst := rfl
@[simp] theorem State.updFifo_now (s : State) (n : Nat) (g : Fifo → Fifo) : (s.updFifo n g).now = s.now := rfl
@[simp] theorem State.updFifo_free (s : State) (n : Nat) (g : Fifo → Fifo) : (s.updFifo n g).free = s.free := rfl
@[simp] theorem State.updFifo_out (s : State) (n : Nat) (g : Fifo → Fifo) : (s.updFifo n g).out = s.out := rfl
@[simp] theorem State.updFifo_pending (s : State) (n : Nat) (g : Fifo → Fifo) : (s.updFifo n g).pending = s.pending := rfl

/-! ### updSession -/
@[simp] theorem State.updSession_obj (s : State) (n : Nat) (g : Session → Session) : (s.updSession n g).obj = s.obj := rfl
@[simp] theorem State.updSession_lb (s : State) (n : Nat) (g : Session → Session) : (s.updSession n g).lb = s.lb := rfl
@[simp] theorem State.updSession_fe (s : State) (n : Nat) (g : Session → Session) : (s.updSession n g).fe = s.fe := rfl
@[simp] theorem State.updSession_rx (s : State) (n : Nat) (g : Session → Session) : (s.updSession n g).rx = s.rx := rfl
@[simp] theorem State.updSession_helm (s : State) (n : Nat) (g : Session → Session) : (s.updSession n g).helm = s.helm := rfl
@[simp] theorem State.updSession_alm (s : State) (n : Nat) (g : Session → Session) : (s.updSession n g).alm = s.alm := rfl
@[simp] theorem State.updSession_pilot (s : State) (n : Nat) (g : Session → Session) : (s.updSession n g).pilot = s.pilot := rfl
@[simp] theorem State.updSession_tk (s : State) (n : Nat) (g : Session → Session) : (s.updSession n g).tk = s.tk := rfl
@[simp] theorem State.updSession_cs (s : State) (n : Nat) (g : Session → Session) : (s.updSession n g).cs = s.cs := rfl
@[simp] theorem State.updSession_bn (s : State) (n : Nat) (g : Session → Session) : (s.updSession n g).bn = s.bn := rfl
@[simp] theorem State.updSession_sx (s : State) (n : Nat) (g : Session → Session) : (s.updSession n g).sx = s.sx := rfl
@[simp] theorem State.updSession_pwr (s : State) (n : Nat) (g : Session → Session) : (s.updSession n g).pwr = s.pwr := rfl
@[simp] theorem State.updSession_diag (s : State) (n : Nat) (g : Session → Session) : (s.updSession n g).diag = s.diag := rfl
@[simp] theorem State.updSession_rst (s : State) (n : Nat) (g : Session → Session) : (s.updSession n g).rst = s.rst := rfl
@[simp] theorem State.updSession_now (s : State) (n : Nat) (g : Session → Session) : (s.updSession n g).now = s.now := rfl
@[simp] theorem State.updSession_free (s : State) (n : Nat) (g : Session → Session) : (s.updSession n g).free = s.free := rfl
@[simp] theorem State.updSession_out (s : State) (n : Nat) (g : Session → Session) : (s.updSession n g).out = s.out := rfl
@[simp] theorem State.updSession_pending (s : State) (n : Nat) (g : Session → Session) : (s.updSession n g).pending = s.pending := rfl

/-! ### quayFrame -/
@[simp] theorem State.quayFrame_obj (s : State) (kind : Nat) (tok : Tok) (code : Nat) (p : Payload) (takes : Option (Nat × Nat)) : (s.quayFrame kind tok code p takes).obj = s.obj := rfl
@[simp] theorem State.quayFrame_lb (s : State) (kind : Nat) (tok : Tok) (code : Nat) (p : Payload) (takes : Option (Nat × Nat)) : (s.quayFrame kind tok code p takes).lb = s.lb := rfl
@[simp] theorem State.quayFrame_fe (s : State) (kind : Nat) (tok : Tok) (code : Nat) (p : Payload) (takes : Option (Nat × Nat)) : (s.quayFrame kind tok code p takes).fe = s.fe := rfl
@[simp] theorem State.quayFrame_rx (s : State) (kind : Nat) (tok : Tok) (code : Nat) (p : Payload) (takes : Option (Nat × Nat)) : (s.quayFrame kind tok code p takes).rx = s.rx := rfl
@[simp] theorem State.quayFrame_helm (s : State) (kind : Nat) (tok : Tok) (code : Nat) (p : Payload) (takes : Option (Nat × Nat)) : (s.quayFrame kind tok code p takes).helm = s.helm := rfl
@[simp] theorem State.quayFrame_alm (s : State) (kind : Nat) (tok : Tok) (code : Nat) (p : Payload) (takes : Option (Nat × Nat)) : (s.quayFrame kind tok code p takes).alm = s.alm := rfl
@[simp] theorem State.quayFrame_pilot (s : State) (kind : Nat) (tok : Tok) (code : Nat) (p : Payload) (takes : Option (Nat × Nat)) : (s.quayFrame kind tok code p takes).pilot = s.pilot := rfl
@[simp] theorem State.quayFrame_tk (s : State) (kind : Nat) (tok : Tok) (code : Nat) (p : Payload) (takes : Option (Nat × Nat)) : (s.quayFrame kind tok code p takes).tk = s.tk := rfl
@[simp] theorem State.quayFrame_cs (s : State) (kind : Nat) (tok : Tok) (code : Nat) (p : Payload) (takes : Option (Nat × Nat)) : (s.quayFrame kind tok code p takes).cs = s.cs := rfl
@[simp] theorem State.quayFrame_bn (s : State) (kind : Nat) (tok : Tok) (code : Nat) (p : Payload) (takes : Option (Nat × Nat)) : (s.quayFrame kind tok code p takes).bn = s.bn := rfl
@[simp] theorem State.quayFrame_sx (s : State) (kind : Nat) (tok : Tok) (code : Nat) (p : Payload) (takes : Option (Nat × Nat)) : (s.quayFrame kind tok code p takes).sx = s.sx := rfl
@[simp] theorem State.quayFrame_pwr (s : State) (kind : Nat) (tok : Tok) (code : Nat) (p : Payload) (takes : Option (Nat × Nat)) : (s.quayFrame kind tok code p takes).pwr = s.pwr := rfl
@[simp] theorem State.quayFrame_diag (s : State) (kind : Nat) (tok : Tok) (code : Nat) (p : Payload) (takes : Option (Nat × Nat)) : (s.quayFrame kind tok code p takes).diag = s.diag := rfl
@[simp] theorem State.quayFrame_rst (s : State) (kind : Nat) (tok : Tok) (code : Nat) (p : Payload) (takes : Option (Nat × Nat)) : (s.quayFrame kind tok code p takes).rst = s.rst := rfl
@[simp] theorem State.quayFrame_now (s : State) (kind : Nat) (tok : Tok) (code : Nat) (p : Payload) (takes : Option (Nat × Nat)) : (s.quayFrame kind tok code p takes).now = s.now := rfl
@[simp] theorem State.quayFrame_free (s : State) (kind : Nat) (tok : Tok) (code : Nat) (p : Payload) (takes : Option (Nat × Nat)) : (s.quayFrame kind tok code p takes).free = s.free := rfl
@[simp] theorem State.quayFrame_out (s : State) (kind : Nat) (tok : Tok) (code : Nat) (p : Payload) (takes : Option (Nat × Nat)) : (s.quayFrame kind tok code p takes).out = s.out := rfl
@[simp] theorem State.quayFrame_pending (s : State) (kind : Nat) (tok : Tok) (code : Nat) (p : Payload) (takes : Option (Nat × Nat)) : (s.quayFrame kind tok code p takes).pending = s.pending := rfl

/-! ### journal -/
@[simp] theorem State.journal_obj (s : State) (kind session index sub : Nat) (result : Rc) (old new : Octets) : (s.journal kind session index sub result old new).obj = s.obj := rfl
@[simp] theorem State.journal_mg (s : State) (kind session index sub : Nat) (result : Rc) (old new : Octets) : (s.journal kind session index sub result old new).mg = s.mg := rfl
@[simp] theorem State.journal_fe (s : State) (kind session index sub : Nat) (result : Rc) (old new : Octets) : (s.journal kind session index sub result old new).fe = s.fe := rfl
@[simp] theorem State.journal_rx (s : State) (kind session index sub : Nat) (result : Rc) (old new : Octets) : (s.journal kind session index sub result old new).rx = s.rx := rfl
@[simp] theorem State.journal_helm (s : State) (kind session index sub : Nat) (result : Rc) (old new : Octets) : (s.journal kind session index sub result old new).helm = s.helm := rfl
@[simp] theorem State.journal_alm (s : State) (kind session index sub : Nat) (result : Rc) (old new : Octets) : (s.journal kind session index sub result old new).alm = s.alm := rfl
@[simp] theorem State.journal_pilot (s : State) (kind session index sub : Nat) (result : Rc) (old new : Octets) : (s.journal kind session index sub result old new).pilot = s.pilot := rfl
@[simp] theorem State.journal_tk (s : State) (kind session index sub : Nat) (result : Rc) (old new : Octets) : (s.journal kind session index sub result old new).tk = s.tk := rfl
@[simp] theorem State.journal_cs (s : State) (kind session index sub : Nat) (result : Rc) (old new : Octets) : (s.journal kind session index sub result old new).cs = s.cs := rfl
@[simp] theorem State.journal_bn (s : State) (kind session index sub : Nat) (result : Rc) (old new : Octets) : (s.journal kind session index sub result old new).bn = s.bn := rfl
@[simp] theorem State.journal_sx (s : State) (kind session index sub : Nat) (result : Rc) (old new : Octets) : (s.journal kind session index sub result old new).sx = s.sx := rfl
@[simp] theorem State.journal_pwr (s : State) (kind session index sub : Nat) (result : Rc) (old new : Octets) : (s.journal kind session index sub result old new).pwr = s.pwr := rfl
@[simp] theorem State.journal_diag (s : State) (kind session index sub : Nat) (result : Rc) (old new : Octets) : (s.journal kind session index sub result old new).diag = s.diag := rfl
@[simp] theorem State.journal_rst (s : State) (kind session index sub : Nat) (result : Rc) (old new : Octets) : (s.journal kind session index sub result old new).rst = s.rst := rfl
@[simp] theorem State.journal_now (s : State) (kind session index sub : Nat) (result : Rc) (old new : Octets) : (s.journal kind session index sub result old new).now = s.now := rfl
@[simp] theorem State.journal_free (s : State) (kind session index sub : Nat) (result : Rc) (old new : Octets) : (s.journal kind session index sub result old new).free = s.free := rfl
@[simp] theorem State.journal_out (s : State) (kind session index sub : Nat) (result : Rc) (old new : Octets) : (s.journal kind session index sub result old new).out = s.out := rfl
@[simp] theorem State.journal_pending (s : State) (kind session index sub : Nat) (result : Rc) (old new : Octets) : (s.journal kind session index sub result old new).pending = s.pending := rfl

/-! ### wearOut -/
@[simp] theorem State.wearOut_obj (s : State) (k : Nat) : (s.wearOut k).obj = s.obj := rfl
@[simp] theorem State.wearOut_mg (s : State) (k : Nat) : (s.wearOut k).mg = s.mg := rfl
@[simp] theorem State.wearOut_fe (s : State) (k : Nat) : (s.wearOut k).fe = s.fe := rfl
@[simp] theorem State.wearOut_rx (s : State) (k : Nat) : (s.wearOut k).rx = s.rx := rfl
@[simp] theorem State.wearOut_helm (s : State) (k : Nat) : (s.wearOut k).helm = s.helm := rfl
@[simp] theorem State.wearOut_alm (s : State) (k : Nat) : (s.wearOut k).alm = s.alm := rfl
@[simp] theorem State.wearOut_pilot (s : State) (k : Nat) : (s.wearOut k).pilot = s.pilot := rfl
@[simp] theorem State.wearOut_tk (s : State) (k : Nat) : (s.wearOut k).tk = s.tk := rfl
@[simp] theorem State.wearOut_cs (s : State) (k : Nat) : (s.wearOut k).cs = s.cs := rfl
@[simp] theorem State.wearOut_bn (s : State) (k : Nat) : (s.wearOut k).bn = s.bn := rfl
@[simp] theorem State.wearOut_sx (s : State) (k : Nat) : (s.wearOut k).sx = s.sx := rfl
@[simp] theorem State.wearOut_pwr (s : State) (k : Nat) : (s.wearOut k).pwr = s.pwr := rfl
@[simp] theorem State.wearOut_diag (s : State) (k : Nat) : (s.wearOut k).diag = s.diag := rfl
@[simp] theorem State.wearOut_rst (s : State) (k : Nat) : (s.wearOut k).rst = s.rst := rfl
@[simp] theorem State.wearOut_now (s : State) (k : Nat) : (s.wearOut k).now = s.now := rfl
@[simp] theorem State.wearOut_free (s : State) (k : Nat) : (s.wearOut k).free = s.free := rfl
@[simp] theorem State.wearOut_out (s : State) (k : Nat) : (s.wearOut k).out = s.out := rfl
@[simp] theorem State.wearOut_pending (s : State) (k : Nat) : (s.wearOut k).pending = s.pending := rfl

/-! ### setStartCount -/
@[simp] theorem State.setStartCount_obj (s : State) (ix n : Nat) : (s.setStartCount ix n).obj = s.obj := rfl
@[simp] theorem State.setStartCount_mg (s : State) (ix n : Nat) : (s.setStartCount ix n).mg = s.mg := rfl
@[simp] theorem State.setStartCount_fe (s : State) (ix n : Nat) : (s.setStartCount ix n).fe = s.fe := rfl
@[simp] theorem State.setStartCount_rx (s : State) (ix n : Nat) : (s.setStartCount ix n).rx = s.rx := rfl
@[simp] theorem State.setStartCount_helm (s : State) (ix n : Nat) : (s.setStartCount ix n).helm = s.helm := rfl
@[simp] theorem State.setStartCount_alm (s : State) (ix n : Nat) : (s.setStartCount ix n).alm = s.alm := rfl
@[simp] theorem State.setStartCount_pilot (s : State) (ix n : Nat) : (s.setStartCount ix n).pilot = s.pilot := rfl
@[simp] theorem State.setStartCount_tk (s : State) (ix n : Nat) : (s.setStartCount ix n).tk = s.tk := rfl
@[simp] theorem State.setStartCount_cs (s : State) (ix n : Nat) : (s.setStartCount ix n).cs = s.cs := rfl
@[simp] theorem State.setStartCount_bn (s : State) (ix n : Nat) : (s.setStartCount ix n).bn = s.bn := rfl
@[simp] theorem State.setStartCount_sx (s : State) (ix n : Nat) : (s.setStartCount ix n).sx = s.sx := rfl
@[simp] theorem State.setStartCount_pwr (s : State) (ix n : Nat) : (s.setStartCount ix n).pwr = s.pwr := rfl
@[simp] theorem State.setStartCount_diag (s : State) (ix n : Nat) : (s.setStartCount ix n).diag = s.diag := rfl
@[simp] theorem State.setStartCount_rst (s : State) (ix n : Nat) : (s.setStartCount ix n).rst = s.rst := rfl
@[simp] theorem State.setStartCount_now (s : State) (ix n : Nat) : (s.setStartCount ix n).now = s.now := rfl
@[simp] theorem State.setStartCount_free (s : State) (ix n : Nat) : (s.setStartCount ix n).free = s.free := rfl
@[simp] theorem State.setStartCount_out (s : State) (ix n : Nat) : (s.setStartCount ix n).out = s.out := rfl
@[simp] theorem State.setStartCount_pending (s : State) (ix n : Nat) : (s.setStartCount ix n).pending = s.pending := rfl

/-! ### lbCommit -/
@[simp] theorem State.lbCommit_mg (s : State) (k : Nat) (v : Val) : (s.lbCommit k v).mg = s.mg := rfl
@[simp] theorem State.lbCommit_fe (s : State) (k : Nat) (v : Val) : (s.lbCommit k v).fe = s.fe := rfl
@[simp] theorem State.lbCommit_rx (s : State) (k : Nat) (v : Val) : (s.lbCommit k v).rx = s.rx := rfl
@[simp] theorem State.lbCommit_helm (s : State) (k : Nat) (v : Val) : (s.lbCommit k v).helm = s.helm := rfl
@[simp] theorem State.lbCommit_alm (s : State) (k : Nat) (v : Val) : (s.lbCommit k v).alm = s.alm := rfl
@[simp] theorem State.lbCommit_pilot (s : State) (k : Nat) (v : Val) : (s.lbCommit k v).pilot = s.pilot := rfl
@[simp] theorem State.lbCommit_tk (s : State) (k : Nat) (v : Val) : (s.lbCommit k v).tk = s.tk := rfl
@[simp] theorem State.lbCommit_cs (s : State) (k : Nat) (v : Val) : (s.lbCommit k v).cs = s.cs := rfl
@[simp] theorem State.lbCommit_bn (s : State) (k : Nat) (v : Val) : (s.lbCommit k v).bn = s.bn := rfl
@[simp] theorem State.lbCommit_sx (s : State) (k : Nat) (v : Val) : (s.lbCommit k v).sx = s.sx := rfl
@[simp] theorem State.lbCommit_pwr (s : State) (k : Nat) (v : Val) : (s.lbCommit k v).pwr = s.pwr := rfl
@[simp] theorem State.lbCommit_diag (s : State) (k : Nat) (v : Val) : (s.lbCommit k v).diag = s.diag := rfl
@[simp] theorem State.lbCommit_rst (s : State) (k : Nat) (v : Val) : (s.lbCommit k v).rst = s.rst := rfl
@[simp] theorem State.lbCommit_now (s : State) (k : Nat) (v : Val) : (s.lbCommit k v).now = s.now := rfl
@[simp] theorem State.lbCommit_free (s : State) (k : Nat) (v : Val) : (s.lbCommit k v).free = s.free := rfl
@[simp] theorem State.lbCommit_out (s : State) (k : Nat) (v : Val) : (s.lbCommit k v).out = s.out := rfl
@[simp] theorem State.lbCommit_pending (s : State) (k : Nat) (v : Val) : (s.lbCommit k v).pending = s.pending := rfl

/-! ### procBegin -/
@[simp] theorem State.procBegin_fe (s : State) (ix : Nat) (est : Tick) : (s.procBegin ix est).fe = s.fe := rfl
@[simp] theorem State.procBegin_rx (s : State) (ix : Nat) (est : Tick) : (s.procBegin ix est).rx = s.rx := rfl
@[simp] theorem State.procBegin_helm (s : State) (ix : Nat) (est : Tick) : (s.procBegin ix est).helm = s.helm := rfl
@[simp] theorem State.procBegin_alm (s : State) (ix : Nat) (est : Tick) : (s.procBegin ix est).alm = s.alm := rfl
@[simp] theorem State.procBegin_pilot (s : State) (ix : Nat) (est : Tick) : (s.procBegin ix est).pilot = s.pilot := rfl
@[simp] theorem State.procBegin_tk (s : State) (ix : Nat) (est : Tick) : (s.procBegin ix est).tk = s.tk := rfl
@[simp] theorem State.procBegin_cs (s : State) (ix : Nat) (est : Tick) : (s.procBegin ix est).cs = s.cs := rfl
@[simp] theorem State.procBegin_bn (s : State) (ix : Nat) (est : Tick) : (s.procBegin ix est).bn = s.bn := rfl
@[simp] theorem State.procBegin_sx (s : State) (ix : Nat) (est : Tick) : (s.procBegin ix est).sx = s.sx := rfl
@[simp] theorem State.procBegin_pwr (s : State) (ix : Nat) (est : Tick) : (s.procBegin ix est).pwr = s.pwr := rfl
@[simp] theorem State.procBegin_diag (s : State) (ix : Nat) (est : Tick) : (s.procBegin ix est).diag = s.diag := rfl
@[simp] theorem State.procBegin_rst (s : State) (ix : Nat) (est : Tick) : (s.procBegin ix est).rst = s.rst := rfl
@[simp] theorem State.procBegin_now (s : State) (ix : Nat) (est : Tick) : (s.procBegin ix est).now = s.now := rfl
@[simp] theorem State.procBegin_free (s : State) (ix : Nat) (est : Tick) : (s.procBegin ix est).free = s.free := rfl
@[simp] theorem State.procBegin_out (s : State) (ix : Nat) (est : Tick) : (s.procBegin ix est).out = s.out := rfl
@[simp] theorem State.procBegin_pending (s : State) (ix : Nat) (est : Tick) : (s.procBegin ix est).pending = s.pending := rfl

/-! ### procEnd -/
@[simp] theorem State.procEnd_lb (s : State) (ix st : Nat) (rc : Rc) : (s.procEnd ix st rc).lb = s.lb := rfl
@[simp] theorem State.procEnd_fe (s : State) (ix st : Nat) (rc : Rc) : (s.procEnd ix st rc).fe = s.fe := rfl
@[simp] theorem State.procEnd_rx (s : State) (ix st : Nat) (rc : Rc) : (s.procEnd ix st rc).rx = s.rx := rfl
@[simp] theorem State.procEnd_helm (s : State) (ix st : Nat) (rc : Rc) : (s.procEnd ix st rc).helm = s.helm := rfl
@[simp] theorem State.procEnd_alm (s : State) (ix st : Nat) (rc : Rc) : (s.procEnd ix st rc).alm = s.alm := rfl
@[simp] theorem State.procEnd_pilot (s : State) (ix st : Nat) (rc : Rc) : (s.procEnd ix st rc).pilot = s.pilot := rfl
@[simp] theorem State.procEnd_tk (s : State) (ix st : Nat) (rc : Rc) : (s.procEnd ix st rc).tk = s.tk := rfl
@[simp] theorem State.procEnd_cs (s : State) (ix st : Nat) (rc : Rc) : (s.procEnd ix st rc).cs = s.cs := rfl
@[simp] theorem State.procEnd_bn (s : State) (ix st : Nat) (rc : Rc) : (s.procEnd ix st rc).bn = s.bn := rfl
@[simp] theorem State.procEnd_sx (s : State) (ix st : Nat) (rc : Rc) : (s.procEnd ix st rc).sx = s.sx := rfl
@[simp] theorem State.procEnd_pwr (s : State) (ix st : Nat) (rc : Rc) : (s.procEnd ix st rc).pwr = s.pwr := rfl
@[simp] theorem State.procEnd_diag (s : State) (ix st : Nat) (rc : Rc) : (s.procEnd ix st rc).diag = s.diag := rfl
@[simp] theorem State.procEnd_rst (s : State) (ix st : Nat) (rc : Rc) : (s.procEnd ix st rc).rst = s.rst := rfl
@[simp] theorem State.procEnd_now (s : State) (ix st : Nat) (rc : Rc) : (s.procEnd ix st rc).now = s.now := rfl
@[simp] theorem State.procEnd_free (s : State) (ix st : Nat) (rc : Rc) : (s.procEnd ix st rc).free = s.free := rfl
@[simp] theorem State.procEnd_out (s : State) (ix st : Nat) (rc : Rc) : (s.procEnd ix st rc).out = s.out := rfl
@[simp] theorem State.procEnd_pending (s : State) (ix st : Nat) (rc : Rc) : (s.procEnd ix st rc).pending = s.pending := rfl

/-! ### procEst -/
@[simp] theorem State.procEst_lb (s : State) (ix : Nat) (t : Tick) : (s.procEst ix t).lb = s.lb := rfl
@[simp] theorem State.procEst_mg (s : State) (ix : Nat) (t : Tick) : (s.procEst ix t).mg = s.mg := rfl
@[simp] theorem State.procEst_fe (s : State) (ix : Nat) (t : Tick) : (s.procEst ix t).fe = s.fe := rfl
@[simp] theorem State.procEst_rx (s : State) (ix : Nat) (t : Tick) : (s.procEst ix t).rx = s.rx := rfl
@[simp] theorem State.procEst_helm (s : State) (ix : Nat) (t : Tick) : (s.procEst ix t).helm = s.helm := rfl
@[simp] theorem State.procEst_alm (s : State) (ix : Nat) (t : Tick) : (s.procEst ix t).alm = s.alm := rfl
@[simp] theorem State.procEst_pilot (s : State) (ix : Nat) (t : Tick) : (s.procEst ix t).pilot = s.pilot := rfl
@[simp] theorem State.procEst_tk (s : State) (ix : Nat) (t : Tick) : (s.procEst ix t).tk = s.tk := rfl
@[simp] theorem State.procEst_cs (s : State) (ix : Nat) (t : Tick) : (s.procEst ix t).cs = s.cs := rfl
@[simp] theorem State.procEst_bn (s : State) (ix : Nat) (t : Tick) : (s.procEst ix t).bn = s.bn := rfl
@[simp] theorem State.procEst_sx (s : State) (ix : Nat) (t : Tick) : (s.procEst ix t).sx = s.sx := rfl
@[simp] theorem State.procEst_pwr (s : State) (ix : Nat) (t : Tick) : (s.procEst ix t).pwr = s.pwr := rfl
@[simp] theorem State.procEst_diag (s : State) (ix : Nat) (t : Tick) : (s.procEst ix t).diag = s.diag := rfl
@[simp] theorem State.procEst_rst (s : State) (ix : Nat) (t : Tick) : (s.procEst ix t).rst = s.rst := rfl
@[simp] theorem State.procEst_now (s : State) (ix : Nat) (t : Tick) : (s.procEst ix t).now = s.now := rfl
@[simp] theorem State.procEst_free (s : State) (ix : Nat) (t : Tick) : (s.procEst ix t).free = s.free := rfl
@[simp] theorem State.procEst_out (s : State) (ix : Nat) (t : Tick) : (s.procEst ix t).out = s.out := rfl
@[simp] theorem State.procEst_pending (s : State) (ix : Nat) (t : Tick) : (s.procEst ix t).pending = s.pending := rfl

/-! ### updNode -/
@[simp] theorem State.updNode_obj (s : State) (i : Nat) (g : Node → Node) : (s.updNode i g).obj = s.obj := rfl
@[simp] theorem State.updNode_lb (s : State) (i : Nat) (g : Node → Node) : (s.updNode i g).lb = s.lb := rfl
@[simp] theorem State.updNode_mg (s : State) (i : Nat) (g : Node → Node) : (s.updNode i g).mg = s.mg := rfl
@[simp] theorem State.updNode_fe (s : State) (i : Nat) (g : Node → Node) : (s.updNode i g).fe = s.fe := rfl
@[simp] theorem State.updNode_rx (s : State) (i : Nat) (g : Node → Node) : (s.updNode i g).rx = s.rx := rfl
@[simp] theorem State.updNode_helm (s : State) (i : Nat) (g : Node → Node) : (s.updNode i g).helm = s.helm := rfl
@[simp] theorem State.updNode_pilot (s : State) (i : Nat) (g : Node → Node) : (s.updNode i g).pilot = s.pilot := rfl
@[simp] theorem State.updNode_tk (s : State) (i : Nat) (g : Node → Node) : (s.updNode i g).tk = s.tk := rfl
@[simp] theorem State.updNode_cs (s : State) (i : Nat) (g : Node → Node) : (s.updNode i g).cs = s.cs := rfl
@[simp] theorem State.updNode_bn (s : State) (i : Nat) (g : Node → Node) : (s.updNode i g).bn = s.bn := rfl
@[simp] theorem State.updNode_sx (s : State) (i : Nat) (g : Node → Node) : (s.updNode i g).sx = s.sx := rfl
@[simp] theorem State.updNode_pwr (s : State) (i : Nat) (g : Node → Node) : (s.updNode i g).pwr = s.pwr := rfl
@[simp] theorem State.updNode_diag (s : State) (i : Nat) (g : Node → Node) : (s.updNode i g).diag = s.diag := rfl
@[simp] theorem State.updNode_rst (s : State) (i : Nat) (g : Node → Node) : (s.updNode i g).rst = s.rst := rfl
@[simp] theorem State.updNode_now (s : State) (i : Nat) (g : Node → Node) : (s.updNode i g).now = s.now := rfl
@[simp] theorem State.updNode_free (s : State) (i : Nat) (g : Node → Node) : (s.updNode i g).free = s.free := rfl
@[simp] theorem State.updNode_out (s : State) (i : Nat) (g : Node → Node) : (s.updNode i g).out = s.out := rfl
@[simp] theorem State.updNode_pending (s : State) (i : Nat) (g : Node → Node) : (s.updNode i g).pending = s.pending := rfl

/-! ### updBn -/
@[simp] theorem State.updBn_obj (s : State) (f : Binnacle → Binnacle) : (s.updBn f).obj = s.obj := rfl
@[simp] theorem State.updBn_lb (s : State) (f : Binnacle → Binnacle) : (s.updBn f).lb = s.lb := rfl
@[simp] theorem State.updBn_mg (s : State) (f : Binnacle → Binnacle) : (s.updBn f).mg = s.mg := rfl
@[simp] theorem State.updBn_fe (s : State) (f : Binnacle → Binnacle) : (s.updBn f).fe = s.fe := rfl
@[simp] theorem State.updBn_rx (s : State) (f : Binnacle → Binnacle) : (s.updBn f).rx = s.rx := rfl
@[simp] theorem State.updBn_helm (s : State) (f : Binnacle → Binnacle) : (s.updBn f).helm = s.helm := rfl
@[simp] theorem State.updBn_alm (s : State) (f : Binnacle → Binnacle) : (s.updBn f).alm = s.alm := rfl
@[simp] theorem State.updBn_pilot (s : State) (f : Binnacle → Binnacle) : (s.updBn f).pilot = s.pilot := rfl
@[simp] theorem State.updBn_tk (s : State) (f : Binnacle → Binnacle) : (s.updBn f).tk = s.tk := rfl
@[simp] theorem State.updBn_cs (s : State) (f : Binnacle → Binnacle) : (s.updBn f).cs = s.cs := rfl
@[simp] theorem State.updBn_bn (s : State) (f : Binnacle → Binnacle) : (s.updBn f).bn = f s.bn := rfl
@[simp] theorem State.updBn_sx (s : State) (f : Binnacle → Binnacle) : (s.updBn f).sx = s.sx := rfl
@[simp] theorem State.updBn_pwr (s : State) (f : Binnacle → Binnacle) : (s.updBn f).pwr = s.pwr := rfl
@[simp] theorem State.updBn_diag (s : State) (f : Binnacle → Binnacle) : (s.updBn f).diag = s.diag := rfl
@[simp] theorem State.updBn_rst (s : State) (f : Binnacle → Binnacle) : (s.updBn f).rst = s.rst := rfl
@[simp] theorem State.updBn_now (s : State) (f : Binnacle → Binnacle) : (s.updBn f).now = s.now := rfl
@[simp] theorem State.updBn_free (s : State) (f : Binnacle → Binnacle) : (s.updBn f).free = s.free := rfl
@[simp] theorem State.updBn_out (s : State) (f : Binnacle → Binnacle) : (s.updBn f).out = s.out := rfl
@[simp] theorem State.updBn_pending (s : State) (f : Binnacle → Binnacle) : (s.updBn f).pending = s.pending := rfl

/-! ### updPort -/
@[simp] theorem State.updPort_obj (s : State) (p : Nat) (f : Port → Port) : (s.updPort p f).obj = s.obj := rfl
@[simp] theorem State.updPort_lb (s : State) (p : Nat) (f : Port → Port) : (s.updPort p f).lb = s.lb := rfl
@[simp] theorem State.updPort_mg (s : State) (p : Nat) (f : Port → Port) : (s.updPort p f).mg = s.mg := rfl
@[simp] theorem State.updPort_rx (s : State) (p : Nat) (f : Port → Port) : (s.updPort p f).rx = s.rx := rfl
@[simp] theorem State.updPort_helm (s : State) (p : Nat) (f : Port → Port) : (s.updPort p f).helm = s.helm := rfl
@[simp] theorem State.updPort_alm (s : State) (p : Nat) (f : Port → Port) : (s.updPort p f).alm = s.alm := rfl
@[simp] theorem State.updPort_pilot (s : State) (p : Nat) (f : Port → Port) : (s.updPort p f).pilot = s.pilot := rfl
@[simp] theorem State.updPort_tk (s : State) (p : Nat) (f : Port → Port) : (s.updPort p f).tk = s.tk := rfl
@[simp] theorem State.updPort_cs (s : State) (p : Nat) (f : Port → Port) : (s.updPort p f).cs = s.cs := rfl
@[simp] theorem State.updPort_bn (s : State) (p : Nat) (f : Port → Port) : (s.updPort p f).bn = s.bn := rfl
@[simp] theorem State.updPort_sx (s : State) (p : Nat) (f : Port → Port) : (s.updPort p f).sx = s.sx := rfl
@[simp] theorem State.updPort_pwr (s : State) (p : Nat) (f : Port → Port) : (s.updPort p f).pwr = s.pwr := rfl
@[simp] theorem State.updPort_diag (s : State) (p : Nat) (f : Port → Port) : (s.updPort p f).diag = s.diag := rfl
@[simp] theorem State.updPort_rst (s : State) (p : Nat) (f : Port → Port) : (s.updPort p f).rst = s.rst := rfl
@[simp] theorem State.updPort_now (s : State) (p : Nat) (f : Port → Port) : (s.updPort p f).now = s.now := rfl
@[simp] theorem State.updPort_free (s : State) (p : Nat) (f : Port → Port) : (s.updPort p f).free = s.free := rfl
@[simp] theorem State.updPort_out (s : State) (p : Nat) (f : Port → Port) : (s.updPort p f).out = s.out := rfl
@[simp] theorem State.updPort_pending (s : State) (p : Nat) (f : Port → Port) : (s.updPort p f).pending = s.pending := rfl

/-! ### updChain -/
@[simp] theorem State.updChain_obj (s : State) (c : Nat) (f : Chain → Chain) : (s.updChain c f).obj = s.obj := rfl
@[simp] theorem State.updChain_lb (s : State) (c : Nat) (f : Chain → Chain) : (s.updChain c f).lb = s.lb := rfl
@[simp] theorem State.updChain_mg (s : State) (c : Nat) (f : Chain → Chain) : (s.updChain c f).mg = s.mg := rfl
@[simp] theorem State.updChain_rx (s : State) (c : Nat) (f : Chain → Chain) : (s.updChain c f).rx = s.rx := rfl
@[simp] theorem State.updChain_helm (s : State) (c : Nat) (f : Chain → Chain) : (s.updChain c f).helm = s.helm := rfl
@[simp] theorem State.updChain_alm (s : State) (c : Nat) (f : Chain → Chain) : (s.updChain c f).alm = s.alm := rfl
@[simp] theorem State.updChain_pilot (s : State) (c : Nat) (f : Chain → Chain) : (s.updChain c f).pilot = s.pilot := rfl
@[simp] theorem State.updChain_tk (s : State) (c : Nat) (f : Chain → Chain) : (s.updChain c f).tk = s.tk := rfl
@[simp] theorem State.updChain_cs (s : State) (c : Nat) (f : Chain → Chain) : (s.updChain c f).cs = s.cs := rfl
@[simp] theorem State.updChain_bn (s : State) (c : Nat) (f : Chain → Chain) : (s.updChain c f).bn = s.bn := rfl
@[simp] theorem State.updChain_sx (s : State) (c : Nat) (f : Chain → Chain) : (s.updChain c f).sx = s.sx := rfl
@[simp] theorem State.updChain_pwr (s : State) (c : Nat) (f : Chain → Chain) : (s.updChain c f).pwr = s.pwr := rfl
@[simp] theorem State.updChain_diag (s : State) (c : Nat) (f : Chain → Chain) : (s.updChain c f).diag = s.diag := rfl
@[simp] theorem State.updChain_rst (s : State) (c : Nat) (f : Chain → Chain) : (s.updChain c f).rst = s.rst := rfl
@[simp] theorem State.updChain_now (s : State) (c : Nat) (f : Chain → Chain) : (s.updChain c f).now = s.now := rfl
@[simp] theorem State.updChain_free (s : State) (c : Nat) (f : Chain → Chain) : (s.updChain c f).free = s.free := rfl
@[simp] theorem State.updChain_out (s : State) (c : Nat) (f : Chain → Chain) : (s.updChain c f).out = s.out := rfl
@[simp] theorem State.updChain_pending (s : State) (c : Nat) (f : Chain → Chain) : (s.updChain c f).pending = s.pending := rfl

/-! ### updDuty -/
@[simp] theorem State.updDuty_obj (s : State) (b : Nat) (f : Duty → Duty) : (s.updDuty b f).obj = s.obj := rfl
@[simp] theorem State.updDuty_lb (s : State) (b : Nat) (f : Duty → Duty) : (s.updDuty b f).lb = s.lb := rfl
@[simp] theorem State.updDuty_mg (s : State) (b : Nat) (f : Duty → Duty) : (s.updDuty b f).mg = s.mg := rfl
@[simp] theorem State.updDuty_fe (s : State) (b : Nat) (f : Duty → Duty) : (s.updDuty b f).fe = s.fe := rfl
@[simp] theorem State.updDuty_rx (s : State) (b : Nat) (f : Duty → Duty) : (s.updDuty b f).rx = s.rx := rfl
@[simp] theorem State.updDuty_alm (s : State) (b : Nat) (f : Duty → Duty) : (s.updDuty b f).alm = s.alm := rfl
@[simp] theorem State.updDuty_pilot (s : State) (b : Nat) (f : Duty → Duty) : (s.updDuty b f).pilot = s.pilot := rfl
@[simp] theorem State.updDuty_tk (s : State) (b : Nat) (f : Duty → Duty) : (s.updDuty b f).tk = s.tk := rfl
@[simp] theorem State.updDuty_cs (s : State) (b : Nat) (f : Duty → Duty) : (s.updDuty b f).cs = s.cs := rfl
@[simp] theorem State.updDuty_bn (s : State) (b : Nat) (f : Duty → Duty) : (s.updDuty b f).bn = s.bn := rfl
@[simp] theorem State.updDuty_sx (s : State) (b : Nat) (f : Duty → Duty) : (s.updDuty b f).sx = s.sx := rfl
@[simp] theorem State.updDuty_pwr (s : State) (b : Nat) (f : Duty → Duty) : (s.updDuty b f).pwr = s.pwr := rfl
@[simp] theorem State.updDuty_diag (s : State) (b : Nat) (f : Duty → Duty) : (s.updDuty b f).diag = s.diag := rfl
@[simp] theorem State.updDuty_rst (s : State) (b : Nat) (f : Duty → Duty) : (s.updDuty b f).rst = s.rst := rfl
@[simp] theorem State.updDuty_now (s : State) (b : Nat) (f : Duty → Duty) : (s.updDuty b f).now = s.now := rfl
@[simp] theorem State.updDuty_free (s : State) (b : Nat) (f : Duty → Duty) : (s.updDuty b f).free = s.free := rfl
@[simp] theorem State.updDuty_out (s : State) (b : Nat) (f : Duty → Duty) : (s.updDuty b f).out = s.out := rfl
@[simp] theorem State.updDuty_pending (s : State) (b : Nat) (f : Duty → Duty) : (s.updDuty b f).pending = s.pending := rfl

/-! ### updCap -/
@[simp] theorem State.updCap_obj (s : State) (n : Nat) (g : CapFifo → CapFifo) : (s.updCap n g).obj = s.obj := rfl
@[simp] theorem State.updCap_lb (s : State) (n : Nat) (g : CapFifo → CapFifo) : (s.updCap n g).lb = s.lb := rfl
@[simp] theorem State.updCap_mg (s : State) (n : Nat) (g : CapFifo → CapFifo) : (s.updCap n g).mg = s.mg := rfl
@[simp] theorem State.updCap_fe (s : State) (n : Nat) (g : CapFifo → CapFifo) : (s.updCap n g).fe = s.fe := rfl
@[simp] theorem State.updCap_rx (s : State) (n : Nat) (g : CapFifo → CapFifo) : (s.updCap n g).rx = s.rx := rfl
@[simp] theorem State.updCap_helm (s : State) (n : Nat) (g : CapFifo → CapFifo) : (s.updCap n g).helm = s.helm := rfl
@[simp] theorem State.updCap_alm (s : State) (n : Nat) (g : CapFifo → CapFifo) : (s.updCap n g).alm = s.alm := rfl
@[simp] theorem State.updCap_pilot (s : State) (n : Nat) (g : CapFifo → CapFifo) : (s.updCap n g).pilot = s.pilot := rfl
@[simp] theorem State.updCap_tk (s : State) (n : Nat) (g : CapFifo → CapFifo) : (s.updCap n g).tk = s.tk := rfl
@[simp] theorem State.updCap_cs (s : State) (n : Nat) (g : CapFifo → CapFifo) : (s.updCap n g).cs = s.cs := rfl
@[simp] theorem State.updCap_bn (s : State) (n : Nat) (g : CapFifo → CapFifo) : (s.updCap n g).bn = s.bn := rfl
@[simp] theorem State.updCap_sx (s : State) (n : Nat) (g : CapFifo → CapFifo) : (s.updCap n g).sx = s.sx := rfl
@[simp] theorem State.updCap_pwr (s : State) (n : Nat) (g : CapFifo → CapFifo) : (s.updCap n g).pwr = s.pwr := rfl
@[simp] theorem State.updCap_rst (s : State) (n : Nat) (g : CapFifo → CapFifo) : (s.updCap n g).rst = s.rst := rfl
@[simp] theorem State.updCap_now (s : State) (n : Nat) (g : CapFifo → CapFifo) : (s.updCap n g).now = s.now := rfl
@[simp] theorem State.updCap_free (s : State) (n : Nat) (g : CapFifo → CapFifo) : (s.updCap n g).free = s.free := rfl
@[simp] theorem State.updCap_out (s : State) (n : Nat) (g : CapFifo → CapFifo) : (s.updCap n g).out = s.out := rfl
@[simp] theorem State.updCap_pending (s : State) (n : Nat) (g : CapFifo → CapFifo) : (s.updCap n g).pending = s.pending := rfl

/-! ### updCs -/
@[simp] theorem State.updCs_obj (s : State) (f : Consort → Consort) : (s.updCs f).obj = s.obj := rfl
@[simp] theorem State.updCs_lb (s : State) (f : Consort → Consort) : (s.updCs f).lb = s.lb := rfl
@[simp] theorem State.updCs_mg (s : State) (f : Consort → Consort) : (s.updCs f).mg = s.mg := rfl
@[simp] theorem State.updCs_fe (s : State) (f : Consort → Consort) : (s.updCs f).fe = s.fe := rfl
@[simp] theorem State.updCs_rx (s : State) (f : Consort → Consort) : (s.updCs f).rx = s.rx := rfl
@[simp] theorem State.updCs_helm (s : State) (f : Consort → Consort) : (s.updCs f).helm = s.helm := rfl
@[simp] theorem State.updCs_alm (s : State) (f : Consort → Consort) : (s.updCs f).alm = s.alm := rfl
@[simp] theorem State.updCs_pilot (s : State) (f : Consort → Consort) : (s.updCs f).pilot = s.pilot := rfl
@[simp] theorem State.updCs_tk (s : State) (f : Consort → Consort) : (s.updCs f).tk = s.tk := rfl
@[simp] theorem State.updCs_cs (s : State) (f : Consort → Consort) : (s.updCs f).cs = f s.cs := rfl
@[simp] theorem State.updCs_bn (s : State) (f : Consort → Consort) : (s.updCs f).bn = s.bn := rfl
@[simp] theorem State.updCs_sx (s : State) (f : Consort → Consort) : (s.updCs f).sx = s.sx := rfl
@[simp] theorem State.updCs_pwr (s : State) (f : Consort → Consort) : (s.updCs f).pwr = s.pwr := rfl
@[simp] theorem State.updCs_diag (s : State) (f : Consort → Consort) : (s.updCs f).diag = s.diag := rfl
@[simp] theorem State.updCs_rst (s : State) (f : Consort → Consort) : (s.updCs f).rst = s.rst := rfl
@[simp] theorem State.updCs_now (s : State) (f : Consort → Consort) : (s.updCs f).now = s.now := rfl
@[simp] theorem State.updCs_free (s : State) (f : Consort → Consort) : (s.updCs f).free = s.free := rfl
@[simp] theorem State.updCs_out (s : State) (f : Consort → Consort) : (s.updCs f).out = s.out := rfl
@[simp] theorem State.updCs_pending (s : State) (f : Consort → Consort) : (s.updCs f).pending = s.pending := rfl

/-! ### updPan -/
@[simp] theorem State.updPan_obj (s : State) (p : Nat) (f : Pan → Pan) : (s.updPan p f).obj = s.obj := rfl
@[simp] theorem State.updPan_lb (s : State) (p : Nat) (f : Pan → Pan) : (s.updPan p f).lb = s.lb := rfl
@[simp] theorem State.updPan_mg (s : State) (p : Nat) (f : Pan → Pan) : (s.updPan p f).mg = s.mg := rfl
@[simp] theorem State.updPan_fe (s : State) (p : Nat) (f : Pan → Pan) : (s.updPan p f).fe = s.fe := rfl
@[simp] theorem State.updPan_rx (s : State) (p : Nat) (f : Pan → Pan) : (s.updPan p f).rx = s.rx := rfl
@[simp] theorem State.updPan_alm (s : State) (p : Nat) (f : Pan → Pan) : (s.updPan p f).alm = s.alm := rfl
@[simp] theorem State.updPan_pilot (s : State) (p : Nat) (f : Pan → Pan) : (s.updPan p f).pilot = s.pilot := rfl
@[simp] theorem State.updPan_tk (s : State) (p : Nat) (f : Pan → Pan) : (s.updPan p f).tk = s.tk := rfl
@[simp] theorem State.updPan_cs (s : State) (p : Nat) (f : Pan → Pan) : (s.updPan p f).cs = s.cs := rfl
@[simp] theorem State.updPan_bn (s : State) (p : Nat) (f : Pan → Pan) : (s.updPan p f).bn = s.bn := rfl
@[simp] theorem State.updPan_sx (s : State) (p : Nat) (f : Pan → Pan) : (s.updPan p f).sx = s.sx := rfl
@[simp] theorem State.updPan_pwr (s : State) (p : Nat) (f : Pan → Pan) : (s.updPan p f).pwr = s.pwr := rfl
@[simp] theorem State.updPan_diag (s : State) (p : Nat) (f : Pan → Pan) : (s.updPan p f).diag = s.diag := rfl
@[simp] theorem State.updPan_rst (s : State) (p : Nat) (f : Pan → Pan) : (s.updPan p f).rst = s.rst := rfl
@[simp] theorem State.updPan_now (s : State) (p : Nat) (f : Pan → Pan) : (s.updPan p f).now = s.now := rfl
@[simp] theorem State.updPan_free (s : State) (p : Nat) (f : Pan → Pan) : (s.updPan p f).free = s.free := rfl
@[simp] theorem State.updPan_out (s : State) (p : Nat) (f : Pan → Pan) : (s.updPan p f).out = s.out := rfl
@[simp] theorem State.updPan_pending (s : State) (p : Nat) (f : Pan → Pan) : (s.updPan p f).pending = s.pending := rfl

/-! ### updFrame -/
@[simp] theorem State.updFrame_obj (s : State) (ref : Nat) (g : Frame → Frame) : (s.updFrame ref g).obj = s.obj := rfl
@[simp] theorem State.updFrame_lb (s : State) (ref : Nat) (g : Frame → Frame) : (s.updFrame ref g).lb = s.lb := rfl
@[simp] theorem State.updFrame_mg (s : State) (ref : Nat) (g : Frame → Frame) : (s.updFrame ref g).mg = s.mg := rfl
@[simp] theorem State.updFrame_fe (s : State) (ref : Nat) (g : Frame → Frame) : (s.updFrame ref g).fe = s.fe := rfl
@[simp] theorem State.updFrame_rx (s : State) (ref : Nat) (g : Frame → Frame) : (s.updFrame ref g).rx = s.rx := rfl
@[simp] theorem State.updFrame_helm (s : State) (ref : Nat) (g : Frame → Frame) : (s.updFrame ref g).helm = s.helm := rfl
@[simp] theorem State.updFrame_alm (s : State) (ref : Nat) (g : Frame → Frame) : (s.updFrame ref g).alm = s.alm := rfl
@[simp] theorem State.updFrame_tk (s : State) (ref : Nat) (g : Frame → Frame) : (s.updFrame ref g).tk = s.tk := rfl
@[simp] theorem State.updFrame_cs (s : State) (ref : Nat) (g : Frame → Frame) : (s.updFrame ref g).cs = s.cs := rfl
@[simp] theorem State.updFrame_bn (s : State) (ref : Nat) (g : Frame → Frame) : (s.updFrame ref g).bn = s.bn := rfl
@[simp] theorem State.updFrame_sx (s : State) (ref : Nat) (g : Frame → Frame) : (s.updFrame ref g).sx = s.sx := rfl
@[simp] theorem State.updFrame_pwr (s : State) (ref : Nat) (g : Frame → Frame) : (s.updFrame ref g).pwr = s.pwr := rfl
@[simp] theorem State.updFrame_diag (s : State) (ref : Nat) (g : Frame → Frame) : (s.updFrame ref g).diag = s.diag := rfl
@[simp] theorem State.updFrame_rst (s : State) (ref : Nat) (g : Frame → Frame) : (s.updFrame ref g).rst = s.rst := rfl
@[simp] theorem State.updFrame_now (s : State) (ref : Nat) (g : Frame → Frame) : (s.updFrame ref g).now = s.now := rfl
@[simp] theorem State.updFrame_free (s : State) (ref : Nat) (g : Frame → Frame) : (s.updFrame ref g).free = s.free := rfl
@[simp] theorem State.updFrame_out (s : State) (ref : Nat) (g : Frame → Frame) : (s.updFrame ref g).out = s.out := rfl
@[simp] theorem State.updFrame_pending (s : State) (ref : Nat) (g : Frame → Frame) : (s.updFrame ref g).pending = s.pending := rfl

/-! ### updTport -/
@[simp] theorem State.updTport_obj (s : State) (p : Nat) (f : TPort → TPort) : (s.updTport p f).obj = s.obj := rfl
@[simp] theorem State.updTport_lb (s : State) (p : Nat) (f : TPort → TPort) : (s.updTport p f).lb = s.lb := rfl
@[simp] theorem State.updTport_mg (s : State) (p : Nat) (f : TPort → TPort) : (s.updTport p f).mg = s.mg := rfl
@[simp] theorem State.updTport_fe (s : State) (p : Nat) (f : TPort → TPort) : (s.updTport p f).fe = s.fe := rfl
@[simp] theorem State.updTport_rx (s : State) (p : Nat) (f : TPort → TPort) : (s.updTport p f).rx = s.rx := rfl
@[simp] theorem State.updTport_helm (s : State) (p : Nat) (f : TPort → TPort) : (s.updTport p f).helm = s.helm := rfl
@[simp] theorem State.updTport_alm (s : State) (p : Nat) (f : TPort → TPort) : (s.updTport p f).alm = s.alm := rfl
@[simp] theorem State.updTport_pilot (s : State) (p : Nat) (f : TPort → TPort) : (s.updTport p f).pilot = s.pilot := rfl
@[simp] theorem State.updTport_cs (s : State) (p : Nat) (f : TPort → TPort) : (s.updTport p f).cs = s.cs := rfl
@[simp] theorem State.updTport_bn (s : State) (p : Nat) (f : TPort → TPort) : (s.updTport p f).bn = s.bn := rfl
@[simp] theorem State.updTport_sx (s : State) (p : Nat) (f : TPort → TPort) : (s.updTport p f).sx = s.sx := rfl
@[simp] theorem State.updTport_pwr (s : State) (p : Nat) (f : TPort → TPort) : (s.updTport p f).pwr = s.pwr := rfl
@[simp] theorem State.updTport_diag (s : State) (p : Nat) (f : TPort → TPort) : (s.updTport p f).diag = s.diag := rfl
@[simp] theorem State.updTport_rst (s : State) (p : Nat) (f : TPort → TPort) : (s.updTport p f).rst = s.rst := rfl
@[simp] theorem State.updTport_now (s : State) (p : Nat) (f : TPort → TPort) : (s.updTport p f).now = s.now := rfl
@[simp] theorem State.updTport_free (s : State) (p : Nat) (f : TPort → TPort) : (s.updTport p f).free = s.free := rfl
@[simp] theorem State.updTport_out (s : State) (p : Nat) (f : TPort → TPort) : (s.updTport p f).out = s.out := rfl
@[simp] theorem State.updTport_pending (s : State) (p : Nat) (f : TPort → TPort) : (s.updTport p f).pending = s.pending := rfl

/-! ### updGate -/
@[simp] theorem State.updGate_obj (s : State) (p : Nat) (g : Gate → Gate) : (s.updGate p g).obj = s.obj := rfl
@[simp] theorem State.updGate_lb (s : State) (p : Nat) (g : Gate → Gate) : (s.updGate p g).lb = s.lb := rfl
@[simp] theorem State.updGate_mg (s : State) (p : Nat) (g : Gate → Gate) : (s.updGate p g).mg = s.mg := rfl
@[simp] theorem State.updGate_fe (s : State) (p : Nat) (g : Gate → Gate) : (s.updGate p g).fe = s.fe := rfl
@[simp] theorem State.updGate_helm (s : State) (p : Nat) (g : Gate → Gate) : (s.updGate p g).helm = s.helm := rfl
@[simp] theorem State.updGate_alm (s : State) (p : Nat) (g : Gate → Gate) : (s.updGate p g).alm = s.alm := rfl
@[simp] theorem State.updGate_pilot (s : State) (p : Nat) (g : Gate → Gate) : (s.updGate p g).pilot = s.pilot := rfl
@[simp] theorem State.updGate_tk (s : State) (p : Nat) (g : Gate → Gate) : (s.updGate p g).tk = s.tk := rfl
@[simp] theorem State.updGate_cs (s : State) (p : Nat) (g : Gate → Gate) : (s.updGate p g).cs = s.cs := rfl
@[simp] theorem State.updGate_bn (s : State) (p : Nat) (g : Gate → Gate) : (s.updGate p g).bn = s.bn := rfl
@[simp] theorem State.updGate_sx (s : State) (p : Nat) (g : Gate → Gate) : (s.updGate p g).sx = s.sx := rfl
@[simp] theorem State.updGate_pwr (s : State) (p : Nat) (g : Gate → Gate) : (s.updGate p g).pwr = s.pwr := rfl
@[simp] theorem State.updGate_diag (s : State) (p : Nat) (g : Gate → Gate) : (s.updGate p g).diag = s.diag := rfl
@[simp] theorem State.updGate_rst (s : State) (p : Nat) (g : Gate → Gate) : (s.updGate p g).rst = s.rst := rfl
@[simp] theorem State.updGate_now (s : State) (p : Nat) (g : Gate → Gate) : (s.updGate p g).now = s.now := rfl
@[simp] theorem State.updGate_free (s : State) (p : Nat) (g : Gate → Gate) : (s.updGate p g).free = s.free := rfl
@[simp] theorem State.updGate_out (s : State) (p : Nat) (g : Gate → Gate) : (s.updGate p g).out = s.out := rfl
@[simp] theorem State.updGate_pending (s : State) (p : Nat) (g : Gate → Gate) : (s.updGate p g).pending = s.pending := rfl

/-! ### updRst -/
@[simp] theorem State.updRst_obj (s : State) (f : ResetSt → ResetSt) : (s.updRst f).obj = s.obj := rfl
@[simp] theorem State.updRst_lb (s : State) (f : ResetSt → ResetSt) : (s.updRst f).lb = s.lb := rfl
@[simp] theorem State.updRst_mg (s : State) (f : ResetSt → ResetSt) : (s.updRst f).mg = s.mg := rfl
@[simp] theorem State.updRst_fe (s : State) (f : ResetSt → ResetSt) : (s.updRst f).fe = s.fe := rfl
@[simp] theorem State.updRst_rx (s : State) (f : ResetSt → ResetSt) : (s.updRst f).rx = s.rx := rfl
@[simp] theorem State.updRst_helm (s : State) (f : ResetSt → ResetSt) : (s.updRst f).helm = s.helm := rfl
@[simp] theorem State.updRst_alm (s : State) (f : ResetSt → ResetSt) : (s.updRst f).alm = s.alm := rfl
@[simp] theorem State.updRst_pilot (s : State) (f : ResetSt → ResetSt) : (s.updRst f).pilot = s.pilot := rfl
@[simp] theorem State.updRst_tk (s : State) (f : ResetSt → ResetSt) : (s.updRst f).tk = s.tk := rfl
@[simp] theorem State.updRst_cs (s : State) (f : ResetSt → ResetSt) : (s.updRst f).cs = s.cs := rfl
@[simp] theorem State.updRst_bn (s : State) (f : ResetSt → ResetSt) : (s.updRst f).bn = s.bn := rfl
@[simp] theorem State.updRst_sx (s : State) (f : ResetSt → ResetSt) : (s.updRst f).sx = s.sx := rfl
@[simp] theorem State.updRst_pwr (s : State) (f : ResetSt → ResetSt) : (s.updRst f).pwr = s.pwr := rfl
@[simp] theorem State.updRst_diag (s : State) (f : ResetSt → ResetSt) : (s.updRst f).diag = s.diag := rfl
@[simp] theorem State.updRst_rst (s : State) (f : ResetSt → ResetSt) : (s.updRst f).rst = f s.rst := rfl
@[simp] theorem State.updRst_now (s : State) (f : ResetSt → ResetSt) : (s.updRst f).now = s.now := rfl
@[simp] theorem State.updRst_free (s : State) (f : ResetSt → ResetSt) : (s.updRst f).free = s.free := rfl
@[simp] theorem State.updRst_out (s : State) (f : ResetSt → ResetSt) : (s.updRst f).out = s.out := rfl
@[simp] theorem State.updRst_pending (s : State) (f : ResetSt → ResetSt) : (s.updRst f).pending = s.pending := rfl

/-! ### updPwr -/
@[simp] theorem State.updPwr_obj (s : State) (f : Power → Power) : (s.updPwr f).obj = s.obj := rfl
@[simp] theorem State.updPwr_lb (s : State) (f : Power → Power) : (s.updPwr f).lb = s.lb := rfl
@[simp] theorem State.updPwr_mg (s : State) (f : Power → Power) : (s.updPwr f).mg = s.mg := rfl
@[simp] theorem State.updPwr_fe (s : State) (f : Power → Power) : (s.updPwr f).fe = s.fe := rfl
@[simp] theorem State.updPwr_rx (s : State) (f : Power → Power) : (s.updPwr f).rx = s.rx := rfl
@[simp] theorem State.updPwr_helm (s : State) (f : Power → Power) : (s.updPwr f).helm = s.helm := rfl
@[simp] theorem State.updPwr_alm (s : State) (f : Power → Power) : (s.updPwr f).alm = s.alm := rfl
@[simp] theorem State.updPwr_pilot (s : State) (f : Power → Power) : (s.updPwr f).pilot = s.pilot := rfl
@[simp] theorem State.updPwr_tk (s : State) (f : Power → Power) : (s.updPwr f).tk = s.tk := rfl
@[simp] theorem State.updPwr_cs (s : State) (f : Power → Power) : (s.updPwr f).cs = s.cs := rfl
@[simp] theorem State.updPwr_bn (s : State) (f : Power → Power) : (s.updPwr f).bn = s.bn := rfl
@[simp] theorem State.updPwr_sx (s : State) (f : Power → Power) : (s.updPwr f).sx = s.sx := rfl
@[simp] theorem State.updPwr_pwr (s : State) (f : Power → Power) : (s.updPwr f).pwr = f s.pwr := rfl
@[simp] theorem State.updPwr_diag (s : State) (f : Power → Power) : (s.updPwr f).diag = s.diag := rfl
@[simp] theorem State.updPwr_rst (s : State) (f : Power → Power) : (s.updPwr f).rst = s.rst := rfl
@[simp] theorem State.updPwr_now (s : State) (f : Power → Power) : (s.updPwr f).now = s.now := rfl
@[simp] theorem State.updPwr_free (s : State) (f : Power → Power) : (s.updPwr f).free = s.free := rfl
@[simp] theorem State.updPwr_out (s : State) (f : Power → Power) : (s.updPwr f).out = s.out := rfl
@[simp] theorem State.updPwr_pending (s : State) (f : Power → Power) : (s.updPwr f).pending = s.pending := rfl

/-! ### updSx -/
@[simp] theorem State.updSx_obj (s : State) (f : Sextant → Sextant) : (s.updSx f).obj = s.obj := rfl
@[simp] theorem State.updSx_lb (s : State) (f : Sextant → Sextant) : (s.updSx f).lb = s.lb := rfl
@[simp] theorem State.updSx_mg (s : State) (f : Sextant → Sextant) : (s.updSx f).mg = s.mg := rfl
@[simp] theorem State.updSx_fe (s : State) (f : Sextant → Sextant) : (s.updSx f).fe = s.fe := rfl
@[simp] theorem State.updSx_rx (s : State) (f : Sextant → Sextant) : (s.updSx f).rx = s.rx := rfl
@[simp] theorem State.updSx_helm (s : State) (f : Sextant → Sextant) : (s.updSx f).helm = s.helm := rfl
@[simp] theorem State.updSx_alm (s : State) (f : Sextant → Sextant) : (s.updSx f).alm = s.alm := rfl
@[simp] theorem State.updSx_pilot (s : State) (f : Sextant → Sextant) : (s.updSx f).pilot = s.pilot := rfl
@[simp] theorem State.updSx_tk (s : State) (f : Sextant → Sextant) : (s.updSx f).tk = s.tk := rfl
@[simp] theorem State.updSx_cs (s : State) (f : Sextant → Sextant) : (s.updSx f).cs = s.cs := rfl
@[simp] theorem State.updSx_bn (s : State) (f : Sextant → Sextant) : (s.updSx f).bn = s.bn := rfl
@[simp] theorem State.updSx_sx (s : State) (f : Sextant → Sextant) : (s.updSx f).sx = f s.sx := rfl
@[simp] theorem State.updSx_pwr (s : State) (f : Sextant → Sextant) : (s.updSx f).pwr = s.pwr := rfl
@[simp] theorem State.updSx_diag (s : State) (f : Sextant → Sextant) : (s.updSx f).diag = s.diag := rfl
@[simp] theorem State.updSx_rst (s : State) (f : Sextant → Sextant) : (s.updSx f).rst = s.rst := rfl
@[simp] theorem State.updSx_now (s : State) (f : Sextant → Sextant) : (s.updSx f).now = s.now := rfl
@[simp] theorem State.updSx_free (s : State) (f : Sextant → Sextant) : (s.updSx f).free = s.free := rfl
@[simp] theorem State.updSx_out (s : State) (f : Sextant → Sextant) : (s.updSx f).out = s.out := rfl
@[simp] theorem State.updSx_pending (s : State) (f : Sextant → Sextant) : (s.updSx f).pending = s.pending := rfl

/-! ### updPtp -/
@[simp] theorem State.updPtp_obj (s : State) (p : Nat) (f : PtpPort → PtpPort) : (s.updPtp p f).obj = s.obj := rfl
@[simp] theorem State.updPtp_lb (s : State) (p : Nat) (f : PtpPort → PtpPort) : (s.updPtp p f).lb = s.lb := rfl
@[simp] theorem State.updPtp_mg (s : State) (p : Nat) (f : PtpPort → PtpPort) : (s.updPtp p f).mg = s.mg := rfl
@[simp] theorem State.updPtp_fe (s : State) (p : Nat) (f : PtpPort → PtpPort) : (s.updPtp p f).fe = s.fe := rfl
@[simp] theorem State.updPtp_rx (s : State) (p : Nat) (f : PtpPort → PtpPort) : (s.updPtp p f).rx = s.rx := rfl
@[simp] theorem State.updPtp_helm (s : State) (p : Nat) (f : PtpPort → PtpPort) : (s.updPtp p f).helm = s.helm := rfl
@[simp] theorem State.updPtp_alm (s : State) (p : Nat) (f : PtpPort → PtpPort) : (s.updPtp p f).alm = s.alm := rfl
@[simp] theorem State.updPtp_pilot (s : State) (p : Nat) (f : PtpPort → PtpPort) : (s.updPtp p f).pilot = s.pilot := rfl
@[simp] theorem State.updPtp_tk (s : State) (p : Nat) (f : PtpPort → PtpPort) : (s.updPtp p f).tk = s.tk := rfl
@[simp] theorem State.updPtp_cs (s : State) (p : Nat) (f : PtpPort → PtpPort) : (s.updPtp p f).cs = s.cs := rfl
@[simp] theorem State.updPtp_bn (s : State) (p : Nat) (f : PtpPort → PtpPort) : (s.updPtp p f).bn = s.bn := rfl
@[simp] theorem State.updPtp_pwr (s : State) (p : Nat) (f : PtpPort → PtpPort) : (s.updPtp p f).pwr = s.pwr := rfl
@[simp] theorem State.updPtp_diag (s : State) (p : Nat) (f : PtpPort → PtpPort) : (s.updPtp p f).diag = s.diag := rfl
@[simp] theorem State.updPtp_rst (s : State) (p : Nat) (f : PtpPort → PtpPort) : (s.updPtp p f).rst = s.rst := rfl
@[simp] theorem State.updPtp_now (s : State) (p : Nat) (f : PtpPort → PtpPort) : (s.updPtp p f).now = s.now := rfl
@[simp] theorem State.updPtp_free (s : State) (p : Nat) (f : PtpPort → PtpPort) : (s.updPtp p f).free = s.free := rfl
@[simp] theorem State.updPtp_out (s : State) (p : Nat) (f : PtpPort → PtpPort) : (s.updPtp p f).out = s.out := rfl
@[simp] theorem State.updPtp_pending (s : State) (p : Nat) (f : PtpPort → PtpPort) : (s.updPtp p f).pending = s.pending := rfl

/-! ### updSched -/
@[simp] theorem State.updSched_obj (s : State) (p : Nat) (f : Sched → Sched) : (s.updSched p f).obj = s.obj := rfl
@[simp] theorem State.updSched_lb (s : State) (p : Nat) (f : Sched → Sched) : (s.updSched p f).lb = s.lb := rfl
@[simp] theorem State.updSched_mg (s : State) (p : Nat) (f : Sched → Sched) : (s.updSched p f).mg = s.mg := rfl
@[simp] theorem State.updSched_fe (s : State) (p : Nat) (f : Sched → Sched) : (s.updSched p f).fe = s.fe := rfl
@[simp] theorem State.updSched_rx (s : State) (p : Nat) (f : Sched → Sched) : (s.updSched p f).rx = s.rx := rfl
@[simp] theorem State.updSched_helm (s : State) (p : Nat) (f : Sched → Sched) : (s.updSched p f).helm = s.helm := rfl
@[simp] theorem State.updSched_alm (s : State) (p : Nat) (f : Sched → Sched) : (s.updSched p f).alm = s.alm := rfl
@[simp] theorem State.updSched_tk (s : State) (p : Nat) (f : Sched → Sched) : (s.updSched p f).tk = s.tk := rfl
@[simp] theorem State.updSched_cs (s : State) (p : Nat) (f : Sched → Sched) : (s.updSched p f).cs = s.cs := rfl
@[simp] theorem State.updSched_bn (s : State) (p : Nat) (f : Sched → Sched) : (s.updSched p f).bn = s.bn := rfl
@[simp] theorem State.updSched_sx (s : State) (p : Nat) (f : Sched → Sched) : (s.updSched p f).sx = s.sx := rfl
@[simp] theorem State.updSched_pwr (s : State) (p : Nat) (f : Sched → Sched) : (s.updSched p f).pwr = s.pwr := rfl
@[simp] theorem State.updSched_diag (s : State) (p : Nat) (f : Sched → Sched) : (s.updSched p f).diag = s.diag := rfl
@[simp] theorem State.updSched_rst (s : State) (p : Nat) (f : Sched → Sched) : (s.updSched p f).rst = s.rst := rfl
@[simp] theorem State.updSched_now (s : State) (p : Nat) (f : Sched → Sched) : (s.updSched p f).now = s.now := rfl
@[simp] theorem State.updSched_free (s : State) (p : Nat) (f : Sched → Sched) : (s.updSched p f).free = s.free := rfl
@[simp] theorem State.updSched_out (s : State) (p : Nat) (f : Sched → Sched) : (s.updSched p f).out = s.out := rfl
@[simp] theorem State.updSched_pending (s : State) (p : Nat) (f : Sched → Sched) : (s.updSched p f).pending = s.pending := rfl

end Sys2Proof.Machine
end

