-- ==== Sys2Proof/Laws/Store.lean ====
section
/-! SUPPORT. The stores of values: reading after writing, and the canonical form that every write keeps. -/
namespace Sys2Proof.Machine

theorem Store.find_insert_same (k : Nat) (v : Val) (m : List (Nat × Val)) : Store.find (Store.insert k v m) k = some v := by
  induction m with
  | nil => simp [Store.insert, Store.find]
  | cons e t ih =>
    unfold Store.insert
    split
    · simp [Store.find]
    · split
      · simp [Store.find]
      · rename_i h
        have : (e.1 == k) = false := by simpa using fun h' => h h'.symm
        simpa [Store.find, List.find?_cons, this] using ih

theorem Store.find_insert_ne {k j : Nat} (v : Val) (m : List (Nat × Val)) (h : j ≠ k) :
    Store.find (Store.insert k v m) j = Store.find m j := by
  induction m with
  | nil => simp [Store.insert, Store.find, Ne.symm h]
  | cons e t ih =>
    unfold Store.insert
    split
    · simp [Store.find, List.find?_cons, Ne.symm h]
    · split
      · rename_i he
        simp [Store.find, Ne.symm h, ← he]
      · simp only [Store.find, List.find?_cons] at ih ⊢
        cases e.1 == j <;> simp_all

theorem Store.find_filter_same (k : Nat) (m : List (Nat × Val)) : Store.find (m.filter (fun e => e.1 != k)) k = none := by
  simp [Store.find, List.find?_eq_none]

theorem Store.find_filter_ne {k j : Nat} (m : List (Nat × Val)) (h : j ≠ k) :
    Store.find (m.filter (fun e => e.1 != k)) j = Store.find m j := by
  induction m with
  | nil => rfl
  | cons e t ih =>
    by_cases he : e.1 = k
    · simp [he, Store.find, Ne.symm h] at ih ⊢
      exact ih
    · simp only [Store.find, List.filter_cons, bne_iff_ne, ne_eq, he, not_false_eq_true, if_true, List.find?_cons] at ih ⊢
      cases e.1 == j <;> simp_all

/-- What a written store reads: the value, or nothing where the value is the default. -/
theorem Store.getD_put_same (k : Nat) (v : Val) (m : List (Nat × Val)) :
    (Store.find (Store.put k v m) k).getD (Obj.default k) = v := by
  unfold Store.put
  split
  · rename_i h
    rw [Store.find_filter_same, h]; rfl
  · rw [Store.find_insert_same]; rfl

theorem Store.find_put_ne {k j : Nat} (v : Val) (m : List (Nat × Val)) (h : j ≠ k) :
    Store.find (Store.put k v m) j = Store.find m j := by
  unfold Store.put
  split
  · exact Store.find_filter_ne m h
  · exact Store.find_insert_ne v m h

theorem Store.mem_insert {k : Nat} {v : Val} {m : List (Nat × Val)} {e : Nat × Val} (h : e ∈ Store.insert k v m) :
    e = (k, v) ∨ e ∈ m := by
  induction m with
  | nil => simpa [Store.insert] using h
  | cons a t ih =>
    unfold Store.insert at h
    split at h
    · simpa using h
    · split at h
      · rcases List.mem_cons.1 h with h | h
        · exact .inl h
        · exact .inr (List.mem_cons_of_mem _ h)
      · rcases List.mem_cons.1 h with h | h
        · exact .inr (h ▸ List.mem_cons_self)
        · exact (ih h).imp id (List.mem_cons_of_mem _)

theorem Store.insert_rising (k : Nat) (v : Val) {m : List (Nat × Val)} (h : (m.map (·.1)).Pairwise (· < ·)) :
    ((Store.insert k v m).map (·.1)).Pairwise (· < ·) := by
  induction m with
  | nil => simp [Store.insert]
  | cons e t ih =>
    simp only [List.map_cons, List.pairwise_cons] at h
    unfold Store.insert
    split
    · rename_i hk
      simp only [List.map_cons, List.pairwise_cons, List.mem_cons, forall_eq_or_imp]
      exact ⟨⟨hk, fun a ha => Nat.lt_trans hk (h.1 a ha)⟩, h.1, h.2⟩
    · split
      · rename_i hk
        simp only [List.map_cons, List.pairwise_cons, hk]
        exact h
      · simp only [List.map_cons, List.pairwise_cons, List.mem_map, forall_exists_index, and_imp]
        refine ⟨fun a x hx hxa => ?_, ih h.2⟩
        subst hxa
        rcases Store.mem_insert hx with rfl | hx
        · simp; omega
        · exact h.1 _ (List.mem_map_of_mem hx)

/-- A write keeps the canonical form of a store. -/
theorem Store.wf_put (k : Nat) (v : Val) {m : List (Nat × Val)} (h : Store.wf m = true) : Store.wf (Store.put k v m) = true := by
  simp only [Store.wf, Bool.and_eq_true, decide_eq_true_eq, List.all_eq_true, bne_iff_ne] at h ⊢
  unfold Store.put
  split
  · exact ⟨h.1.sublist ((List.filter_sublist).map _), fun e he => h.2 e (List.mem_filter.1 he).1⟩
  · rename_i hv
    refine ⟨Store.insert_rising k v h.1, fun e he => ?_⟩
    rcases Store.mem_insert he with rfl | he
    · exact hv
    · exact h.2 e he

/-- A part of a store, and a store written to again and again, keep the canonical form. -/
theorem Store.wf_filter (p : Nat × Val → Bool) {m : List (Nat × Val)} (h : Store.wf m = true) : Store.wf (m.filter p) = true := by
  simp only [Store.wf, Bool.and_eq_true, decide_eq_true_eq, List.all_eq_true, bne_iff_ne] at h ⊢
  exact ⟨h.1.sublist ((List.filter_sublist).map _), fun e he => h.2 e (List.mem_filter.1 he).1⟩
theorem Store.wf_puts (l : List (Nat × Val)) {m : List (Nat × Val)} (h : Store.wf m = true) :
    Store.wf (l.foldl (fun m e => Store.put e.1 e.2 m) m) = true := by
  induction l generalizing m with
  | nil => exact h
  | cons e l ih => exact ih (Store.wf_put _ _ h)

/-- An object reads as it was written. -/
@[simp] theorem State.get_set_same (s : State) (k : Nat) (v : Val) : (s.set k v).get k = v :=
  Store.getD_put_same k v s.obj

/-- A write leaves every other object alone. -/
theorem State.get_set_ne {s : State} {k j : Nat} {v : Val} (h : j ≠ k) : (s.set k v).get j = s.get j := by
  simp only [State.get, State.set, Store.find_put_ne v s.obj h]

/-- Reading after writing, as one equation. -/
theorem State.get_set (s : State) (k j : Nat) (v : Val) : (s.set k v).get j = if j = k then v else s.get j := by
  split
  · rename_i h; rw [h, State.get_set_same]
  · rename_i h; exact State.get_set_ne h

@[simp] theorem State.getN_setN_same (s : State) (k n : Nat) : (s.setN k n).getN k = n := by
  simp [State.getN, State.getI, State.setN, Val.toInt]
theorem State.getN_setN_ne {s : State} {k j n : Nat} (h : j ≠ k) : (s.setN k n).getN j = s.getN j := by
  simp only [State.getN, State.getI, State.setN, State.get_set_ne h]
@[simp] theorem State.getI_setI_same (s : State) (k : Nat) (i : Int) : (s.setI k i).getI k = i := by
  simp [State.getI, State.setI, Val.toInt]
@[simp] theorem State.getB_setB_same (s : State) (k : Nat) (b : Bool) : (s.setB k b).getB k = b := by
  simp [State.getB, State.setB, Val.toBool]
theorem State.get_setN_ne {s : State} {k j n : Nat} (h : j ≠ k) : (s.setN k n).get j = s.get j := State.get_set_ne h
theorem State.get_setB_ne {s : State} {k j : Nat} {b : Bool} (h : j ≠ k) : (s.setB k b).get j = s.get j := State.get_set_ne h
theorem State.get_setI_ne {s : State} {k j : Nat} {i : Int} (h : j ≠ k) : (s.setI k i).get j = s.get j := State.get_set_ne h
theorem State.get_bumpBy_ne {s : State} {k j n : Nat} (h : j ≠ k) : (s.bumpBy k n).get j = s.get j := State.get_set_ne h
theorem State.get_bump_ne {s : State} {k j : Nat} (h : j ≠ k) : (s.bump k).get j = s.get j := State.get_set_ne h
@[simp] theorem State.getN_bump_same (s : State) (k : Nat) : (s.bump k).getN k = (s.getN k + 1) % 2 ^ Obj.bits k := by
  simp [State.bump, State.bumpBy]

end Sys2Proof.Machine
end

