-- ==== Sys2Proof/Laws/Keeps.lean ====
section
/-! SUPPORT. What every shared operation keeps: the queue of waiting commands, the canonical form of the stores, and the bounds
of FIFOs and journal. One lemma for an operation, in the form that composes. -/
namespace Sys2Proof.Machine

/-- The bounds of an event FIFO. -/
def Fifo.Fits (f : Fifo) : Prop := f.recs.length ≤ fifoDepth ∧ f.held.length ≤ fifoDepth

/-- From `s` to `t` the queue is the same, and the stores and the bounded lists stay as they have to be. -/
structure Keeps (s t : State) : Prop where
  queueSame : t.pending = s.pending
  objWf : Store.wf s.obj = true → Store.wf t.obj = true
  committedWf : Store.wf s.lb.committed = true → Store.wf t.lb.committed = true
  fifoCount : t.mg.fifos.length = s.mg.fifos.length
  fifoFits : (∀ f ∈ s.mg.fifos, f.Fits) → ∀ f ∈ t.mg.fifos, f.Fits
  journalFits : s.lb.journal ≠ [] ∧ s.lb.journal.length ≤ journalSize → t.lb.journal ≠ [] ∧ t.lb.journal.length ≤ journalSize

namespace Keeps

theorem refl (s : State) : Keeps s s := ⟨rfl, id, id, rfl, id, id⟩

theorem trans {s t u : State} (h : Keeps s t) (k : Keeps t u) : Keeps s u :=
  ⟨k.queueSame.trans h.queueSame, k.objWf ∘ h.objWf, k.committedWf ∘ h.committedWf, k.fifoCount.trans h.fifoCount,
   k.fifoFits ∘ h.fifoFits, k.journalFits ∘ h.journalFits⟩

/-- What is kept is an invariant of a step. -/
theorem canonical {s t : State} (h : Keeps s t) (hc : Canonical s) : Canonical t := ⟨h.objWf hc.1, h.committedWf hc.2⟩
theorem bounded {s t : State} (h : Keeps s t) (hb : Bounded s) : Bounded t :=
  ⟨h.fifoCount.trans hb.1, h.fifoFits hb.2.1, h.journalFits hb.2.2⟩

/-- An update of parts that no bound speaks of. -/
theorem same {s t u : State} (h : Keeps s t) (h1 : u.obj = t.obj) (h2 : u.lb.committed = t.lb.committed)
    (h3 : u.lb.journal = t.lb.journal) (h4 : u.mg.fifos = t.mg.fifos) (h5 : u.pending = t.pending) : Keeps s u :=
  h.trans ⟨h5, by rw [h1]; exact id, by rw [h2]; exact id, by rw [h4], by rw [h4]; exact id, by rw [h3]; exact id⟩

/-- The same, where the parts are written out. -/
theorem parts {s t : State} (h : Keeps s t) {lb : Logbook} {mg : Mgmt} {fe : Front} {rx : Receive} {helm : Helm} {alm : Almanac}
    {pilot : Pilot} {tk : Trunk} {cs : Consort} {bn : Binnacle} {sx : Sextant} {pwr : Power} {diag : Diag} {rst : ResetSt}
    {now free : Nat} {out : List Out} (h2 : lb.committed = t.lb.committed) (h3 : lb.journal = t.lb.journal)
    (h4 : mg.fifos = t.mg.fifos) :
    Keeps s ⟨t.obj, lb, mg, fe, rx, helm, alm, pilot, tk, cs, bn, sx, pwr, diag, rst, now, free, out, t.pending⟩ :=
  h.same rfl h2 h3 h4 rfl

/-- The same, where each FIFO is updated alike. -/
theorem fifos {s t u : State} (h : Keeps s t) (g : Fifo → Fifo) (hg : ∀ f, f.Fits → (g f).Fits) (h1 : u.obj = t.obj)
    (h2 : u.lb.committed = t.lb.committed) (h3 : u.lb.journal = t.lb.journal) (h4 : u.mg.fifos = t.mg.fifos.map g)
    (h5 : u.pending = t.pending) : Keeps s u := by
  refine h.trans ⟨h5, by rw [h1]; exact id, by rw [h2]; exact id, by rw [h4, List.length_map], ?_, by rw [h3]; exact id⟩
  rw [h4]
  intro hf f hm
  obtain ⟨a, ha, rfl⟩ := List.mem_map.1 hm
  exact hg a (hf a ha)

/-- The same, where the dictionary or the committed values change and stay in canonical form. -/
theorem stores {s t u : State} (h : Keeps s t) (h1 : Store.wf t.obj = true → Store.wf u.obj = true)
    (h2 : Store.wf t.lb.committed = true → Store.wf u.lb.committed = true) (h3 : u.lb.journal = t.lb.journal)
    (h4 : u.mg.fifos = t.mg.fifos) (h5 : u.pending = t.pending) : Keeps s u :=
  h.trans ⟨h5, h1, h2, by rw [h4], by rw [h4]; exact id, by rw [h3]; exact id⟩

/-- A fold of an operation that keeps. -/
theorem foldl {s t : State} {α : Type} {f : State → α → State} (h : Keeps s t) (hf : ∀ u a, Keeps s u → Keeps s (f u a))
    (l : List α) : Keeps s (l.foldl f t) := by
  induction l generalizing t with
  | nil => exact h
  | cons a l ih => exact ih (hf _ _ h)

theorem fst {s t : State} {α : Type} (h : Keeps s t) (a : α) : Keeps s (t, a).1 := h
theorem iteFst {s : State} {α : Type} {c : Prop} [Decidable c] {p q : State × α} (h : Keeps s p.1) (k : Keeps s q.1) :
    Keeps s (if c then p else q).1 := by split <;> assumption

theorem ite {s t u : State} {c : Prop} [Decidable c] (h : Keeps s t) (k : Keeps s u) : Keeps s (if c then t else u) := by
  split <;> assumption

theorem set {s t : State} (h : Keeps s t) (k : Nat) (v : Val) : Keeps s (t.set k v) :=
  h.trans ⟨rfl, Store.wf_put k v, id, rfl, id, id⟩

theorem upd_fits {l : List Fifo} {n : Nat} {g : Fifo → Fifo} (hg : ∀ f, f.Fits → (g f).Fits) (h : ∀ f ∈ l, f.Fits) :
    ∀ f ∈ upd l n g, f.Fits := by
  intro f hf
  obtain ⟨i, hi, rfl⟩ := List.mem_iff_getElem.1 hf
  simp only [upd, List.length_modify] at hi
  simp only [upd, List.getElem_modify]
  split
  · exact hg _ (h _ (List.getElem_mem hi))
  · exact h _ (List.getElem_mem hi)

theorem updFifo {s t : State} (h : Keeps s t) (n : Nat) {g : Fifo → Fifo} (hg : ∀ f, f.Fits → (g f).Fits) :
    Keeps s (t.updFifo n g) :=
  h.trans ⟨rfl, id, id, by simp [State.updFifo, upd], upd_fits hg, id⟩

theorem fits_write {f : Fifo} (r : EvRec) (h : f.Fits) : (f.write r).Fits := by
  unfold Fifo.write
  split
  · exact ⟨by simp; omega, h.2⟩
  · refine ⟨?_, h.2⟩
    simp only [List.length_append, List.length_tail, List.length_singleton]
    have := h.1
    simp only [fifoDepth] at *
    omega

theorem fits_hold {f : Fifo} (r : EvRec) (h : f.Fits) : (f.hold r).Fits := by
  unfold Fifo.hold
  split
  · exact ⟨h.1, by simp; omega⟩
  · refine ⟨h.1, ?_⟩
    simp only [List.length_append, List.length_tail, List.length_singleton]
    have := h.2
    simp only [fifoDepth] at *
    omega

theorem fits_record {f : Fifo} (b : Bool) (r : EvRec) (h : f.Fits) : (if b then f.hold r else f.write r).Fits := by
  cases b
  · exact fits_write r h
  · exact fits_hold r h

theorem journal {s t : State} (h : Keeps s t) (kind session index sub : Nat) (result : Rc) (old new : Octets) :
    Keeps s (t.journal kind session index sub result old new) :=
  h.trans ⟨rfl, id, id, rfl, id, fun _ => ⟨by simp [State.journal], by simp [State.journal, journalSize] <;> omega⟩⟩

theorem wearOut {s t : State} (h : Keeps s t) (k : Nat) : Keeps s (t.wearOut k) := h.same rfl rfl rfl rfl rfl

theorem lbCommit {s t : State} (h : Keeps s t) (k : Nat) (v : Val) : Keeps s (t.lbCommit k v) := by
  have h' : Keeps s { t with lb := { t.lb with committed := Store.put k v t.lb.committed } } :=
    h.trans ⟨rfl, id, Store.wf_put k v, rfl, id, id⟩
  exact (h'.wearOut k).set _ _

theorem raiseFrom {s t : State} (h : Keeps s t) (code sev source dom : Nat) (param : Octets) :
    Keeps s (t.raiseFrom code sev source dom param) := by
  have hw : ∀ (c : Prop) [Decidable c], Keeps s (if c then t.coreWake else t) := by
    intro c _
    split
    · unfold State.coreWake
      split
      · exact h.same rfl rfl rfl rfl rfl
      · exact h
    · exact h
  unfold State.raiseFrom
  exact (hw _).updFifo _ (fun f hf => fits_record _ _ hf)

end Keeps
end Sys2Proof.Machine
end

