-- ==== Sys2Proof/Laws/KeepsOps.lean ====
section
/-! SUPPORT. One lemma for each shared operation of Machine/: what it keeps (Keeps). A proof about a command composes these and
unfolds no operation. Those whose proof is one pattern are written by one pattern; writes, starts, reads, aborts and resets have
their own. -/
set_option linter.unusedVariables false
namespace Sys2Proof.Machine
namespace Keeps

theorem setI {s t : State} (h : Keeps s t) (k : Nat) (i : Int) : Keeps s (t.setI k i) := by
  unfold State.setI
  repeat' (first | assumption | apply Keeps.set)

theorem setN {s t : State} (h : Keeps s t) (k n : Nat) : Keeps s (t.setN k n) := by
  unfold State.setN
  repeat' (first | assumption | apply Keeps.set)

theorem setB {s t : State} (h : Keeps s t) (k : Nat) (b : Bool) : Keeps s (t.setB k b) := by
  unfold State.setB
  repeat' (first | assumption | apply Keeps.set)

theorem bumpBy {s t : State} (h : Keeps s t) (k n : Nat) : Keeps s (t.bumpBy k n) := by
  unfold State.bumpBy
  repeat' (first | assumption | apply Keeps.setN)

theorem bump {s t : State} (h : Keeps s t) (k : Nat) : Keeps s (t.bump k) := by
  unfold State.bump
  repeat' (first | assumption | apply Keeps.bumpBy)

theorem dropBy {s t : State} (h : Keeps s t) (k n : Nat) : Keeps s (t.dropBy k n) := by
  unfold State.dropBy
  repeat' (first | assumption | apply Keeps.setN)

theorem fresh {s t : State} (h : Keeps s t) : Keeps s t.fresh.2 :=
  h.same rfl rfl rfl rfl rfl

theorem emit {s t : State} (h : Keeps s t) (o : Out) : Keeps s (t.emit o) :=
  h.same rfl rfl rfl rfl rfl

theorem setCond {s t : State} (h : Keeps s t) (d : Nat) (c : Cond) : Keeps s (t.setCond d c) :=
  h.same rfl rfl rfl rfl rfl

theorem biasFor {s t : State} (h : Keeps s t) (st : Nat) : Keeps s (t.biasFor st) :=
  h.same rfl rfl rfl rfl rfl

theorem coreWake {s t : State} (h : Keeps s t) : Keeps s t.coreWake := by
  unfold State.coreWake
  repeat' (first | assumption | apply Keeps.setCond | split | refine Keeps.parts ?_ (by rfl) (by rfl) (by rfl))

theorem raiseOn {s t : State} (h : Keeps s t) (code sev source : Nat) (param : Octets) :
    Keeps s (t.raiseOn code sev source param) := by
  unfold State.raiseOn
  repeat' (first | assumption | apply Keeps.raiseFrom)

theorem raise {s t : State} (h : Keeps s t) (code sev : Nat) (param : Octets) : Keeps s (t.raise code sev param) := by
  unfold State.raise
  repeat' (first | assumption | apply Keeps.raiseFrom)

theorem updSession {s t : State} (h : Keeps s t) (n : Nat) (g : Session → Session) : Keeps s (t.updSession n g) :=
  h.same rfl rfl rfl rfl rfl

theorem quayFrame {s t : State} (h : Keeps s t) (kind : Nat) (x1 : Tok) (code : Nat) (p : Payload) (takes : Option (Nat × Nat)) :
    Keeps s (t.quayFrame kind x1 code p takes) :=
  h.same rfl rfl rfl rfl rfl

theorem setStartCount {s t : State} (h : Keeps s t) (ix n : Nat) : Keeps s (t.setStartCount ix n) :=
  h.same rfl rfl rfl rfl rfl

theorem procBegin {s t : State} (h : Keeps s t) (ix : Nat) (est : Tick) : Keeps s (t.procBegin ix est) := by
  unfold State.procBegin
  repeat' first
    | with_reducible assumption | with_reducible apply Keeps.setStartCount | with_reducible apply Keeps.setN
    | with_reducible apply Keeps.set
    | with_reducible refine Keeps.parts ?_ (by with_reducible rfl) (by with_reducible rfl) (by with_reducible rfl)

theorem procEnd {s t : State} (h : Keeps s t) (ix st : Nat) (rc : Rc) : Keeps s (t.procEnd ix st rc) := by
  unfold State.procEnd
  repeat' (first | assumption | apply Keeps.setN | refine Keeps.parts ?_ (by rfl) (by rfl) (by rfl))

theorem procDone {s t : State} (h : Keeps s t) (ix : Nat) (rc : Rc) : Keeps s (t.procDone ix rc) := by
  unfold State.procDone
  repeat' (first | assumption | apply Keeps.procEnd | split)

theorem procAborted {s t : State} (h : Keeps s t) (ix : Nat) : Keeps s (t.procAborted ix) := by
  unfold State.procAborted
  repeat' (first | assumption | apply Keeps.procEnd | split)

theorem procEst {s t : State} (h : Keeps s t) (ix : Nat) (x1 : Tick) : Keeps s (t.procEst ix x1) := by
  unfold State.procEst
  repeat' (first | assumption | apply Keeps.set)

theorem wakeSource {s t : State} (h : Keeps s t) (b : Nat) : Keeps s (t.wakeSource b) := by
  unfold State.wakeSource
  repeat' first
    | with_reducible assumption | with_reducible apply Keeps.setN | split
    | with_reducible refine Keeps.parts ?_ (by with_reducible rfl) (by with_reducible rfl) (by with_reducible rfl)

theorem setCeiling {s t : State} (h : Keeps s t) (k n : Nat) : Keeps s (t.setCeiling k n) := by
  unfold State.setCeiling
  repeat' (first | assumption | apply Keeps.wearOut | apply Keeps.bump | refine Keeps.parts ?_ (by rfl) (by rfl) (by rfl))

theorem reserveCounter {s t : State} (h : Keeps s t) (k step n : Nat) : Keeps s (t.reserveCounter k step n) := by
  unfold State.reserveCounter
  repeat' first
    | with_reducible assumption | with_reducible apply Keeps.setCeiling | with_reducible apply Keeps.stream | split

theorem updBn {s t : State} (h : Keeps s t) (f : Binnacle → Binnacle) : Keeps s (t.updBn f) :=
  h.same rfl rfl rfl rfl rfl

theorem keyMissing {s t : State} (h : Keeps s t) (kind id user : Nat) : Keeps s (t.keyMissing kind id user) := by
  unfold State.keyMissing
  repeat' (first | assumption | apply Keeps.updBn | apply Keeps.raiseOn | split)

theorem setUses {s t : State} (h : Keeps s t) (i : Nat × Nat × Nat) (n : Nat) : Keeps s (t.setUses i n) :=
  h.same rfl rfl rfl rfl rfl

theorem useRec {s t : State} (h : Keeps s t) (r : KeyRec) : Keeps s (t.useRec r).1 := by
  unfold State.useRec
  repeat' first
    | assumption | apply Keeps.setUses | apply Keeps.updBn | apply Keeps.reserveCounter | apply Keeps.raiseOn | split
    | (simp +zetaDelta only; split)

theorem useFor {s t : State} (h : Keeps s t) (r : KeyRec) (out : Bool) : Keeps s (t.useFor r out).1 := by
  unfold State.useFor
  repeat' (first | assumption | apply Keeps.useRec | split)

theorem useKey {s t : State} (h : Keeps s t) (kind id user : Nat) (out : Bool) : Keeps s (t.useKey kind id user out).1 := by
  unfold State.useKey
  repeat' first
    | with_reducible assumption | with_reducible apply Keeps.useFor | with_reducible apply Keeps.keyMissing | split

theorem retireOld {s t : State} (h : Keeps s t) (kind id : Nat) : Keeps s (t.retireOld kind id) :=
  h.same rfl rfl rfl rfl rfl

theorem checkKey {s t : State} (h : Keeps s t) (kind id user : Nat) (old ok : Bool) :
    Keeps s (t.checkKey kind id user old ok).1 := by
  unfold State.checkKey
  repeat' first
    | assumption | apply Keeps.retireOld | apply Keeps.useKey | apply Keeps.useFor | split | (simp +zetaDelta only; split)

theorem cacheUse {s t : State} (h : Keeps s t) (n : Node) : Keeps s (t.cacheUse n) :=
  h.same rfl rfl rfl rfl rfl

theorem useLink {s t : State} (h : Keeps s t) (n : Node) (out : Bool) : Keeps s (t.useLink n out).1 := by
  unfold State.useLink
  repeat' (first | assumption | apply Keeps.cacheUse | apply Keeps.useFor | apply Keeps.keyMissing | split)

theorem useGroupRx {s t : State} (h : Keeps s t) (pan ix : Nat) : Keeps s (t.useGroupRx pan ix).1 := by
  unfold State.useGroupRx
  repeat' (first | assumption | apply Keeps.useFor | apply Keeps.keyMissing | split)

theorem pairFrame {s t : State} (h : Keeps s t) (o : Octets) : Keeps s (t.pairFrame o) := by
  unfold State.pairFrame
  repeat' first
    | assumption | apply Keeps.emit | apply Keeps.bump | refine Keeps.foldl ?_ (fun _ _ _ => ?_) _
    | refine Keeps.parts ?_ (by rfl) (by rfl) (by rfl)

theorem sendStream {s t : State} (h : Keeps s t) (n : Nat) (l : List StreamRec) : Keeps s (t.sendStream n l) := by
  unfold State.sendStream
  repeat' first
    | with_reducible assumption | with_reducible refine Keeps.ite ?_ ?_ | with_reducible apply Keeps.pairFrame
    | with_reducible apply Keeps.useKey | with_reducible apply Keeps.emit

theorem backlog {s t : State} (h : Keeps s t) : Keeps s t.backlog := by
  unfold State.backlog
  repeat' (first | assumption | apply Keeps.setN)

theorem stream {s t : State} (h : Keeps s t) (r : StreamRec) : Keeps s (t.stream r) := by
  unfold State.stream
  repeat' first
    | with_reducible assumption | with_reducible apply Keeps.backlog | with_reducible apply Keeps.sendStream | split
    | with_reducible refine Keeps.parts ?_ (by with_reducible rfl) (by with_reducible rfl) (by with_reducible rfl)

theorem reserveSeq {s t : State} (h : Keeps s t) (k step n : Nat) : Keeps s (t.reserveSeq k step n) := by
  unfold State.reserveSeq
  repeat' first
    | assumption | extract_lets +lift | apply Keeps.stream | apply Keeps.reserveCounter | (simp +zetaDelta only; split)

theorem takeCounter {s t : State} (h : Keeps s t) (k step : Nat) : Keeps s (t.takeCounter k step).2 := by
  unfold State.takeCounter
  repeat' (first | assumption | apply Keeps.reserveSeq | apply Keeps.setN)

theorem takeOscoreSeq {s t : State} (h : Keeps s t) (id : Nat) : Keeps s (t.takeOscoreSeq id) := by
  unfold State.takeOscoreSeq
  repeat' (first | assumption | apply Keeps.updBn | apply Keeps.reserveCounter)

theorem protectMsg {s t : State} (h : Keeps s t) (ctx : Nat) : Keeps s (t.protectMsg ctx).1 := by
  unfold State.protectMsg
  repeat' (first | assumption | apply Keeps.useKey)

theorem reply {s t : State} (h : Keeps s t) (sess : Nat) (x1 : Tok) (code : Nat) (p : Payload) :
    Keeps s (t.reply sess x1 code p) := by
  unfold State.reply
  repeat' first
    | with_reducible assumption | with_reducible apply Keeps.protectMsg | with_reducible apply Keeps.quayFrame
    | with_reducible apply Keeps.emit | split
    | with_reducible refine Keeps.parts ?_ (by with_reducible rfl) (by with_reducible rfl) (by with_reducible rfl)

theorem replyRc {s t : State} (h : Keeps s t) (sess : Nat) (x1 : Tok) (rc : Rc) (micros : Option Nat) :
    Keeps s (t.replyRc sess x1 rc micros) := by
  unfold State.replyRc
  repeat' (first | assumption | apply Keeps.reply)

theorem updNode {s t : State} (h : Keeps s t) (i : Nat) (g : Node → Node) : Keeps s (t.updNode i g) :=
  h.same rfl rfl rfl rfl rfl

theorem lbDrain {s t : State} (h : Keeps s t) : Keeps s t.lbDrain := by
  unfold State.lbDrain
  repeat' first
    | assumption | apply Keeps.lbCommit | refine Keeps.foldl ?_ (fun _ _ _ => ?_) _
    | refine Keeps.parts ?_ (by rfl) (by rfl) (by rfl)

theorem setP {s t : State} (h : Keeps s t) (k : Nat) (v : Val) : Keeps s (t.setP k v) := by
  unfold State.setP
  repeat' (first | assumption | apply Keeps.lbCommit | apply Keeps.set | split)

theorem setQ {s t : State} (h : Keeps s t) (k : Nat) (v : Val) : Keeps s (t.setQ k v) := by
  unfold State.setQ
  repeat' first
    | with_reducible assumption | with_reducible apply Keeps.set | split
    | with_reducible refine Keeps.parts ?_ (by with_reducible rfl) (by with_reducible rfl) (by with_reducible rfl)

theorem bumpQ {s t : State} (h : Keeps s t) (k : Nat) : Keeps s (t.bumpQ k) := by
  unfold State.bumpQ
  repeat' (first | assumption | apply Keeps.setQ)

theorem streamWrite {s t : State} (h : Keeps s t) (sess ix sub : Nat) (v : Val) : Keeps s (t.streamWrite sess ix sub v) := by
  unfold State.streamWrite
  repeat' first
    | with_reducible assumption | with_reducible apply Keeps.stream | split
    | with_reducible refine Keeps.parts ?_ (by with_reducible rfl) (by with_reducible rfl) (by with_reducible rfl)

theorem streamStart {s t : State} (h : Keeps s t) (ix : Nat) (v : Val) : Keeps s (t.streamStart ix v) := by
  unfold State.streamStart
  repeat' (first | assumption | apply Keeps.stream | split)

theorem updPort {s t : State} (h : Keeps s t) (p : Nat) (f : Port → Port) : Keeps s (t.updPort p f) :=
  h.same rfl rfl rfl rfl rfl

theorem updChain {s t : State} (h : Keeps s t) (c : Nat) (f : Chain → Chain) : Keeps s (t.updChain c f) :=
  h.same rfl rfl rfl rfl rfl

theorem stepGain {s t : State} (h : Keeps s t) (p n : Nat) : Keeps s (t.stepGain p n) := by
  unfold State.stepGain
  repeat' (first | assumption | apply Keeps.setN | refine Keeps.parts ?_ (by rfl) (by rfl) (by rfl))

theorem updDuty {s t : State} (h : Keeps s t) (b : Nat) (f : Duty → Duty) : Keeps s (t.updDuty b f) :=
  h.same rfl rfl rfl rfl rfl

theorem dutyWarn {s t : State} (h : Keeps s t) (b cls : Nat) (a : Int) (x : Nat) : Keeps s (t.dutyWarn b cls a x) := by
  unfold State.dutyWarn
  repeat' first
    | with_reducible assumption | with_reducible apply Keeps.updDuty | with_reducible apply Keeps.raiseOn | split
    | with_reducible refine Keeps.parts ?_ (by with_reducible rfl) (by with_reducible rfl) (by with_reducible rfl)

theorem dutyCharge {s t : State} (h : Keeps s t) (freq bw : Nat) (c : Count) (x : Nat) :
    Keeps s (t.dutyCharge freq bw c x) := by
  unfold State.dutyCharge
  repeat' (first | assumption | apply Keeps.updDuty | refine Keeps.foldl ?_ (fun _ _ _ => ?_) _)

theorem rebinDuty {s t : State} (h : Keeps s t) (old : Count) : Keeps s (t.rebinDuty old) :=
  h.same rfl rfl rfl rfl rfl

theorem dutyReserve {s t : State} (h : Keeps s t) (freq bw : Nat) (c : Count) (x ref inst pan : Nat) :
    Keeps s (t.dutyReserve freq bw c x ref inst pan) := by
  unfold State.dutyReserve
  repeat' (first | assumption | apply Keeps.updDuty | refine Keeps.foldl ?_ (fun _ _ _ => ?_) _)

theorem dutyDrop {s t : State} (h : Keeps s t) (ref inst : Nat) : Keeps s (t.dutyDrop ref inst) :=
  h.same rfl rfl rfl rfl rfl

theorem dutyCellEnd {s t : State} (h : Keeps s t) (pan asn : Nat) : Keeps s (t.dutyCellEnd pan asn) :=
  h.same rfl rfl rfl rfl rfl

theorem dutyDropAll {s t : State} (h : Keeps s t) (ref : Nat) : Keeps s (t.dutyDropAll ref) :=
  h.same rfl rfl rfl rfl rfl

theorem releaseRecs {s t : State} (h : Keeps s t) (p : Recep → Bool) : Keeps s (t.releaseRecs p) :=
  h.same rfl rfl rfl rfl rfl

theorem blankRecs {s t : State} (h : Keeps s t) (p : Recep → Bool) : Keeps s (t.blankRecs p) := by
  unfold State.blankRecs
  repeat' first
    | with_reducible assumption | with_reducible apply Keeps.releaseRecs | with_reducible apply Keeps.bump
    | with_reducible refine Keeps.foldl ?_ (fun _ _ _ => ?_) _

theorem switch {s t : State} (h : Keeps s t) (d : Nat) (on : Bool) : Keeps s (t.switch d on) := by
  unfold State.switch
  repeat' (first | assumption | apply Keeps.setCond | split)

theorem chanPower {s t : State} (h : Keeps s t) : Keeps s t.chanPower := by
  unfold State.chanPower
  repeat' (first | assumption | apply Keeps.switch)

theorem radioPower {s t : State} (h : Keeps s t) : Keeps s t.radioPower := by
  unfold State.radioPower
  repeat' first
    | with_reducible assumption | with_reducible apply Keeps.chanPower | with_reducible apply Keeps.switch
    | with_reducible apply Keeps.releaseRecs | with_reducible apply Keeps.setN
    | with_reducible refine Keeps.foldl ?_ (fun _ _ _ => ?_) _ | split
    | with_reducible refine Keeps.parts ?_ (by with_reducible rfl) (by with_reducible rfl) (by with_reducible rfl)

theorem biasShift {s t : State} (h : Keeps s t) (st : Nat) : Keeps s (t.biasShift st) := by
  unfold State.biasShift
  repeat' first
    | with_reducible assumption | with_reducible apply Keeps.biasFor | with_reducible apply Keeps.setCond
    | with_reducible refine Keeps.foldl ?_ (fun _ _ _ => ?_) _ | split
    | with_reducible refine Keeps.parts ?_ (by with_reducible rfl) (by with_reducible rfl) (by with_reducible rfl)

theorem stateChange {s t : State} (h : Keeps s t) (after cause micros : Nat) :
    Keeps s (t.stateChange after cause micros) := by
  unfold State.stateChange
  repeat' first
    | with_reducible assumption | with_reducible apply Keeps.biasShift | with_reducible apply Keeps.raiseOn
    | with_reducible apply Keeps.setN | with_reducible apply Keeps.set

theorem gating {s t : State} (h : Keeps s t) (m : Nat) : Keeps s (t.gating m) := by
  unfold State.gating
  repeat' first
    | with_reducible assumption | with_reducible apply Keeps.radioPower
    | with_reducible refine Keeps.parts ?_ (by with_reducible rfl) (by with_reducible rfl) (by with_reducible rfl)

theorem modeApply {s t : State} (h : Keeps s t) : Keeps s t.modeApply := by
  unfold State.modeApply
  repeat' first
    | with_reducible assumption | with_reducible apply Keeps.gating | with_reducible apply Keeps.stateChange | split
    | with_reducible refine Keeps.parts ?_ (by with_reducible rfl) (by with_reducible rfl) (by with_reducible rfl)

theorem airItem {s t : State} (h : Keeps s t) (g : Group) (f : AirFrame) : Keeps s (t.airItem g f) :=
  h.same rfl rfl rfl rfl rfl

theorem streamItem {s t : State} (h : Keeps s t) (g : Group) (f : AirFrame) : Keeps s (t.streamItem g f) := by
  unfold State.streamItem
  repeat' (first | assumption | apply Keeps.stream)

theorem cutItems {s t : State} (h : Keeps s t) (g : Group) : Keeps s (t.cutItems g) :=
  h.same rfl rfl rfl rfl rfl

theorem updCap {s t : State} (h : Keeps s t) (n : Nat) (g : CapFifo → CapFifo) : Keeps s (t.updCap n g) :=
  h.same rfl rfl rfl rfl rfl

theorem capture {s t : State} (h : Keeps s t) (source port : Nat) (node : Option Nat) (ok crcOk : Bool) (x5 : Tick) (head frame : Octets) :
    Keeps s (t.capture source port node ok crcOk x5 head frame) := by
  unfold State.capture
  repeat' first
    | with_reducible assumption | with_reducible apply Keeps.updCap | with_reducible refine Keeps.foldl ?_ (fun _ _ _ => ?_) _
    | split

theorem chartGeometry {s t : State} (h : Keeps s t) : Keeps s t.chartGeometry := by
  unfold State.chartGeometry
  repeat' (first | assumption | apply Keeps.setP | refine Keeps.parts ?_ (by rfl) (by rfl) (by rfl))

theorem chartWindows {s t : State} (h : Keeps s t) : Keeps s t.chartWindows := by
  unfold State.chartWindows
  repeat' first
    | with_reducible assumption | with_reducible apply Keeps.chartGeometry | with_reducible apply Keeps.setP | split
    | with_reducible refine Keeps.parts ?_ (by with_reducible rfl) (by with_reducible rfl) (by with_reducible rfl)

theorem updSched {s t : State} (h : Keeps s t) (p : Nat) (f : Sched → Sched) : Keeps s (t.updSched p f) :=
  h.same rfl rfl rfl rfl rfl

theorem arrive {s t : State} (h : Keeps s t) (p : Nat) (f : UpFrame) : Keeps s (t.arrive p f) :=
  h.same rfl rfl rfl rfl rfl

theorem upDrop {s t : State} (h : Keeps s t) (cls : Nat) : Keeps s (t.upDrop cls) := by
  unfold State.upDrop
  repeat' first
    | with_reducible assumption | with_reducible apply Keeps.raiseOn | with_reducible apply Keeps.bump | split
    | with_reducible refine Keeps.parts ?_ (by with_reducible rfl) (by with_reducible rfl) (by with_reducible rfl)

theorem unqueue {s t : State} (h : Keeps s t) (id : Nat) : Keeps s (t.unqueue id) :=
  h.same rfl rfl rfl rfl rfl

theorem makeRoom {s t : State} (h : Keeps s t) (cls octets n : Nat) : Keeps s (t.makeRoom cls octets n).1 := by
  induction n generalizing t with
  | zero => exact h
  | succ n ih =>
    unfold State.makeRoom
    split
    · exact h
    · split
      · exact h
      · exact ih ((h.unqueue _).upDrop _)

theorem spoolDiscard {s t : State} (h : Keeps s t) : Keeps s t.spoolDiscard := by
  unfold State.spoolDiscard
  repeat' first
    | with_reducible assumption | with_reducible apply Keeps.raiseOn | with_reducible apply Keeps.bump | split
    | with_reducible refine Keeps.parts ?_ (by with_reducible rfl) (by with_reducible rfl) (by with_reducible rfl)

theorem spoolRoom {s t : State} (h : Keeps s t) (cls octets n : Nat) : Keeps s (t.spoolRoom cls octets n).1 := by
  induction n generalizing t with
  | zero => exact h
  | succ n ih =>
    unfold State.spoolRoom
    split
    · exact h
    · split
      · exact h
      · exact ih (spoolDiscard (by exact h.same rfl rfl rfl rfl rfl))

theorem lodestarRoom {s t : State} (h : Keeps s t) : Keeps s t.lodestarRoom := by
  unfold State.lodestarRoom
  repeat' (first | assumption | apply Keeps.spoolDiscard | split | refine Keeps.parts ?_ (by rfl) (by rfl) (by rfl))

theorem spoolWrite {s t : State} (h : Keeps s t) (f : UpFrame) : Keeps s (t.spoolWrite f) := by
  unfold State.spoolWrite
  repeat' first
    | with_reducible assumption | with_reducible apply Keeps.lodestarRoom | with_reducible apply Keeps.spoolRoom
    | with_reducible apply Keeps.spoolDiscard | with_reducible apply Keeps.setN | split
    | with_reducible refine Keeps.parts ?_ (by with_reducible rfl) (by with_reducible rfl) (by with_reducible rfl)

theorem uplink {s t : State} (h : Keeps s t) (tag : UpTag) (port : Option Nat) (dscp octets : Nat) :
    Keeps s (t.uplink tag port dscp octets) := by
  unfold State.uplink
  repeat' first
    | with_reducible assumption | with_reducible apply Keeps.spoolWrite | with_reducible apply Keeps.makeRoom
    | with_reducible apply Keeps.upDrop | with_reducible apply Keeps.arrive
    | with_reducible refine Keeps.foldl ?_ (fun _ _ _ => ?_) _ | split
    | with_reducible refine Keeps.parts ?_ (by with_reducible rfl) (by with_reducible rfl) (by with_reducible rfl)

theorem sendOwn {s t : State} (h : Keeps s t) (o : Out) (octets : Nat) : Keeps s (t.sendOwn o octets) := by
  unfold State.sendOwn
  refine ite h (foldl ?_ (fun _ _ h => h.arrive _ _) _)
  apply Keeps.emit
  exact Keeps.parts h (by with_reducible rfl) (by with_reducible rfl) (by with_reducible rfl)

theorem sendAdm {s t : State} (h : Keeps s t) (dst type ctx seq : Nat) (body : Octets) (o : Out) (octets : Nat) :
    Keeps s (t.sendAdm dst type ctx seq body o octets) := by
  unfold State.sendAdm
  repeat' first
    | with_reducible assumption | with_reducible apply Keeps.sendOwn | with_reducible apply Keeps.useKey
    | with_reducible apply Keeps.emit | split
    | with_reducible refine Keeps.parts ?_ (by with_reducible rfl) (by with_reducible rfl) (by with_reducible rfl)

theorem spoolStart {s t : State} (h : Keeps s t) : Keeps s t.spoolStart := by
  unfold State.spoolStart
  repeat' first
    | with_reducible assumption | with_reducible apply Keeps.spoolWrite | with_reducible apply Keeps.raiseOn
    | with_reducible apply Keeps.setN | with_reducible refine Keeps.foldl ?_ (fun _ _ _ => ?_) _
    | with_reducible refine Keeps.parts ?_ (by with_reducible rfl) (by with_reducible rfl) (by with_reducible rfl)

theorem portDown {s t : State} (h : Keeps s t) (p : Nat) : Keeps s (t.portDown p) := by
  unfold State.portDown
  repeat' first
    | with_reducible assumption | with_reducible apply Keeps.spoolStart | with_reducible apply Keeps.arrive
    | with_reducible apply Keeps.updSched | with_reducible refine Keeps.foldl ?_ (fun _ _ _ => ?_) _ | split

theorem spoolDrain {s t : State} (h : Keeps s t) (p : Nat) : Keeps s (t.spoolDrain p) := by
  unfold State.spoolDrain
  repeat' (first | assumption | apply Keeps.arrive | apply Keeps.setN | refine Keeps.foldl ?_ (fun _ _ _ => ?_) _ | split)

theorem spoolEmpty {s t : State} (h : Keeps s t) : Keeps s t.spoolEmpty := by
  unfold State.spoolEmpty
  repeat' (first | assumption | apply Keeps.raiseOn | apply Keeps.setN | split)

theorem updFrame {s t : State} (h : Keeps s t) (ref : Nat) (g : Frame → Frame) : Keeps s (t.updFrame ref g) :=
  h.same rfl rfl rfl rfl rfl

theorem setFrames {s t : State} (h : Keeps s t) (l : List Frame) : Keeps s (t.setFrames l) :=
  h.same rfl rfl rfl rfl rfl

theorem dropWheel {s t : State} (h : Keeps s t) (p : Wheel → Bool) : Keeps s (t.dropWheel p) :=
  h.same rfl rfl rfl rfl rfl

theorem report {s t : State} (h : Keeps s t) (ref st : Nat) (x2 : Tick) : Keeps s (t.report ref st x2) := by
  unfold State.report
  repeat' first
    | with_reducible assumption | with_reducible refine Keeps.ite ?_ ?_ | with_reducible apply Keeps.dropWheel
    | with_reducible apply Keeps.setFrames | with_reducible apply Keeps.sendAdm | with_reducible apply Keeps.dutyDropAll
    | with_reducible apply Keeps.takeCounter | with_reducible apply Keeps.stream | with_reducible apply Keeps.raiseOn
    | with_reducible apply Keeps.emit | with_reducible apply Keeps.bump | split
    | with_reducible refine Keeps.parts ?_ (by with_reducible rfl) (by with_reducible rfl) (by with_reducible rfl)

theorem attemptEnds {s t : State} (h : Keeps s t) (ref cell asn reason : Nat) : Keeps s (t.attemptEnds ref cell asn reason) :=
  h.same rfl rfl rfl rfl rfl

theorem deferral {s t : State} (h : Keeps s t) (ref cell asn reason : Nat) : Keeps s (t.deferral ref cell asn reason) := by
  unfold State.deferral
  repeat' first
    | with_reducible assumption | with_reducible apply Keeps.attemptEnds | with_reducible apply Keeps.bump | split
    | with_reducible refine Keeps.parts ?_ (by with_reducible rfl) (by with_reducible rfl) (by with_reducible rfl)

theorem delta {s t : State} (h : Keeps s t) (i : Nat) : Keeps s (t.delta i) :=
  h.same rfl rfl rfl rfl rfl

theorem deltaMoves {s t : State} (h : Keeps s t) (n : Nat) : Keeps s (t.deltaMoves n) := by
  unfold State.deltaMoves
  repeat' (first | assumption | split | refine Keeps.parts ?_ (by rfl) (by rfl) (by rfl))

theorem mirrorNodes {s t : State} (h : Keeps s t) : Keeps s t.mirrorNodes :=
  h.same rfl rfl rfl rfl rfl

theorem streamNode {s t : State} (h : Keeps s t) (i : Nat) : Keeps s (t.streamNode i) := by
  unfold State.streamNode
  repeat' (first | assumption | apply Keeps.stream)

theorem nodeChanged {s t : State} (h : Keeps s t) (i : Nat) : Keeps s (t.nodeChanged i) := by
  unfold State.nodeChanged
  repeat' (first | assumption | apply Keeps.streamNode | apply Keeps.recordNode | apply Keeps.mirrorNodes | apply Keeps.delta)

theorem setNodeState {s t : State} (h : Keeps s t) (i : Nat) (st : NodeState) : Keeps s (t.setNodeState i st) := by
  unfold State.setNodeState
  repeat' (first | assumption | apply Keeps.nodeChanged | apply Keeps.updNode)

theorem drifted {s t : State} (h : Keeps s t) (i cause : Nat) (e : Option Int) (lee tag : Nat) :
    Keeps s (t.drifted i cause e lee tag) := by
  unfold State.drifted
  repeat' first
    | with_reducible assumption | with_reducible apply Keeps.nodeChanged | with_reducible apply Keeps.updNode
    | with_reducible apply Keeps.raiseOn

theorem lost {s t : State} (h : Keeps s t) (i misses : Nat) : Keeps s (t.lost i misses) := by
  unfold State.lost
  repeat' first
    | assumption | apply Keeps.setNodeState | apply Keeps.report | apply Keeps.raiseOn
    | refine Keeps.foldl ?_ (fun _ _ _ => ?_) _

theorem miss {s t : State} (h : Keeps s t) (i sf tag : Nat) : Keeps s (t.miss i sf tag) := by
  unfold State.miss
  repeat' first
    | with_reducible assumption | with_reducible apply Keeps.lost | with_reducible apply Keeps.drifted
    | with_reducible apply Keeps.updNode | split
    | with_reducible refine Keeps.parts ?_ (by with_reducible rfl) (by with_reducible rfl) (by with_reducible rfl)

theorem heard {s t : State} (h : Keeps s t) (i : Nat) : Keeps s (t.heard i) := by
  unfold State.heard
  repeat' first
    | with_reducible assumption | with_reducible apply Keeps.nodeChanged | with_reducible apply Keeps.updNode | split
    | with_reducible refine Keeps.parts ?_ (by with_reducible rfl) (by with_reducible rfl) (by with_reducible rfl)

theorem reread {s t : State} (h : Keeps s t) : Keeps s t.reread := by
  unfold State.reread
  repeat' first
    | with_reducible assumption | with_reducible apply Keeps.fresh | with_reducible apply Keeps.bump | split
    | with_reducible refine Keeps.parts ?_ (by with_reducible rfl) (by with_reducible rfl) (by with_reducible rfl)

theorem rereadSrc {s t : State} (h : Keeps s t) (a : Addr) : Keeps s (t.rereadSrc a) := by
  unfold State.rereadSrc
  repeat' (first | assumption | apply Keeps.reread | split)

theorem dramFault {s t : State} (h : Keeps s t) (channel addr : Nat) (table : Bool) :
    Keeps s (t.dramFault channel addr table) := by
  unfold State.dramFault
  repeat' (first | assumption | apply Keeps.raise | apply Keeps.emit | apply Keeps.bump)

theorem giveShort {s t : State} (h : Keeps s t) (i : Nat) : Keeps s (t.giveShort i) := by
  unfold State.giveShort
  repeat' first
    | with_reducible assumption | with_reducible apply Keeps.updNode | with_reducible apply Keeps.raiseOn | split

theorem seat {s t : State} (h : Keeps s t) (n : Node) : Keeps s (t.seat n).1 :=
  h.same rfl rfl rfl rfl rfl

theorem insertNode {s t : State} (h : Keeps s t) (n : Node) : Keeps s (t.insertNode n).1 := by
  unfold State.insertNode
  repeat' first
    | with_reducible assumption | with_reducible apply Keeps.seat | with_reducible apply Keeps.deltaMoves
    | with_reducible apply Keeps.bump | with_reducible apply Keeps.bumpBy | split
    | with_reducible refine Keeps.parts ?_ (by with_reducible rfl) (by with_reducible rfl) (by with_reducible rfl)

theorem removeNode {s t : State} (h : Keeps s t) (i : Nat) : Keeps s (t.removeNode i) := by
  unfold State.removeNode
  repeat' first
    | with_reducible assumption | with_reducible apply Keeps.nodeChanged | with_reducible apply Keeps.deltaMoves
    | with_reducible apply Keeps.updBn | with_reducible apply Keeps.bumpBy | split
    | with_reducible refine Keeps.parts ?_ (by with_reducible rfl) (by with_reducible rfl) (by with_reducible rfl)

theorem removalDone {s t : State} (h : Keeps s t) (i : Nat) : Keeps s (t.removalDone i) := by
  unfold State.removalDone
  repeat' (first | assumption | apply Keeps.procDone | split | refine Keeps.parts ?_ (by rfl) (by rfl) (by rfl))

theorem queueInsertion {s t : State} (h : Keeps s t) (q : Insertion) : Keeps s (t.queueInsertion q) :=
  h.same rfl rfl rfl rfl rfl

theorem route {s t : State} (h : Keeps s t) (n : Node) : Keeps s (t.route n).1 := by
  unfold State.route
  repeat' first
    | with_reducible assumption | with_reducible apply Keeps.updNode | with_reducible apply Keeps.raiseOn
    | with_reducible apply Keeps.bump | split | (simp +zetaDelta only; split)
    | with_reducible refine Keeps.parts ?_ (by with_reducible rfl) (by with_reducible rfl) (by with_reducible rfl)

theorem updPipe {s t : State} (h : Keeps s t) (b : Nat) (f : Pipeline → Pipeline) : Keeps s (t.updPipe b f) := by
  unfold State.updPipe
  repeat' (first | assumption | split | refine Keeps.parts ?_ (by rfl) (by rfl) (by rfl))

theorem learnRequest {s t : State} (h : Keeps s t) (b : Nat) (e : NbEntry) : Keeps s (t.learnRequest b e) := by
  unfold State.learnRequest
  repeat' first
    | with_reducible assumption | with_reducible apply Keeps.updPipe | with_reducible apply Keeps.raiseOn
    | with_reducible apply Keeps.bump | split
    | with_reducible refine Keeps.parts ?_ (by with_reducible rfl) (by with_reducible rfl) (by with_reducible rfl)

theorem fragment {s t : State} (h : Keeps s t) (b orig tag size off : Nat) (d : Octets) (port : Option Nat) (dscp : Nat) :
    Keeps s (t.fragment b orig tag size off d port dscp).1 := by
  unfold State.fragment
  repeat' first
    | with_reducible assumption | extract_lets +lift | with_reducible apply Keeps.updPipe | with_reducible apply Keeps.bump
    | split

theorem updCs {s t : State} (h : Keeps s t) (f : Consort → Consort) : Keeps s (t.updCs f) :=
  h.same rfl rfl rfl rfl rfl

theorem csGo {s t : State} (h : Keeps s t) (st : Nat) : Keeps s (t.csGo st) := by
  unfold State.csGo
  repeat' (first | with_reducible assumption | with_reducible apply Keeps.updCs | with_reducible apply Keeps.setN)

theorem updPan {s t : State} (h : Keeps s t) (p : Nat) (f : Pan → Pan) : Keeps s (t.updPan p f) :=
  h.same rfl rfl rfl rfl rfl

theorem assertStop {s t : State} (h : Keeps s t) : Keeps s t.assertStop :=
  h.same rfl rfl rfl rfl rfl

theorem dropHandover {s t : State} (h : Keeps s t) : Keeps s t.dropHandover := by
  unfold State.dropHandover
  repeat' first
    | with_reducible assumption | with_reducible apply Keeps.updCs | with_reducible apply Keeps.procDone | split
    | with_reducible refine Keeps.parts ?_ (by with_reducible rfl) (by with_reducible rfl) (by with_reducible rfl)

theorem bothEnd {s t : State} (h : Keeps s t) (was : Bool) : Keeps s (t.bothEnd was) := by
  unfold State.bothEnd
  repeat' first
    | with_reducible assumption | with_reducible apply Keeps.updCs | with_reducible apply Keeps.raiseOn
    | with_reducible apply Keeps.bumpBy | split

theorem dropPlans {s t : State} (h : Keeps s t) : Keeps s t.dropPlans :=
  h.same rfl rfl rfl rfl rfl

theorem toResync {s t : State} (h : Keeps s t) : Keeps s t.toResync := by
  unfold State.toResync
  repeat' (first | assumption | apply Keeps.dropPlans | apply Keeps.dropHandover | apply Keeps.csGo | apply Keeps.updCs)

theorem yieldTo {s t : State} (h : Keeps s t) (st cause : Nat) : Keeps s (t.yieldTo st cause) := by
  unfold State.yieldTo
  repeat' first
    | with_reducible assumption | with_reducible apply Keeps.toResync | with_reducible apply Keeps.bothEnd
    | with_reducible apply Keeps.dropHandover | with_reducible apply Keeps.assertStop | with_reducible apply Keeps.csGo
    | with_reducible apply Keeps.updCs | with_reducible apply Keeps.raiseOn | with_reducible apply Keeps.bump | split

theorem lostAttempts {s t : State} (h : Keeps s t) (fault : Tick) : Keeps s (t.lostAttempts fault).1 := by
  unfold State.lostAttempts
  repeat' first
    | assumption | apply Keeps.attemptEnds | refine Keeps.foldl ?_ (fun _ _ _ => ?_) _
    | refine Keeps.parts ?_ (by rfl) (by rfl) (by rfl)

theorem lackedLost {s t : State} (h : Keeps s t) : Keeps s t.lackedLost := by
  unfold State.lackedLost
  repeat' first
    | with_reducible assumption | with_reducible apply Keeps.raiseOn | with_reducible apply Keeps.fresh
    | with_reducible apply Keeps.setN

theorem takeOver {s t : State} (h : Keeps s t) (cause : Nat) (fault : Tick) : Keeps s (t.takeOver cause fault) := by
  unfold State.takeOver
  repeat' first
    | with_reducible assumption | with_reducible apply Keeps.lackedLost | with_reducible apply Keeps.lostAttempts
    | with_reducible apply Keeps.dropHandover | with_reducible apply Keeps.csGo | with_reducible apply Keeps.updCs
    | with_reducible apply Keeps.reserveSeq | with_reducible apply Keeps.raiseOn | with_reducible apply Keeps.bump
    | with_reducible apply Keeps.setN | with_reducible apply Keeps.set
    | with_reducible refine Keeps.foldl ?_ (fun _ _ _ => ?_) _ | split
    | with_reducible refine Keeps.parts ?_ (by with_reducible rfl) (by with_reducible rfl) (by with_reducible rfl)

theorem setBe {s t : State} (h : Keeps s t) (node be skip : Nat) : Keeps s (t.setBe node be skip) :=
  h.same rfl rfl rfl rfl rfl

theorem addDue {s t : State} (h : Keeps s t) (d : Due) : Keeps s (t.addDue d) :=
  h.same rfl rfl rfl rfl rfl

theorem sharedMiss {s t : State} (h : Keeps s t) (w : AckWait) : Keeps s (t.sharedMiss w) := by
  unfold State.sharedMiss
  repeat' first
    | with_reducible assumption | with_reducible apply Keeps.addDue | with_reducible apply Keeps.setBe
    | with_reducible apply Keeps.fresh | split
    | with_reducible refine Keeps.parts ?_ (by with_reducible rfl) (by with_reducible rfl) (by with_reducible rfl)

theorem deferDue {s t : State} (h : Keeps s t) (d : Due) (r : Nat) : Keeps s (t.deferDue d r) := by
  unfold State.deferDue
  repeat' first
    | with_reducible assumption | with_reducible apply Keeps.deferral | with_reducible apply Keeps.bump | split
    | with_reducible refine Keeps.parts ?_ (by with_reducible rfl) (by with_reducible rfl) (by with_reducible rfl)

theorem countBlanked {s t : State} (h : Keeps s t) (b : Nat) (gs : List Group) : Keeps s (t.countBlanked b gs) := by
  unfold State.countBlanked
  repeat' first
    | with_reducible assumption | with_reducible apply Keeps.bump | with_reducible refine Keeps.foldl ?_ (fun _ _ _ => ?_) _
    | split | with_reducible refine Keeps.parts ?_ (by with_reducible rfl) (by with_reducible rfl) (by with_reducible rfl)

theorem updSx {s t : State} (h : Keeps s t) (f : Sextant → Sextant) : Keeps s (t.updSx f) :=
  h.same rfl rfl rfl rfl rfl

theorem mirrorSx {s t : State} (h : Keeps s t) : Keeps s t.mirrorSx :=
  h.same rfl rfl rfl rfl rfl

theorem setRate {s t : State} (h : Keeps s t) (r : Int) : Keeps s (t.setRate r) := by
  unfold State.setRate
  repeat' (first | assumption | apply Keeps.mirrorSx | apply Keeps.updSx | apply Keeps.setI)

theorem moveSlots {s t : State} (h : Keeps s t) (d : Int) : Keeps s (t.moveSlots d) := by
  unfold State.moveSlots
  repeat' first
    | with_reducible assumption | with_reducible apply Keeps.setQ | with_reducible apply Keeps.procEst
    | with_reducible refine Keeps.foldl ?_ (fun _ _ _ => ?_) _ | split
    | with_reducible refine Keeps.parts ?_ (by with_reducible rfl) (by with_reducible rfl) (by with_reducible rfl)

theorem rebase {s t : State} (h : Keeps s t) (ns : Int) : Keeps s (t.rebase ns) := by
  unfold State.rebase
  repeat' first
    | with_reducible assumption | with_reducible apply Keeps.raiseOn
    | with_reducible refine Keeps.foldl ?_ (fun _ _ _ => ?_) _ | split

theorem stepTime {s t : State} (h : Keeps s t) (d : Int) (cause : Nat) : Keeps s (t.stepTime d cause) := by
  unfold State.stepTime
  repeat' first
    | with_reducible assumption | with_reducible apply Keeps.rebase | with_reducible apply Keeps.moveSlots
    | with_reducible apply Keeps.mirrorSx | with_reducible apply Keeps.updSx | with_reducible apply Keeps.setQ
    | with_reducible apply Keeps.raiseOn | with_reducible apply Keeps.bump | with_reducible apply Keeps.setI

theorem ppsHold {s t : State} (h : Keeps s t) : Keeps s t.ppsHold := by
  unfold State.ppsHold
  repeat' (first | with_reducible assumption | with_reducible apply Keeps.updSx | split)

theorem sxGo {s t : State} (h : Keeps s t) (want cause unc : Nat) : Keeps s (t.sxGo want cause unc) := by
  unfold State.sxGo
  repeat' first
    | with_reducible assumption | with_reducible refine Keeps.ite ?_ ?_ | with_reducible apply Keeps.ppsHold
    | with_reducible apply Keeps.setRate | with_reducible apply Keeps.updSx | with_reducible apply Keeps.raiseOn
    | with_reducible apply Keeps.setB | with_reducible apply Keeps.setN | with_reducible apply Keeps.set
    | with_reducible refine Keeps.foldl ?_ (fun _ _ _ => ?_) _

theorem sxLost {s t : State} (h : Keeps s t) (cause : Nat) : Keeps s (t.sxLost cause) := by
  unfold State.sxLost
  repeat' (first | assumption | apply Keeps.sxGo | split)

theorem sxQualified {s t : State} (h : Keeps s t) : Keeps s t.sxQualified := by
  unfold State.sxQualified
  repeat' (first | assumption | apply Keeps.sxGo | split)

theorem measure {s t : State} (h : Keeps s t) (o logInt : Int) : Keeps s (t.measure o logInt) := by
  unfold State.measure
  repeat' first
    | with_reducible assumption | with_reducible refine Keeps.ite ?_ ?_ | with_reducible apply Keeps.sxGo
    | with_reducible apply Keeps.stepTime | with_reducible apply Keeps.setRate | with_reducible apply Keeps.updSx

theorem updPtp {s t : State} (h : Keeps s t) (p : Nat) (f : PtpPort → PtpPort) : Keeps s (t.updPtp p f) :=
  h.same rfl rfl rfl rfl rfl

theorem mdiTx {s t : State} (h : Keeps s t) (p : Nat) : Keeps s (t.mdiTx p).2 :=
  h.same rfl rfl rfl rfl rfl

theorem pathDelay {s t : State} (h : Keeps s t) (p : Nat) (trip : Int) : Keeps s (t.pathDelay p trip) :=
  h.same rfl rfl rfl rfl rfl

theorem ptpPortLoss {s t : State} (h : Keeps s t) (p st : Nat) : Keeps s (t.ptpPortLoss p st) := by
  unfold State.ptpPortLoss
  repeat' first
    | with_reducible assumption | with_reducible refine Keeps.ite ?_ ?_ | with_reducible apply Keeps.sxLost
    | with_reducible apply Keeps.updSx | with_reducible apply Keeps.setN | with_reducible apply Keeps.set

theorem ptpLink {s t : State} (h : Keeps s t) (p : Nat) (up : Bool) : Keeps s (t.ptpLink p up) := by
  unfold State.ptpLink
  repeat' (first | assumption | apply Keeps.ptpPortLoss | apply Keeps.setN | split)

theorem pdelayAnswer {s t : State} (h : Keeps s t) (p : Nat) (t2 : Tick) : Keeps s (t.pdelayAnswer p t2) := by
  unfold State.pdelayAnswer
  repeat' (first | assumption | apply Keeps.mdiTx | apply Keeps.emit | split)

theorem ptpRx {s t : State} (h : Keeps s t) (p : Nat) (m : PtpMsg) (x2 : Tick) : Keeps s (t.ptpRx p m x2) := by
  unfold State.ptpRx
  repeat' first
    | with_reducible assumption | with_reducible apply Keeps.pdelayAnswer | with_reducible apply Keeps.pathDelay
    | with_reducible apply Keeps.updPtp | with_reducible apply Keeps.bump | with_reducible apply Keeps.setN | split
    | with_reducible refine Keeps.parts ?_ (by with_reducible rfl) (by with_reducible rfl) (by with_reducible rfl)

theorem setCal {s t : State} (h : Keeps s t) (l : List Nat) : Keeps s (t.setCal l) := by
  unfold State.setCal
  repeat' (first | assumption | apply Keeps.setN | refine Keeps.foldl ?_ (fun _ _ _ => ?_) _)

theorem calRelease {s t : State} (h : Keeps s t) : Keeps s t.calRelease :=
  h.same rfl rfl rfl rfl rfl

theorem calChanged {s t : State} (h : Keeps s t) (cause : Nat) (old : List Nat) : Keeps s (t.calChanged cause old) := by
  unfold State.calChanged
  repeat' (first | assumption | apply Keeps.raiseOn)

theorem calApply {s t : State} (h : Keeps s t) (l : List Nat) (cause : Nat) : Keeps s (t.calApply l cause) := by
  unfold State.calApply
  repeat' first
    | with_reducible assumption | with_reducible apply Keeps.calChanged | with_reducible apply Keeps.calRelease
    | with_reducible apply Keeps.setCal | with_reducible apply Keeps.updSx | with_reducible apply Keeps.setB
    | with_reducible apply Keeps.setN

theorem calSecond {s t : State} (h : Keeps s t) (sub : Nat) : Keeps s (t.calSecond sub) := by
  unfold State.calSecond
  repeat' first
    | with_reducible assumption | with_reducible refine Keeps.ite ?_ ?_ | with_reducible apply Keeps.setCal
    | with_reducible apply Keeps.wakeSource | with_reducible apply Keeps.raiseOn | with_reducible apply Keeps.setB
    | with_reducible apply Keeps.setN

theorem setOsf {s t : State} (h : Keeps s t) (cause : Nat) : Keeps s (t.setOsf cause) := by
  unfold State.setOsf
  repeat' (first | assumption | apply Keeps.updSx | apply Keeps.raiseOn | apply Keeps.setB)

theorem oscoreNote {s t : State} (h : Keeps s t) (ctx seq : Nat) (anew : Bool) : Keeps s (t.oscoreNote ctx seq anew) :=
  h.same rfl rfl rfl rfl rfl

theorem journalAsk {s t : State} (h : Keeps s t) (ask : Ask) (sess : Nat) (rc : Rc) : Keeps s (t.journalAsk ask sess rc) := by
  unfold State.journalAsk
  repeat' (first | assumption | apply Keeps.journal | split)

theorem refuse {s t : State} (h : Keeps s t) (ask : Ask) (sess : Nat) (r : Req) (rc : Rc) (micros : Option Nat) :
    Keeps s (t.refuse ask sess r rc micros) := by
  unfold State.refuse
  repeat' (first | with_reducible assumption | with_reducible apply Keeps.journalAsk | with_reducible apply Keeps.replyRc)

theorem refuseTo {s t : State} (h : Keeps s t) (ask : Ask) (ctx sess : Nat) (r : Req) (rc : Rc) (micros : Option Nat) :
    Keeps s (t.refuseTo ask ctx sess r rc micros) := by
  unfold State.refuseTo
  repeat' first
    | with_reducible assumption | with_reducible apply Keeps.journalAsk | with_reducible apply Keeps.protectMsg
    | with_reducible apply Keeps.emit | split
    | with_reducible refine Keeps.parts ?_ (by with_reducible rfl) (by with_reducible rfl) (by with_reducible rfl)

theorem turnOff {s t : State} (h : Keeps s t) (ask : Ask) (r : Req) (count : Bool) : Keeps s (t.turnOff ask r count) := by
  unfold State.turnOff
  repeat' first
    | with_reducible assumption | with_reducible apply Keeps.emit | with_reducible apply Keeps.bump | split
    | with_reducible refine Keeps.parts ?_ (by with_reducible rfl) (by with_reducible rfl) (by with_reducible rfl)

theorem noteHeard {s t : State} (h : Keeps s t) (m : CoapMsg) : Keeps s (t.noteHeard m) :=
  h.same rfl rfl rfl rfl rfl

theorem absorb {s t : State} (h : Keeps s t) (m : CoapMsg) : Keeps s (t.absorb m) := by
  unfold State.absorb
  repeat' (first | assumption | apply Keeps.emit | split)

theorem openSession {s t : State} (h : Keeps s t) (n ctx : Nat) (sender : Octets) : Keeps s (t.openSession n ctx sender) := by
  unfold State.openSession
  repeat' (first | assumption | apply Keeps.journal | apply Keeps.raise | refine Keeps.parts ?_ (by rfl) (by rfl) (by rfl))

theorem replyAsked {s t : State} (h : Keeps s t) (a : Asked) (sess : Nat) (x2 : Tok) (p : Payload) :
    Keeps s (t.replyAsked a sess x2 p) := by
  unfold State.replyAsked
  repeat' (first | assumption | apply Keeps.reply | split | refine Keeps.parts ?_ (by rfl) (by rfl) (by rfl))

theorem replyRead {s t : State} (h : Keeps s t) (r : Req) (sess k : Nat) (p : Payload) :
    Keeps s (t.replyRead r sess k p) := by
  unfold State.replyRead
  repeat' (first | assumption | apply Keeps.replyAsked)

/-- A request that goes on, or is over, at the gate. -/
def AtGate (s : State) : Gate' → Prop
  | .stop u => Keeps s u
  | .go _ u => Keeps s u

/-- A block that is the whole value, or is not the last. -/
def AtBlock (s : State) : Block → Prop
  | .stop u => Keeps s u
  | .whole _ u => Keeps s u

theorem enter {s t : State} (h : Keeps s t) (ask : Ask) (sess : Nat) (r : Req) : AtGate s (t.enter ask sess r) := by
  unfold State.enter
  split
  · exact h.refuse _ _ _ _ _
  · have hu := updSession (t := { t.coreWake with pwr := { t.coreWake.pwr with lastRequest := t.coreWake.now } })
      (h.coreWake.same rfl rfl rfl rfl rfl) sess (fun x => { x with lastReq := t.coreWake.now })
    dsimp only
    split
    · exact hu.reply _ _ _ _
    · exact hu

theorem admitTo {s t : State} (h : Keeps s t) (ask : Ask) (ctx : Nat) (sender : Octets) (r : Req) (free : Bool) :
    AtGate s (t.admitTo ask ctx sender r free) := by
  unfold State.admitTo
  dsimp only
  split
  · exact h.refuseTo _ _ _ _ _ _
  · split
    · exact h.refuseTo _ _ _ _ _ _
    · split
      · exact h.enter _ _ _
      · split
        · exact (h.refuseTo _ _ _ _ _ _).raise _ _ _
        · exact (h.openSession _ _ _).enter _ _ _

theorem gate {s t : State} (h : Keeps s t) (r : Req) (ask : Ask) (free : Bool) : AtGate s (t.gate r ask free) := by
  unfold State.gate
  split
  · exact h
  · split
    · split
      · exact h.refuse _ _ _ _ _
      · split
        · exact h.refuse _ _ _ _ _
        · exact h.enter _ _ _
    · rename_i m ctx sender authentic old echo seq _
      split
      · exact h
      · split
        · exact h.absorb _
        · have hm := h.noteHeard m
          generalize t.noteHeard m = v at hm ⊢
          dsimp only
          split
          · exact hm.turnOff _ _ _
          · have hu : Keeps s (if v.oscoreFresh ctx seq ∨ echo then v.checkKey kOscore ctx 4 old authentic else (v, false)).1 :=
              iteFst (hm.checkKey _ _ _ _ _) hm
            generalize (if v.oscoreFresh ctx seq ∨ echo then v.checkKey kOscore ctx 4 old authentic else (v, false)) = u at hu ⊢
            split
            · exact hu.turnOff _ _ _
            · split
              · exact hu.turnOff _ _ _
              · exact (hu.oscoreNote _ _ _).admitTo _ _ _ _ _

theorem block {s t : State} (h : Keeps s t) (r : Req) (sess k : Nat) (w : Wire) : AtBlock s (t.block r sess k w) := by
  unfold State.block
  split
  · exact h
  · dsimp only
    split
    · exact reply (by exact h.same rfl rfl rfl rfl rfl) _ _ _ _
    · split
      · exact reply (by exact h.same rfl rfl rfl rfl rfl) _ _ _ _
      · exact h.same rfl rfl rfl rfl rfl

/-- A write keeps what its effect keeps. -/
theorem writeThen {s t : State} (h : Keeps s t) (r : Req) (ix sub : Nat) (w : Wire) (late : State → Nat → Val → Option Rc)
    {eff post : State → Nat → Val → State} (he : ∀ u n v, Keeps s u → Keeps s (eff u n v))
    (hp : ∀ u n v, Keeps s u → Keeps s (post u n v)) : Keeps s (t.writeThen r ix sub w late eff post) := by
  unfold State.writeThen
  have hg := h.gate r ({ kind := 1, ix := ix, sub := sub, new := w.cbor }) false
  dsimp only
  generalize t.gate r ({ kind := 1, ix := ix, sub := sub, new := w.cbor }) false = g at hg ⊢
  cases g with
  | stop u => exact hg
  | go n u =>
    have hu : Keeps s u := hg
    have hb := hu.block r n (Obj.key ix sub) w
    dsimp only
    generalize u.block r n (Obj.key ix sub) w = b at hb ⊢
    cases b with
    | stop x => exact hb
    | whole w' x =>
      have hx : Keeps s x := hb
      dsimp only
      split
      · exact hx.refuse _ _ _ _ _
      · exact hp _ _ _ (((he _ _ _ (hx.lbDrain.journal _ _ _ _ _ _ _)).streamWrite _ _ _ _).reply _ _ _ _)

theorem write {s t : State} (h : Keeps s t) (r : Req) (ix sub : Nat) (w : Wire) (late : State → Nat → Val → Option Rc)
    {eff : State → Nat → Val → State} (he : ∀ u n v, Keeps s u → Keeps s (eff u n v)) :
    Keeps s (t.write r ix sub w late eff) := writeThen h r ix sub w late he (fun _ _ _ h => h)

/-- A procedure start keeps what its effect keeps. -/
theorem start {s t : State} (h : Keeps s t) (r : Req) (ix : Nat) (w : Wire) (bad : State → Nat → Val → Option Rc)
    (est : State → Val → Tick) {eff : State → Nat → Val → State} (he : ∀ u n v, Keeps s u → Keeps s (eff u n v)) :
    Keeps s (t.start r ix w bad est eff) := by
  unfold State.start
  have hg := h.gate r ({ kind := 2, ix := ix, sub := 3, new := w.cbor }) false
  dsimp only
  generalize t.gate r ({ kind := 2, ix := ix, sub := 3, new := w.cbor }) false = g at hg ⊢
  cases g with
  | stop u => exact hg
  | go n u =>
    have hu : Keeps s u := hg
    have hb := hu.block r n (Obj.key ix 3) w
    dsimp only
    generalize u.block r n (Obj.key ix 3) w = b at hb ⊢
    cases b with
    | stop x => exact hb
    | whole w' x =>
      have hx : Keeps s x := hb
      dsimp only
      split
      · exact hx.refuse _ _ _ _ _
      · exact (he _ _ _ (((hx.lbDrain.journal _ _ _ _ _ _ _).procBegin _ _).reply _ _ _ _)).streamStart _ _

/-- A read keeps what its effect keeps. -/
theorem read {s t : State} (h : Keeps s t) (r : Req) (ix sub : Nat) {eff : State → Nat → State}
    (he : ∀ u n, Keeps s u → Keeps s (eff u n)) : Keeps s (t.read r ix sub eff) := by
  unfold State.read
  have hg := h.gate r (Ask.get ix sub) true
  generalize t.gate r (Ask.get ix sub) true = g at hg ⊢
  cases g with
  | stop u => exact hg
  | go n u =>
    have hu : Keeps s u := hg
    dsimp only
    split
    · exact replyRead hu _ _ _ _
    · exact he _ _ hu

theorem readChecked {s t : State} (h : Keeps s t) (r : Req) (ix sub : Nat) {eff : State → Nat → State}
    (he : ∀ u n, Keeps s u → Keeps s (eff u n)) : Keeps s (t.readChecked r ix sub eff) := by
  refine h.read r ix sub (fun u n hu => ?_)
  split
  · exact hu.replyRc _ _ _ _
  · exact he _ _ hu

theorem touch {s t : State} (h : Keeps s t) (n : Nat) : Keeps s (t.touch n) :=
  h.same rfl rfl rfl rfl rfl

theorem dropStalled {s t : State} (h : Keeps s t) (sess : Nat) : Keeps s (t.dropStalled sess) :=
  (foldl h (fun _ _ h => h.replyRc _ _ _ _) _).fifos (fun f => { f with stalled := f.stalled.filter (fun x => x.sess ≠ sess) })
    (fun _ hf => hf) rfl rfl rfl rfl rfl

theorem dropObservers {s t : State} (h : Keeps s t) (sess : Nat) : Keeps s (t.dropObservers sess) :=
  h.fifos (fun f => if f.observer.elim false (fun o => o.sess == sess) then { f with observer := none } else f)
    (fun f hf => by split <;> exact hf) rfl rfl rfl rfl rfl

theorem closeSession {s t : State} (h : Keeps s t) (n cause closing : Nat) : Keeps s (t.closeSession n cause closing) := by
  unfold State.closeSession
  repeat' first
    | with_reducible assumption | with_reducible apply Keeps.dropObservers | with_reducible apply Keeps.dropStalled
    | with_reducible apply Keeps.journal | with_reducible apply Keeps.raise
    | with_reducible refine Keeps.parts ?_ (by with_reducible rfl) (by with_reducible rfl) (by with_reducible rfl)

theorem holdGain {s t : State} (h : Keeps s t) (p : Nat) : Keeps s (t.holdGain p) := by
  unfold State.holdGain
  repeat' (first | with_reducible assumption | with_reducible apply Keeps.stepGain | split)

theorem applyWrite {s t : State} (h : Keeps s t) (sess k : Nat) (v : Val) : Keeps s (t.applyWrite sess k v) := by
  unfold State.applyWrite
  repeat' first
    | with_reducible assumption | with_reducible refine Keeps.ite ?_ ?_ | with_reducible apply Keeps.holdGain
    | with_reducible apply Keeps.ppsHold | with_reducible apply Keeps.setRate | with_reducible apply Keeps.updSx
    | with_reducible apply Keeps.chartGeometry | with_reducible apply Keeps.radioPower | with_reducible apply Keeps.setP
    | with_reducible apply Keeps.updNode | with_reducible apply Keeps.updSession
    | with_reducible refine Keeps.parts ?_ (by with_reducible rfl) (by with_reducible rfl) (by with_reducible rfl)

theorem readEffect {s t : State} (h : Keeps s t) (sess k : Nat) : Keeps s (t.readEffect sess k) := by
  unfold State.readEffect
  cases t.selected sess with
  | none => exact ite h h
  | some n => exact ite (h.route n) h

theorem setQuay {s t : State} (h : Keeps s t) (g : Quay → Quay) : Keeps s (t.setQuay g) :=
  h.same rfl rfl rfl rfl rfl

theorem clockOut {s t : State} (h : Keeps s t) (n : Nat) : Keeps s (t.clockOut n) :=
  h.same rfl rfl rfl rfl rfl

theorem quayIn {s t : State} (h : Keeps s t) (raw : Octets) : Keeps s (t.quayIn raw).2 := by
  unfold State.quayIn
  repeat' first
    | with_reducible assumption | with_reducible apply Keeps.clockOut | with_reducible apply Keeps.setQuay | split
    | (simp +zetaDelta only; split)

theorem cancelObserve {s t : State} (h : Keeps s t) (r : Req) (sess n : Nat) : Keeps s (t.cancelObserve r sess n) :=
  ite (h.updFifo n (fun _ hf => hf)) h

theorem capServe {s t : State} (h : Keeps s t) (n : Nat) : Keeps s (t.capServe n) := by
  unfold State.capServe
  repeat' first
    | assumption | apply Keeps.touch | apply Keeps.replyAsked | apply Keeps.updCap | split
    | refine Keeps.parts ?_ (by rfl) (by rfl) (by rfl)

theorem femTransmit {s t : State} (h : Keeps s t) (p mode pabias : Nat) : Keeps s (t.femTransmit p mode pabias) :=
  h.same rfl rfl rfl rfl rfl

theorem femReceive {s t : State} (h : Keeps s t) (p : Nat) : Keeps s (t.femReceive p) :=
  h.same rfl rfl rfl rfl rfl

theorem femLead {s t : State} (h : Keeps s t) (p : Nat) (t0 : Tick) (word : Nat) : Keeps s (t.femLead p t0 word) :=
  h.same rfl rfl rfl rfl rfl

theorem femTail {s t : State} (h : Keeps s t) (p : Nat) (te : Tick) : Keeps s (t.femTail p te) :=
  h.same rfl rfl rfl rfl rfl

theorem unblank {s t : State} (h : Keeps s t) (ps : List Nat) : Keeps s (t.unblank ps) := by
  unfold State.unblank
  repeat' first
    | with_reducible assumption | with_reducible apply Keeps.holdGain | with_reducible apply Keeps.updPort
    | with_reducible refine Keeps.foldl ?_ (fun _ _ _ => ?_) _ | split

theorem refuseFrame {s t : State} (h : Keeps s t) (f : AirFrame) (reason : Nat) : Keeps s (t.refuseFrame f reason) := by
  unfold State.refuseFrame
  repeat' first
    | with_reducible assumption | with_reducible apply Keeps.addDue | with_reducible apply Keeps.deferral
    | with_reducible apply Keeps.bump | split

theorem awaitAcks {s t : State} (h : Keeps s t) (g : Group) (fs : List AirFrame) : Keeps s (t.awaitAcks g fs) :=
  h.same rfl rfl rfl rfl rfl

theorem sendFrames {s t : State} (h : Keeps s t) (g : Group) (psdus : List Octets) : Keeps s (t.sendFrames g psdus) := by
  unfold State.sendFrames
  repeat' first
    | with_reducible assumption | with_reducible apply Keeps.awaitAcks | with_reducible apply Keeps.updPan
    | with_reducible apply Keeps.capture | with_reducible apply Keeps.emit | with_reducible apply Keeps.bump
    | with_reducible refine Keeps.foldl ?_ (fun _ _ _ => ?_) _ | split

theorem carriersOn {s t : State} (h : Keeps s t) (g : Group) (fs : List AirFrame) (psdus : List Octets) :
    Keeps s (t.carriersOn g fs psdus) := by
  unfold State.carriersOn
  repeat' first
    | assumption | apply Keeps.sendFrames | apply Keeps.airItem | apply Keeps.blankRecs
    | refine Keeps.foldl ?_ (fun _ _ _ => ?_) _

theorem startGroup {s t : State} (h : Keeps s t) (g : Group) (psdus : List Octets) : Keeps s (t.startGroup g psdus) := by
  unfold State.startGroup
  repeat' first
    | with_reducible assumption | with_reducible refine Keeps.ite ?_ ?_ | with_reducible apply Keeps.carriersOn
    | with_reducible apply Keeps.awaitAcks | with_reducible apply Keeps.refuseFrame | with_reducible apply Keeps.femLead
    | with_reducible apply Keeps.updChain | with_reducible apply Keeps.updPort | with_reducible apply Keeps.emit
    | with_reducible apply Keeps.bump | with_reducible refine Keeps.foldl ?_ (fun _ _ _ => ?_) _

theorem joinGroup {s t : State} (h : Keeps s t) (g : Group) (x : AirFrame) (psdus : List Octets) :
    Keeps s (t.joinGroup g x psdus) := by
  unfold State.joinGroup
  repeat' first
    | with_reducible assumption | with_reducible refine Keeps.ite ?_ ?_ | with_reducible apply Keeps.carriersOn
    | with_reducible apply Keeps.awaitAcks | with_reducible apply Keeps.refuseFrame | with_reducible apply Keeps.updChain
    | with_reducible apply Keeps.emit

theorem delayGroup {s t : State} (h : Keeps s t) (g : Group) (ready : Tick) : Keeps s (t.delayGroup g ready) := by
  unfold State.delayGroup
  repeat' first
    | with_reducible assumption | with_reducible refine Keeps.ite ?_ ?_ | with_reducible apply Keeps.refuseFrame
    | with_reducible apply Keeps.countBlanked | with_reducible refine Keeps.foldl ?_ (fun _ _ _ => ?_) _
    | with_reducible refine Keeps.parts ?_ (by with_reducible rfl) (by with_reducible rfl) (by with_reducible rfl)

theorem dropPlan {s t : State} (h : Keeps s t) (g : Group) : Keeps s (t.dropPlan g) :=
  h.same rfl rfl rfl rfl rfl

theorem groupOff {s t : State} (h : Keeps s t) (g : Group) (te : Tick) : Keeps s (t.groupOff g te) := by
  unfold State.groupOff
  repeat' first
    | with_reducible assumption | with_reducible apply Keeps.unblank | with_reducible apply Keeps.femTail
    | with_reducible apply Keeps.radioPower | with_reducible apply Keeps.updChain | split
    | with_reducible refine Keeps.parts ?_ (by with_reducible rfl) (by with_reducible rfl) (by with_reducible rfl)

theorem chargeGroup {s t : State} (h : Keeps s t) (g : Group) (cut : Option Nat) : Keeps s (t.chargeGroup g cut) := by
  unfold State.chargeGroup
  repeat' first
    | assumption | apply Keeps.dutyDrop | apply Keeps.dutyCharge | refine Keeps.foldl ?_ (fun _ _ _ => ?_) _ | split

theorem queueRetune {s t : State} (h : Keeps s t) (p cause : Nat) : Keeps s (t.queueRetune p cause) := by
  unfold State.queueRetune
  repeat' (first | assumption | apply Keeps.updPort | split)

theorem judgeMatch {s t : State} (h : Keeps s t) (g : Group) (us rl : Nat) : Keeps s (t.judgeMatch g us rl) := by
  unfold State.judgeMatch
  repeat' first
    | with_reducible assumption | with_reducible apply Keeps.queueRetune | with_reducible apply Keeps.raiseOn
    | with_reducible apply Keeps.setN | split
    | with_reducible refine Keeps.parts ?_ (by with_reducible rfl) (by with_reducible rfl) (by with_reducible rfl)

theorem judgeIsolation {s t : State} (h : Keeps s t) (g : Group) (iso : Nat) : Keeps s (t.judgeIsolation g iso) := by
  unfold State.judgeIsolation
  repeat' first
    | with_reducible assumption | with_reducible refine Keeps.ite ?_ ?_ | with_reducible apply Keeps.updPort
    | with_reducible apply Keeps.raiseOn | with_reducible apply Keeps.setN

theorem deliverUnacked {s t : State} (h : Keeps s t) (g : Group) (fs : List AirFrame) : Keeps s (t.deliverUnacked g fs) := by
  unfold State.deliverUnacked
  repeat' first
    | assumption | apply Keeps.attemptEnds | apply Keeps.report | refine Keeps.foldl ?_ (fun _ _ _ => ?_) _ | split

theorem cutGroup {s t : State} (h : Keeps s t) (g : Group) : Keeps s (t.cutGroup g) := by
  unfold State.cutGroup
  repeat' first
    | with_reducible assumption | with_reducible apply Keeps.deliverUnacked | with_reducible apply Keeps.chargeGroup
    | with_reducible apply Keeps.groupOff | with_reducible apply Keeps.sharedMiss | with_reducible apply Keeps.miss
    | with_reducible apply Keeps.attemptEnds | with_reducible apply Keeps.cutItems
    | with_reducible refine Keeps.foldl ?_ (fun _ _ _ => ?_) _ | split
    | with_reducible refine Keeps.parts ?_ (by with_reducible rfl) (by with_reducible rfl) (by with_reducible rfl)

theorem beginRetune {s t : State} (h : Keeps s t) (p winUs : Nat) (run : RetuneRun) :
    Keeps s (t.beginRetune p winUs run) := by
  unfold State.beginRetune
  repeat' first
    | with_reducible assumption | with_reducible apply Keeps.femLead | with_reducible apply Keeps.blankRecs
    | with_reducible apply Keeps.updChain | with_reducible apply Keeps.updPort | split

theorem retuneOff {s t : State} (h : Keeps s t) (p : Nat) (run : RetuneRun) (n : Nat) : Keeps s (t.retuneOff p run n) := by
  unfold State.retuneOff
  repeat' first
    | assumption | apply Keeps.unblank | apply Keeps.femTail | apply Keeps.dutyCharge | apply Keeps.updPort | split

theorem retuneResult {s t : State} (h : Keeps s t) (p c rl : Nat) (param : Octets) :
    Keeps s (t.retuneResult p c rl param) := by
  unfold State.retuneResult
  repeat' first
    | with_reducible assumption | with_reducible refine Keeps.ite ?_ ?_ | with_reducible refine Keeps.iteFst ?_ ?_
    | with_reducible apply Keeps.updPort | with_reducible apply Keeps.raiseOn | with_reducible apply Keeps.setN | dsimp only

theorem commandRetune {s t : State} (h : Keeps s t) (o : Octets) : Keeps s (t.commandRetune o) := by
  unfold State.commandRetune
  repeat' first
    | with_reducible assumption | with_reducible apply Keeps.updPort | with_reducible apply Keeps.procDone | split
    | with_reducible refine Keeps.parts ?_ (by with_reducible rfl) (by with_reducible rfl) (by with_reducible rfl)

theorem tookFree {s t : State} (h : Keeps s t) : Keeps s t.tookFree :=
  h.same rfl rfl rfl rfl rfl

theorem synth {s t : State} (h : Keeps s t) (c st : Nat) : Keeps s (t.synth c st) := by
  unfold State.synth
  repeat' (first | assumption | apply Keeps.updChain | apply Keeps.setN)

theorem beginCal {s t : State} (h : Keeps s t) (c cause : Nat) (until' : Option Count) :
    Keeps s (t.beginCal c cause until') := by
  unfold State.beginCal
  repeat' first
    | with_reducible assumption | with_reducible refine Keeps.ite ?_ ?_ | with_reducible apply Keeps.synth
    | with_reducible apply Keeps.updChain | with_reducible apply Keeps.procEst | with_reducible apply Keeps.setCond
    | with_reducible apply Keeps.setB
    | with_reducible refine Keeps.parts ?_ (by with_reducible rfl) (by with_reducible rfl) (by with_reducible rfl)

theorem synthRelock {s t : State} (h : Keeps s t) : Keeps s t.synthRelock := by
  unfold State.synthRelock
  repeat' first
    | with_reducible assumption | with_reducible apply Keeps.synth | with_reducible refine Keeps.foldl ?_ (fun _ _ _ => ?_) _
    | split

theorem synthRest {s t : State} (h : Keeps s t) : Keeps s t.synthRest := by
  unfold State.synthRest
  repeat' first
    | with_reducible assumption | with_reducible apply Keeps.synth | with_reducible refine Keeps.foldl ?_ (fun _ _ _ => ?_) _
    | split

theorem starve {s t : State} (h : Keeps s t) (c : Cand) : Keeps s (t.starve c) := by
  unfold State.starve
  repeat' (first | assumption | apply Keeps.bump | split | refine Keeps.parts ?_ (by rfl) (by rfl) (by rfl))

theorem claim {s t : State} (h : Keeps s t) (c : Cand) (d : Nat) (again : Bool) : Keeps s (t.claim c d again) :=
  h.same rfl rfl rfl rfl rfl

theorem poolClaim {s t : State} (h : Keeps s t) (c : Cand) (again : Bool) : Keeps s (t.poolClaim c again).1 := by
  unfold State.poolClaim
  repeat' first
    | with_reducible assumption | with_reducible apply Keeps.claim | with_reducible apply Keeps.starve
    | with_reducible apply Keeps.releaseRecs | with_reducible apply Keeps.bump | split
    | with_reducible refine Keeps.parts ?_ (by with_reducible rfl) (by with_reducible rfl) (by with_reducible rfl)

theorem candidate {s t : State} (h : Keeps s t) (c : Cand) : Keeps s (t.candidate c) := by
  unfold State.candidate
  repeat' first
    | with_reducible assumption | with_reducible apply Keeps.poolClaim | with_reducible apply Keeps.claim
    | with_reducible apply Keeps.releaseRecs | with_reducible apply Keeps.bump | split
    | with_reducible refine Keeps.parts ?_ (by with_reducible rfl) (by with_reducible rfl) (by with_reducible rfl)

theorem loseFire {s t : State} (h : Keeps s t) (x : Sense) : Keeps s (t.loseFire x) := by
  unfold State.loseFire
  repeat' first
    | with_reducible assumption | with_reducible apply Keeps.updPort | with_reducible apply Keeps.bump | split
    | with_reducible refine Keeps.parts ?_ (by with_reducible rfl) (by with_reducible rfl) (by with_reducible rfl)

theorem updGate {s t : State} (h : Keeps s t) (p : Nat) (g : Gate → Gate) : Keeps s (t.updGate p g) :=
  h.same rfl rfl rfl rfl rfl

theorem markEnergy {s t : State} (h : Keeps s t) (x : Sense) : Keeps s (t.markEnergy x) := by
  unfold State.markEnergy
  repeat' first
    | with_reducible assumption | with_reducible apply Keeps.updGate | split
    | with_reducible refine Keeps.parts ?_ (by with_reducible rfl) (by with_reducible rfl) (by with_reducible rfl)

theorem falsePreamble {s t : State} (h : Keeps s t) (r : Recep) : Keeps s (t.falsePreamble r) := by
  unfold State.falsePreamble
  repeat' (first | assumption | apply Keeps.releaseRecs | apply Keeps.bump | refine Keeps.parts ?_ (by rfl) (by rfl) (by rfl))

theorem toHelm {s t : State} (h : Keeps s t) (r : Report) : Keeps s (t.toHelm r) :=
  h.same rfl rfl rfl rfl rfl

theorem dup {s t : State} (h : Keeps s t) (r : Report) : Keeps s (t.dup r) := by
  unfold State.dup
  repeat' (first | with_reducible assumption | with_reducible apply Keeps.capture | with_reducible apply Keeps.bump)

theorem settle {s t : State} (h : Keeps s t) (r : Recep) (rep : Report) : Keeps s (t.settle r rep) := by
  unfold State.settle
  repeat' first
    | with_reducible assumption | with_reducible apply Keeps.dup | with_reducible apply Keeps.toHelm
    | with_reducible refine Keeps.foldl ?_ (fun _ _ _ => ?_) _ | split
    | with_reducible refine Keeps.parts ?_ (by with_reducible rfl) (by with_reducible rfl) (by with_reducible rfl)

theorem judgeWindow {s t : State} (h : Keeps s t) (p : Nat) (more : Bool) : Keeps s (t.judgeWindow p more) := by
  unfold State.judgeWindow
  repeat' first
    | with_reducible assumption | with_reducible apply Keeps.bump | split
    | with_reducible refine Keeps.parts ?_ (by with_reducible rfl) (by with_reducible rfl) (by with_reducible rfl)

theorem forceSet {s t : State} (h : Keeps s t) (l : List (Nat × Val)) : Keeps s (t.forceSet l) := by
  unfold State.forceSet
  repeat' first
    | with_reducible assumption | with_reducible apply Keeps.setN | with_reducible apply Keeps.set
    | with_reducible refine Keeps.foldl ?_ (fun _ _ _ => ?_) _

theorem windowApplied {s t : State} (h : Keeps s t) (changed : List Nat) (released : Nat) (rc : Rc) (handle : Nat) :
    Keeps s (t.windowApplied changed released rc handle) := by
  unfold State.windowApplied
  repeat' (first | assumption | apply Keeps.raiseOn)

theorem windowStart {s t : State} (h : Keeps s t) (x0 : Tick) : Keeps s (t.windowStart x0) := by
  unfold State.windowStart
  repeat' first
    | with_reducible assumption | with_reducible apply Keeps.windowApplied | with_reducible apply Keeps.procDone | split
    | with_reducible refine Keeps.parts ?_ (by with_reducible rfl) (by with_reducible rfl) (by with_reducible rfl)

theorem rearmEnd {s t : State} (h : Keeps s t) (a : WinApply) (changed : List Nat) (n : Nat) :
    Keeps s (t.rearmEnd a changed n) := by
  unfold State.rearmEnd
  repeat' (first | assumption | apply Keeps.windowApplied | refine Keeps.parts ?_ (by rfl) (by rfl) (by rfl))

theorem bindShared {s t : State} (h : Keeps s t) (pan asn : Nat) : Keeps s (t.bindShared pan asn) := by
  unfold State.bindShared
  repeat' first
    | with_reducible assumption | with_reducible apply Keeps.setBe | with_reducible refine Keeps.foldl ?_ (fun _ _ _ => ?_) _
    | split | with_reducible refine Keeps.parts ?_ (by with_reducible rfl) (by with_reducible rfl) (by with_reducible rfl)

theorem advertise {s t : State} (h : Keeps s t) (pan asn psdu : Nat) (e : Nat × Cell) :
    Keeps s (t.advertise pan asn psdu e) := by
  unfold State.advertise
  repeat' first
    | with_reducible assumption | with_reducible apply Keeps.addDue | split
    | with_reducible refine Keeps.parts ?_ (by with_reducible rfl) (by with_reducible rfl) (by with_reducible rfl)

theorem resyncCell {s t : State} (h : Keeps s t) (asn : Nat) (e : Nat × Cell) : Keeps s (t.resyncCell asn e) := by
  unfold State.resyncCell
  repeat' (first | assumption | apply Keeps.miss | apply Keeps.updNode | refine Keeps.foldl ?_ (fun _ _ _ => ?_) _ | split)

theorem assertSlot {s t : State} (h : Keeps s t) (pan asn psdu : Nat) : Keeps s (t.assertSlot pan asn psdu) := by
  unfold State.assertSlot
  dsimp only
  cases t.firstSf pan with
  | none => exact ite h h
  | some f => exact ite h (h.addDue _)

theorem assertStart {s t : State} (h : Keeps s t) : Keeps s t.assertStart := by
  unfold State.assertStart
  repeat' first
    | with_reducible assumption | with_reducible apply Keeps.assertSlot | with_reducible apply Keeps.updPan
    | with_reducible refine Keeps.foldl ?_ (fun _ _ _ => ?_) _ | split
    | with_reducible refine Keeps.parts ?_ (by with_reducible rfl) (by with_reducible rfl) (by with_reducible rfl)

theorem quietEnd {s t : State} (h : Keeps s t) (pan asn : Nat) : Keeps s (t.quietEnd pan asn) := by
  unfold State.quietEnd
  repeat' first
    | assumption | apply Keeps.raiseOn | refine Keeps.foldl ?_ (fun _ _ _ => ?_) _
    | refine Keeps.parts ?_ (by rfl) (by rfl) (by rfl)

theorem lookAhead {s t : State} (h : Keeps s t) : Keeps s t.lookAhead := by
  unfold State.lookAhead
  repeat' first
    | with_reducible assumption | with_reducible apply Keeps.setN
    | with_reducible refine Keeps.parts ?_ (by with_reducible rfl) (by with_reducible rfl) (by with_reducible rfl)

theorem panEnd {s t : State} (h : Keeps s t) (pan : Nat) : Keeps s (t.panEnd pan) := by
  unfold State.panEnd
  repeat' first
    | with_reducible assumption | with_reducible apply Keeps.lookAhead | with_reducible apply Keeps.updPan
    | with_reducible apply Keeps.radioPower
    | with_reducible refine Keeps.parts ?_ (by with_reducible rfl) (by with_reducible rfl) (by with_reducible rfl)

theorem quietCount {s t : State} (h : Keeps s t) (x0 : Tick) (acks : Bool) : Keeps s (t.quietCount x0 acks) :=
  h.same rfl rfl rfl rfl rfl

theorem protect {s t : State} (h : Keeps s t) (d : Due) : Keeps s (t.protect d).1 := by
  unfold State.protect
  repeat' (first | assumption | apply Keeps.useLink | apply Keeps.useKey | split)

theorem freezeOne {s t : State} (h : Keeps s t) (gs : List Group) (d : Due) (x2 : Tick) (ending : List Nat) :
    Keeps s (t.freezeOne gs d x2 ending).1 := by
  unfold State.freezeOne
  repeat' first
    | with_reducible assumption | with_reducible apply Keeps.protect | with_reducible apply Keeps.quietCount
    | with_reducible apply Keeps.deferDue | with_reducible apply Keeps.attemptEnds | with_reducible apply Keeps.dutyWarn
    | split | (simp +zetaDelta only; split)

theorem dropFrame {s t : State} (h : Keeps s t) (r : Report) (node : Option Nat) : Keeps s (t.dropFrame r node) := by
  unfold State.dropFrame
  repeat' first
    | with_reducible assumption | with_reducible apply Keeps.capture
    | with_reducible refine Keeps.parts ?_ (by with_reducible rfl) (by with_reducible rfl) (by with_reducible rfl)

theorem timing {s t : State} (h : Keeps s t) (i f : Nat) (x2 : Tick) (e : Int) (tag : Nat) :
    Keeps s (t.timing i f x2 e tag) := by
  unfold State.timing
  repeat' first
    | with_reducible assumption | with_reducible apply Keeps.heard | with_reducible apply Keeps.drifted
    | with_reducible apply Keeps.setNodeState | with_reducible apply Keeps.updNode | with_reducible apply Keeps.raiseOn
    | split | with_reducible refine Keeps.parts ?_ (by with_reducible rfl) (by with_reducible rfl) (by with_reducible rfl)

theorem planAck {s t : State} (h : Keeps s t) (r : Report) (pan node who : Nat) (dst : Addr) (cell : Nat × Cell × Nat × Int) (cls : Nat) (ending : List Nat) :
    Keeps s (t.planAck r pan node who dst cell cls ending) := by
  unfold State.planAck
  repeat' first
    | with_reducible assumption | with_reducible apply Keeps.quietCount | with_reducible apply Keeps.dutyWarn
    | with_reducible apply Keeps.bump | split
    | with_reducible refine Keeps.parts ?_ (by with_reducible rfl) (by with_reducible rfl) (by with_reducible rfl)

theorem forward {s t : State} (h : Keeps s t) (orig seq asn : Nat) (port : Option Nat) (dscp octets : Nat) (gram : Octets) :
    Keeps s (t.forward orig seq asn port dscp octets gram) := by
  unfold State.forward
  repeat' first
    | with_reducible assumption | with_reducible apply Keeps.reread | with_reducible apply Keeps.heard
    | with_reducible apply Keeps.uplink | with_reducible apply Keeps.updNode | with_reducible apply Keeps.bump | split
    | with_reducible refine Keeps.parts ?_ (by with_reducible rfl) (by with_reducible rfl) (by with_reducible rfl)

theorem pipeline {s t : State} (h : Keeps s t) (b node seq asn : Nat) (payload : Octets) (x5 : LowHead) (c : Lowpan) :
    Keeps s (t.pipeline b node seq asn payload x5 c) := by
  unfold State.pipeline
  repeat' first
    | with_reducible assumption | with_reducible apply Keeps.forward | with_reducible apply Keeps.fragment
    | with_reducible apply Keeps.reread | with_reducible apply Keeps.heard | with_reducible apply Keeps.updNode
    | with_reducible apply Keeps.emit | with_reducible apply Keeps.bump | split
    | with_reducible refine Keeps.parts ?_ (by with_reducible rfl) (by with_reducible rfl) (by with_reducible rfl)

theorem learnOf {s t : State} (h : Keeps s t) (r : Report) (eui idx pan : Nat) : Keeps s (t.learnOf r eui idx pan) := by
  unfold State.learnOf
  repeat' (first | assumption | apply Keeps.learnRequest)

theorem fromNode {s t : State} (h : Keeps s t) (r : Report) (f : MacFrame) (pan : Nat) (n : Node) (cell : Nat × Cell × Nat × Int) (st : Tick) (ending : List Nat) :
    Keeps s (t.fromNode r f pan n cell st ending) := by
  unfold State.fromNode
  repeat' first
    | with_reducible assumption | extract_lets +lift | with_reducible refine Keeps.ite ?_ ?_
    | with_reducible apply Keeps.learnOf | with_reducible apply Keeps.pipeline | with_reducible apply Keeps.planAck
    | with_reducible apply Keeps.timing | with_reducible apply Keeps.dropFrame | with_reducible apply Keeps.capture
    | with_reducible apply Keeps.updNode | with_reducible apply Keeps.bump | (simp +zetaDelta only; split)

theorem joinAccepted {s t : State} (h : Keeps s t) (r : Report) (f : MacFrame) (pan : Nat) (q : Insertion) (cell : Nat × Cell × Nat × Int) (ending : List Nat) :
    Keeps s (t.joinAccepted r f pan q cell ending) := by
  unfold State.joinAccepted
  repeat' first
    | with_reducible assumption | with_reducible refine Keeps.ite ?_ ?_ | with_reducible apply Keeps.pipeline
    | with_reducible apply Keeps.planAck | with_reducible apply Keeps.queueInsertion | with_reducible apply Keeps.capture
    | with_reducible apply Keeps.bump
    | with_reducible refine Keeps.parts ?_ (by with_reducible rfl) (by with_reducible rfl) (by with_reducible rfl)

theorem joinUnknown {s t : State} (h : Keeps s t) (r : Report) (f : MacFrame) (pan eui : Nat) (cell : Nat × Cell × Nat × Int) (ending : List Nat) :
    Keeps s (t.joinUnknown r f pan eui cell ending) := by
  unfold State.joinUnknown
  repeat' first
    | with_reducible assumption | with_reducible refine Keeps.ite ?_ ?_ | with_reducible apply Keeps.joinAccepted
    | with_reducible apply Keeps.planAck | with_reducible apply Keeps.dropFrame | with_reducible apply Keeps.bump | split

theorem dataFrame {s t : State} (h : Keeps s t) (r : Report) (f : MacFrame) (pan : Nat) (ending : List Nat) :
    Keeps s (t.dataFrame r f pan ending) := by
  unfold State.dataFrame
  dsimp only
  repeat' first
    | with_reducible assumption | with_reducible refine Keeps.ite ?_ ?_ | with_reducible apply Keeps.joinUnknown
    | with_reducible apply Keeps.fromNode | with_reducible apply Keeps.learnOf | with_reducible apply Keeps.dropFrame
    | with_reducible apply Keeps.rereadSrc | with_reducible apply Keeps.useGroupRx | with_reducible apply Keeps.useLink
    | with_reducible apply Keeps.bump | with_reducible refine Keeps.foldl ?_ (fun _ _ _ => ?_) _ | split

theorem ackFrame {s t : State} (h : Keeps s t) (r : Report) (f : MacFrame) (pan : Nat) : Keeps s (t.ackFrame r f pan) := by
  unfold State.ackFrame
  repeat' first
    | with_reducible assumption | with_reducible apply Keeps.dropFrame | with_reducible apply Keeps.setBe
    | with_reducible apply Keeps.rereadSrc | with_reducible apply Keeps.heard | with_reducible apply Keeps.attemptEnds
    | with_reducible apply Keeps.report | with_reducible apply Keeps.capture | with_reducible apply Keeps.updNode
    | with_reducible apply Keeps.useLink | with_reducible apply Keeps.bump | split
    | with_reducible refine Keeps.parts ?_ (by with_reducible rfl) (by with_reducible rfl) (by with_reducible rfl)

theorem beaconFrame {s t : State} (h : Keeps s t) (r : Report) (f : MacFrame) : Keeps s (t.beaconFrame r f) := by
  unfold State.beaconFrame
  repeat' first
    | with_reducible assumption | with_reducible apply Keeps.dropFrame | with_reducible apply Keeps.yieldTo
    | with_reducible apply Keeps.capture | with_reducible apply Keeps.bump | split
    | with_reducible refine Keeps.parts ?_ (by with_reducible rfl) (by with_reducible rfl) (by with_reducible rfl)

theorem placeAck {s t : State} (h : Keeps s t) (a : AckPlan) (pend : Bool) : Keeps s (t.placeAck a pend) := by
  unfold State.placeAck
  repeat' first
    | with_reducible assumption | with_reducible apply Keeps.countBlanked | with_reducible apply Keeps.streamItem
    | with_reducible apply Keeps.bump | split
    | with_reducible refine Keeps.parts ?_ (by with_reducible rfl) (by with_reducible rfl) (by with_reducible rfl)

theorem decideReports {s t : State} (h : Keeps s t) : Keeps s t.decideReports := by
  unfold State.decideReports
  repeat' (first | assumption | apply Keeps.report | refine Keeps.foldl ?_ (fun _ _ _ => ?_) _)

theorem panStart {s t : State} (h : Keeps s t) (p : Nat) : Keeps s (t.panStart p) := by
  unfold State.panStart
  repeat' first
    | with_reducible assumption | with_reducible apply Keeps.lookAhead | with_reducible apply Keeps.updPan
    | with_reducible apply Keeps.chartGeometry | with_reducible apply Keeps.radioPower | with_reducible apply Keeps.setP
    | with_reducible apply Keeps.setN | split
    | with_reducible refine Keeps.parts ?_ (by with_reducible rfl) (by with_reducible rfl) (by with_reducible rfl)

theorem panStopping {s t : State} (h : Keeps s t) (p : Nat) : Keeps s (t.panStopping p) := by
  unfold State.panStopping
  repeat' first
    | with_reducible assumption | with_reducible apply Keeps.updPan | with_reducible apply Keeps.chartGeometry
    | with_reducible apply Keeps.radioPower | with_reducible apply Keeps.setP
    | with_reducible refine Keeps.parts ?_ (by with_reducible rfl) (by with_reducible rfl) (by with_reducible rfl)

theorem stageCell {s t : State} (h : Keeps s t) (n : Nat) (o : Octets) : Keeps s (t.stageCell n o) := by
  unfold State.stageCell
  repeat' (first | assumption | apply Keeps.setN | refine Keeps.parts ?_ (by rfl) (by rfl) (by rfl))

theorem setSf {s t : State} (h : Keeps s t) (f : Nat) (x : Slotframe) : Keeps s (t.setSf f x) := by
  unfold State.setSf
  repeat' (first | with_reducible assumption | with_reducible refine Keeps.ite ?_ ?_ | with_reducible apply Keeps.setP)

theorem restage {s t : State} (h : Keeps s t) (sfs : List Slotframe) : Keeps s (t.restage sfs) := by
  unfold State.restage
  repeat' first
    | with_reducible assumption | with_reducible apply Keeps.setSf | with_reducible refine Keeps.foldl ?_ (fun _ _ _ => ?_) _
    | with_reducible refine Keeps.parts ?_ (by with_reducible rfl) (by with_reducible rfl) (by with_reducible rfl)

theorem discardStaged {s t : State} (h : Keeps s t) : Keeps s t.discardStaged := by
  unfold State.discardStaged
  repeat' (first | with_reducible assumption | with_reducible apply Keeps.restage)

theorem scheduleEvent {s t : State} (h : Keeps s t) (epoch changed kept : Nat) (rc : Rc) (handle : Nat) :
    Keeps s (t.scheduleEvent epoch changed kept rc handle) := by
  unfold State.scheduleEvent
  repeat' (first | assumption | apply Keeps.raiseOn)

theorem countUnindexed {s t : State} (h : Keeps s t) : Keeps s t.countUnindexed := by
  unfold State.countUnindexed
  repeat' (first | assumption | apply Keeps.setN)

theorem tableFrom {s t : State} (h : Keeps s t) (x0 : List Slotframe × List (Nat × Cell)) : Keeps s (t.tableFrom x0) := by
  unfold State.tableFrom
  repeat' first
    | with_reducible assumption | with_reducible apply Keeps.countUnindexed | with_reducible apply Keeps.lookAhead
    | with_reducible apply Keeps.setN | with_reducible refine Keeps.foldl ?_ (fun _ _ _ => ?_) _
    | with_reducible refine Keeps.parts ?_ (by with_reducible rfl) (by with_reducible rfl) (by with_reducible rfl)

theorem keepSchedule {s t : State} (h : Keeps s t) : Keeps s t.keepSchedule :=
  h.same rfl rfl rfl rfl rfl

theorem commitDone {s t : State} (h : Keeps s t) (c : Commit) : Keeps s (t.commitDone c) := by
  unfold State.commitDone
  repeat' first
    | with_reducible assumption | with_reducible apply Keeps.keepSchedule | with_reducible apply Keeps.countUnindexed
    | with_reducible apply Keeps.scheduleEvent | with_reducible apply Keeps.chartGeometry | with_reducible apply Keeps.setP
    | with_reducible apply Keeps.procDone | with_reducible apply Keeps.setN
    | with_reducible refine Keeps.parts ?_ (by with_reducible rfl) (by with_reducible rfl) (by with_reducible rfl)

theorem commitStart {s t : State} (h : Keeps s t) (o : Octets) : Keeps s (t.commitStart o) := by
  unfold State.commitStart
  repeat' first
    | with_reducible assumption | with_reducible apply Keeps.commitDone | with_reducible apply Keeps.scheduleEvent
    | with_reducible apply Keeps.procEst | with_reducible apply Keeps.procDone | split
    | with_reducible refine Keeps.parts ?_ (by with_reducible rfl) (by with_reducible rfl) (by with_reducible rfl)

theorem switchSf {s t : State} (h : Keeps s t) (c : Commit) (f : Nat) : Keeps s (t.switchSf c f) := by
  unfold State.switchSf
  repeat' first
    | with_reducible assumption | with_reducible apply Keeps.commitDone | with_reducible apply Keeps.lookAhead
    | with_reducible apply Keeps.setN | split
    | with_reducible refine Keeps.parts ?_ (by with_reducible rfl) (by with_reducible rfl) (by with_reducible rfl)

theorem setFlow {s t : State} (h : Keeps s t) (f : Flow) : Keeps s (t.setFlow f) :=
  h.same rfl rfl rfl rfl rfl

theorem wheel {s t : State} (h : Keeps s t) (kind key : Nat) (due : Count) : Keeps s (t.wheel kind key due) := by
  unfold State.wheel
  repeat' first
    | assumption | apply Keeps.dropWheel | split | (simp +zetaDelta only; split)
    | refine Keeps.parts ?_ (by rfl) (by rfl) (by rfl)

theorem wheelDebt {s t : State} (h : Keeps s t) (kind key : Nat) (b : Bucket) (x3 : Count) :
    Keeps s (t.wheelDebt kind key b x3) := by
  unfold State.wheelDebt
  repeat' first
    | with_reducible assumption | with_reducible apply Keeps.wheel | with_reducible apply Keeps.dropWheel | split

theorem wheelHandover {s t : State} (h : Keeps s t) (f : Frame) (i : Inst) : Keeps s (t.wheelHandover f i) := by
  unfold State.wheelHandover
  repeat' (first | with_reducible assumption | with_reducible apply Keeps.wheel)

theorem compute {s t : State} (h : Keeps s t) (b : AdmitBody) (x1 : Count) (own : Bool) : Keeps s (t.compute b x1 own).1 := by
  unfold State.compute
  repeat' first
    | with_reducible assumption | with_reducible refine Keeps.iteFst ?_ ?_ | with_reducible apply Keeps.route
    | with_reducible apply Keeps.reread | with_reducible refine Keeps.foldl ?_ (fun _ _ _ => ?_) _ | split | dsimp only
    | (simp +zetaDelta only; split)
    | with_reducible refine Keeps.parts ?_ (by with_reducible rfl) (by with_reducible rfl) (by with_reducible rfl)

theorem place {s t : State} (h : Keeps s t) (f : Frame) : Keeps s (t.place f) := by
  unfold State.place
  repeat' first
    | with_reducible assumption | with_reducible apply Keeps.wheelHandover | with_reducible apply Keeps.wheel
    | with_reducible apply Keeps.setFrames | with_reducible apply Keeps.dutyReserve | with_reducible apply Keeps.updNode
    | with_reducible refine Keeps.foldl ?_ (fun _ _ _ => ?_) _ | split

theorem takeTokens {s t : State} (h : Keeps s t) (f : Frame) (x1 : Count) : Keeps s (t.takeTokens f x1) := by
  unfold State.takeTokens
  repeat' first
    | with_reducible assumption | with_reducible apply Keeps.wheelDebt | with_reducible apply Keeps.setFlow
    | with_reducible apply Keeps.updNode | split
    | with_reducible refine Keeps.parts ?_ (by with_reducible rfl) (by with_reducible rfl) (by with_reducible rfl)

theorem takeOn {s t : State} (h : Keeps s t) (f : Frame) (ctx src : Nat) (x3 : Count) :
    Keeps s (t.takeOn f ctx src x3).1 := by
  unfold State.takeOn
  repeat' first
    | with_reducible assumption | with_reducible apply Keeps.takeTokens | with_reducible apply Keeps.place
    | with_reducible apply Keeps.takeCounter | with_reducible apply Keeps.stream

theorem controlFrame {s t : State} (h : Keeps s t) (kind pan node psdu : Nat) (ack : Bool) :
    Keeps s (t.controlFrame kind pan node psdu ack) := by
  unfold State.controlFrame
  repeat' first
    | with_reducible assumption | with_reducible apply Keeps.takeOn | with_reducible apply Keeps.compute
    | with_reducible apply Keeps.addDue | with_reducible apply Keeps.emit | split
    | with_reducible refine Keeps.parts ?_ (by with_reducible rfl) (by with_reducible rfl) (by with_reducible rfl)

theorem random {s t : State} (h : Keeps s t) (n : Nat) : Keeps s (t.random n).2 :=
  h.same rfl rfl rfl rfl rfl

theorem rehashBegin {s t : State} (h : Keeps s t) (byProc : Bool) : Keeps s (t.rehashBegin byProc) := by
  unfold State.rehashBegin
  repeat' first
    | with_reducible assumption | with_reducible apply Keeps.random | with_reducible apply Keeps.procDone
    | with_reducible apply Keeps.setN | split
    | with_reducible refine Keeps.parts ?_ (by with_reducible rfl) (by with_reducible rfl) (by with_reducible rfl)

theorem rehashAuto {s t : State} (h : Keeps s t) : Keeps s t.rehashAuto := by
  unfold State.rehashAuto
  repeat' first
    | with_reducible assumption | with_reducible apply Keeps.rehashBegin | with_reducible apply Keeps.procBegin
    | with_reducible apply Keeps.journal

theorem seatRefused {s t : State} (h : Keeps s t) (eui : Nat) : Keeps s (t.seatRefused eui) := by
  unfold State.seatRefused
  repeat' first
    | with_reducible assumption | with_reducible apply Keeps.rehashAuto | with_reducible apply Keeps.raiseOn
    | with_reducible apply Keeps.bump | split
    | with_reducible refine Keeps.parts ?_ (by with_reducible rfl) (by with_reducible rfl) (by with_reducible rfl)

theorem insertFailed {s t : State} (h : Keeps s t) (q : Insertion) : Keeps s (t.insertFailed q) := by
  unfold State.insertFailed
  repeat' (first | assumption | apply Keeps.seatRefused | apply Keeps.procDone | split)

theorem enterStreamed {s t : State} (h : Keeps s t) (n : Node) : Keeps s (t.enterStreamed n) := by
  unfold State.enterStreamed
  repeat' first
    | with_reducible assumption | with_reducible apply Keeps.seatRefused | with_reducible apply Keeps.insertNode
    | with_reducible apply Keeps.nodeChanged | split
    | with_reducible refine Keeps.parts ?_ (by with_reducible rfl) (by with_reducible rfl) (by with_reducible rfl)

theorem insertAgain {s t : State} (h : Keeps s t) (n : Node) (q : Insertion) : Keeps s (t.insertAgain n q) := by
  unfold State.insertAgain
  repeat' first
    | with_reducible assumption | with_reducible apply Keeps.nodeChanged | with_reducible apply Keeps.updNode | split

theorem eraseBound {s t : State} (h : Keeps s t) (n : Node) : Keeps s (t.eraseBound n) := by
  unfold State.eraseBound
  repeat' (first | assumption | apply Keeps.updBn | split)

theorem removeWith {s t : State} (h : Keeps s t) (n : Node) (cause : Nat) : Keeps s (t.removeWith n cause) := by
  unfold State.removeWith
  repeat' (first | assumption | apply Keeps.eraseBound | apply Keeps.removeNode | apply Keeps.raiseOn)

theorem releaseHeld {s t : State} (h : Keeps s t) : Keeps s t.releaseHeld := by
  unfold State.releaseHeld
  repeat' first
    | assumption | apply Keeps.enterStreamed | refine Keeps.foldl ?_ (fun _ _ _ => ?_) _
    | refine Keeps.parts ?_ (by rfl) (by rfl) (by rfl)

theorem rehashEnd {s t : State} (h : Keeps s t) (rc : Rc) (held : Nat) : Keeps s (t.rehashEnd rc held) := by
  unfold State.rehashEnd
  repeat' first
    | with_reducible assumption | with_reducible apply Keeps.releaseHeld | with_reducible apply Keeps.procDone
    | with_reducible apply Keeps.raiseOn | with_reducible apply Keeps.setN | split
    | with_reducible refine Keeps.parts ?_ (by with_reducible rfl) (by with_reducible rfl) (by with_reducible rfl)

theorem sweepNode {s t : State} (h : Keeps s t) (n : Node) : Keeps s (t.sweepNode n) := by
  unfold State.sweepNode
  repeat' first
    | with_reducible assumption | with_reducible refine Keeps.ite ?_ ?_ | with_reducible apply Keeps.eraseBound
    | with_reducible apply Keeps.removalDone | with_reducible apply Keeps.removeNode | with_reducible apply Keeps.setNodeState
    | with_reducible apply Keeps.bump
    | with_reducible refine Keeps.parts ?_ (by with_reducible rfl) (by with_reducible rfl) (by with_reducible rfl)

theorem joinAnswer {s t : State} (h : Keeps s t) (i psdu : Nat) : Keeps s (t.joinAnswer i psdu) := by
  unfold State.joinAnswer
  repeat' (first | assumption | apply Keeps.controlFrame | apply Keeps.updNode | apply Keeps.emit | split)

theorem daoAck {s t : State} (h : Keeps s t) (i seq : Nat) : Keeps s (t.daoAck i seq) :=
  h.same rfl rfl rfl rfl rfl

theorem dio {s t : State} (h : Keeps s t) (p : Nat) : Keeps s (t.dio p) :=
  h.same rfl rfl rfl rfl rfl

theorem joined {s t : State} (h : Keeps s t) (n : Node) (r : KeyRec) (relayed : Bool) (psdu : Nat) :
    Keeps s (t.joined n r relayed psdu) := by
  unfold State.joined
  dsimp only
  refine ((?_ : Keeps s _).nodeChanged _).joinAnswer _ _
  have hs : ∀ u, Keeps s u → Keeps s (if relayed then u else u.giveShort n.idx) := fun u hu => ite hu (hu.giveShort _)
  have hx := hs _ (h.updNode n.idx (fun n =>
    { n with state := .active, keyId := n.eui, keyGen := r.gen, joined := t.time,
             neighbour := !relayed || n.neighbour, depth := if relayed then n.depth else 1 }))
  generalize (if relayed then _ else _ : State) = u at hx ⊢
  cases u.node? n.idx with
  | none => exact hx
  | some m => exact hx.eraseBound m

theorem daoLookups {s t : State} (h : Keeps s t) (d : Dao) : Keeps s (t.daoLookups d) := by
  unfold State.daoLookups
  repeat' (first | assumption | apply Keeps.reread | refine Keeps.foldl ?_ (fun _ _ _ => ?_) _)

theorem applyDao {s t : State} (h : Keeps s t) (n : Node) (d : Dao) : Keeps s (t.applyDao n d) := by
  unfold State.applyDao
  repeat' first
    | with_reducible assumption | with_reducible refine Keeps.ite ?_ ?_ | with_reducible apply Keeps.giveShort
    | with_reducible apply Keeps.nodeChanged | with_reducible apply Keeps.updNode

theorem ckptStart {s t : State} (h : Keeps s t) : Keeps s t.ckptStart :=
  h.same rfl rfl rfl rfl rfl

theorem restoredEvent {s t : State} (h : Keeps s t) (source records loadUs : Nat) (outage : Bool) :
    Keeps s (t.restoredEvent source records loadUs outage) := by
  unfold State.restoredEvent
  repeat' (first | assumption | apply Keeps.raiseOn)

theorem load {s t : State} (h : Keeps s t) (n : Node) : Keeps s (t.load n) := by
  unfold State.load
  repeat' first
    | with_reducible assumption | with_reducible apply Keeps.seatRefused | with_reducible apply Keeps.seat | split
    | with_reducible refine Keeps.parts ?_ (by with_reducible rfl) (by with_reducible rfl) (by with_reducible rfl)

theorem serve {s t : State} (h : Keeps s t) (p c fl : Nat) : Keeps s (t.serve p c fl).1 := by
  unfold State.serve
  repeat' (first | assumption | apply Keeps.updSched | split | (simp +zetaDelta only; split))

theorem spoolLeave {s t : State} (h : Keeps s t) (f : UpFrame) : Keeps s (t.spoolLeave f) := by
  unfold State.spoolLeave
  repeat' first
    | with_reducible assumption | with_reducible apply Keeps.spoolEmpty | with_reducible apply Keeps.setN | split
    | with_reducible refine Keeps.parts ?_ (by with_reducible rfl) (by with_reducible rfl) (by with_reducible rfl)

theorem sendBlocks {s t : State} (h : Keeps s t) (p : Nat) (l : List CodeBlock) : Keeps s (t.sendBlocks p l) :=
  h.same rfl rfl rfl rfl rfl

theorem putFrame {s t : State} (h : Keeps s t) (p id : Nat) (bytes : Octets) : Keeps s (t.putFrame p id bytes).2 := by
  unfold State.putFrame
  repeat' first
    | with_reducible assumption | with_reducible apply Keeps.sendBlocks | with_reducible apply Keeps.mdiTx
    | with_reducible apply Keeps.capture | with_reducible apply Keeps.bump | split
    | with_reducible refine Keeps.parts ?_ (by with_reducible rfl) (by with_reducible rfl) (by with_reducible rfl)

theorem sendPlain {s t : State} (h : Keeps s t) (ports : List Nat) (cls type : Nat) (dst payload : Octets) :
    Keeps s (t.sendPlain ports cls type dst payload) := by
  unfold State.sendPlain
  repeat' first
    | with_reducible assumption | with_reducible apply Keeps.putFrame | with_reducible apply Keeps.emit
    | with_reducible refine Keeps.foldl ?_ (fun _ _ _ => ?_) _
    | with_reducible refine Keeps.parts ?_ (by with_reducible rfl) (by with_reducible rfl) (by with_reducible rfl)

theorem sendFrame {s t : State} (h : Keeps s t) (p : Nat) (f : UpFrame) (w : WireFrame) : Keeps s (t.sendFrame p f w) := by
  have hp := (h.emit (t.frameHead p f w)).putFrame p f.id (t.wireOctets p f w)
  unfold State.sendFrame
  refine emit ?_ _
  cases f.event with
  | none => exact hp
  | some e => exact hp.emit _

theorem seqOut {s t : State} (h : Keeps s t) (ctx : Nat) : Keeps s (t.seqOut ctx).2 := by
  unfold State.seqOut
  repeat' (first | assumption | apply Keeps.takeCounter)

theorem sendReply {s t : State} (h : Keeps s t) (src : Nat) (a : Answered) : Keeps s (t.sendReply src a) := by
  unfold State.sendReply
  repeat' (first | assumption | apply Keeps.seqOut | apply Keeps.sendAdm)

theorem remember {s t : State} (h : Keeps s t) (a : Answered) : Keeps s (t.remember a) :=
  h.same rfl rfl rfl rfl rfl

theorem countResult {s t : State} (h : Keeps s t) (d : Nat) : Keeps s (t.countResult d) := by
  unfold State.countResult
  repeat' first
    | with_reducible assumption | with_reducible apply Keeps.raiseOn | with_reducible apply Keeps.bump | split
    | with_reducible refine Keeps.parts ?_ (by with_reducible rfl) (by with_reducible rfl) (by with_reducible rfl)

theorem answer {s t : State} (h : Keeps s t) (m : AdmMsg) (reqId d ref : Nat) (p : Option Tick) (l : List Inst) :
    Keeps s (t.answer m reqId d ref p l) := by
  unfold State.answer
  repeat' first
    | with_reducible assumption | with_reducible apply Keeps.countResult | with_reducible apply Keeps.remember
    | with_reducible apply Keeps.sendReply | with_reducible apply Keeps.stream | split
    | with_reducible refine Keeps.parts ?_ (by with_reducible rfl) (by with_reducible rfl) (by with_reducible rfl)

theorem answerQuery {s t : State} (h : Keeps s t) (m : AdmMsg) (ref : Nat) : Keeps s (t.answerQuery m ref) := by
  unfold State.answerQuery
  repeat' (first | with_reducible assumption | with_reducible apply Keeps.seqOut | with_reducible apply Keeps.sendAdm | split)

theorem turnAway {s t : State} (h : Keeps s t) (m : AdmMsg) : Keeps s (t.turnAway m) := by
  unfold State.turnAway
  repeat' first
    | with_reducible assumption | with_reducible apply Keeps.answerQuery | with_reducible apply Keeps.answer | split

theorem enqueue {s t : State} (h : Keeps s t) (m : AdmMsg) (cls : Nat) : Keeps s (t.enqueue m cls) := by
  unfold State.enqueue
  repeat' (first | assumption | apply Keeps.turnAway | split | refine Keeps.parts ?_ (by rfl) (by rfl) (by rfl))

theorem dequeue {s t : State} (h : Keeps s t) (r : AdmReq) : Keeps s (t.dequeue r) :=
  h.same rfl rfl rfl rfl rfl

theorem admitDiffers {s t : State} (h : Keeps s t) (same : Bool) : Keeps s (t.admitDiffers same) := by
  unfold State.admitDiffers
  repeat' (first | assumption | apply Keeps.bump | split)

theorem unadopted {s t : State} (h : Keeps s t) (ref : Nat) : Keeps s (t.unadopted ref) := by
  unfold State.unadopted
  repeat' first
    | with_reducible assumption | with_reducible apply Keeps.setFlow | with_reducible apply Keeps.setFrames
    | with_reducible apply Keeps.dutyDropAll | with_reducible apply Keeps.updNode | split

theorem shadowDecision {s t : State} (h : Keeps s t) (m : AdmMsg) (reqId : Nat) (arrival : Count) (v : Verdict) :
    Keeps s (t.shadowDecision m reqId arrival v) := by
  unfold State.shadowDecision
  repeat' first
    | with_reducible assumption | with_reducible apply Keeps.admitDiffers | with_reducible apply Keeps.answer
    | with_reducible apply Keeps.takeOn | split
    | with_reducible refine Keeps.parts ?_ (by with_reducible rfl) (by with_reducible rfl) (by with_reducible rfl)

theorem handOver {s t : State} (h : Keeps s t) (f : Frame) (i : Inst) : Keeps s (t.handOver f i) :=
  h.same rfl rfl rfl rfl rfl

theorem nextHandover {s t : State} (h : Keeps s t) (f : Frame) (i : Inst) : Keeps s (t.nextHandover f i) := by
  unfold State.nextHandover
  repeat' first
    | with_reducible assumption | with_reducible apply Keeps.wheelHandover | with_reducible apply Keeps.dropWheel | split

theorem configureFlow {s t : State} (h : Keeps s t) (n : Nat) (o : Octets) : Keeps s (t.configureFlow n o) := by
  unfold State.configureFlow
  repeat' first
    | with_reducible assumption | with_reducible apply Keeps.wheelDebt | with_reducible apply Keeps.setFlow
    | with_reducible apply Keeps.raiseOn | with_reducible apply Keeps.bump | split
    | with_reducible refine Keeps.parts ?_ (by with_reducible rfl) (by with_reducible rfl) (by with_reducible rfl)

theorem addSample {s t : State} (h : Keeps s t) (key depth delay : Nat) : Keeps s (t.addSample key depth delay) :=
  h.same rfl rfl rfl rfl rfl

theorem updTport {s t : State} (h : Keeps s t) (p : Nat) (f : TPort → TPort) : Keeps s (t.updTport p f) :=
  h.same rfl rfl rfl rfl rfl

theorem line {s t : State} (h : Keeps s t) (kind p : Nat) (args : List Nat) : Keeps s (t.line kind p args) :=
  h.same rfl rfl rfl rfl rfl

theorem signal {s t : State} (h : Keeps s t) (p tier : Nat) (l : List Int) : Keeps s (t.signal p tier l) :=
  h.same rfl rfl rfl rfl rfl

theorem goLink {s t : State} (h : Keeps s t) (p st : Nat) : Keeps s (t.goLink p st) := by
  unfold State.goLink
  repeat' (first | assumption | apply Keeps.updTport | apply Keeps.ptpLink | apply Keeps.setN)

theorem listen {s t : State} (h : Keeps s t) (p : Nat) : Keeps s (t.listen p) := by
  unfold State.listen
  repeat' first
    | with_reducible assumption | with_reducible apply Keeps.goLink | with_reducible apply Keeps.updTport
    | with_reducible apply Keeps.setN

theorem disable {s t : State} (h : Keeps s t) (p : Nat) : Keeps s (t.disable p) := by
  unfold State.disable
  repeat' (first | assumption | apply Keeps.goLink | apply Keeps.updTport | apply Keeps.setN)

theorem retrained {s t : State} (h : Keeps s t) (p : Nat) : Keeps s (t.retrained p) := by
  unfold State.retrained
  repeat' first
    | with_reducible assumption | with_reducible apply Keeps.procDone | split
    | with_reducible refine Keeps.parts ?_ (by with_reducible rfl) (by with_reducible rfl) (by with_reducible rfl)

theorem trainFail {s t : State} (h : Keeps s t) (p stage cause fault dist : Nat) :
    Keeps s (t.trainFail p stage cause fault dist) := by
  unfold State.trainFail
  repeat' (first | assumption | apply Keeps.retrained | apply Keeps.updTport | apply Keeps.raiseOn | apply Keeps.setN)

theorem pauseEnd {s t : State} (h : Keeps s t) (p : Nat) (x : Pause) (x2 : Count) : Keeps s (t.pauseEnd p x x2) := by
  unfold State.pauseEnd
  repeat' first
    | with_reducible assumption | with_reducible apply Keeps.updTport | with_reducible apply Keeps.spoolDrain
    | with_reducible apply Keeps.raiseOn | with_reducible apply Keeps.bumpBy | split
    | with_reducible refine Keeps.parts ?_ (by with_reducible rfl) (by with_reducible rfl) (by with_reducible rfl)

theorem cutWire {s t : State} (h : Keeps s t) (p : Nat) : Keeps s (t.cutWire p) := by
  unfold State.cutWire
  repeat' (first | assumption | apply Keeps.line | apply Keeps.updTport | split)

theorem leaveUp {s t : State} (h : Keeps s t) (p cause : Nat) : Keeps s (t.leaveUp p cause) := by
  unfold State.leaveUp
  repeat' first
    | with_reducible assumption | with_reducible apply Keeps.cutWire | with_reducible apply Keeps.pauseEnd
    | with_reducible apply Keeps.disable | with_reducible apply Keeps.listen | with_reducible apply Keeps.updTport
    | with_reducible apply Keeps.portDown | with_reducible apply Keeps.raiseOn | with_reducible apply Keeps.setN
    | with_reducible refine Keeps.foldl ?_ (fun _ _ _ => ?_) _ | split

theorem pageOut {s t : State} (h : Keeps s t) (p seed : Nat) (ack : Bool) (args : List Nat) :
    Keeps s (t.pageOut p seed ack args) :=
  h.same rfl rfl rfl rfl rfl

theorem sendPage {s t : State} (h : Keeps s t) (p : Nat) (ack : Bool) : Keeps s (t.sendPage p ack) :=
  h.same rfl rfl rfl rfl rfl

theorem sendPrbs {s t : State} (h : Keeps s t) (p order n : Nat) (inverted : Bool) :
    Keeps s (t.sendPrbs p order n inverted) :=
  h.same rfl rfl rfl rfl rfl

theorem sendIdle {s t : State} (h : Keeps s t) (p : Nat) : Keeps s (t.sendIdle p) :=
  h.same rfl rfl rfl rfl rfl

theorem sendPhase {s t : State} (h : Keeps s t) (p phase : Nat) : Keeps s (t.sendPhase p phase) := by
  unfold State.sendPhase
  repeat' first
    | with_reducible assumption | with_reducible apply Keeps.sendIdle | with_reducible apply Keeps.sendPrbs | split

theorem sendVerdict {s t : State} (h : Keeps s t) (p : Nat) (pass : Bool) : Keeps s (t.sendVerdict p pass) :=
  (h.sendPrbs _ _ _ _).sendPrbs _ _ _ _

theorem attempt {s t : State} (h : Keeps s t) (p tier : Nat) (t1 : Count) : Keeps s (t.attempt p tier t1) := by
  unfold State.attempt
  repeat' (first | assumption | apply Keeps.sendPhase | apply Keeps.updTport | apply Keeps.setN)

theorem drawSeed {s t : State} (h : Keeps s t) (p : Nat) : Keeps s (t.drawSeed p) := by
  unfold State.drawSeed
  repeat' (first | assumption | apply Keeps.updTport | apply Keeps.random | split)

theorem settleAnnounce {s t : State} (h : Keeps s t) (p : Nat) (g : Page) (t1 : Count) (answered : Bool) (fault dist : Nat) :
    Keeps s (t.settleAnnounce p g t1 answered fault dist) := by
  unfold State.settleAnnounce
  repeat' first
    | with_reducible assumption | with_reducible refine Keeps.ite ?_ ?_ | with_reducible apply Keeps.drawSeed
    | with_reducible apply Keeps.attempt | with_reducible apply Keeps.sendPage | with_reducible apply Keeps.trainFail
    | with_reducible apply Keeps.goLink | with_reducible apply Keeps.updTport | with_reducible apply Keeps.bump
    | with_reducible apply Keeps.setN

theorem announcePage {s t : State} (h : Keeps s t) (p : Nat) (g : Page) (fault dist : Nat) :
    Keeps s (t.announcePage p g fault dist) := by
  unfold State.announcePage
  repeat' first
    | with_reducible assumption | with_reducible refine Keeps.ite ?_ ?_ | with_reducible apply Keeps.settleAnnounce
    | with_reducible apply Keeps.sendPage | with_reducible apply Keeps.updTport

theorem verdict {s t : State} (h : Keeps s t) (p : Nat) (pass : Bool) (fault dist : Nat) :
    Keeps s (t.verdict p pass fault dist) := by
  unfold State.verdict
  repeat' first
    | with_reducible assumption | with_reducible apply Keeps.attempt | with_reducible apply Keeps.trainFail
    | with_reducible apply Keeps.updTport | split
    | with_reducible refine Keeps.parts ?_ (by with_reducible rfl) (by with_reducible rfl) (by with_reducible rfl)

theorem oamOut {s t : State} (h : Keeps s t) (p kind : Nat) : Keeps s (t.oamOut p kind) :=
  h.same rfl rfl rfl rfl rfl

theorem enablePort {s t : State} (h : Keeps s t) (p : Nat) : Keeps s (t.enablePort p) := by
  unfold State.enablePort
  repeat' first
    | with_reducible assumption | with_reducible apply Keeps.listen | with_reducible apply Keeps.switch | split
    | with_reducible refine Keeps.parts ?_ (by with_reducible rfl) (by with_reducible rfl) (by with_reducible rfl)

theorem disablePort {s t : State} (h : Keeps s t) (p : Nat) : Keeps s (t.disablePort p) := by
  unfold State.disablePort
  repeat' first
    | with_reducible assumption | with_reducible apply Keeps.leaveUp | with_reducible apply Keeps.retrained
    | with_reducible apply Keeps.disable | with_reducible apply Keeps.switch | split
    | with_reducible refine Keeps.parts ?_ (by with_reducible rfl) (by with_reducible rfl) (by with_reducible rfl)

theorem retrainPort {s t : State} (h : Keeps s t) (p : Nat) : Keeps s (t.retrainPort p) := by
  unfold State.retrainPort
  repeat' first
    | with_reducible assumption | with_reducible apply Keeps.oamOut | with_reducible apply Keeps.leaveUp
    | with_reducible apply Keeps.listen | split

theorem endLoopback {s t : State} (h : Keeps s t) (p : Nat) : Keeps s (t.endLoopback p) := by
  unfold State.endLoopback
  repeat' first
    | with_reducible assumption | with_reducible apply Keeps.enablePort | with_reducible apply Keeps.disable
    | with_reducible apply Keeps.switch | with_reducible apply Keeps.raiseOn | split
    | with_reducible refine Keeps.parts ?_ (by with_reducible rfl) (by with_reducible rfl) (by with_reducible rfl)

theorem sendPfc {s t : State} (h : Keeps s t) (p : Nat) (off : Bool) : Keeps s (t.sendPfc p off) := by
  unfold State.sendPfc
  repeat' (first | assumption | apply Keeps.line | apply Keeps.bump)

theorem rxFill {s t : State} (h : Keeps s t) (p fill : Nat) : Keeps s (t.rxFill p fill) := by
  unfold State.rxFill
  repeat' (first | assumption | extract_lets +lift | apply Keeps.sendPfc | apply Keeps.updTport | split)

theorem dupCheck {s t : State} (h : Keeps s t) (src : Octets) (seq : Nat) : Keeps s (t.dupCheck src seq).1 := by
  unfold State.dupCheck
  repeat' first
    | assumption | apply Keeps.bump | split | (simp +zetaDelta only; split) | refine Keeps.parts ?_ (by rfl) (by rfl) (by rfl)

theorem setPartner {s t : State} (h : Keeps s t) (b : Nat) (on : Bool) : Keeps s (t.setPartner b on) := by
  unfold State.setPartner
  repeat' first
    | with_reducible assumption | with_reducible apply Keeps.raiseOn | with_reducible apply Keeps.setN | split
    | with_reducible refine Keeps.parts ?_ (by with_reducible rfl) (by with_reducible rfl) (by with_reducible rfl)

theorem supervised {s t : State} (h : Keeps s t) (b : Nat) : Keeps s (t.supervised b) := by
  unfold State.supervised
  repeat' (first | assumption | apply Keeps.setPartner | refine Keeps.parts ?_ (by rfl) (by rfl) (by rfl))

theorem cutFrame {s t : State} (h : Keeps s t) (p prio octets : Nat) (event : Bool) :
    Keeps s (t.cutFrame p prio octets event) := by
  unfold State.cutFrame
  repeat' (first | assumption | apply Keeps.line | apply Keeps.fresh | split)

theorem passThrough {s t : State} (h : Keeps s t) (p prio octets : Nat) (f : TrunkFrame) (idle : Bool) :
    Keeps s (t.passThrough p prio octets f idle) := by
  unfold State.passThrough
  repeat' first
    | with_reducible assumption | with_reducible apply Keeps.cutFrame | with_reducible apply Keeps.arrive
    | with_reducible apply Keeps.bump | split
    | with_reducible refine Keeps.parts ?_ (by with_reducible rfl) (by with_reducible rfl) (by with_reducible rfl)

theorem answerAsk {s t : State} (h : Keeps s t) (a : AddrAsk) (src : Octets) : Keeps s (t.answerAsk a src) := by
  unfold State.answerAsk
  repeat' first
    | with_reducible assumption | with_reducible apply Keeps.emit | with_reducible apply Keeps.bump
    | with_reducible refine Keeps.foldl ?_ (fun _ _ _ => ?_) _ | split
    | with_reducible refine Keeps.parts ?_ (by with_reducible rfl) (by with_reducible rfl) (by with_reducible rfl)

theorem noteSource {s t : State} (h : Keeps s t) (src : Octets) (lan : Nat) : Keeps s (t.noteSource src lan) :=
  h.same rfl rfl rfl rfl rfl

theorem deliverTrunk {s t : State} (h : Keeps s t) (p : Nat) (f : TrunkFrame) (e : EtherHead) (bytes : Octets) :
    Keeps s (t.deliverTrunk p f e bytes) := by
  have hx : ∀ (at' : Tick) (d : State × Bool), Keeps s d.1 →
      Keeps s (if d.2 then d.1.capture 2 (4 + p) none (!d.2) true at' [] bytes
        else f.ask.elim (d.1.capture 2 (4 + p) none (!d.2) true at' [] bytes)
          (fun a => (d.1.capture 2 (4 + p) none (!d.2) true at' [] bytes).answerAsk a e.src)) := by
    intro at' d hd
    have hc := hd.capture 2 (4 + p) none (!d.2) true at' [] bytes
    cases f.ask with
    | none => exact ite hc hc
    | some a => exact ite hc (hc.answerAsk _ _)
  unfold State.deliverTrunk
  refine ite (h.capture _ _ _ _ _ _ _ _) (hx _ _ ?_)
  generalize e.tag = g
  cases g with
  | none => exact h
  | prp seq _ => exact h.dupCheck _ _
  | hsr seq => exact h.dupCheck _ _

theorem badFrame {s t : State} (h : Keeps s t) (p : Nat) (f : TrunkFrame) (bytes : Octets) (idle : Bool) :
    Keeps s (t.badFrame p f bytes idle) := by
  unfold State.badFrame
  repeat' first
    | with_reducible assumption | with_reducible apply Keeps.sendBlocks | with_reducible apply Keeps.capture
    | with_reducible apply Keeps.bump | split
    | with_reducible refine Keeps.parts ?_ (by with_reducible rfl) (by with_reducible rfl) (by with_reducible rfl)

theorem pauseOne {s t : State} (h : Keeps s t) (p prio quanta : Nat) : Keeps s (t.pauseOne p prio quanta) := by
  unfold State.pauseOne
  repeat' first
    | with_reducible assumption | with_reducible apply Keeps.pauseEnd | with_reducible apply Keeps.updTport | split

theorem pairMsg {s t : State} (h : Keeps s t) (src : Octets) (pairId : Nat) (old ok : Bool) :
    Keeps s (t.pairMsg src pairId old ok).1 := by
  unfold State.pairMsg
  repeat' (first | assumption | apply Keeps.checkKey | split)

theorem arbitrate {s t : State} (h : Keeps s t) (q : Pulse) (silent : Bool) (k : Nat) : Keeps s (t.arbitrate q silent k) := by
  unfold State.arbitrate
  repeat' first
    | with_reducible assumption | with_reducible refine Keeps.ite ?_ ?_ | with_reducible apply Keeps.takeOver
    | with_reducible apply Keeps.yieldTo | with_reducible apply Keeps.toResync | with_reducible apply Keeps.dropHandover
    | with_reducible apply Keeps.updCs | with_reducible apply Keeps.raiseOn | with_reducible apply Keeps.bump

theorem evaluate {s t : State} (h : Keeps s t) : Keeps s t.evaluate := by
  unfold State.evaluate
  repeat' first
    | with_reducible assumption | with_reducible apply Keeps.arbitrate | with_reducible apply Keeps.updCs
    | with_reducible apply Keeps.bump | split
    | with_reducible refine Keeps.parts ?_ (by with_reducible rfl) (by with_reducible rfl) (by with_reducible rfl)

theorem countMissed {s t : State} (h : Keeps s t) (k : Nat) : Keeps s (t.countMissed k) := by
  unfold State.countMissed
  repeat' first
    | with_reducible assumption | with_reducible apply Keeps.updCs | with_reducible apply Keeps.bumpBy | split
    | with_reducible refine Keeps.parts ?_ (by with_reducible rfl) (by with_reducible rfl) (by with_reducible rfl)

theorem ownWindow {s t : State} (h : Keeps s t) (k : Nat) (heard : List (Nat × Nat × Int)) :
    Keeps s (t.ownWindow k heard) := by
  unfold State.ownWindow
  repeat' (first | assumption | apply Keeps.updCs | apply Keeps.bump | split)

theorem pairUp {s t : State} (h : Keeps s t) (q : Pulse) : Keeps s (t.pairUp q) := by
  unfold State.pairUp
  repeat' first
    | with_reducible assumption | with_reducible apply Keeps.toResync | with_reducible apply Keeps.csGo
    | with_reducible apply Keeps.raiseOn | split
    | with_reducible refine Keeps.parts ?_ (by with_reducible rfl) (by with_reducible rfl) (by with_reducible rfl)

theorem activePulse {s t : State} (h : Keeps s t) (q : Pulse) (before : Nat) : Keeps s (t.activePulse q before) := by
  unfold State.activePulse
  repeat' first
    | with_reducible assumption | with_reducible refine Keeps.ite ?_ ?_ | with_reducible apply Keeps.yieldTo
    | with_reducible apply Keeps.bothEnd | with_reducible apply Keeps.updCs | with_reducible apply Keeps.setQ
    | with_reducible apply Keeps.stream | with_reducible apply Keeps.backlog
    | with_reducible refine Keeps.foldl ?_ (fun _ _ _ => ?_) _

theorem shadowPulse {s t : State} (h : Keeps s t) (q : Pulse) : Keeps s (t.shadowPulse q) :=
  h.same rfl rfl rfl rfl rfl

theorem takePulse {s t : State} (h : Keeps s t) (q : Pulse) : Keeps s (t.takePulse q) := by
  unfold State.takePulse
  repeat' first
    | with_reducible assumption | with_reducible apply Keeps.shadowPulse | with_reducible apply Keeps.activePulse
    | with_reducible apply Keeps.pairUp | with_reducible apply Keeps.countMissed | with_reducible apply Keeps.evaluate
    | with_reducible apply Keeps.assertStop | with_reducible apply Keeps.updCs | with_reducible apply Keeps.backlog
    | with_reducible apply Keeps.setN | split

theorem applyStreamed {s t : State} (h : Keeps s t) (ix sub sel : Nat) (v : Val) :
    Keeps s (t.applyStreamed ix sub sel v) := by
  unfold State.applyStreamed
  repeat' first
    | with_reducible assumption | with_reducible refine Keeps.ite ?_ ?_ | with_reducible apply Keeps.configureFlow
    | with_reducible apply Keeps.discardStaged | with_reducible apply Keeps.stageCell | with_reducible apply Keeps.panStopping
    | with_reducible apply Keeps.panStart | with_reducible apply Keeps.applyWrite | with_reducible apply Keeps.setP
    | with_reducible apply Keeps.updNode | with_reducible apply Keeps.setN
    | with_reducible refine Keeps.parts ?_ (by with_reducible rfl) (by with_reducible rfl) (by with_reducible rfl)

theorem putSchedule {s t : State} (h : Keeps s t) (epoch : Nat) (l : List Slotframe) (c : List (Nat × Cell)) :
    Keeps s (t.putSchedule epoch l c) := by
  unfold State.putSchedule
  repeat' first
    | with_reducible assumption | with_reducible apply Keeps.tableFrom | with_reducible apply Keeps.chartGeometry
    | with_reducible apply Keeps.setP
    | with_reducible refine Keeps.parts ?_ (by with_reducible rfl) (by with_reducible rfl) (by with_reducible rfl)

theorem applyStart {s t : State} (h : Keeps s t) (ix : Nat) (v : Val) (x2 : Tick) (bounds : List Tick) :
    Keeps s (t.applyStart ix v x2 bounds) := by
  unfold State.applyStart
  repeat' first
    | with_reducible assumption | with_reducible refine Keeps.ite ?_ ?_ | with_reducible apply Keeps.putSchedule
    | with_reducible apply Keeps.ckptStart | with_reducible apply Keeps.rehashBegin | with_reducible apply Keeps.commitStart
    | with_reducible apply Keeps.windowStart | with_reducible apply Keeps.procBegin
    | with_reducible refine Keeps.parts ?_ (by with_reducible rfl) (by with_reducible rfl) (by with_reducible rfl)

theorem applyNode {s t : State} (h : Keeps s t) (i : Nat) (n : Option Node) : Keeps s (t.applyNode i n) := by
  unfold State.applyNode
  repeat' first
    | with_reducible assumption | extract_lets +lift | with_reducible apply Keeps.enterStreamed
    | with_reducible apply Keeps.seatRefused | with_reducible apply Keeps.removalDone | with_reducible apply Keeps.removeNode
    | with_reducible apply Keeps.nodeChanged | with_reducible apply Keeps.updNode | split | (simp +zetaDelta only; split)
    | with_reducible refine Keeps.parts ?_ (by with_reducible rfl) (by with_reducible rfl) (by with_reducible rfl)

theorem dropAdmitted {s t : State} (h : Keeps s t) (ref : Nat) : Keeps s (t.dropAdmitted ref) :=
  h.same rfl rfl rfl rfl rfl

theorem rekey {s t : State} (h : Keeps s t) (a b : Nat) : Keeps s (t.rekey a b) :=
  h.same rfl rfl rfl rfl rfl

theorem adoptDecision {s t : State} (h : Keeps s t) (ctx reqId detail ref : Nat) (promise : Option Tick) (l : List Inst) :
    Keeps s (t.adoptDecision ctx reqId detail ref promise l) := by
  unfold State.adoptDecision
  dsimp only
  have hm : Keeps s ((t.ownFrame ctx reqId).elim t (fun f => t.dropAdmitted f.ref)) := by
    cases t.ownFrame ctx reqId with
    | none => exact h
    | some f => exact h.dropAdmitted _
  generalize (t.ownFrame ctx reqId).elim t (fun f => t.dropAdmitted f.ref) = u at hm ⊢
  split
  · exact hm.remember _
  · exact (hm.admitDiffers _).same rfl rfl rfl rfl rfl

theorem adopt {s t : State} (h : Keeps s t) (f : Frame) : Keeps s (t.adopt f) := by
  unfold State.adopt
  repeat' first
    | with_reducible assumption | with_reducible apply Keeps.adoptDecision | with_reducible apply Keeps.rekey
    | with_reducible apply Keeps.dropAdmitted | with_reducible apply Keeps.takeTokens | with_reducible apply Keeps.place
    | with_reducible apply Keeps.setN | split

theorem beginFull {s t : State} (h : Keeps s t) : Keeps s t.beginFull := by
  unfold State.beginFull
  dsimp only
  have hx := ((foldl (f := fun s (f : Frame) => s.dutyDropAll f.ref) h (fun _ _ h => h.dutyDropAll _) t.pilot.frames).setFrames
    []).dropWheel (fun w => w.kind ≤ 1)
  exact updCs (by exact hx.same rfl rfl rfl rfl rfl) _

theorem endFull {s t : State} (h : Keeps s t) : Keeps s t.endFull := by
  unfold State.endFull
  repeat' (first | assumption | apply Keeps.applyStreamed | apply Keeps.updCs | refine Keeps.foldl ?_ (fun _ _ _ => ?_) _)

theorem asOf {s t : State} (h : Keeps s t) (u : Tick) {f : State → State} (hf : ∀ v, Keeps s v → Keeps s (f v)) :
    Keeps s (t.asOf u f) := by
  have hv := hf { t with now := t.now - (t.time - u) / nsT } (h.same rfl rfl rfl rfl rfl)
  exact hv.same rfl rfl rfl rfl rfl

theorem takePlan {s t : State} (h : Keeps s t) (r : PlanRec) : Keeps s (t.takePlan r) := by
  unfold State.takePlan
  repeat' (first | assumption | apply Keeps.updCs | apply Keeps.bumpBy)

theorem applyRec {s t : State} (h : Keeps s t) (r : StreamRec) : Keeps s (t.applyRec r) := by
  unfold State.applyRec
  extract_lets u
  have hu : Keeps s u := h.updCs _
  cases r with
  | write ix sub sel v at' => exact (hu.updCs _).asOf _ (fun _ k => k.applyStreamed _ _ _ _)
  | start ix v at' b => exact hu.asOf _ (fun _ k => k.applyStart _ _ _ _)
  | node i n => exact hu.applyNode _ _
  | admission f => exact hu.adopt _
  | refusal ctx reqId d p => exact hu.adoptDecision _ _ _ _ _ _
  | report ref st => exact hu.report _ _ _
  | plan at' l => exact hu.takePlan _
  | reserve ctx n => exact hu.updCs _
  | mark b => cases b; exact hu.beginFull; exact hu.endFull

theorem applyMsg {s t : State} (h : Keeps s t) (m : StreamMsg) : Keeps s (t.applyMsg m) := by
  unfold State.applyMsg
  repeat' (first | assumption | apply Keeps.applyRec | apply Keeps.updCs | refine Keeps.foldl ?_ (fun _ _ _ => ?_) _ | split)

theorem drainWaiting {s t : State} (h : Keeps s t) (n : Nat) : Keeps s (t.drainWaiting n) := by
  induction n generalizing t with
  | zero => exact h
  | succ n ih =>
    unfold State.drainWaiting
    split
    · exact h
    · exact ih ((h.updCs _).applyMsg _)

theorem ptpRoles {s t : State} (h : Keeps s t) (a : Announce) : Keeps s (t.ptpRoles a) := by
  unfold State.ptpRoles
  repeat' first
    | with_reducible assumption | with_reducible refine Keeps.ite ?_ ?_ | with_reducible apply Keeps.updPtp
    | with_reducible apply Keeps.setN | with_reducible refine Keeps.foldl ?_ (fun _ _ _ => ?_) _

theorem ptpHeard {s t : State} (h : Keeps s t) (p : Nat) : Keeps s (t.ptpHeard p) := by
  unfold State.ptpHeard
  repeat' first
    | with_reducible assumption | with_reducible apply Keeps.ptpRoles | with_reducible apply Keeps.updPtp | split

theorem askDelay {s t : State} (h : Keeps s t) (p kind : Nat) : Keeps s (t.askDelay p kind) :=
  h.same rfl rfl rfl rfl rfl

theorem setAbsolute {s t : State} (h : Keeps s t) (x0 : Tick) (unc : Nat) : Keeps s (t.setAbsolute x0 unc) := by
  unfold State.setAbsolute
  repeat' first
    | with_reducible assumption | with_reducible apply Keeps.stepTime | with_reducible apply Keeps.updSx
    | with_reducible apply Keeps.setB

theorem latchPair {s t : State} (h : Keeps s t) : Keeps s t.latchPair :=
  h.same rfl rfl rfl rfl rfl

theorem pllRuns {s t : State} (h : Keeps s t) : Keeps s t.pllRuns :=
  h.same rfl rfl rfl rfl rfl

theorem resumeSaved {s t : State} (h : Keeps s t) : Keeps s t.resumeSaved := by
  unfold State.resumeSaved
  repeat' first
    | assumption | apply Keeps.sxGo | apply Keeps.raiseOn | apply Keeps.setB | apply Keeps.setN | apply Keeps.setI
    | refine Keeps.parts ?_ (by rfl) (by rfl) (by rfl)

theorem writeBlobs {s t : State} (h : Keeps s t) (l : List KeyRec) : Keeps s (t.writeBlobs l) := by
  unfold State.writeBlobs
  repeat' first
    | with_reducible assumption | with_reducible refine Keeps.ite ?_ ?_ | with_reducible apply Keeps.updBn
    | with_reducible apply Keeps.emit | with_reducible refine Keeps.foldl ?_ (fun _ _ _ => ?_) _
    | with_reducible refine Keeps.parts ?_ (by with_reducible rfl) (by with_reducible rfl) (by with_reducible rfl)

theorem keyJournal {s t : State} (h : Keeps s t) (op kind id old new handle : Nat) :
    Keeps s (t.keyJournal op kind id old new handle) :=
  h.same rfl rfl rfl rfl rfl

theorem keyCommitted {s t : State} (h : Keeps s t) (kind op id gen handle ix : Nat) :
    Keeps s (t.keyCommitted kind op id gen handle ix) := by
  unfold State.keyCommitted
  repeat' (first | assumption | apply Keeps.raiseOn)

theorem keyFails {s t : State} (h : Keeps s t) (ix kind id : Nat) (rc : Rc) : Keeps s (t.keyFails ix kind id rc) := by
  unfold State.keyFails
  repeat' (first | assumption | apply Keeps.procDone | apply Keeps.raiseOn)

theorem keyStart {s t : State} (h : Keeps s t) (replace opens proof : Bool) (material o : Octets) :
    Keeps s (t.keyStart replace opens proof material o) := by
  unfold State.keyStart
  repeat' first
    | with_reducible assumption | with_reducible apply Keeps.keyFails | with_reducible apply Keeps.keyJournal
    | with_reducible apply Keeps.updBn | split
    | with_reducible refine Keeps.parts ?_ (by with_reducible rfl) (by with_reducible rfl) (by with_reducible rfl)

theorem dropUses {s t : State} (h : Keeps s t) (it : Nat × Nat × Nat → Bool) : Keeps s (t.dropUses it) :=
  h.same rfl rfl rfl rfl rfl

theorem dropOld {s t : State} (h : Keeps s t) (run : ImportRun) : Keeps s (t.dropOld run) := by
  unfold State.dropOld
  repeat' first
    | with_reducible assumption | with_reducible apply Keeps.updBn | split
    | with_reducible refine Keeps.parts ?_ (by with_reducible rfl) (by with_reducible rfl) (by with_reducible rfl)

theorem commitKey {s t : State} (h : Keeps s t) (run : ImportRun) : Keeps s (t.commitKey run) := by
  unfold State.commitKey
  repeat' first
    | with_reducible assumption | with_reducible apply Keeps.dropOld | with_reducible apply Keeps.dropUses
    | with_reducible apply Keeps.keyCommitted | with_reducible apply Keeps.keyJournal | with_reducible apply Keeps.writeBlobs
    | with_reducible apply Keeps.updBn | with_reducible apply Keeps.procDone | split

theorem dropImport {s t : State} (h : Keeps s t) (run : ImportRun) : Keeps s (t.dropImport run) := by
  unfold State.dropImport
  repeat' first
    | with_reducible assumption | with_reducible apply Keeps.keyJournal | with_reducible apply Keeps.updBn | split

theorem importFails {s t : State} (h : Keeps s t) (run : ImportRun) (rc : Rc) : Keeps s (t.importFails run rc) := by
  unfold State.importFails
  repeat' (first | assumption | apply Keeps.dropImport | apply Keeps.keyFails)

theorem eraseKey {s t : State} (h : Keeps s t) (kind id : Nat) : Keeps s (t.eraseKey kind id) :=
  h.same rfl rfl rfl rfl rfl

theorem removeKey {s t : State} (h : Keeps s t) (kind id handle : Nat) : Keeps s (t.removeKey kind id handle) := by
  unfold State.removeKey
  extract_lets gen
  exact (h.keyJournal _ _ _ _ _ _).eraseKey _ _

theorem dropGroupOld {s t : State} (h : Keeps s t) (x : Rollover) (old : Option Nat) : Keeps s (t.dropGroupOld x old) := by
  unfold State.dropGroupOld
  repeat' first
    | with_reducible assumption | with_reducible apply Keeps.removeKey | with_reducible apply Keeps.keyCommitted
    | with_reducible apply Keeps.updBn | split
    | with_reducible refine Keeps.parts ?_ (by with_reducible rfl) (by with_reducible rfl) (by with_reducible rfl)

theorem abortRetune {s t : State} (h : Keeps s t) : Keeps s t.abortRetune := by
  unfold State.abortRetune
  repeat' first
    | with_reducible assumption | with_reducible apply Keeps.retuneOff | with_reducible apply Keeps.radioPower
    | with_reducible refine Keeps.foldl ?_ (fun _ _ _ => ?_) _
    | with_reducible refine Keeps.parts ?_ (by with_reducible rfl) (by with_reducible rfl) (by with_reducible rfl)

theorem abortCal {s t : State} (h : Keeps s t) (c : Nat) : Keeps s (t.abortCal c) := by
  unfold State.abortCal
  repeat' first
    | with_reducible assumption | with_reducible apply Keeps.synth | with_reducible apply Keeps.updChain | split
    | with_reducible refine Keeps.parts ?_ (by with_reducible rfl) (by with_reducible rfl) (by with_reducible rfl)

theorem abortImport {s t : State} (h : Keeps s t) (x0 : Nat) : Keeps s (t.abortImport x0) := by
  unfold State.abortImport
  repeat' (first | with_reducible assumption | with_reducible apply Keeps.dropImport | split)

theorem testResult {s t : State} (h : Keeps s t) (x0 : TestRun) (out micros : Nat) :
    Keeps s (t.testResult x0 out micros) := by
  unfold State.testResult
  repeat' (first | assumption | apply Keeps.raise)

theorem holdHunters {s t : State} (h : Keeps s t) (p : Nat) (held : Bool) : Keeps s (t.holdHunters p held) :=
  h.same rfl rfl rfl rfl rfl

theorem calChainOff {s t : State} (h : Keeps s t) (c : Nat) : Keeps s (t.calChainOff c) := by
  unfold State.calChainOff
  repeat' (first | assumption | apply Keeps.femReceive | apply Keeps.switch)

theorem abortTest {s t : State} (h : Keeps s t) (x0 : TestRun) : Keeps s (t.abortTest x0) := by
  unfold State.abortTest
  repeat' first
    | with_reducible assumption | with_reducible refine Keeps.ite ?_ ?_ | with_reducible apply Keeps.calChainOff
    | with_reducible apply Keeps.holdHunters | with_reducible apply Keeps.testResult
    | with_reducible refine Keeps.parts ?_ (by with_reducible rfl) (by with_reducible rfl) (by with_reducible rfl)

/-- What an abort does to the work of a procedure, if it is not refused. -/
def AtWork (s : State) : Option State → Prop
  | none => True
  | some u => Keeps s u

theorem iteWork {s : State} {c : Prop} [Decidable c] {p q : Option State} (h : AtWork s p) (k : AtWork s q) :
    AtWork s (if c then p else q) := by split <;> assumption

theorem someWork {s u : State} (h : Keeps s u) : AtWork s (some u) := h

theorem atWork {s u : State} {p : Option State} (h : AtWork s p) (e : p = some u) : Keeps s u := by subst e; exact h

theorem abortWork {s t : State} (h : Keeps s t) (ix : Nat) : AtWork s (t.abortWork ix) := by
  unfold State.abortWork
  dsimp only
  repeat' (first | exact trivial | with_reducible refine iteWork ?_ ?_ | split)
  all_goals with_reducible refine someWork ?_
  all_goals first
    | with_reducible exact h
    | with_reducible exact h.abortRetune
    | with_reducible exact h.abortImport _
    | with_reducible exact h.dropGroupOld _ _
    | with_reducible exact h.updBn _
    | with_reducible exact h.updCs _
    | with_reducible exact h.updSx _
    | with_reducible exact foldl h (fun _ _ h => h.abortTest _) _
    | with_reducible exact foldl h (fun _ _ h => h.endLoopback _) _
    | with_reducible exact (h.procAborted _).rehashEnd _ _
    | with_reducible refine ite h ?_
    | skip
  all_goals first
    | with_reducible exact h.parts (by with_reducible rfl) (by with_reducible rfl) (by with_reducible rfl)
    | exact (h.wakeSource _).same rfl rfl rfl rfl rfl
    | exact (foldl h (fun _ _ h => h.abortCal _) _).same rfl rfl rfl rfl rfl
    | exact (foldl h (fun _ _ h => h.updNode _ _) _).same rfl rfl rfl rfl rfl

theorem resetProc {s t : State} (h : Keeps s t) (ix : Nat) : Keeps s (t.resetProc ix) := by
  unfold State.resetProc
  cases e : t.abortWork ix with
  | none => exact h.procAborted ix
  | some u => exact (atWork (h.abortWork ix) e).procAborted ix

theorem updRst {s t : State} (h : Keeps s t) (f : ResetSt → ResetSt) : Keeps s (t.updRst f) :=
  h.same rfl rfl rfl rfl rfl

theorem updPwr {s t : State} (h : Keeps s t) (f : Power → Power) : Keeps s (t.updPwr f) :=
  h.same rfl rfl rfl rfl rfl

theorem loseHelm {s t : State} (h : Keeps s t) (dram ledger served : Bool) : Keeps s (t.loseHelm dram ledger served) := by
  unfold State.loseHelm
  repeat' (first | assumption | apply Keeps.restage | refine Keeps.parts ?_ (by rfl) (by rfl) (by rfl))

theorem loseServo {s t : State} (h : Keeps s t) : Keeps s t.loseServo := by
  unfold State.loseServo
  repeat' first
    | with_reducible assumption | with_reducible apply Keeps.updSx | with_reducible apply Keeps.setN
    | with_reducible refine Keeps.foldl ?_ (fun _ _ _ => ?_) _ | split

theorem loseAlmanac {s t : State} (h : Keeps s t) (dram : Bool) : Keeps s (t.loseAlmanac dram) :=
  h.same rfl rfl rfl rfl rfl

theorem loseDelta {s t : State} (h : Keeps s t) : Keeps s t.loseDelta := by
  unfold State.loseDelta
  repeat' (first | assumption | apply Keeps.fresh | split | refine Keeps.parts ?_ (by rfl) (by rfl) (by rfl))

theorem losePilot {s t : State} (h : Keeps s t) : Keeps s t.losePilot :=
  h.same rfl rfl rfl rfl rfl

theorem noteLost {s t : State} (h : Keeps s t) (source : Nat) (dram : Bool) : Keeps s (t.noteLost source dram) := by
  unfold State.noteLost
  repeat' (first | assumption | refine Keeps.ite ?_ ?_ | apply Keeps.updRst | apply Keeps.fresh)

theorem reloadTable {s t : State} (h : Keeps s t) : Keeps s t.reloadTable := by
  unfold State.reloadTable
  repeat' first
    | with_reducible assumption | with_reducible apply Keeps.updRst | with_reducible apply Keeps.tableFrom | split
    | with_reducible refine Keeps.parts ?_ (by with_reducible rfl) (by with_reducible rfl) (by with_reducible rfl)

theorem loseDram {s t : State} (h : Keeps s t) : Keeps s t.loseDram :=
  h.same rfl rfl rfl rfl rfl

theorem loseReceive {s t : State} (h : Keeps s t) (r : List Nat) : Keeps s (t.loseReceive r) := by
  unfold State.loseReceive
  repeat' (first | assumption | apply Keeps.blankRecs | split | refine Keeps.parts ?_ (by rfl) (by rfl) (by rfl))

theorem loseChain {s t : State} (h : Keeps s t) (c : Nat) : Keeps s (t.loseChain c) := by
  unfold State.loseChain
  repeat' first
    | with_reducible assumption | with_reducible apply Keeps.retuneOff | with_reducible apply Keeps.cutGroup
    | with_reducible apply Keeps.updChain | with_reducible apply Keeps.updPort | with_reducible apply Keeps.setN
    | with_reducible refine Keeps.foldl ?_ (fun _ _ _ => ?_) _ | split

theorem loseFront {s t : State} (h : Keeps s t) : Keeps s t.loseFront :=
  h.same rfl rfl rfl rfl rfl

theorem loseTrunk {s t : State} (h : Keeps s t) (p : Nat) : Keeps s (t.loseTrunk p) := by
  unfold State.loseTrunk
  repeat' first
    | with_reducible assumption | with_reducible apply Keeps.leaveUp | with_reducible apply Keeps.retrained
    | with_reducible apply Keeps.disable | split

theorem loseBinnacle {s t : State} (h : Keeps s t) : Keeps s t.loseBinnacle :=
  h.same rfl rfl rfl rfl rfl

theorem loseMgmt {s t : State} (h : Keeps s t) : Keeps s t.loseMgmt := by
  unfold State.loseMgmt
  dsimp only
  refine Keeps.same (t := List.foldl _ _ _) (foldl ?_ (fun _ _ h => h.closeSession _ _ _) _) rfl rfl rfl rfl rfl
  exact h.fifos (fun f => { f with stalled := [], observer := none }) (fun _ hf => hf) rfl rfl rfl rfl rfl

theorem loseRequests {s t : State} (h : Keeps s t) : Keeps s t.loseRequests := by
  unfold State.loseRequests
  extract_lets w a b c
  have ha : Keeps s a := foldl h (fun _ _ h => h.dropStalled _) _
  have hc : Keeps s c := ha.fifos (fun f => { f with observer := none }) (fun _ hf => hf) rfl rfl rfl rfl rfl
  exact foldl hc (fun _ _ h => h.touch _) _

theorem emptyFifos {s t : State} (h : Keeps s t) : Keeps s t.emptyFifos :=
  h.fifos (fun f => { f with recs := [], lost := 0, flushed := 0, nextSeq := 0, held := [] })
    (fun _ _ => ⟨Nat.zero_le _, Nat.zero_le _⟩) rfl rfl rfl rfl rfl

theorem abortProcs {s t : State} (h : Keeps s t) (r : List Nat) (source detail : Nat) :
    Keeps s (t.abortProcs r source detail) := by
  unfold State.abortProcs
  repeat' first
    | with_reducible assumption | with_reducible apply Keeps.resetProc
    | with_reducible refine Keeps.foldl ?_ (fun _ _ _ => ?_) _ | split

theorem loseObjs {s t : State} (h : Keeps s t) (r aborted : List Nat) : Keeps s (t.loseObjs r aborted) := by
  refine h.stores (fun hw => ?_) id rfl rfl rfl
  unfold State.loseObjs
  exact Store.wf_puts _ (Store.wf_filter _ hw)

theorem noteCause {s t : State} (h : Keeps s t) (source detail dom : Nat) : Keeps s (t.noteCause source detail dom) := by
  unfold State.noteCause
  repeat' (first | with_reducible assumption | with_reducible apply Keeps.updRst | with_reducible apply Keeps.setN | split)

theorem loseDomains {s t : State} (h : Keeps s t) (r : List Nat) (source : Nat) (dram : Bool) :
    Keeps s (t.loseDomains r source dram) := by
  unfold State.loseDomains
  extract_lets served s1 s2 s3 s4 s5 s6 x7 s7 x8 s8
  have h1 : Keeps s s1 := foldl h (fun u p hu => by split; exact hu.loseTrunk p; exact hu) _
  have h2 : Keeps s s2 := foldl h1 (fun u c hu => by split; exact hu.loseChain c; exact hu) _
  have h3 : Keeps s s3 := h2.loseReceive r
  have h4 : Keeps s s4 := ite h3.loseFront.loseDelta h3
  have h5 : Keeps s s5 := ite (((h4.noteLost source dram).losePilot).loseAlmanac dram) h4
  have h6 : Keeps s s6 := ite ((h5.loseHelm dram (!r.contains 4) served).loseServo) h5
  have h7 : Keeps s s7 := ite (h6.same rfl rfl rfl rfl rfl) h6
  have h8 : Keeps s s8 := ite (h7.same rfl rfl rfl rfl rfl) h7
  exact ite h8 (loseDram (ite h8 h8.reloadTable))

theorem stopPll {s t : State} (h : Keeps s t) (cause : Nat) : Keeps s (t.stopPll cause) := by
  unfold State.stopPll
  repeat' (first | assumption | apply Keeps.updRst | apply Keeps.updSx | split)

theorem intoReset {s t : State} (h : Keeps s t) (r : List Nat) (source detail : Nat) : Keeps s (t.intoReset r source detail) := by
  unfold State.intoReset
  extract_lets a run b aborted c dram d x lb e f g i m k
  have ha : Keeps s a := ite h.loseMgmt (ite h.loseRequests h)
  have hb : Keeps s b := ha.abortProcs r source detail
  have hc : Keeps s c := hb.updRst _
  have hd : Keeps s d := hc.loseDomains r source dram
  have he : Keeps s e := ite (hd.loseBinnacle.same rfl rfl rfl rfl rfl) hd
  have hf : Keeps s f := he.loseObjs r aborted
  have hg : Keeps s g := ite (hf.updPwr _) hf
  have hi : Keeps s i := ite (hg.updPwr _) hg
  have hk : Keeps s k := ite (((hi.biasFor _).setN _ _).updPwr _) hi
  exact foldl hk (fun _ _ h => ite h (h.setCond _ _)) _

theorem assertReset {s t : State} (h : Keeps s t) (source dom detail : Nat) : Keeps s (t.assertReset source dom detail) := by
  unfold State.assertReset
  repeat' first
    | with_reducible assumption | with_reducible apply Keeps.intoReset | with_reducible apply Keeps.stopPll
    | with_reducible apply Keeps.noteCause | with_reducible apply Keeps.emptyFifos | with_reducible apply Keeps.updRst | split
    | with_reducible refine Keeps.parts ?_ (by with_reducible rfl) (by with_reducible rfl) (by with_reducible rfl)

theorem voidKey {s t : State} (h : Keeps s t) (kind id : Nat) : Keeps s (t.voidKey kind id) := by
  unfold State.voidKey
  repeat' (first | assumption | apply Keeps.updBn | split)

theorem counterLost {s t : State} (h : Keeps s t) (k : Nat) : Keeps s (t.counterLost k) := by
  unfold State.counterLost
  repeat' first
    | with_reducible assumption | with_reducible apply Keeps.voidKey | with_reducible apply Keeps.setP
    | with_reducible apply Keeps.updBn | with_reducible apply Keeps.setCeiling | split

theorem dropCopy {s t : State} (h : Keeps s t) (kind : Nat) : Keeps s (t.dropCopy kind) :=
  h.same rfl rfl rfl rfl rfl

theorem recordGone {s t : State} (h : Keeps s t) (x : LbTarget) : Keeps s (t.recordGone x) := by
  unfold State.recordGone
  cases x with
  | value k => exact set (by exact h.stores id (Store.wf_filter _) rfl rfl rfl) _ _
  | counter k => exact h.counterLost k
  | certificate n => exact h.set _ _
  | changeJournal => exact h.trans ⟨rfl, id, id, rfl, id, fun _ => ⟨by simp, by simp [journalSize]⟩⟩
  | _ => exact h.same rfl rfl rfl rfl rfl

theorem recordDiffers {s t : State} (h : Keeps s t) (x0 : LbTarget) (a b : Nat) : Keeps s (t.recordDiffers x0 a b) := by
  unfold State.recordDiffers
  repeat' first
    | with_reducible assumption | with_reducible apply Keeps.recordGone | with_reducible apply Keeps.updRst
    | with_reducible apply Keeps.setP | with_reducible apply Keeps.updBn | with_reducible apply Keeps.setCeiling | split
    | with_reducible refine Keeps.parts ?_ (by with_reducible rfl) (by with_reducible rfl) (by with_reducible rfl)

theorem lbRead {s t : State} (h : Keeps s t) (x : LbRead) : Keeps s (t.lbRead x) := by
  unfold State.lbRead
  repeat' first
    | with_reducible assumption | with_reducible apply Keeps.recordDiffers | with_reducible apply Keeps.recordGone
    | with_reducible apply Keeps.bumpQ | with_reducible apply Keeps.raise | split

theorem resumeCounter {s t : State} (h : Keeps s t) (k c : Nat) : Keeps s (t.resumeCounter k c) := by
  unfold State.resumeCounter
  repeat' first
    | with_reducible assumption | with_reducible apply Keeps.setUses | with_reducible apply Keeps.updBn
    | with_reducible apply Keeps.setCeiling | with_reducible apply Keeps.setN | split

theorem recoverKey {s t : State} (h : Keeps s t) (j : KeyJ) : Keeps s (t.recoverKey j) := by
  unfold State.recoverKey
  repeat' first
    | with_reducible assumption | with_reducible apply Keeps.eraseKey | with_reducible apply Keeps.keyJournal
    | with_reducible apply Keeps.updBn | with_reducible apply Keeps.raiseOn | split
    | with_reducible refine Keeps.parts ?_ (by with_reducible rfl) (by with_reducible rfl) (by with_reducible rfl)

theorem deviceKeys {s t : State} (h : Keeps s t) : Keeps s t.deviceKeys := by
  unfold State.deviceKeys
  repeat' first
    | with_reducible assumption | with_reducible apply Keeps.setP | with_reducible apply Keeps.raiseOn
    | with_reducible apply Keeps.set | split
    | with_reducible refine Keeps.parts ?_ (by with_reducible rfl) (by with_reducible rfl) (by with_reducible rfl)

theorem makeRoot {s t : State} (h : Keeps s t) (readsBack : Bool) : Keeps s (t.makeRoot readsBack) := by
  unfold State.makeRoot
  repeat' first
    | with_reducible assumption | with_reducible apply Keeps.deviceKeys | with_reducible apply Keeps.setP
    | with_reducible apply Keeps.updBn | split
    | with_reducible refine Keeps.parts ?_ (by with_reducible rfl) (by with_reducible rfl) (by with_reducible rfl)

theorem releaseBinnacle {s t : State} (h : Keeps s t) (rootOk : Bool) : Keeps s (t.releaseBinnacle rootOk) := by
  unfold State.releaseBinnacle
  repeat' first
    | with_reducible assumption | with_reducible apply Keeps.makeRoot | with_reducible apply Keeps.deviceKeys
    | with_reducible apply Keeps.recoverKey | with_reducible apply Keeps.updBn | with_reducible apply Keeps.raiseOn
    | with_reducible apply Keeps.setN | with_reducible refine Keeps.foldl ?_ (fun _ _ _ => ?_) _ | split
    | with_reducible refine Keeps.parts ?_ (by with_reducible rfl) (by with_reducible rfl) (by with_reducible rfl)

theorem releaseWindows {s t : State} (h : Keeps s t) : Keeps s t.releaseWindows := by
  unfold State.releaseWindows
  repeat' first
    | with_reducible assumption | with_reducible apply Keeps.windowApplied | with_reducible apply Keeps.forceSet
    | with_reducible apply Keeps.chartWindows | split
    | with_reducible refine Keeps.parts ?_ (by with_reducible rfl) (by with_reducible rfl) (by with_reducible rfl)

theorem raiseSaved {s t : State} (h : Keeps s t) : Keeps s t.raiseSaved := by
  unfold State.raiseSaved
  repeat' first
    | with_reducible assumption | with_reducible apply Keeps.raiseOn | split
    | with_reducible refine Keeps.parts ?_ (by with_reducible rfl) (by with_reducible rfl) (by with_reducible rfl)

theorem releaseScrub {s t : State} (h : Keeps s t) : Keeps s t.releaseScrub := by
  unfold State.releaseScrub
  repeat' (first | assumption | apply Keeps.setN | refine Keeps.parts ?_ (by rfl) (by rfl) (by rfl))

theorem releaseAerials {s t : State} (h : Keeps s t) : Keeps s t.releaseAerials := by
  unfold State.releaseAerials
  repeat' (first | assumption | apply Keeps.setN)

theorem firstSeeds {s t : State} (h : Keeps s t) : Keeps s t.firstSeeds := by
  unfold State.firstSeeds
  repeat' (first | with_reducible assumption | with_reducible apply Keeps.random | with_reducible apply Keeps.setP | split)

theorem releaseSafe {s t : State} (h : Keeps s t) (rootOk : Bool) (rd : List LbRead) : Keeps s (t.releaseSafe rootOk rd) := by
  unfold State.releaseSafe
  repeat' first
    | with_reducible assumption | with_reducible apply Keeps.firstSeeds | with_reducible apply Keeps.releaseAerials
    | with_reducible apply Keeps.releaseScrub | with_reducible apply Keeps.raiseSaved
    | with_reducible apply Keeps.releaseWindows | with_reducible apply Keeps.releaseBinnacle
    | with_reducible apply Keeps.resumeCounter | with_reducible apply Keeps.lbRead | with_reducible apply Keeps.setP
    | with_reducible apply Keeps.setCond | with_reducible refine Keeps.foldl ?_ (fun _ _ _ => ?_) _

theorem releaseCore {s t : State} (h : Keeps s t) : Keeps s t.releaseCore :=
  h.same rfl rfl rfl rfl rfl

theorem rebuildDuty {s t : State} (h : Keeps s t) : Keeps s t.rebuildDuty := by
  unfold State.rebuildDuty
  repeat' (first | assumption | apply Keeps.raiseOn | split | refine Keeps.parts ?_ (by rfl) (by rfl) (by rfl))

theorem releaseHelm {s t : State} (h : Keeps s t) : Keeps s t.releaseHelm := by
  unfold State.releaseHelm
  repeat' first
    | with_reducible assumption | with_reducible apply Keeps.rebuildDuty | with_reducible apply Keeps.updRst
    | with_reducible apply Keeps.ptpLink | with_reducible apply Keeps.sxGo | with_reducible apply Keeps.csGo
    | with_reducible apply Keeps.setCond | with_reducible refine Keeps.foldl ?_ (fun _ _ _ => ?_) _ | split

theorem releasePkt {s t : State} (h : Keeps s t) : Keeps s t.releasePkt := by
  unfold State.releasePkt
  repeat' first
    | with_reducible assumption | with_reducible apply Keeps.random | with_reducible apply Keeps.setCeiling
    | with_reducible apply Keeps.setCond | with_reducible apply Keeps.setN | split
    | with_reducible refine Keeps.parts ?_ (by with_reducible rfl) (by with_reducible rfl) (by with_reducible rfl)

theorem releaseDom {s t : State} (h : Keeps s t) (d : Nat) (rootOk : Bool) (rd : List LbRead) :
    Keeps s (t.releaseDom d rootOk rd) := by
  unfold State.releaseDom
  repeat' first
    | with_reducible assumption | with_reducible refine Keeps.ite ?_ ?_ | with_reducible apply Keeps.releasePkt
    | with_reducible apply Keeps.releaseHelm | with_reducible apply Keeps.releaseCore | with_reducible apply Keeps.releaseSafe
    | with_reducible apply Keeps.enablePort | with_reducible apply Keeps.holdGain | with_reducible apply Keeps.radioPower
    | with_reducible apply Keeps.chanPower | with_reducible apply Keeps.setCond

theorem lodestarEvent {s t : State} (h : Keeps s t) (what : Nat) : Keeps s (t.lodestarEvent what) := by
  unfold State.lodestarEvent
  repeat' (first | assumption | apply Keeps.raise)

theorem lodestarOn {s t : State} (h : Keeps s t) : Keeps s t.lodestarOn := by
  unfold State.lodestarOn
  repeat' first
    | with_reducible assumption | with_reducible apply Keeps.lodestarEvent | with_reducible apply Keeps.updRst
    | with_reducible apply Keeps.setB
    | with_reducible refine Keeps.parts ?_ (by with_reducible rfl) (by with_reducible rfl) (by with_reducible rfl)

theorem lodestarOff {s t : State} (h : Keeps s t) : Keeps s t.lodestarOff := by
  unfold State.lodestarOff
  repeat' first
    | with_reducible assumption | with_reducible apply Keeps.lodestarEvent | with_reducible apply Keeps.spoolDrain
    | with_reducible apply Keeps.setB | with_reducible refine Keeps.foldl ?_ (fun _ _ _ => ?_) _ | split
    | with_reducible refine Keeps.parts ?_ (by with_reducible rfl) (by with_reducible rfl) (by with_reducible rfl)

theorem chartState {s t : State} (h : Keeps s t) : Keeps s t.chartState := by
  unfold State.chartState
  repeat' (first | assumption | apply Keeps.updRst | apply Keeps.wearOut | apply Keeps.bump | split)

theorem leaveHold {s t : State} (h : Keeps s t) : Keeps s t.leaveHold := by
  unfold State.leaveHold
  repeat' first
    | with_reducible assumption | with_reducible apply Keeps.lodestarOff | with_reducible apply Keeps.gating
    | with_reducible apply Keeps.stateChange | with_reducible apply Keeps.coreWake | with_reducible apply Keeps.fresh

theorem stopClocks {s t : State} (h : Keeps s t) (ds : List Nat) : Keeps s (t.stopClocks ds) := by
  unfold State.stopClocks
  repeat' (first | assumption | apply Keeps.setCond | refine Keeps.foldl ?_ (fun _ _ _ => ?_) _ | split)

theorem entryWork {s t : State} (h : Keeps s t) (step : Nat) : Keeps s (t.entryWork step) := by
  unfold State.entryWork
  repeat' first
    | with_reducible assumption | with_reducible apply Keeps.stopClocks | with_reducible apply Keeps.chartState
    | with_reducible apply Keeps.stopPll | with_reducible apply Keeps.loseTrunk | with_reducible apply Keeps.mirrorSx
    | with_reducible apply Keeps.lbDrain | with_reducible apply Keeps.biasFor | with_reducible apply Keeps.bumpBy
    | with_reducible refine Keeps.foldl ?_ (fun _ _ _ => ?_) _ | split
    | with_reducible refine Keeps.parts ?_ (by with_reducible rfl) (by with_reducible rfl) (by with_reducible rfl)

theorem abandon {s t : State} (h : Keeps s t) (e : Entry) : Keeps s (t.abandon e) := by
  unfold State.abandon
  repeat' first
    | with_reducible assumption | with_reducible apply Keeps.updPwr | with_reducible apply Keeps.updRst
    | with_reducible apply Keeps.enablePort | with_reducible apply Keeps.procAborted | with_reducible apply Keeps.raiseOn
    | with_reducible apply Keeps.biasFor | with_reducible apply Keeps.setCond | with_reducible apply Keeps.setN
    | with_reducible apply Keeps.set | with_reducible refine Keeps.foldl ?_ (fun _ _ _ => ?_) _ | split
    | with_reducible refine Keeps.parts ?_ (by with_reducible rfl) (by with_reducible rfl) (by with_reducible rfl)

theorem enterStandby {s t : State} (h : Keeps s t) (e : Entry) : Keeps s (t.enterStandby e) := by
  unfold State.enterStandby
  repeat' first
    | with_reducible assumption | with_reducible apply Keeps.loseDomains | with_reducible apply Keeps.loseObjs
    | with_reducible apply Keeps.updPwr | with_reducible apply Keeps.raiseOn | with_reducible apply Keeps.setCond
    | with_reducible refine Keeps.foldl ?_ (fun _ _ _ => ?_) _
    | with_reducible refine Keeps.parts ?_ (by with_reducible rfl) (by with_reducible rfl) (by with_reducible rfl)

theorem entryTick {s t : State} (h : Keeps s t) : Keeps s t.entryTick := by
  unfold State.entryTick
  repeat' first
    | with_reducible assumption | with_reducible apply Keeps.enterStandby | with_reducible apply Keeps.abandon
    | with_reducible apply Keeps.entryWork | with_reducible apply Keeps.updPwr | split
    | with_reducible refine Keeps.parts ?_ (by with_reducible rfl) (by with_reducible rfl) (by with_reducible rfl)

theorem domainReset {s t : State} (h : Keeps s t) (d : Nat) : Keeps s (t.domainReset d) := by
  unfold State.domainReset
  repeat' (first | assumption | apply Keeps.assertReset | apply Keeps.updRst)

theorem domainTick {s t : State} (h : Keeps s t) : Keeps s t.domainTick := by
  unfold State.domainTick
  repeat' (first | with_reducible assumption | with_reducible apply Keeps.domainReset | split)

theorem biasTick {s t : State} (h : Keeps s t) : Keeps s t.biasTick := by
  unfold State.biasTick
  repeat' first
    | with_reducible assumption | with_reducible apply Keeps.updPwr | with_reducible apply Keeps.setCond
    | with_reducible refine Keeps.foldl ?_ (fun _ _ _ => ?_) _ | split

theorem idle {s t : State} (h : Keeps s t) : Keeps s t.idle := by
  unfold State.idle
  repeat' first
    | with_reducible assumption | with_reducible apply Keeps.biasTick | with_reducible apply Keeps.domainTick
    | with_reducible apply Keeps.entryTick | with_reducible apply Keeps.synthRest | with_reducible apply Keeps.synthRelock
    | split | with_reducible refine Keeps.parts ?_ (by with_reducible rfl) (by with_reducible rfl) (by with_reducible rfl)

theorem sense {s t : State} (h : Keeps s t) (mv : Nat) : Keeps s (t.sense mv) := by
  unfold State.sense
  repeat' (first | with_reducible assumption | with_reducible apply Keeps.updPwr | with_reducible apply Keeps.setN)

theorem lbHead {s t : State} (h : Keeps s t) : Keeps s t.lbHead := by
  unfold State.lbHead
  repeat' first
    | with_reducible assumption | with_reducible apply Keeps.lbCommit | split
    | with_reducible refine Keeps.parts ?_ (by with_reducible rfl) (by with_reducible rfl) (by with_reducible rfl)

theorem radioOff {s t : State} (h : Keeps s t) : Keeps s t.radioOff := by
  unfold State.radioOff
  repeat' first
    | with_reducible assumption | with_reducible apply Keeps.loseTrunk | with_reducible apply Keeps.loseChain
    | with_reducible apply Keeps.loseReceive | with_reducible apply Keeps.setCond
    | with_reducible refine Keeps.foldl ?_ (fun _ _ _ => ?_) _

theorem goOff {s t : State} (h : Keeps s t) : Keeps s t.goOff := by
  unfold State.goOff
  repeat' first
    | with_reducible assumption | with_reducible apply Keeps.updPwr | with_reducible apply Keeps.setCond
    | with_reducible refine Keeps.foldl ?_ (fun _ _ _ => ?_) _

theorem pfail {s t : State} (h : Keeps s t) : Keeps s t.pfail :=
  h.same rfl rfl rfl rfl rfl

theorem anchorStart {s t : State} (h : Keeps s t) (thermal : Bool) (mv : Nat) : Keeps s (t.anchorStart thermal mv) := by
  unfold State.anchorStart
  repeat' first
    | with_reducible assumption | with_reducible apply Keeps.pfail | with_reducible apply Keeps.goOff
    | with_reducible apply Keeps.radioOff | with_reducible apply Keeps.lbHead | with_reducible apply Keeps.assertReset
    | with_reducible apply Keeps.updPwr | with_reducible apply Keeps.fresh | split
    | with_reducible refine Keeps.parts ?_ (by with_reducible rfl) (by with_reducible rfl) (by with_reducible rfl)

theorem anchorSave {s t : State} (h : Keeps s t) (n : Nat) : Keeps s (t.anchorSave n) := by
  unfold State.anchorSave
  repeat' first
    | with_reducible assumption | with_reducible refine Keeps.ite ?_ ?_ | with_reducible refine Keeps.iteFst ?_ ?_
    | with_reducible apply Keeps.chartState | with_reducible apply Keeps.updSx | dsimp only
    | with_reducible refine Keeps.parts ?_ (by with_reducible rfl) (by with_reducible rfl) (by with_reducible rfl)

theorem anchorEnd {s t : State} (h : Keeps s t) (a : Anchor) (out n detail : Nat) (back : Bool) :
    Keeps s (t.anchorEnd a out n detail back) := by
  unfold State.anchorEnd
  repeat' first
    | with_reducible assumption | with_reducible apply Keeps.anchorSave | with_reducible apply Keeps.pfail
    | with_reducible apply Keeps.goOff | with_reducible apply Keeps.assertReset | with_reducible apply Keeps.stopPll
    | with_reducible apply Keeps.updPwr | with_reducible apply Keeps.setP | split

theorem anchorCut {s t : State} (h : Keeps s t) : Keeps s t.anchorCut := by
  unfold State.anchorCut
  repeat' (first | with_reducible assumption | with_reducible apply Keeps.anchorEnd | split)

theorem leaveOff {s t : State} (h : Keeps s t) : Keeps s t.leaveOff := by
  unfold State.leaveOff
  repeat' first
    | with_reducible assumption | with_reducible apply Keeps.updPwr | with_reducible apply Keeps.setCond
    | with_reducible refine Keeps.foldl ?_ (fun _ _ _ => ?_) _ | split

theorem trimStart {s t : State} (h : Keeps s t) : Keeps s t.trimStart := by
  unfold State.trimStart
  repeat' (first | assumption | apply Keeps.updRst | apply Keeps.setB | split)

theorem calRestart {s t : State} (h : Keeps s t) (cause : Nat) : Keeps s (t.calRestart cause) := by
  unfold State.calRestart
  repeat' first
    | with_reducible assumption | with_reducible apply Keeps.setOsf | with_reducible apply Keeps.calRelease
    | with_reducible apply Keeps.setCal | with_reducible apply Keeps.updSx | with_reducible apply Keeps.setB
    | with_reducible apply Keeps.setN

theorem aonLoss {s t : State} (h : Keeps s t) (cause : Nat) : Keeps s (t.aonLoss cause) := by
  unfold State.aonLoss
  repeat' first
    | with_reducible assumption | with_reducible apply Keeps.calRestart | with_reducible apply Keeps.anchorCut
    | with_reducible apply Keeps.assertReset | with_reducible apply Keeps.updPwr | with_reducible apply Keeps.updRst
    | with_reducible apply Keeps.updSx | with_reducible apply Keeps.setB | with_reducible apply Keeps.setN

theorem latchStraps {s t : State} (h : Keeps s t) (x : Straps) : Keeps s (t.latchStraps x) := by
  unfold State.latchStraps
  repeat' (first | assumption | apply Keeps.updSx | apply Keeps.setN)

theorem sourceGone {s t : State} (h : Keeps s t) (source : Nat) : Keeps s (t.sourceGone source) := by
  unfold State.sourceGone
  repeat' (first | assumption | apply Keeps.trimStart | apply Keeps.updRst)

theorem jtagLoad {s t : State} (h : Keeps s t) (ir : Option JtagIr) : Keeps s (t.jtagLoad ir) :=
  h.same rfl rfl rfl rfl rfl

theorem tackReset {s t : State} (h : Keeps s t) (detail : Nat) : Keeps s (t.tackReset detail) := by
  unfold State.tackReset
  repeat' first
    | with_reducible assumption | with_reducible apply Keeps.assertReset | with_reducible apply Keeps.updRst
    | with_reducible refine Keeps.parts ?_ (by with_reducible rfl) (by with_reducible rfl) (by with_reducible rfl)

theorem trimWord {s t : State} (h : Keeps s t) (w : TrimWord) : Keeps s (t.trimWord w) := by
  unfold State.trimWord
  repeat' first
    | with_reducible assumption | with_reducible apply Keeps.setP | with_reducible apply Keeps.raise
    | with_reducible apply Keeps.setN | split
    | with_reducible refine Keeps.parts ?_ (by with_reducible rfl) (by with_reducible rfl) (by with_reducible rfl)

theorem syncMode {s t : State} (h : Keeps s t) : Keeps s t.syncMode := by
  unfold State.syncMode
  repeat' (first | assumption | apply Keeps.updPwr | apply Keeps.biasFor | apply Keeps.setN)

theorem releaseOne {s t : State} (h : Keeps s t) (rootOk : Bool) (rd : List LbRead) (d : Nat) :
    Keeps s (t.releaseOne rootOk rd d) := by
  unfold State.releaseOne
  repeat' first
    | with_reducible assumption | with_reducible apply Keeps.syncMode | with_reducible apply Keeps.releaseDom
    | with_reducible apply Keeps.updRst | with_reducible apply Keeps.procDone | split
    | with_reducible refine Keeps.parts ?_ (by with_reducible rfl) (by with_reducible rfl) (by with_reducible rfl)

theorem fits_writes {f : Fifo} (l : List EvRec) (h : f.Fits) : (l.foldl Fifo.write f).Fits := by
  induction l generalizing f with
  | nil => exact h
  | cons r l ih => exact ih (fits_write r h)

theorem writeHeld {s t : State} (h : Keeps s t) : Keeps s t.writeHeld :=
  h.fifos (fun f => { f.held.foldl Fifo.write f with held := [] }) (fun f hf => ⟨(fits_writes f.held hf).1, Nat.zero_le _⟩)
    rfl rfl rfl rfl rfl

theorem resetRecorded {s t : State} (h : Keeps s t) (ms : Nat) : Keeps s (t.resetRecorded ms) := by
  unfold State.resetRecorded
  repeat' (first | assumption | apply Keeps.updRst | apply Keeps.raise | split)

theorem ledgerLost {s t : State} (h : Keeps s t) : Keeps s t.ledgerLost := by
  unfold State.ledgerLost
  repeat' (first | assumption | apply Keeps.updRst | apply Keeps.raiseOn | split)

theorem tackResumed {s t : State} (h : Keeps s t) : Keeps s t.tackResumed := by
  unfold State.tackResumed
  repeat' (first | assumption | apply Keeps.updRst | apply Keeps.raise | split)

theorem woken {s t : State} (h : Keeps s t) : Keeps s t.woken := by
  unfold State.woken
  repeat' first
    | with_reducible assumption | with_reducible apply Keeps.updPwr | with_reducible apply Keeps.gating
    | with_reducible apply Keeps.stateChange | with_reducible apply Keeps.procDone | with_reducible apply Keeps.quayFrame
    | with_reducible apply Keeps.raiseOn | split
    | with_reducible refine Keeps.parts ?_ (by with_reducible rfl) (by with_reducible rfl) (by with_reducible rfl)

theorem fullTable {s t : State} (h : Keeps s t) : Keeps s t.fullTable := by
  unfold State.fullTable
  repeat' first
    | with_reducible assumption | with_reducible apply Keeps.lodestarOff | with_reducible apply Keeps.updRst
    | with_reducible apply Keeps.tableFrom | split

theorem rplAgain {s t : State} (h : Keeps s t) : Keeps s t.rplAgain := by
  unfold State.rplAgain
  repeat' first
    | assumption | refine Keeps.foldl ?_ (fun _ _ _ => ?_) _ | split | refine Keeps.parts ?_ (by rfl) (by rfl) (by rfl)

theorem lookoutReset {s t : State} (h : Keeps s t) (level cause core : Nat) : Keeps s (t.lookoutReset level cause core) := by
  unfold State.lookoutReset
  repeat' first
    | with_reducible assumption | with_reducible apply Keeps.assertReset | with_reducible apply Keeps.updRst
    | with_reducible apply Keeps.bumpQ | with_reducible apply Keeps.raise | split

theorem bankVersions {s t : State} (h : Keeps s t) : Keeps s t.bankVersions := by
  unfold State.bankVersions
  repeat' (first | with_reducible assumption | with_reducible apply Keeps.setN)

theorem startImage {s t : State} (h : Keeps s t) (i version : Nat) (digest : Octets) (trial : Bool) :
    Keeps s (t.startImage i version digest trial) := by
  unfold State.startImage
  repeat' first
    | with_reducible assumption | with_reducible apply Keeps.deviceKeys | with_reducible apply Keeps.updRst
    | with_reducible apply Keeps.setP | with_reducible apply Keeps.updBn | with_reducible apply Keeps.setN
    | with_reducible apply Keeps.set | split
    | with_reducible refine Keeps.parts ?_ (by with_reducible rfl) (by with_reducible rfl) (by with_reducible rfl)

theorem startBank {s t : State} (h : Keeps s t) (b : Nat) (trial : Bool) : Keeps s (t.startBank b trial) := by
  unfold State.startBank
  repeat' (first | assumption | apply Keeps.startImage)

theorem startRecovery {s t : State} (h : Keeps s t) : Keeps s t.startRecovery := by
  unfold State.startRecovery
  repeat' (first | assumption | apply Keeps.startImage)

theorem bootFailed {s t : State} (h : Keeps s t) (b cause started : Nat) : Keeps s (t.bootFailed b cause started) := by
  unfold State.bootFailed
  repeat' (first | assumption | apply Keeps.raise)

theorem bootBank {s t : State} (h : Keeps s t) (b : Nat) : Keeps s (t.bootBank b) := by
  unfold State.bootBank
  repeat' first
    | with_reducible assumption | with_reducible apply Keeps.bootFailed | with_reducible apply Keeps.startRecovery
    | with_reducible apply Keeps.startBank | split

theorem tackPut {s t : State} (h : Keeps s t) (x0 : TackRec) : Keeps s (t.tackPut x0) := by
  unfold State.tackPut
  repeat' first
    | with_reducible assumption | with_reducible apply Keeps.updRst | with_reducible apply Keeps.emit
    | with_reducible apply Keeps.bump

theorem tackOp {s t : State} (h : Keeps s t) (op : Nat) : Keeps s (t.tackOp op) := by
  unfold State.tackOp
  repeat' (first | assumption | apply Keeps.tackPut)

theorem setStage {s t : State} (h : Keeps s t) (n : Nat) : Keeps s (t.setStage n) := by
  unfold State.setStage
  repeat' (first | assumption | apply Keeps.setP)

theorem stageEvent {s t : State} (h : Keeps s t) (n : Nat) : Keeps s (t.stageEvent n) := by
  unfold State.stageEvent
  repeat' (first | with_reducible assumption | with_reducible apply Keeps.setStage | with_reducible apply Keeps.raise)

theorem sealEnd {s t : State} (h : Keeps s t) (cause : Nat) (keepNew : Bool) : Keeps s (t.sealEnd cause keepNew) := by
  unfold State.sealEnd
  repeat' (first | assumption | apply Keeps.updBn | apply Keeps.raiseOn | apply Keeps.setN | split)

theorem tackOver {s t : State} (h : Keeps s t) : Keeps s t.tackOver := by
  unfold State.tackOver
  repeat' first
    | with_reducible assumption | with_reducible apply Keeps.setStage | with_reducible apply Keeps.updRst
    | with_reducible apply Keeps.setP | with_reducible apply Keeps.setN | with_reducible apply Keeps.set

theorem abandonTack {s t : State} (h : Keeps s t) : Keeps s t.abandonTack := by
  unfold State.abandonTack
  repeat' first
    | with_reducible assumption | with_reducible apply Keeps.tackOver | with_reducible apply Keeps.sealEnd
    | with_reducible apply Keeps.tackOp

theorem fallbackCommit {s t : State} (h : Keeps s t) (cause : Nat) : Keeps s (t.fallbackCommit cause) := by
  unfold State.fallbackCommit
  repeat' first
    | with_reducible assumption | with_reducible apply Keeps.tackOver | with_reducible apply Keeps.sealEnd
    | with_reducible apply Keeps.tackOp | with_reducible apply Keeps.procDone | with_reducible apply Keeps.raise

theorem startTrial {s t : State} (h : Keeps s t) (n : Nat) : Keeps s (t.startTrial n) := by
  unfold State.startTrial
  repeat' first
    | with_reducible assumption | with_reducible apply Keeps.tackPut | with_reducible apply Keeps.startBank
    | with_reducible apply Keeps.updRst | with_reducible apply Keeps.setP | with_reducible apply Keeps.procEst
    | with_reducible apply Keeps.setN

theorem trialFails {s t : State} (h : Keeps s t) (c : Nat) (fault : Option Nat) : Keeps s (t.trialFails c fault) := by
  unfold State.trialFails
  repeat' first
    | with_reducible assumption | with_reducible apply Keeps.fallbackCommit | with_reducible apply Keeps.tackOp
    | with_reducible apply Keeps.bootBank | with_reducible apply Keeps.bootFailed | split

theorem resumeTack {s t : State} (h : Keeps s t) (stage : Nat) : Keeps s (t.resumeTack stage) := by
  unfold State.resumeTack
  repeat' (first | with_reducible assumption | with_reducible apply Keeps.setStage | with_reducible apply Keeps.updRst)

theorem bootTack {s t : State} (h : Keeps s t) : Keeps s t.bootTack := by
  unfold State.bootTack
  repeat' first
    | with_reducible assumption | with_reducible refine Keeps.ite ?_ ?_ | with_reducible apply Keeps.resumeTack
    | with_reducible apply Keeps.trialFails | with_reducible apply Keeps.startTrial
    | with_reducible apply Keeps.fallbackCommit | with_reducible apply Keeps.stageEvent | with_reducible apply Keeps.setStage
    | with_reducible apply Keeps.tackOp | with_reducible apply Keeps.tackPut | with_reducible apply Keeps.bootBank

theorem fallBack {s t : State} (h : Keeps s t) (cause : Nat) : Keeps s (t.fallBack cause) := by
  unfold State.fallBack
  repeat' first
    | with_reducible assumption | with_reducible apply Keeps.stageEvent | with_reducible apply Keeps.tackOp
    | with_reducible apply Keeps.tackReset | with_reducible apply Keeps.updRst

theorem setStalled {s t : State} (h : Keeps s t) (n : Nat) (l : List Stalled) : Keeps s (t.setStalled n l) :=
  ite (h.updFifo n (fun _ hf => hf)) (h.updCap _ _)

theorem abortReads {s t : State} (h : Keeps s t) (n sess : Nat) : Keeps s (t.abortReads n sess) := by
  unfold State.abortReads
  repeat' first
    | assumption | apply Keeps.setStalled | apply Keeps.touch | apply Keeps.replyRc
    | refine Keeps.foldl ?_ (fun _ _ _ => ?_) _

theorem abortTack {s t : State} (h : Keeps s t) : AtWork s t.abortTack := by
  unfold State.abortTack
  dsimp only
  exact iteWork (h.abandonTack.updRst _).bankVersions (iteWork h trivial)

theorem abortOf {s t : State} (h : Keeps s t) (ix : Nat) : AtWork s (t.abortOf ix) := iteWork h.abortTack (h.abortWork ix)

theorem abortApply {s t : State} (h : Keeps s t) (n : Nat) : Keeps s (t.abortApply n) := by
  unfold State.abortApply
  split
  · exact h.abortReads _ _
  · cases e : t.abortOf (n / 65536) with
    | none => exact h.procAborted _
    | some u => exact (atWork (h.abortOf _) e).procAborted _

theorem scrubDone {s t : State} (h : Keeps s t) : Keeps s t.scrubDone := by
  unfold State.scrubDone
  repeat' first
    | with_reducible assumption | with_reducible apply Keeps.setQ | with_reducible apply Keeps.raise
    | with_reducible apply Keeps.setN
    | with_reducible refine Keeps.parts ?_ (by with_reducible rfl) (by with_reducible rfl) (by with_reducible rfl)

theorem testBegin {s t : State} (h : Keeps s t) (x0 : TestRun) : Keeps s (t.testBegin x0) := by
  unfold State.testBegin
  repeat' first
    | with_reducible assumption | with_reducible apply Keeps.holdHunters | with_reducible apply Keeps.procEst | split
    | with_reducible refine Keeps.parts ?_ (by with_reducible rfl) (by with_reducible rfl) (by with_reducible rfl)

theorem selftest {s t : State} (h : Keeps s t) (code : Nat) (r : Req) (w : Wire) : Keeps s (t.selftest code r w) := by
  unfold State.selftest
  refine ite h (h.start _ _ _ _ _ (fun u n v hu => ?_))
  dsimp only
  refine ite (femTransmit (foldl (switch (by exact hu.same rfl rfl rfl rfl rfl) _ _) (fun _ _ h => h.testBegin _) _) _ _ _) ?_
  exact hu.same rfl rfl rfl rfl rfl

theorem writeGains {s t : State} (h : Keeps s t) (c : Nat) (gains : List Nat) : Keeps s (t.writeGains c gains) :=
  (foldl h (fun _ _ h => wearOut (by exact ((h.journal _ _ _ _ _ _ _).set _ _).stores id (Store.wf_put _ _) rfl rfl rfl) _) _).bump _

theorem engineFails {s t : State} (h : Keeps s t) (code e : Nat) : Keeps s (t.engineFails code e) := by
  unfold State.engineFails
  repeat' (first | assumption | apply Keeps.updBn | apply Keeps.raiseOn)

theorem testEffect {s t : State} (h : Keeps s t) (x0 : TestRun) (fail : Bool) (gains : List Nat) :
    Keeps s (t.testEffect x0 fail gains) := by
  unfold State.testEffect
  repeat' first
    | with_reducible assumption | with_reducible refine Keeps.ite ?_ ?_ | with_reducible apply Keeps.engineFails
    | with_reducible apply Keeps.writeGains | with_reducible apply Keeps.calChainOff | with_reducible apply Keeps.holdHunters
    | with_reducible apply Keeps.bumpQ
    | with_reducible refine Keeps.parts ?_ (by with_reducible rfl) (by with_reducible rfl) (by with_reducible rfl)

end Keeps
end Sys2Proof.Machine
end

