-- ==== Sys2Proof/Laws/Requests.lean ====
section
/-! SUPPORT. What the shared operations of requests and events do: a request that passes the gate, a write taken or refused, a
procedure started, an event raised. -/
namespace Sys2Proof.Machine

/-- A request that is Ready enters session 0. -/
theorem gate_of_ready {s : State} {r : Req} (h : Ready s r) (ask : Ask) (free : Bool) : s.gate r ask free = .go 0 s.entered := by
  obtain ⟨hv, -, -, ho, h1, h2, h3, h4, h5, h6, h7, h8, -⟩ := h
  simp only [State.gate, h1, h2, h3, h4, h5, h6, h7, hv, ho, State.enter, Nat.not_le.2 h8, Option.isSome_none, Bool.false_eq_true,
    or_self, if_false, false_and, State.entered]

/-- A request in one piece is its own whole value. -/
theorem block_of_whole {s : State} {r : Req} (h : r.blk = none) (sess k : Nat) (w : Wire) : s.block r sess k w = .whole w s := by
  simp only [State.block, h]

/-- What a request on the Quay port answers carries its token and the object it names. -/
theorem answers_of_quay {r : Req} (h : r.via = .quay) (k : Nat) : r.answers k = { tok := r.tok, key := k, ack := none } := by
  simp only [Req.answers, h]

/-- A reply on the Quay port is the newest frame of the response queue while that has a place. -/
theorem replied_reply {s : State} {r : Req} (h : s.mg.quay.responses.length < responsePlaces) (k code : Nat) (p : Payload) :
    Replied (s.reply 0 (r.answers k) code p) r code p := by
  simp [Replied, State.reply, State.quayFrame, h, Req.answers]

@[simp] theorem reply_quay (s : State) (t : Tok) (code : Nat) (p : Payload) : s.reply 0 t code p = s.quayFrame 2 t code p none := rfl

/-- A write that is refused: the journal record and the reply are all it does behind the gate. -/
theorem write_refused {s : State} {r : Req} {ix sub : Nat} {w : Wire} {late : State → Nat → Val → Option Rc}
    {eff post : State → Nat → Val → State} {rc : Rc} (h : Ready s r)
    (hc : s.entered.checkWrite 0 ix sub w (late s.entered 0) = .error rc) :
    s.writeThen r ix sub w late eff post = s.entered.refuse { kind := 1, ix := ix, sub := sub, new := w.cbor } 0 r rc := by
  simp only [State.writeThen, gate_of_ready h, block_of_whole h.2.1, hc]

/-- A write that is taken: the queue of Logbook drains, the journal record is committed, the effect is done, the reply sent. -/
theorem write_taken {s : State} {r : Req} {ix sub : Nat} {w : Wire} {late : State → Nat → Val → Option Rc}
    {eff post : State → Nat → Val → State} {v : Val} (h : Ready s r)
    (hc : s.entered.checkWrite 0 ix sub w (late s.entered 0) = .ok v) :
    s.writeThen r ix sub w late eff post =
      post (((eff (s.entered.lbDrain.journal 1 0 ix sub .ok (s.entered.lbDrain.oldOf 0 (Obj.key ix sub)) w.cbor) 0 v).streamWrite
        0 ix sub v).reply 0 (r.answers (Obj.key ix sub)) coapChanged .none) 0 v := by
  simp only [State.writeThen, gate_of_ready h, block_of_whole h.2.1, hc]

/-- A start that is refused. -/
theorem start_refused {s : State} {r : Req} {ix : Nat} {w : Wire} {bad : State → Nat → Val → Option Rc} {est : State → Val → Tick}
    {eff : State → Nat → Val → State} {rc : Rc} (h : Ready s r) (hc : s.entered.checkStart 0 ix w bad = .error rc) :
    s.start r ix w bad est eff = s.entered.refuse { kind := 2, ix := ix, sub := 3, new := w.cbor } 0 r rc := by
  simp only [State.start, gate_of_ready h, block_of_whole h.2.1, hc]

/-- The state in which an accepted start of the procedure at `ix` is answered: journaled, RUNNING, its handle given. -/
def State.started (s : State) (ix : Nat) (w : Wire) (est : State → Val → Tick) (v : Val) : State :=
  let s := s.entered.lbDrain.journal 2 0 ix 3 .ok [] w.cbor
  s.procBegin ix (est s v)

/-- A start that is taken: its reply with the handle, then its work. -/
theorem start_taken {s : State} {r : Req} {ix : Nat} {w : Wire} {bad : State → Nat → Val → Option Rc} {est : State → Val → Tick}
    {eff : State → Nat → Val → State} {v : Val} (h : Ready s r) (hc : s.entered.checkStart 0 ix w bad = .ok v) :
    s.start r ix w bad est eff =
      (eff ((s.started ix w est v).reply 0 (r.answers (Obj.key ix 3)) coapChanged
        (.handle ((s.started ix w est v).procHandle ix))) 0 v).streamStart ix v := by
  simp only [State.start, gate_of_ready h, block_of_whole h.2.1, hc, State.started]

/-- A read of one block that passes the gate is answered by its effect behind it. -/
theorem read_of_ready {s : State} {r : Req} {ix sub : Nat} {eff : State → Nat → State} (h : Ready s r) :
    s.read r ix sub eff = eff s.entered 0 := by
  simp only [State.read, gate_of_ready h, State.sendingOf, h.2.2.1, Option.getD_none, if_true]

/-- A read that no check refuses. -/
theorem read_answered {s : State} {r : Req} {ix sub : Nat} {eff : State → Nat → State} (h : Ready s r)
    (hc : s.entered.checkRead 0 ix sub = none) : s.readChecked r ix sub eff = eff s.entered 0 := by
  simp only [State.readChecked, read_of_ready h, hc]

/-- A payload of at most 1,024 octets goes in one reply (R45). -/
theorem replyRead_whole {s : State} {r : Req} (h : Ready s r) {k : Nat} {p : Payload} (hp : p.cbor.length ≤ 1024) :
    s.replyRead r 0 k p = s.reply 0 (r.answers k) coapContent p := by
  simp only [State.replyRead, State.replyAsked, Req.asked, h.2.2.1, Req.blockOctets, h.1, hp, and_self, if_true]

/-- CORE's waking changes the power conditions, the time of the last request and the heartbeats, and nothing else. -/
theorem coreWake_same (s : State) : s.coreWake = { s with pwr := s.coreWake.pwr, rst := s.coreWake.rst } := by
  unfold State.coreWake
  split <;> rfl

/-- So does waking it where a condition holds. -/
theorem ite_coreWake (s : State) (c : Prop) [Decidable c] :
    ∃ p r, (if c then s.coreWake else s) = { s with pwr := p, rst := r } := by
  split
  · exact ⟨_, _, coreWake_same s⟩
  · exact ⟨s.pwr, s.rst, rfl⟩

/-- The gate leaves every object alone. -/
@[simp] theorem entered_obj (s : State) : s.entered.obj = s.obj := by
  simp only [State.entered, State.updSession_obj]
  rw [coreWake_same]

@[simp] theorem entered_get (s : State) (k : Nat) : s.entered.get k = s.get k := by simp only [State.get, entered_obj]

/-- What raising an event does to the management part: its FIFO takes the record, or holds it until Attach. -/
theorem raiseFrom_mg (s : State) (code sev source dom : Nat) (param : Octets) :
    (s.raiseFrom code sev source dom param).mg =
      { s.mg with fifos := upd s.mg.fifos (fifoOf code) (fun f =>
          let r : EvRec := { code := code, sev := sev, seq := 0, time := s.time, unc := s.timeUnc, source := source, domain := dom,
                             valid := s.getB Obj.SX_TIME_VALID, late := s.mg.busy, param := fit 36 param }
          if s.mg.busy then f.hold r else f.write r) } := by
  obtain ⟨p, q, h⟩ := ite_coreWake s ((nth s.mg.fifos (fifoOf code)).observer.isSome = true ∨ (nth s.mg.fifos (fifoOf code)).stalled ≠ [])
  simp only [State.raiseFrom, h, State.updFifo]

/-- Raising an event leaves every object alone. -/
@[simp] theorem raiseFrom_obj (s : State) (code sev source dom : Nat) (param : Octets) :
    (s.raiseFrom code sev source dom param).obj = s.obj := by
  obtain ⟨p, q, h⟩ := ite_coreWake s ((nth s.mg.fifos (fifoOf code)).observer.isSome = true ∨ (nth s.mg.fifos (fifoOf code)).stalled ≠ [])
  simp only [State.raiseFrom, h, State.updFifo]

/-- A full FIFO gives up its oldest record for a new one and counts it. -/
theorem Fifo.write_full {f : Fifo} (r : EvRec) (h : ¬ f.recs.length < fifoDepth) :
    f.write r = { f with recs := f.recs.tail ++ [{ r with seq := f.nextSeq }], lost := (f.lost + 1) % 2 ^ 64,
                         nextSeq := (f.nextSeq + 1) % 2 ^ 32 } := by
  simp only [Fifo.write, if_neg h]

/-- A FIFO with room keeps every record and appends the new one. -/
theorem Fifo.write_room {f : Fifo} (r : EvRec) (h : f.recs.length < fifoDepth) :
    f.write r = { f with recs := f.recs ++ [{ r with seq := f.nextSeq }], nextSeq := (f.nextSeq + 1) % 2 ^ 32 } := by
  simp only [Fifo.write, if_pos h]

end Sys2Proof.Machine
end

