-- ==== Sys2Proof/WellFormed.lean ====
section
/-! DEFINITION. Which commands are well formed: a request as its route can carry it (R44, R46), a CBOR item as R36 lets it
be written, and every index within the number of ports, chains, demodulators, PANs, FIFOs and so on that the spec gives. Nothing
but well-formed commands can reach the block; exec is total all the same. -/
namespace Sys2Proof

/-- A request: TOKEN is one octet on the Quay port (R46) and up to eight on the trunk, a block number has 23 bits, a sender is at
most 16 octets (R52). -/
def Req.wf (r : Req) : Bool :=
  r.blk.all (fun b => decide (b.1 < 2 ^ 23)) &&
    (match r.via with
     | .quay => decide (r.tok < 256)
     | .trunk m _ sender _ _ _ _ =>
       decide (r.tok < 2 ^ 64 ∧ r.szx ≤ 6 ∧ sender.length ≤ 16 ∧ m.port < 2 ∧ m.udp < 65536 ∧ m.mid < 65536))

/-- A CBOR item: integers have at most 64 bits (R36). -/
def Wire.wf (w : Wire) : Bool :=
  match w with
  | .uint n => decide (n < 2 ^ 64)
  | .nint n => decide (n < 2 ^ 64)
  | .arr3 a b c => decide (a < 2 ^ 64 ∧ b < 2 ^ 64 ∧ c < 2 ^ 64)
  | .bool _ | .bytes _ | .text _ _ | .other _ => true

/-- A frame of IEEE 802.15.4: type, version and PAN identifier fit their fields (R175). -/
def MacFrame.wf (f : MacFrame) : Bool :=
  decide (f.ftype < 8 ∧ f.version < 4 ∧ f.dstPan < 65536) && f.seqNo.all (fun n => decide (n < 256))

/-- A training page (R283) and an OAM block (R281): fields of their widths. -/
def Page.wf (g : Page) : Bool := decide (g.version < 16 ∧ g.tiers < 8 ∧ g.role < 4 ∧ g.seed < 2 ^ 32)
def Oam.wf (o : Oam) : Bool := decide (o.kind < 16 ∧ o.tier < 4 ∧ o.snr < 1024 ∧ o.uncorr < 256 ∧ o.seq < 65536)

/-- A trunk frame: its blocks and where it stands in its group of at most eight codewords (R274, R276). -/
def TrunkFrame.wf (f : TrunkFrame) : Bool :=
  decide (f.scr.length = 58 ∧ f.pos < 26400) && f.words.all (fun w => w.1.all (fun b => decide (b.payload.length = 8)))

/-- The straps (R430). -/
def Straps.wf (x : Straps) : Bool := decide (x.boot < 4 ∧ x.clkMode < 4 ∧ x.rstSeq < 2 ∧ x.pairSel < 4)

/-- The well-formed commands. -/
def Instr.wf (i : Instr) : Bool :=
  match i with
  | .objectWrite r ix sub w => r.wf && decide (ix < 65536) && decide (sub < 256) && w.wf
  | .wakeOnAccessRead r o => r.wf && decide (o.ix < 65536 ∧ o.sub < 256)
  | .blockTransferTimeout sess => decide (sess < 16)
  | .quayFrameDiscard _ => true
  | .quayUartEntry _ _ => true
  | .quayCsFall _ => true
  | .quayFrameSent => true
  | .sessionIdleTimeout n => decide (n < 16)
  | .sessionClose r w => r.wf && w.wf
  | .evtRecordsRead r n => r.wf && decide (n < 8)
  | .stalledReadServed n => decide (n < 12)
  | .evtObserveRegister r n => r.wf && decide (n < 8)
  | .observeNotify n => decide (n < 8)
  | .notificationAck n => decide (n < 8)
  | .notificationTimeout n => decide (n < 8)
  | .evtFlush r n w => r.wf && decide (n < 8) && w.wf
  | .journalRecordRead r => r.wf
  | .procAbort r w => r.wf && w.wf
  | .gainStepDown p _ => decide (p < 4)
  | .gainStepUp p _ => decide (p < 4)
  | .txGroupStart c _ => decide (c < 3)
  | .txGroupEnd c _ _ => decide (c < 3)
  | .mismatchSevere c _ => decide (c < 3)
  | .retuneRun p c _ => decide (p < 4) && decide (c < 3)
  | .retuneDone p _ => decide (p < 4)
  | .retuneHoldoffExpiry p => decide (p < 4)
  | .bearingRetuneSearch r w => r.wf && w.wf
  | .bearingRetuneSet r w => r.wf && w.wf
  | .synthCalibrate r w => r.wf && w.wf
  | .synthTempSample c _ => decide (c < 3)
  | .synthCalStart c _ => decide (c < 3)
  | .synthCalEnd c _ => decide (c < 3)
  | .synthLock c => decide (c < 3)
  | .synthUnlock u => decide (u.c < 3)
  | .chainPowerUp c => decide (c < 3)
  | .txDomainOff d => decide (d < 16)
  | .aerialModeApply b => decide (b < 2)
  | .claimRound senses _ => senses.all (fun x => decide (x.win < 6))
  | .sfdFound d _ _ _ => decide (d < 128)
  | .sfdTimeout d => decide (d < 128)
  | .phrError d _ _ _ _ => decide (d < 128)
  | .rxFrameEnd d f => decide (d < 128) && decide (f.psdu.length ≤ 2047)
  | .diversityHoldEnd _ => true
  | .rxGateOpen p => decide (p < 4)
  | .listenWindowOpen p => decide (p < 4)
  | .rxGateClose p w _ => decide (p < 4) && decide (w < 6)
  | .starvationIntervalEnd => true
  | .falsePreambleCheck w => decide (w < 6)
  | .rxWindowApply r w => r.wf && w.wf
  | .windowApplyBoundary => true
  | .windowRearmDone => true
  | .slotBoundary pan _ => decide (pan < 4)
  | .planFreeze b _ _ => decide (b < 2)
  | .quietSlotInsert kind ix => decide (kind < 2) && decide (ix < 5)
  | .frameDecision f _ => f.wf
  | .ackCompose _ => true
  | .ackWaitClose _ => true
  | .cellEnd pan asn => decide (pan < 4) && decide (asn < 2 ^ 40)
  | .dutyBinBoundary b => decide (b < 16)
  | .panEnable r p w => r.wf && decide (p < 4) && w.wf
  | .panStop r p w => r.wf && decide (p < 4) && w.wf
  | .cellEntryStage r w => r.wf && w.wf
  | .schedDiscard r w => r.wf && w.wf
  | .scheduleCommit r w => r.wf && w.wf
  | .slotframeSwitch f => decide (f < 64)
  | .helmLockstep _ => true
  | .nodeFindEui r w => r.wf && w.wf
  | .tableInsert => true
  | .nodeAdd r w => r.wf && w.wf
  | .nodeRemove r w => r.wf && w.wf
  | .nodeRemoveFinish i => decide (i < 2 ^ 18)
  | .nodeRehash r w => r.wf && w.wf
  | .rehashBuildDone _ => true
  | .migrateStart => true
  | .migrateBucket => true
  | .migrateEnd => true
  | .sweeperPass => true
  | .joinTimeout i => decide (i < 2 ^ 18)
  | .joinVerify eui pan _ _ _ => decide (eui < 2 ^ 64) && decide (pan < 4)
  | .shortAddrRelease i => decide (i < 2 ^ 18)
  | .learnApply b => decide (b < 2)
  | .neighbourSweep b => decide (b < 2)
  | .daoReceived d _ => decide (d.parents.length ≤ 3)
  | .disReceived p => decide (p < 4)
  | .dioTrickleFire p _ => decide (p < 4)
  | .reassemblyTimeout b _ => decide (b < 2)
  | .checkpointPeriod => true
  | .almanacCheckpoint r w => r.wf && w.wf
  | .checkpointDone => true
  | .almanacRestored _ => true
  | .almanacMirrorReload _ => true
  | .uplinkTxSelect p w => decide (p < 2) && decide (w.mac.length = 6)
  | .admissionMessage x => decide (x.ctx < 65536 ∧ x.version < 256 ∧ x.type < 256 ∧ x.seq < 2 ^ 48)
  | .admitQueueTimeout _ => true
  | .admissionCompute => true
  | .query => true
  | .handoverEntry ref => decide (ref < 2 ^ 64)
  | .reportDeadline ref => decide (ref < 2 ^ 64)
  | .wheelCoarseSlot => true
  | .flowConfig r w => r.wf && w.wf
  | .admitCtxKeyid r ctx w => r.wf && decide (ctx < 16) && w.wf
  | .paSample => true
  | .sampleIntervalEnd => true
  | .ledgerSummaryMirror _ => true
  | .nextEligibleTime _ _ => true
  | .listenPaging p => decide (p < 2)
  | .wakePatternSend p => decide (p < 2)
  | .pageReceived p _ _ _ _ => decide (p < 2)
  | .announceTimeout p _ _ => decide (p < 2)
  | .trainPhase p _ _ _ _ => decide (p < 2)
  | .linkUp x => decide (x.p < 2)
  | .retrainHoldoffExpiry p => decide (p < 2)
  | .oamSend p _ _ _ _ => decide (p < 2)
  | .oamReceived p _ => decide (p < 2)
  | .codewordLockLost x => decide (x.p < 2)
  | .signalLost x => decide (x.p < 2)
  | .snrLinkLost p _ => decide (p < 2)
  | .snrWarn p _ => decide (p < 2)
  | .ttEnableWrite r p w => r.wf && decide (p < 2) && w.wf
  | .trunkRetrain r w => r.wf && w.wf
  | .trunkLoopback r w => r.wf && w.wf
  | .loopbackEnd p _ _ _ _ => decide (p < 2)
  | .trunkWakeDetect p _ => decide (p < 2)
  | .trunkFrameReceived p f _ _ => decide (p < 2) && f.wf
  | .xoffRefresh p _ => decide (p < 2)
  | .pfcReceived p _ => decide (p < 2)
  | .pauseExpiry p prio => decide (p < 2) && decide (prio < 8)
  | .supervisionSend => true
  | .redPartnerTimeout b => decide (b < 4)
  | .trunkAddressWrite r sub w => r.wf && decide (sub < 256) && w.wf
  | .trainingLockTimeout p _ _ => decide (p < 2)
  | .pulseSend _ => true
  | .pulseReceived w => decide (w.octets.length ≤ 8208)
  | .pulseLoss => true
  | .pairingTimeout => true
  | .streamReceived x => decide (x.wire.octets.length ≤ 8208)
  | .streamResend => true
  | .streamResync => true
  | .resyncDone => true
  | .revertStart => true
  | .handoverInstant => true
  | .consortHandover r w => r.wf && w.wf
  | .csFaultClear r w => r.wf && w.wf
  | .ptpSyncMeasurement p _ _ _ => decide (p < 2)
  | .ptpAnnounce p a => decide (p < 2) && decide (a.ident.length = 10)
  | .ptpMasterLoss p => decide (p < 2)
  | .ppsInEdge _ => true
  | .ppsInLost => true
  | .ppsOutEdge => true
  | .sxSourceWrite r w => r.wf && w.wf
  | .sxRateWrite r w => r.wf && w.wf
  | .sxSetAbsolute r w => r.wf && w.wf
  | .sxSetRelative r w => r.wf && w.wf
  | .slowTickLatch => true
  | .slowRatioMeasure => true
  | .sextantReconcile _ => true
  | .calCarry => true
  | .calOscStopped => true
  | .calTrimApply => true
  | .calTrimAutoUpdate => true
  | .calSet r w => r.wf && w.wf
  | .calHaltWrite r w => r.wf && w.wf
  | .calOsfClear r w => r.wf && w.wf
  | .calAlarmWrite r w => r.wf && w.wf
  | .calFieldRead r sub => r.wf && decide (sub < 256)
  | .calShadowRelease sess => decide (sess < 16)
  | .calFromSextant r w => r.wf && w.wf
  | .calFromSextantApply => true
  | .delayReqSend p => decide (p < 2)
  | .bnImport r _ _ w => r.wf && w.wf
  | .bnReplace r _ _ _ w => r.wf && w.wf
  | .keyCommit _ => true
  | .bnRemove r w => r.wf && w.wf
  | .bnAttest r w => r.wf && w.wf
  | .attestDone => true
  | .groupRollover r w => r.wf && w.wf
  | .groupKeySwitch => true
  | .groupOverlapEnd => true
  | .retainedGenExpiry => true
  | .entropyBlock _ => true
  | .blobDirectoryRebuilt => true
  | .sectorCompaction _ => true
  | .enterFullService r w => r.wf && w.wf
  | .enterHold r w => r.wf && w.wf
  | .holdEntry => true
  | .enterStandby r w => r.wf && w.wf
  | .coreIdleRetention => true
  | .powerModeWrite r w => r.wf && w.wf
  | .ookPatternMatch chips => decide (chips.length = 40)
  | .wakeNLow _ => true
  | .wakeDeclared => true
  | .vsenseWarn _ _ _ => true
  | .sagCrossing _ _ => true
  | .anchorSaveDone => true
  | .supplyReturn _ => true
  | .thermalLimit _ n => decide (n < 9)
  | .thermalTrip _ n => decide (n < 9)
  | .thermalRecovery _ _ => true
  | .railBad _ _ => true
  | .vbatMeasure _ => true
  | .aonBrownout => true
  | .holdUpSupplyLoss n => decide (n < 9)
  | .aonSupplyChange _ => true
  | .vsenseMinRead r => r.wf
  | .sealDone => true
  | .poraAssert => true
  | .pinAssert _ => true
  | .pinRelease x => x.wf
  | .warmAssert detail => decide (detail < 12)
  | .coreAssert detail => decide (detail < 12)
  | .resetHoldEnd => true
  | .trimLoadDone words => words.all (fun x => decide (x.group < 7 ∧ x.what < 3))
  | .pllLock => true
  | .domainRelease _ _ => true
  | .bootImageCheck _ => true
  | .bootImageWrite r w => r.wf && w.wf
  | .firmwareAttach => true
  | .lodestarStart => true
  | .chartStateWrite => true
  | .tack r w => r.wf && w.wf
  | .tackSegment r w => r.wf && w.wf
  | .tackVerifyDone => true
  | .tackAttachTime => true
  | .tackConfirm r w => r.wf && w.wf
  | .tackSoakDone => true
  | .confirmDeadline => true
  | .coreHeartbeat core => decide (core < 4)
  | .lookoutWarn core => decide (core < 4)
  | .lookoutLevel1 core => decide (core < 4)
  | .lookoutLevel2 x => decide (x.cause < 6)
  | .warmRestart r w => r.wf && w.wf
  | .domainReset r w => r.wf && w.wf
  | .poraRelease x _ _ => x.wf
  | .refclkLoss => true
  | .logbookCommit => true
  | .scrubLine _ _ _ => true
  | .wearProjection => true
  | .rotationReassign => true
  | .tjSample _ => true
  | .tjMinute => true
  | .ageingMeasure d _ _ _ => decide (d < 16)
  | .backgroundTestRun code _ _ => decide (code < 7)
  | .selftestLate code _ => decide (code < 7)
  | .bankSwap a => decide (a < 5)
  | .selftestAdcCalibration r w => r.wf && w.wf
  | .selftestBankBist r w => r.wf && w.wf
  | .selftestKeccakKat r w => r.wf && w.wf
  | .selftestAesKat r w => r.wf && w.wf
  | .selftestLogbookRead r w => r.wf && w.wf
  | .selftestTxPowerCal r w => r.wf && w.wf
  | .selftestResult code _ _ _ _ => decide (code < 7)
  | .capRecordsRead r n => r.wf && decide (n < 4)
  | .capFlush r n w => r.wf && decide (n < 4) && w.wf
  | .dramEccError channel _ _ _ => decide (channel < 2)
  | .sramEccError _ => true

end Sys2Proof
end

