-- ==== Sys2Proof/Tests/Slice0.lean ====
section
/-! SUPPORT. Small states, a witness for the hypotheses of every statement, ill-formed commands that the checks refuse, and
steps checked against figures of the spec. -/
namespace Sys2Proof.Tests
open Sys2Proof Sys2Proof.Machine

set_option maxRecDepth 20000
set_option Elab.async false

/-! ## States the statements are shown on -/

/-- An attached device: every domain ON, no reset source asserted, the PLL locked, image A started. -/
def live : State :=
  let s := (State.reset.setB Obj.TRIM_VALID true).setB Obj.LODESTAR_ACTIVE false
  { s with
    mg := { s.mg with busy := false, fifos := List.replicate 8 Fifo.blank }, sx := { s.sx with pll := true },
    rx := { s.rx with lodestar := false }, pwr := { s.pwr with dom := List.replicate 16 .on, aonCause := none },
    rst := { s.rst with holds := [], supply := true, pll := true, fresh := true, lodestar := false, image := some 0 } }

def tok9 : Tok := { tok := 9, key := 0, ack := none }
def quay : Req := { via := .quay, tok := 1, blk := none }
def straps : Straps := { boot := 3, clkMode := 2, rstSeq := 1, pairSel := 1 }

def rec0 : EvRec :=
  { code := 0x1101, sev := 0, seq := 0, time := 0, unc := 0, source := 0, domain := 0, valid := false, late := false, param := [] }
def eventful : State := { live with mg := { live.mg with fifos := List.replicate 8 { Fifo.blank with recs := [rec0] } } }

def asleep : State :=
  { live.setN Obj.WAKE_ENABLE 15 with pwr := { live.pwr with standby := true, dom := [.on, .retention] ++ List.replicate 14 .off } }
def heldBy (source dom : Nat) (stop : Option Count) : State :=
  { live with rst := { live.rst with holds := [{ source := source, dom := dom, until' := stop }] } }
def releasing (ds : List Nat) : State :=
  { (live.setN Obj.STRAPS 16).setN Obj.SEQ_GAP 64 with
    now := secC
    pwr := { live.pwr with dom := (List.range 16).map (fun d => if ds.contains d then .reset else .on) } }
def booting (n : Nat) : State :=
  { live.setN Obj.STRAPS n with mg := { live.mg with busy := true }, rst := { live.rst with image := none } }
def chartA : Chart :=
  { gen := 1, objs := [], sfs := noSfs, cells := [(3, default)], leftOut := 0, state := none }

/-! Front end and reception -/

def frm : AirFrame := { (default : AirFrame) with freq := 868000000, bw := 200000, air := 1000 }
def grp : Group := { chain := 0, port := 0, start := 0, nplan := 1, freq := 868000000, entry := 0, top := 0, frames := [frm] }
def planned : State :=
  { (live.setN (Obj.CC_SYNTH_STATE 0) 2).setN (Obj.CC_SYNTH_FREQ 0) 868000000 with helm := { live.helm with plans := [grp] } }
def airing : State := live.updChain 0 (fun x => { x with group := some grp, drv := some 0 })
def rq : RetuneReq := { cause := 2, absorbed := none, set := some (5, 6), since := 0 }
def retuning : State := (live.setN (Obj.CC_SYNTH_STATE 0) 2).updPort 0 (fun x => { x with retuneReq := some rq })
def rrun : RetuneRun := { req := rq, chain := 0, inserted := false, rlBefore := 100, start := 0, lost := [] }
def retuningNow : State := live.updPort 0 (fun x => { x with retuneRun := some rrun, blanked := true })
def calr : CalRun := { cause := 0, tempBefore := 200, inserted := false, handle := false }
def hearing : State :=
  ((live.setB (Obj.WW_ENABLE_NOW 0) true).setN (Obj.WW_CHANNELS_NOW 0) 10).setB (Obj.PP_RX_ENABLE 0) true
def recA : Recep := { (default : Recep) with demod := 5, mode := 2, freq := 868000000, bw := 200000 }
def recB : Recep := { recA with sfd := some (0, 0, -1000, 3, 2) }
def receiving : State := { live with rx := { live.rx with recs := [recA] } }
def sfded : State := { live with rx := { live.rx with recs := [recB] } }
def gated : State :=
  { hearing with pwr := { live.pwr with modeInForce := 1, dom := [.on, .on, .on, .on, .on, .on] ++ List.replicate 10 .off } }
def gating : State :=
  { live with
    now := secC, pwr := { live.pwr with modeInForce := 1 }
    rx := { live.rx with gates := List.replicate 4 { open' := true, listening := false, fired := false, energy := false, since := 0, lastUse := 0 } } }
def waitA : AckWait := { (default : AckWait) with latestSfd := secT }
def apl : WinApply := { staged := [], at' := 0, handle := 1, aborted := false, rearm := some ([0], 0) }

/-! Helm -/

def covering : State :=
  ((live.setB (Obj.WW_ENABLE_NOW 0) true).setN (Obj.WW_CHANNELS_NOW 0) 69).setN (Obj.WW_FIRST_NOW 0) 868000000
def dueB : Due := { (default : Due) with kind := 2, cell := 4, air := 1000 }
def beaconDue : State :=
  { ((covering.setN (Obj.CC_SYNTH_STATE 0) 2).setB (Obj.PN_ENABLE 0) true) with helm := { live.helm with due := [dueB] } }
def nodeK : Node :=
  { (default : Node) with idx := 5, eui := 77, state := .active, neighbour := true, keyId := 77, keyGen := 1 }
def keyJ : KeyRec :=
  { kind := 1, keyId := 77, gen := 1, persist := false, expire := false, limited := false, protect := true, check := true,
    limit := 0, bootEpoch := 0, meas := live.getO Obj.BN_MEAS, iv := [], material := [], recip := [] }
def almK : Almanac := { live.alm with loaded := true, table := { slots := [((33920, 0), 77)], stash := [], rotor := 0, moves := 0 } }
def noded : State := { live with alm := { almK with nodes := [nodeK] } }
def joining : State :=
  { noded with alm := { noded.alm with nodes := [{ nodeK with state := .joining }] }, bn := { live.bn with records := [keyJ] } }
def cellRx : Cell := { (default : Cell) with rx := true, valid := true, node := 0x3FFFF }
def sfsA : List Slotframe := { enable := true, pan := 0, length := 101, txOffset := 4000 } :: noSfs.tail
def repD : Report := { (default : Report) with crcOk := true, sfdTime := 4 * msT + live.preNs 0 0 * nsT }
def dataF : MacFrame := { (default : MacFrame) with version := 2, ftype := 1, secured := true, level := live.getN (Obj.PN_SEC_LEVEL 0), ccmOk := true, dst := .short 0xFFFF, src := .long 77 }
def heardData : State :=
  { (noded.setB (Obj.PN_ENABLE 0) true).setN (Obj.PN_PAN_ID 0) 0 with
    bn := { live.bn with records := [keyJ] }, rx := { live.rx with toHelm := [repD] },
    helm := { live.helm with sfs := sfsA, cells := [(4, cellRx)] } }

/-! Pilot -/

def upf : UpFrame := { id := 1, flow := 8192, cls := 1, octets := 100, late := false, tag := none, arrived := 0 }
def uplinking : State :=
  { live.setN (Obj.TT_LINK_STATE 1) 4 with
    pilot := { live.pilot with ports := live.pilot.ports.map (fun x => { x with frames := [upf] }) } }
def bodyA : AdmitBody :=
  { reqId := 1, node := 77, flow := 3, ackReq := false, attempts := 0, needBy := none, dgramLen := 40, dstOk := true, compressed := 40 }
def admWA : AdmWire :=
  { version := 1, type := 1, ctx := 0, seq := 1, ok := true, old := false, src := 1, compressed := 40,
    body := be 4 1 ++ be 8 77 ++ be 2 3 ++ be 1 0 ++ be 1 0 ++ be 12 0 ++ be 2 40 ++ be 24 0
      ++ addrOf (live.getO (Obj.RP_PREFIX 0)) 77 }
def msgA : AdmMsg := { ctx := 0, seq := 1, ok := true, old := false, src := 1, body := .request bodyA }
def keyA : KeyRec := { keyJ with kind := 3, keyId := 9 }
def admitting : State :=
  { live.set (Obj.ADMIT_CTX_KEYID 0) (.octets (be 8 9)) with bn := { live.bn with records := [keyA] } }
def frm7 : Frame := { (default : Frame) with ref := 7, flow := 3, insts := [default] }
def handing : State :=
  { live.setB (Obj.PN_ENABLE 0) true with
    pilot := { live.pilot with frames := [frm7], fine := [{ kind := 0, key := 7, due := 0 }],
                               flows := [{ (default : Flow) with num := 3, enabled := true, down := true, rate := 1000, burst := 5 }] } }
def cellTx : Cell := { (default : Cell) with tx := true, valid := true, node := 5 }
def flowA : Flow :=
  { (default : Flow) with num := 3, enabled := true, down := true, cls := 1, rate := 1000, burst := 65536, tokens := 65536, pendMax := 8, attempts := 1 }
def admR : AdmReq := { msg := msgA, cls := 1, arrival := 0 }
def admissible : State :=
  { (covering.setB (Obj.PN_ENABLE 0) true) with
    alm := { almK with nodes := [{ nodeK with tokens := 65536 }] },
    helm := { live.helm with sfs := sfsA, cells := [(4, cellTx)] },
    pilot := { live.pilot with queue := [admR], flows := [flowA] } }
def admF : Frame :=
  match ((admissible.dequeue admR).compute bodyA 0 false).2 with
  | .grant f => f
  | .refuse _ _ => default

/-! Meridian, Consort, Sextant -/

def linked (n : Nat) : State := (live.setN (Obj.TT_LINK_STATE 0) n).setN (Obj.TT_LINK_STATE 1) n
def pageA : Octets := pageOctets 7 1 3 false true
def oamA (kind snr : Nat) : CodeBlock := oamBlock kind 2 snr 0 1
/-- A lock: a group of one codeword of zeros under its mask, three times. -/
def maskedZeros : List Sym := List.replicate rsInfo 0#10 ++ (List.range rsParityLen).map (parityMask 0)
def lockW : PortLock := { p := 1, headers := List.replicate 64 syncControl, groups := List.replicate 3 maskedZeros, oam := oamBlock 1 3 200 0 1 }
def scr0 : List Bool := List.replicate 58 false
def tframe : TrunkFrame :=
  { words := [(scramble scr0 (frameBlocks (frameOctets (live.getO Obj.TRUNK_MAC) (be 6 1) (live.getN Obj.TRUNK_VLAN) 0 .none 0x0800 [])), false)],
    scr := scr0, group := 0, pos := 0, ptp := .none, event := false, ask := none }
def keyP : KeyRec := { keyJ with kind := 4, keyId := 1 }
def pairedA (n : Nat) : State :=
  { ((((live.setN Obj.CS_PAIRSEL 1).set Obj.CS_PARTNER_EUI (.octets (be 8 2))).set Obj.CS_PAIR_KEYID (.octets (be 8 1))).setN Obj.CS_STATE n).setN Obj.CS_PARTNER_STATE 2 with bn := { live.bn with records := [keyP] } }
/-- The octets of a pulse with this state. -/
def pulseOct (pairId counter st sent : Nat) : Octets :=
  pairHead 1 pairId 2 counter ++ be 1 st ++ be 1 0 ++ be 22 0 ++ be 8 sent ++ be 20 0
def pulseW : PairWire :=
  { src := be 8 2, octets := pulseOct (live.getN Obj.CS_PAIR_ID) 5 (2 + 16) 0, tagOk := true, old := false }
def pulseB : Pulse := (readPulse pulseW).getD default
/-- A pulse of member `m` in state `st`. -/
def pulseOf1 (m st : Nat) : PairWire :=
  { src := be 8 2, tagOk := true, old := false,
    octets := pairHead 1 (live.getN Obj.CS_PAIR_ID) m 5 ++ be 1 (st + 16) ++ be 1 0 ++ be 22 0 ++ be 8 0 ++ be 20 0 }
def streamW : PairWire := { src := be 8 2, octets := pairHead 2 (live.getN Obj.CS_PAIR_ID) 2 1, tagOk := true, old := false }
def streamB : StreamMsg := (readStream streamW [.plan 5 []]).getD default
def streamW2 : PairWire := { streamW with octets := pairHead 2 (live.getN Obj.CS_PAIR_ID) 2 2 }
def annA : Announce := { (default : Announce) with domain := live.getN Obj.PTP_DOMAIN, ident := [1], utc := 37 }
def ptpP : PtpPort := { delays := [], lastSync := some 0, diff := 0, syncInt := secC, asked := none, askedAt := none, askLog := 0, since := none, silent := false }
def slaved (n : Nat) : State :=
  let s := (((linked 4).setN (Obj.TT_PTP_STATE 0) 3).setN (Obj.TT_PTP_STATE 1) n).setN Obj.PTP_MASTER_PORT 1
  { s with sx := { s.sx with selected := some annA, masters := [{ ann := annA, port := 1, heard := 0 }],
                             ptp := List.replicate 2 ptpP } }

/-! Binnacle, Tack, diagnostics -/

def keyG : KeyRec := { keyJ with kind := 2, keyId := 1, gen := 1 }
def roomy : State := live.setN Obj.BN_BLOB_CAPACITY 1000
def keyed (k : KeyRec) : State := { roomy with bn := { roomy.bn with records := [k] } }
def keyMsg (kind id gen n : Nat) : Octets :=
  be 2 0x5A42 ++ be 1 1 ++ be 1 kind ++ be 1 1 ++ be 1 0 ++ be 2 1 ++ be 8 id ++ be 4 gen ++ List.replicate (n - 20) 0
def importG (replace : Bool) : ImportRun :=
  { replace := replace, new := { keyG with gen := 2 }, old := 1, prepared := true, handle := 9 }
def rollG : Rollover := { pan := 0, key := 1, overlap := 60, at' := 0, switched := none }
def tackA : TackRec :=
  { seq := 0, op := 1, bank := 1, boots := 0, handle := 9, length := 70000, segs := [], digest := List.replicate 32 0 }
def staging (n : Nat) : State :=
  { live.setN Obj.TACK_STAGE_NOW n with rst := { live.rst with tack := [tackA] } }
def segA : Octets := be 4 0 ++ List.replicate 65536 1
def segB : Octets := be 4 65536 ++ List.replicate 4464 1
def soaking : State :=
  { ((staging 5).setN (Obj.key Obj.TACK 1) 1).setN Obj.BN_STATE 2 with now := 1000000 * secC }
def testA : TestRun := { code := 3, target := 7, handle := 0, due := 0, began := false, start := 0, late := false, runs := 0 }
def captured : State :=
  { live with diag := { live.diag with caps := live.diag.caps.map (fun f => { f with recs := [default] }) } }

/-! ## Every hypothesis can be met -/

theorem witness_quayPortCompletes :
    (∃ (b : Nat), 115200 ≤ b ∧ b ≤ 3000000) ∧
    (∃ (s : State), s.pwr.standby = false ∧ s.pwr.entry = none) ∧
    (∃ (s : State), s.pwr.standby = true) ∧
    (∃ (s : State) (len : Nat) (c : Nat) (body : Octets), s.pwr.standby = false ∧ s.pwr.wakeAt = none ∧
     s.mg.quay.wakeWait = false ∧ (s.mg.quay.uart = true ∨ s.mg.quay.quad = false) ∧ s.mg.quay.hunt = [] ∧ 10 ≤ len ∧
     len ≤ 1034 ∧ body.length = len ∧ c < 65536 ∧ c ≠ crc16 (be 2 len ++ body)) ∧
    (∃ (s : State) (tok : Nat) (ix : Nat) (sub : Nat), Ready s { via := .quay, tok := tok, blk := none } ∧
     s.pwr.wakeAt = none ∧ s.mg.quay.wakeWait = false ∧ s.mg.quay.uart = true ∧ s.mg.quay.hunt = [] ∧ tok < 256 ∧
     ix < 65536 ∧ sub < 256 ∧ ownRead (Obj.key ix sub) = false ∧ s.entered.checkRead 0 ix sub = none) ∧
    (∃ (s : State) (fr : QuayFrame) (rest : List QuayFrame), s.mg.quay.notifications = [] ∧
     s.mg.quay.responses = fr :: rest ∧ s.mg.quay.waiting = [] ∧ fr.takes = none ∧ rest.all (fun x => x.ord != fr.ord)) ∧
    (∃ (s : State) (fr : QuayFrame) (w : QuayFrame) (rest : List QuayFrame) (ws : List QuayFrame), s.mg.quay.notifications = [] ∧
     s.mg.quay.responses = fr :: rest ∧ s.mg.quay.waiting = w :: ws ∧ fr.takes = none ∧
     rest.all (fun x => x.ord != fr.ord) ∧ rest.length < responsePlaces) ∧
    (∃ (s : State) (fr : QuayFrame) (n : Nat) (last : Nat), s.mg.quay.notifications = [fr] ∧ s.mg.quay.responses = [] ∧
     fr.takes = some (n, last) ∧
     (nth s.mg.fifos n).observer = some { sess := 0, tok := fr.tok, outstanding := some last } ∧ n < s.mg.fifos.length) ∧
    (∃ (s : State) (fr : QuayFrame) (n : Nat) (last : Nat), s.mg.quay.notifications = [fr] ∧ s.mg.quay.responses = [] ∧
     fr.takes = some (n, last) ∧ (nth s.mg.fifos n).observer ≠ some { sess := 0, tok := fr.tok, outstanding := some last }) :=
  ⟨⟨115200, by decide +kernel⟩,
   ⟨live, by decide +kernel⟩,
   ⟨{ live with pwr := { live.pwr with standby := true } }, by decide +kernel⟩,
   ⟨live, 10, 0, List.replicate 10 0, by decide +kernel⟩,
   ⟨{ live with mg := { live.mg with quay := { live.mg.quay with uart := true } } }, 255, 0x3000, 2, by decide +kernel⟩,
   ⟨{ live with mg := { live.mg with quay := { live.mg.quay with responses := [{ ord := 3, kind := 2, tok := 1, key := 0, code := 68, payload := .none, takes := none }] } } }, { ord := 3, kind := 2, tok := 1, key := 0, code := 68, payload := .none, takes := none }, [], by decide +kernel⟩,
   ⟨{ live with mg := { live.mg with quay := { live.mg.quay with responses := [default], waiting := [default] } } }, default, default, [], [], by decide +kernel⟩,
   ⟨{ live with mg := { live.mg with fifos := live.mg.fifos.map (fun f => { f with observer := some { sess := 0, tok := 1, outstanding := some 9 } }), quay := { live.mg.quay with notifications := [{ ord := 3, kind := 3, tok := 1, key := 0, code := 69, payload := .none, takes := some (7, 9) }] } } }, { ord := 3, kind := 3, tok := 1, key := 0, code := 69, payload := .none, takes := some (7, 9) }, 7, 9, by decide +kernel⟩,
   ⟨{ live with mg := { live.mg with quay := { live.mg.quay with notifications := [{ ord := 3, kind := 3, tok := 1, key := 0, code := 69, payload := .none, takes := some (7, 9) }] } } }, { ord := 3, kind := 3, tok := 1, key := 0, code := 69, payload := .none, takes := some (7, 9) }, 7, 9, by decide +kernel⟩⟩

theorem witness_sessionsComplete :
    (∃ (s : State) (n : Nat) (x : Transfer), x ∈ s.mg.transfers ∧ x.sess = n ∧ x.last + 60 * secC ≤ s.now) ∧
    (∃ (s : State) (n : Nat) (x : Session), s.session? n = some x ∧ n ≠ 0 ∧
     x.lastReq + s.getN Obj.SESSION_IDLE * secC ≤ s.now ∧ s.outstanding n = 0 ∧
     (s.mg.fifos.all (fun f => f.observer.elim true (fun o => o.sess != n))) = true ∧ s.mg.fifos.length = 8) ∧
    (∃ (s : State) (r : Req) (n : Nat), Ready s r ∧ s.isOn 1 = true ∧ n ≠ 0 ∧ n < 16 ∧ (s.session? n).isSome = true) ∧
    (∃ (s : State) (r : Req) (ix : Nat) (sub : Nat), Ready s r ∧ ownRead (Obj.key ix sub) = false ∧
     s.entered.checkRead 0 ix sub = none) ∧
    (∃ (s : State) (r : Req) (ix : Nat) (sub : Nat) (rc : Rc), Ready s r ∧ ownRead (Obj.key ix sub) = false ∧
     s.entered.checkRead 0 ix sub = some rc) ∧
    (∃ (s : State) (r : Req) (ix : Nat) (sub : Nat) (w : Wire) (v : Val), Ready s r ∧ ownRow (Obj.key ix sub) = false ∧
     tableKept (Obj.key ix sub) = false ∧
     (s.entered.checkWrite 0 ix sub w (fun v => s.entered.lateCause (Obj.key ix sub) v)).toOption = some v) :=
  ⟨⟨{ live with mg := { live.mg with transfers := [{ sess := 0, key := 0, data := [], last := 0 }] }, now := 60 * secC }, 0, { sess := 0, key := 0, data := [], last := 0 }, by decide +kernel⟩,
   ⟨{ live with mg := { live.mg with sessions := [{ (default : Session) with num := 1 }] }, now := 100000 * secC }, 1, { (default : Session) with num := 1 }, by decide +kernel⟩,
   ⟨{ live with mg := { live.mg with sessions := live.mg.sessions ++ [{ (default : Session) with num := 15 }] } }, quay, 15, by decide +kernel⟩,
   ⟨live.setCond 3 .off, quay, Obj.SEXTANT_NOW / 256, Obj.SEXTANT_NOW % 256, by decide +kernel⟩,
   ⟨live.setCond 3 .off, quay, 0x8000, 3, .domainAsleep, by decide +kernel⟩,
   ⟨live, quay, 0x3000, 2, .uint 1, .int 1, by decide +kernel⟩⟩

theorem witness_eventFifosComplete :
    (∃ (s : State) (r : Req) (n : Nat), Ready s r ∧ s.isOn 1 = true ∧ r.cancel = false ∧ n < s.mg.fifos.length ∧ n < 8 ∧
     (nth s.mg.fifos n).observer = none ∧ (nth s.mg.fifos n).recs ≠ [] ∧ (nth s.mg.fifos n).stalled = []) ∧
    (∃ (s : State) (r : Req) (n : Nat), Ready s r ∧ s.isOn 1 = true ∧ r.cancel = false ∧ n < s.mg.fifos.length ∧ n < 8 ∧
     (nth s.mg.fifos n).observer = none ∧ ((nth s.mg.fifos n).recs = [] ∨ (nth s.mg.fifos n).stalled ≠ [])) ∧
    (∃ (s : State) (n : Nat) (x : Stalled) (rest : List Stalled), n < s.mg.fifos.length ∧ n < 8 ∧
     (nth s.mg.fifos n).stalled = x :: rest ∧ x.sess = 0 ∧ (nth s.mg.fifos n).recs ≠ [] ∧ x.asked.blk2 = none ∧
     (Payload.records ((nth s.mg.fifos n).recs.take 15)).cbor.length ≤ x.asked.size ∧
     s.mg.quay.responses.length < responsePlaces) ∧
    (∃ (s : State) (r : Req) (n : Nat), Ready s r ∧ s.isOn 1 = true ∧ n < s.mg.fifos.length ∧ n < 8 ∧
     (nth s.mg.fifos n).observer = none) ∧
    (∃ (s : State) (n : Nat) (o : Observer), n < s.mg.fifos.length ∧ (nth s.mg.fifos n).observer = some o ∧ o.sess = 0 ∧
     o.outstanding = none ∧ (nth s.mg.fifos n).recs ≠ [] ∧ s.mg.quay.notifications.length < 16) ∧
    (∃ (s : State) (n : Nat) (o : Observer) (last : Nat), n < s.mg.fifos.length ∧ (nth s.mg.fifos n).observer = some o ∧
     o.sess ≠ 0 ∧ o.outstanding = some last) ∧
    (∃ (s : State) (n : Nat) (o : Observer), n < s.mg.fifos.length ∧ (nth s.mg.fifos n).observer = some o ∧ o.sess ≠ 0 ∧
     o.outstanding.isSome = true) ∧
    (∃ (s : State) (r : Req) (n : Nat), Ready s r ∧ s.isOn 1 = true ∧ n < s.mg.fifos.length ∧ n < 8) ∧
    (∃ (s : State) (r : Req) (x : Session) (j : JRec), Ready s r ∧ s.isOn 1 = true ∧ s.session? 0 = some x ∧
     s.lb.journal.find? (fun j => j.seq == x.cursor) = some j) :=
  ⟨⟨eventful, quay, 0, by decide +kernel⟩,
   ⟨live, quay, 7, by decide +kernel⟩,
   ⟨{ eventful with mg := { eventful.mg with fifos := eventful.mg.fifos.map (fun f => { f with stalled := [{ sess := 0, tok := tok9, asked := quay.asked }] }) } }, 0, { sess := 0, tok := tok9, asked := quay.asked }, [], by decide +kernel⟩,
   ⟨live, quay, 7, by decide +kernel⟩,
   ⟨{ eventful with mg := { eventful.mg with fifos := eventful.mg.fifos.map (fun f => { f with observer := some { sess := 0, tok := 9, outstanding := none } }) } }, 0, { sess := 0, tok := 9, outstanding := none }, by decide +kernel⟩,
   ⟨{ eventful with mg := { eventful.mg with fifos := eventful.mg.fifos.map (fun f => { f with observer := some { sess := 1, tok := 9, outstanding := some 0 } }) } }, 0, { sess := 1, tok := 9, outstanding := some 0 }, 0, by decide +kernel⟩,
   ⟨{ eventful with mg := { eventful.mg with fifos := eventful.mg.fifos.map (fun f => { f with observer := some { sess := 1, tok := 9, outstanding := some 0 } }) } }, 0, { sess := 1, tok := 9, outstanding := some 0 }, by decide +kernel⟩,
   ⟨eventful, quay, 7, by decide +kernel⟩,
   ⟨live, quay, live.session 0, { seq := 0, kind := 4, session := 0, index := 0, sub := 0, persistent := false, result := .ok, time := 0, old := [], new := [] }, by decide +kernel⟩⟩

theorem witness_procAbortCompletes :
    (∃ (s : State) (r : Req) (h : Nat), Ready s r ∧ h < 2 ^ 32 ∧ handleFifo (h / 65536) = none ∧ h / 65536 ≠ Obj.TACK ∧
     s.entered.abortBad h = none) ∧
    (∃ (s : State) (r : Req) (h : Nat) (rc : Rc), Ready s r ∧ h < 2 ^ 32 ∧ s.entered.abortBad h = some rc) ∧
    (∃ (s : State) (r : Req) (n : Nat), Ready s r ∧ 1 ≤ n ∧ n ≤ 0xFEFF ∧ s.procRunning Obj.CAL_FROM_SEXTANT = true ∧
     s.procHandle Obj.CAL_FROM_SEXTANT = Obj.CAL_FROM_SEXTANT * 65536 + n) ∧
    (∃ (s : State) (r : Req) (n : Nat) (c : Commit), Ready s r ∧ 1 ≤ n ∧ n ≤ 0xFEFF ∧
     s.procRunning Obj.SCHEDULE_COMMIT = true ∧ s.procHandle Obj.SCHEDULE_COMMIT = Obj.SCHEDULE_COMMIT * 65536 + n ∧
     s.helm.commit = some c ∧ c.switched = false) ∧
    (∃ (s : State) (r : Req) (n : Nat), Ready s r ∧ 1 ≤ n ∧ n ≤ 0xFEFF ∧ s.procRunning Obj.BN_ATTEST = true ∧
     s.procHandle Obj.BN_ATTEST = Obj.BN_ATTEST * 65536 + n) ∧
    (∃ (s : State) (r : Req) (n : Nat) (x : Rollover), Ready s r ∧ 1 ≤ n ∧ n ≤ 0xFEFF ∧
     s.procRunning Obj.GROUP_ROLLOVER = true ∧ s.procHandle Obj.GROUP_ROLLOVER = Obj.GROUP_ROLLOVER * 65536 + n ∧
     s.bn.roll = some x ∧ x.switched = none) ∧
    (∃ (s : State) (r : Req) (n : Nat), Ready s r ∧ n < 8 ∧ n < s.mg.fifos.length ∧
     ((nth s.mg.fifos n).stalled.any (fun x => x.sess == 0)) = true ∧
     s.mg.quay.responses.length + ((nth s.mg.fifos n).stalled.filter (fun x => x.sess == 0)).length < responsePlaces) :=
  ⟨⟨(live.setN (Obj.key Obj.BN_ATTEST 1) 1).setN (Obj.key Obj.BN_ATTEST 5) (Obj.BN_ATTEST * 65536 + 1), quay, Obj.BN_ATTEST * 65536 + 1, by decide +kernel⟩,
   ⟨live, quay, Obj.BN_ATTEST * 65536 + 1, .stateConflict, by decide +kernel⟩,
   ⟨((live).setN (Obj.key Obj.CAL_FROM_SEXTANT 1) 1).setN (Obj.key Obj.CAL_FROM_SEXTANT 5) (Obj.CAL_FROM_SEXTANT * 65536 + 0xFEFF), quay, 0xFEFF, by decide +kernel⟩,
   ⟨(({ live with helm := { live.helm with commit := some default } } : State).setN (Obj.key Obj.SCHEDULE_COMMIT 1) 1).setN (Obj.key Obj.SCHEDULE_COMMIT 5) (Obj.SCHEDULE_COMMIT * 65536 + 0xFEFF), quay, 0xFEFF, default, by decide +kernel⟩,
   ⟨(({ live with bn := { live.bn with attest := some (0, []) } } : State).setN (Obj.key Obj.BN_ATTEST 1) 1).setN (Obj.key Obj.BN_ATTEST 5) (Obj.BN_ATTEST * 65536 + 0xFEFF), quay, 0xFEFF, by decide +kernel⟩,
   ⟨(({ live with bn := { live.bn with roll := some rollG } } : State).setN (Obj.key Obj.GROUP_ROLLOVER 1) 1).setN (Obj.key Obj.GROUP_ROLLOVER 5) (Obj.GROUP_ROLLOVER * 65536 + 0xFEFF), quay, 0xFEFF, rollG, by decide +kernel⟩,
   ⟨{ live with mg := { live.mg with fifos := upd live.mg.fifos 7 (fun f => { f with stalled := [{ sess := 0, tok := tok9, asked := quay.asked }] }) } }, quay, 7, by decide +kernel⟩⟩

theorem witness_gainStepsComplete :
    (∃ (s : State) (p : Nat) (n : Nat), p < 4 ∧ s.isOn (rxDom p) = true ∧ s.getN (Obj.PP_GAIN_MODE p) = 0 ∧
     bit (s.getN Obj.TRIM_STATUS) 3 = false ∧ (s.port p).blanked = false ∧ 16 ≤ n ∧ 0 < s.getN (Obj.PP_GAIN_STEP_NOW p) ∧
     (s.port p).clipAt + usC ≤ s.now) ∧
    (∃ (s : State) (p : Nat) (ms : Nat), p < 4 ∧ s.isOn (rxDom p) = true ∧ s.getN (Obj.PP_GAIN_MODE p) = 0 ∧
     bit (s.getN Obj.TRIM_STATUS) 3 = false ∧ (s.port p).blanked = false ∧ s.getN (Obj.PP_GAIN_UP_HOLD p) ≤ ms ∧
     s.getN (Obj.PP_GAIN_STEP_NOW p) < topStep p) :=
  ⟨⟨{ live.setN (Obj.PP_GAIN_STEP_NOW 3) 2 with now := secC }, 3, 16, by decide +kernel⟩,
   ⟨live.setN (Obj.PP_GAIN_STEP_NOW 0) 3, 0, 1000, by decide +kernel⟩⟩

theorem witness_transmissionGroupsComplete :
    (∃ (s : State) (c : Nat) (g : Group) (f : AirFrame), s.planOf c = some g ∧ g.chain = c ∧ c < s.fe.chains.length ∧
     g.port < s.fe.ports.length ∧ (s.chain c).group = none ∧ s.getN (Obj.PP_MATCH_STATE g.port) ≠ 2 ∧
     s.isOn (chainDom c) = true ∧ s.getN (Obj.CC_SYNTH_STATE c) = 2 ∧ s.getN (Obj.CC_SYNTH_FREQ c) = g.freq ∧
     s.silent = false ∧ g.frames = [f] ∧ 1 ≤ s.getN (Obj.CC_CARRIER_LIMIT c) ∧ s.heldUntil g = none ∧
     (s.dropPlan g).wouldDrop (blankingOf s.onAir) g.port [f.freq] [] = false) ∧
    (∃ (s : State) (c : Nat) (g : Group), (s.chain c).group = some g ∧ (s.chain c).drv.isSome = true ∧ g.chain = c ∧
     c < s.fe.chains.length ∧ g.port < s.fe.ports.length ∧ s.silent = false) ∧
    (∃ (s : State) (c : Nat) (m : CutMeasure) (g : Group), (s.chain c).group = some g ∧ (s.chain c).drv.isSome = true ∧
     40 ≤ s.airedUs g ∧ g.chain = c ∧ c < s.fe.chains.length ∧ m.rl < 35 ∧ s.silent = false ∧ s.mg.fifos.length = 8) :=
  ⟨⟨planned, 0, grp, frm, by decide +kernel⟩,
   ⟨airing, 0, grp, by decide +kernel⟩,
   ⟨{ airing with now := 100 * usC }, 0, { rl := 34, avg := 100, iso := 500 }, grp, by decide +kernel⟩⟩

theorem witness_retunesComplete :
    (∃ (s : State) (r : Req) (p : Nat), Ready s r ∧ s.isOn 1 = true ∧ p < 4 ∧ p < s.fe.ports.length ∧
     s.procRunning Obj.BEARING_RETUNE = false ∧ s.retunable p = true) ∧
    (∃ (s : State) (r : Req) (p : Nat) (a : Nat) (b : Nat), Ready s r ∧ s.isOn 1 = true ∧ p < 4 ∧ p < s.fe.ports.length ∧
     a < 64 ∧ b < 64 ∧ s.procRunning Obj.BEARING_RETUNE = false ∧ s.retunable p = true) ∧
    (∃ (s : State) (p : Nat) (c : Nat) (us : Nat) (q : RetuneReq), p < s.fe.ports.length ∧ (s.port p).retuneReq = some q ∧
     s.silent = false ∧ 250 ≤ us ∧ (s.chainsOf p).contains c = true ∧ s.lockedFree c = true ∧ (s.port p).retuneRun = none ∧
     s.getB (Obj.CC_CAL_PENDING c) = false ∧ (s.chain c).calQueue = [] ∧ s.windowFree c = true ∧
     s.quietFor (fun g => g.port == p || g.chain == c) (fun a => a.port == p || a.chain == c) = true ∧
     (s.inQuiet 1 p || s.noneDue p) = true ∧ (s.fe.chains.all (fun x => x.group.elim true (fun g => g.port != p))) = true ∧
     (s.rx.recs.all (fun r => r.sfd.isNone || winPort r.win != p)) = true) ∧
    (∃ (s : State) (p : Nat) (a : Nat) (b : Nat) (run : RetuneRun), p < 4 ∧ p < s.fe.ports.length ∧
     (s.port p).retuneRun = some run ∧ run.req.set = some (a, b)) ∧
    (∃ (s : State) (p : Nat) (e : Count), p < s.fe.ports.length ∧ (s.port p).holdoff = some e ∧ e ≤ s.now ∧
     s.getN (Obj.PP_MATCH_STATE p) ≠ 0 ∧ s.retunable p = true ∧ (s.port p).retuneReq = none) :=
  ⟨⟨live, quay, 3, by decide +kernel⟩,
   ⟨live, quay, 0, 63, 0, by decide +kernel⟩,
   ⟨retuning, 0, 0, 250, rq, by decide +kernel⟩,
   ⟨retuningNow, 0, 5, 6, rrun, by decide +kernel⟩,
   ⟨(live.setN (Obj.PP_MATCH_STATE 1) 1).updPort 1 (fun x => { x with holdoff := some 0 }), 1, 0, by decide +kernel⟩⟩

theorem witness_synthesisersComplete :
    (∃ (s : State) (r : Req) (n : Nat), Ready s r ∧ s.isOn 1 = true ∧ 1 ≤ n ∧ n < 8 ∧
     s.procRunning Obj.SYNTH_CALIBRATE = false) ∧
    (∃ (s : State) (c : Nat) (x : Int), c < 3 ∧ c < s.fe.chains.length ∧
     s.getN (Obj.CC_CAL_DELTA_T c) * 10 ≤ (x - s.getI (Obj.CC_CAL_TEMP c)).natAbs ∧ s.getB (Obj.CC_CAL_PENDING c) = false) ∧
    (∃ (s : State) (c : Nat) (q : Nat) (rest : List Nat), c < 3 ∧ c < s.fe.chains.length ∧
     (s.chain c).calQueue = q :: rest ∧ (s.chain c).group = none ∧ (s.chain c).calRun = none ∧
     s.cond (chainDom c) ≠ .reset ∧ s.pwr.off = false ∧ s.pwr.standby = false ∧ s.retuneOn c = none ∧ q ≠ 1) ∧
    (∃ (s : State) (c : Nat) (us : Nat), c < 3 ∧ c < s.fe.chains.length ∧ (s.chain c).calQueue = [] ∧
     s.getB (Obj.CC_CAL_PENDING c) = true ∧ 250 ≤ us ∧ s.windowFree c = true ∧
     s.quietFor (fun g => g.chain == c) (fun a => a.chain == c) = true ∧ (s.chain c).group = none ∧
     (s.chain c).calRun = none ∧ s.cond (chainDom c) ≠ .reset ∧ s.pwr.off = false ∧ s.pwr.standby = false ∧
     s.retuneOn c = none) ∧
    (∃ (s : State) (c : Nat) (run : CalRun), c < 3 ∧ c < s.fe.chains.length ∧ (s.chain c).calRun = some run ∧
     (s.chain c).stateSince + 180 * usC ≤ s.now ∧ s.isOn (chainDom c) = true) ∧
    (∃ (s : State) (c : Nat), c < 3 ∧ c < s.fe.chains.length ∧ s.isOn (chainDom c) = true ∧
     s.getN (Obj.CC_SYNTH_STATE c) = 1) ∧
    (∃ (s : State) (c : Nat), c < 3 ∧ c < s.fe.chains.length ∧ s.isOn (chainDom c) = true ∧
     s.getN (Obj.CC_SYNTH_STATE c) = 4 ∧ (s.chain c).stateSince + usC ≤ s.now) ∧
    (∃ (s : State) (u : LockLoss), u.c < 3 ∧ u.c < s.fe.chains.length ∧ s.getN (Obj.CC_SYNTH_STATE u.c) = 2 ∧
     (s.chain u.c).drv = none ∧ (s.chain u.c).lastUnlock = none ∧ s.mg.fifos.length = 8) ∧
    (∃ (s : State) (c : Nat) (f : Nat), c < 3 ∧ c < s.fe.chains.length ∧ s.dueFreq c = some f ∧
     s.cond (chainDom c) = .off ∧ chainDom c < s.pwr.dom.length ∧ (s.chain c).group = none ∧ (s.chain c).calRun = none ∧
     s.pwr.off = false ∧ s.pwr.standby = false) ∧
    (∃ (s : State) (d : Nat), (d = 12 ∨ d = 13) ∧ s.pwr.dom.length = 16 ∧ s.pwr.modeInForce = 1 ∧ s.isOn d = true ∧
     (s.fe.chains.all (fun c => c.group.isNone && c.calRun.isNone && decide (c.lastGroupEnd + 50 * usC ≤ s.now))) = true ∧
     s.fe.chains.length = 3 ∧ s.fe.ports.length = 4 ∧ (s.fe.ports.all (fun p => p.retuneRun.isNone)) = true ∧
     s.helm.plans = [] ∧ s.helm.acks = []) ∧
    (∃ (s : State) (b : Nat), b < 2 ∧ s.fe.modeWrite.getD b false = true ∧ s.fe.modeWrite.length = 2 ∧
     (s.onAir.all (fun g => bandOf g.port != b)) = true) :=
  ⟨⟨live, quay, 7, by decide +kernel⟩,
   ⟨live, 2, 900, by decide +kernel⟩,
   ⟨live.updChain 2 (fun x => { x with calQueue := [0, 2] }), 2, 0, [2], by decide +kernel⟩,
   ⟨live.setB (Obj.CC_CAL_PENDING 2) true, 2, 250, by decide +kernel⟩,
   ⟨{ live.updChain 2 (fun x => { x with calRun := some calr }) with now := secC }, 2, calr, by decide +kernel⟩,
   ⟨live.setN (Obj.CC_SYNTH_STATE 2) 1, 2, by decide +kernel⟩,
   ⟨{ live.setN (Obj.CC_SYNTH_STATE 2) 4 with now := secC }, 2, by decide +kernel⟩,
   ⟨live.setN (Obj.CC_SYNTH_STATE 2) 2, { c := 2, rl := 100, iso := 500 }, by decide +kernel⟩,
   ⟨planned.setCond 12 .off, 0, 868000000, by decide +kernel⟩,
   ⟨{ live with now := secC, pwr := { live.pwr with modeInForce := 1 } }, 13, by decide +kernel⟩,
   ⟨{ live with fe := { live.fe with modeWrite := [true, true] } }, 1, by decide +kernel⟩⟩

theorem witness_receptionsComplete :
    (∃ (s : State) (x : Sense) (c : Cand), s.rx.recs = [] ∧ s.rx.starved = [] ∧ s.rx.lodestar = false ∧ s.cand x = some c ∧
     (s.port (winPort x.win)).retuneRun = none) ∧
    (∃ (s : State) (d : Nat) (off : Int) (r : Recep), s.rx.recs = [r] ∧ r.demod = d ∧ r.sfd = none ∧ r.offsetOk off = true) ∧
    (∃ (s : State) (d : Nat) (r : Recep), s.rx.recs = [r] ∧ r.demod = d ∧ r.sfd = none ∧
     r.claimedAt + sfdTimeoutNs r.mode (s.getN (Obj.WW_PREAMBLE_MAX_NOW r.win)) ≤ s.now) ∧
    (∃ (s : State) (d : Nat) (r : Recep), s.rx.recs = [r] ∧ r.demod = d ∧ r.sfd.isSome = true) ∧
    (∃ (s : State) (d : Nat) (f : RxFrame) (r : Recep), s.rx.recs = [r] ∧ r.demod = d ∧ r.sfd.isSome = true ∧
     f.crcOk = true ∧ s.rx.held = [] ∧ s.rx.passed = []) ∧
    (∃ (s : State) (i : Nat) (h : Held), s.rx.held[i]? = some h ∧ h.since + 50 * usC ≤ s.now) :=
  ⟨⟨hearing, { win := 0, k := 3, energy := 0, qs := [(2, 200)] }, { win := 0, k := 3, mode := 2, q := 200, second := false }, by decide +kernel⟩,
   ⟨receiving, 5, 3, recA, by decide +kernel⟩,
   ⟨{ receiving with now := 1000 * secC }, 5, recA, by decide +kernel⟩,
   ⟨sfded, 5, recB, by decide +kernel⟩,
   ⟨sfded, 5, { psdu := [1, 2], crcOk := true, fec := false, fcs32 := true, mcs := 0, snr := 100 }, recB, by decide +kernel⟩,
   ⟨{ live with now := secC, rx := { live.rx with held := [default] } }, 0, default, by decide +kernel⟩⟩

theorem witness_gatedReceptionCompletes :
    (∃ (s : State) (p : Nat), p < 4 ∧ s.rx.gates.length = 4 ∧ s.pwr.dom.length = 16 ∧ s.pwr.modeInForce = 1 ∧
     s.rxWanted p = true ∧ s.cond (rxDom p) = .off ∧ s.pwr.off = false ∧ s.pwr.standby = false ∧
     (∃ c ∈ s.gateCells p, c.start ≤ s.time + gateLead ∧ s.time < c.guard)) ∧
    (∃ (s : State) (p : Nat), p < 4 ∧ s.rx.gates.length = 4 ∧ s.isOn (rxDom p) = true ∧ (nth s.rx.gates p).open' = true ∧
     (nth s.rx.gates p).listening = false ∧ (∃ c ∈ s.gateCells p, c.opens ≤ s.time ∧ s.time ≤ c.closes)) ∧
    (∃ (s : State) (p : Nat), p < 4 ∧ s.rx.gates.length = 4 ∧ s.pwr.dom.length = 16 ∧ s.pwr.modeInForce = 1 ∧
     (nth s.rx.gates p).open' = true ∧ (nth s.rx.gates p).lastUse + 2 * usC ≤ s.now ∧
     (s.rx.recs.all (fun r => winPort r.win != p)) = true ∧
     (∀ c ∈ s.gateCells p, s.time + gateLead + 300 * usT ≤ c.start ∨ c.guard + 2 * usT ≤ s.time ∧
     c.start ≤ s.time + gateLead) ∧ s.bandKept (bandOf p) s.time (s.time + gateLead + 300 * usT) = false) ∧
    (∃ (s : State), s.rx.peakBusy < 256) ∧
    (∃ (s : State) (w : Nat), w < 6 ∧ s.rx.falseCount.length = 6 ∧ s.mg.fifos.length = 8 ∧
     s.getN (Obj.WW_FALSE_LIMIT_NOW w) ≠ 0 ∧ s.getN (Obj.WW_FALSE_LIMIT_NOW w) < s.rx.falseCount.getD w 0 ∧
     s.rx.falseEventAt.getD w none = none) ∧
    (∃ (s : State) (r : Req), CanStart s r Obj.RX_WINDOW_APPLY 1 ∧ s.windowsFail s.stagedSet = none) ∧
    (∃ (s : State) (a : WinApply), s.rx.apply = some a ∧ a.rearm = none ∧ a.at' ≤ s.time ∧ a.staged = s.stagedSet) ∧
    (∃ (s : State) (a : WinApply) (l : List Nat) (n : Nat), s.rx.rearming = [] ∧ s.rx.apply = some a ∧
     a.rearm = some (l, n) ∧ a.handle ≠ 0 ∧ s.procRunning Obj.RX_WINDOW_APPLY = true) :=
  ⟨⟨{ gated with helm := { gated.helm with waits := [waitA] } }, 0, by decide +kernel⟩,
   ⟨{ gating with helm := { live.helm with waits := [waitA] } }, 0, by decide +kernel⟩,
   ⟨gating, 3, by decide +kernel⟩,
   ⟨live, by decide +kernel⟩,
   ⟨{ live with rx := { live.rx with falseCount := List.replicate 6 100000000 } }, 5, by decide +kernel⟩,
   ⟨live, quay, by decide +kernel⟩,
   ⟨{ live with rx := { live.rx with apply := some { staged := live.stagedSet, at' := 0, handle := 1, aborted := false, rearm := none } } }, { staged := live.stagedSet, at' := 0, handle := 1, aborted := false, rearm := none }, by decide +kernel⟩,
   ⟨{ live.setN (Obj.key Obj.RX_WINDOW_APPLY 1) 1 with rx := { live.rx with apply := some apl } }, apl, [0], 0, by decide +kernel⟩⟩

theorem witness_slotsComplete :
    (∃ (s : State) (pan : Nat), pan < 4 ∧ pan < s.helm.pans.length ∧ s.isOn 3 = true ∧
     (nth s.helm.pans pan).stopping = false ∧ s.getB (Obj.PN_ENABLE pan) = true ∧ s.epoch pan ≤ (s.time : Int)) ∧
    (∃ (s : State) (pan : Nat), pan < 4 ∧ pan < s.helm.pans.length ∧ s.isOn 3 = true ∧ (nth s.helm.pans pan).stopping = true) ∧
    (∃ (s : State) (b : Nat) (p : Nat) (c : Nat) (f : Nat) (bw : Nat) (ti : Tick) (d : Due), b < 2 ∧ s.isOn 3 = true ∧
     s.time ≤ ti ∧ ti ≤ s.time + 150 * usT ∧ s.helm.due = [d] ∧ d.kind = 2 ∧ d.start = ti ∧ d.cell ≠ noCell ∧
     s.getN (Obj.PN_BAND d.pan) = b ∧ s.panServed d.pan = true ∧ s.getN Obj.CS_STATE ≠ 1 ∧ s.getN Obj.CS_STATE ≠ 4 ∧
     ({ s with helm := { s.helm with due := [] } }.placeDue [] d ti []).toOption = some (p, c, f, bw)) ∧
    (∃ (s : State) (b : Nat) (r : Nat) (ti : Tick) (d : Due), b < 2 ∧ s.isOn 3 = true ∧ s.time ≤ ti ∧
     ti ≤ s.time + 150 * usT ∧ s.helm.due = [d] ∧ d.kind = 2 ∧ d.start = ti ∧ d.cell ≠ noCell ∧
     s.getN (Obj.PN_BAND d.pan) = b ∧ s.panServed d.pan = true ∧ s.getN Obj.CS_STATE ≠ 1 ∧ s.getN Obj.CS_STATE ≠ 4 ∧
     r ≠ 10 ∧ errorOf ({ s with helm := { s.helm with due := [] } }.placeDue [] d ti []) = some (r, none)) ∧
    (∃ (s : State) (c : Nat) (p : Nat) (t0 : Count), c < 3 ∧ c < s.helm.lastQuiet.length ∧
     (s.chain c).pendingSince = some t0 ∧ s.shortestPan (chainBand c) = some p ∧ t0 + 2 * secC ≤ s.now ∧
     s.helm.lastQuiet.getD c none = none ∧ (s.helm.quiet.all (fun q => !(q.kind == 0 && q.chain == c))) = true) ∧
    (∃ (s : State) (p : Nat) (c : Nat) (pan : Nat) (q : RetuneReq), p < 4 ∧
     ((((s.chainsOf p).find? s.lockedFree).orElse (fun _ => (s.chainsOf p).find? s.chainFree)).orElse (fun _ => (s.chainsOf p).head?)) = some c ∧
     c < s.helm.lastQuiet.length ∧ (s.port p).retuneReq = some q ∧ s.shortestPan (chainBand c) = some pan ∧
     q.since + 2 * secC ≤ s.now ∧ s.helm.lastQuiet.getD c none = none ∧
     (s.helm.quiet.all (fun q => !(q.kind == 1 && q.port == p))) = true) ∧
    (∃ (s : State) (pan : Nat) (asn : Nat), s.cellStart pan (asn + 1) ≤ s.time ∧ s.shadowed = false ∧ s.pilot.frames = []) ∧
    (∃ (s : State) (pan : Nat) (asn : Nat) (f : Frame) (i : Inst), s.cellStart pan (asn + 1) ≤ s.time ∧
     s.shadowed = false ∧ s.pilot.frames = [f] ∧ f.insts = [i] ∧ i.pan = pan ∧ i.asn ≤ asn ∧
     s.fe.chains.filterMap (·.group) = [] ∧ s.helm.waits = [] ∧ (nth s.helm.pans pan).running = true ∧ s.time < f.promise) ∧
    (∃ (s : State) (b : Nat), b < 16 ∧ b < s.helm.duty.length ∧ s.getB (Obj.SB_ENABLE b) = true ∧ s.isOn 3 = true ∧
     (nth s.helm.duty b).bin < s.binAt b s.now) :=
  ⟨⟨live.setB (Obj.PN_ENABLE 3) true, 3, by decide +kernel⟩,
   ⟨live.updPan 0 (fun x => { x with running := true, stopping := true }), 0, by decide +kernel⟩,
   ⟨beaconDue, 0, 0, 0, 868000000, 200000, 0, dueB, by decide +kernel⟩,
   ⟨{ live.setB (Obj.PN_ENABLE 0) true with helm := { live.helm with due := [dueB] } }, 0, 5, 0, dueB, by decide +kernel⟩,
   ⟨{ ((live.setB (Obj.PN_ENABLE 0) true).updChain 0 (fun x => { x with pendingSince := some 0 })).updPan 0 (fun x => { x with running := true }) with now := 2 * secC }, 0, 0, 0, by decide +kernel⟩,
   ⟨{ ((live.setB (Obj.PN_ENABLE 0) true).updPort 0 (fun x => { x with retuneReq := some rq })).updPan 0 (fun x => { x with running := true }) with now := 2 * secC }, 0, 0, 0, rq, by decide +kernel⟩,
   ⟨{ live with now := secC }, 0, 0, by decide +kernel⟩,
   ⟨{ live.updPan 0 (fun x => { x with running := true }) with now := secC, pilot := { live.pilot with frames := [{ (default : Frame) with ref := 7, promise := 10 * secT, insts := [default] }] } }, 0, 0, { (default : Frame) with ref := 7, promise := 10 * secT, insts := [default] }, default, by decide +kernel⟩,
   ⟨{ live.setB (Obj.SB_ENABLE 15) true with now := 1000000 * secC }, 15, by decide +kernel⟩⟩

theorem witness_framesHeardComplete :
    (∃ (s : State) (f : MacFrame) (r : Report) (rest : List Report) (pan : Nat) (n : Node) (cell : Nat × Cell × Nat × Int), s.rx.toHelm = r :: rest ∧
     r.crcOk = true ∧ s.heardPan (bandOf r.port) f = some pan ∧ f.version = 2 ∧ f.ftype = 1 ∧ f.secured = true ∧
     f.level = s.getN (Obj.PN_SEC_LEVEL pan) ∧ f.keyIx = none ∧ f.ccmOk = true ∧ s.addrOk pan f.dst = true ∧
     s.nodeBySrc f.src = some n ∧ n.lastSeq = none ∧
     s.rxCell r pan (some n) (r.sfdTime - s.preNs pan r.mode * nsT) = some cell ∧
     ({ s with rx := { s.rx with toHelm := rest } }.useLink n false).2 = true ∧ s.getB Obj.LODESTAR_ACTIVE = false) ∧
    (∃ (s : State) (f : MacFrame) (r : Report) (rest : List Report), s.rx.toHelm = r :: rest ∧
     (r.crcOk = false ∨ s.heardPan (bandOf r.port) f = none)) ∧
    (∃ (s : State) (i : Nat) (a : AckPlan), s.helm.acks[i]? = some a ∧ a.start ≤ s.time + 40 * usT ∧
     s.node? a.node = none ∧ (s.chain a.chain).group = none ∧ s.helm.plans = []) ∧
    (∃ (s : State) (i : Nat) (w : AckWait) (n : Node), s.helm.waits[i]? = some w ∧ w.latestSfd ≤ s.time ∧
     w.shared = false ∧ s.shadowed = false ∧ s.node? w.node = some n ∧ n.state = .active ∧
     n.misses + 1 < s.getN Obj.DRIFT_MISSES ∧ n.misses < 64 ∧ s.waitBusy w = false) :=
  ⟨⟨heardData, dataF, repD, [], 0, nodeK, (4, cellRx, 0, 0), by decide +kernel⟩,
   ⟨{ live with rx := { live.rx with toHelm := [{ (default : Report) with crcOk := true }] } }, dataF, { (default : Report) with crcOk := true }, [], by decide +kernel⟩,
   ⟨{ live with helm := { live.helm with acks := [{ (default : AckPlan) with node := 0x3FFFF }] } }, 0, { (default : AckPlan) with node := 0x3FFFF }, by decide +kernel⟩,
   ⟨{ live with alm := { live.alm with nodes := [nodeK] }, helm := { live.helm with waits := [{ (default : AckWait) with node := 5 }] } }, 0, { (default : AckWait) with node := 5 }, nodeK, by decide +kernel⟩⟩

theorem witness_panServiceCompletes :
    (∃ (s : State) (r : Req) (p : Nat), Takes s r (0x4000 + p) 1 (.bool true) (.bool true) ∧ p < 4 ∧
     p < s.helm.pans.length ∧ s.getB (Obj.PN_ENABLE p) = false ∧ s.panRefusal p = none) ∧
    (∃ (s : State) (r : Req) (p : Nat), Takes s r (0x4000 + p) 1 (.bool false) (.bool false) ∧ p < 4 ∧
     p < s.helm.pans.length) :=
  ⟨⟨covering, quay, 0, by decide +kernel⟩,
   ⟨(live.setB (Obj.PN_ENABLE 3) true).updPan 3 (fun x => { x with running := true }), quay, 3, by decide +kernel⟩⟩

theorem witness_scheduleCompletes :
    (∃ (s : State) (r : Req) (w : Wire) (v : Val), Takes s r 0x4200 2 w v ∧ cellEncodingOk v.toOctets = true ∧
     s.stagedCount < stagedMax) ∧
    (∃ (s : State) (r : Req) (w : Wire) (v : Val), Takes s r 0x4200 7 w v ∧ s.helm.sfs.length = 64) ∧
    (∃ (s : State) (r : Req) (e : Nat) (at' : Tick), Ready s r ∧ s.isOn 1 = true ∧ s.shadowed = false ∧
     s.procRunning Obj.SCHEDULE_COMMIT = false ∧ e < 2 ^ 32 ∧ at' < 2 ^ 48 * secT ∧ s.farAhead at' = false ∧
     s.helm.commit = none ∧ s.scheduleFail e s.stagedSfs s.mergedCells = none ∧
     sfChanges s.helm.sfs s.stagedSfs s.helm.cells s.mergedCells ≠ []) ∧
    (∃ (s : State) (f : Nat) (c : Commit), f < 64 ∧ f < s.helm.sfs.length ∧ s.helm.commit = some c ∧ c.left = [f] ∧
     s.switchAt c f ≤ s.time) :=
  ⟨⟨live, quay, .bytes (List.replicate 16 0), .octets (List.replicate 16 0), by decide +kernel⟩,
   ⟨{ live with helm := { live.helm with staged := [(3, default)] } }, quay, .bool true, .bool true, by decide +kernel⟩,
   ⟨live.setN (Obj.SS_LENGTH 0) 50, quay, 1, 0, by decide +kernel⟩,
   ⟨{ live with now := 3 * secC, helm := { live.helm with commit := some { (default : Commit) with epoch := 1, left := [63] } } }, 63, { (default : Commit) with epoch := 1, left := [63] }, by decide +kernel⟩⟩

theorem witness_tableChangesComplete :
    (∃ (s : State) (r : Req) (w : Wire) (v : Val) (n : Node), Takes s r 0x5030 1 w v ∧ (s.session? 0).isSome = true ∧
     s.nodeByEui (num v.toOctets) = some n) ∧
    (∃ (s : State) (q : Insertion) (rest : List Insertion) (i : Nat), s.alm.queue = q :: rest ∧ s.alm.rehash.phase < 2 ∧
     s.alm.loaded = true ∧ s.isOn 4 = true ∧ s.nodeByEui q.eui = none ∧ s.newIndex = some i ∧
     (s.alm.table.insert s.hashes q.eui).2 = true ∧ s.shadowed = false ∧ s.mg.fifos.length = 8) ∧
    (∃ (s : State) (r : Req) (eui : Nat) (pan : Nat) (f : Nat), CanStart s r Obj.NODE_ADD 4 ∧ eui < 2 ^ 64 ∧ pan < 4 ∧
     f < 2 ∧ s.nodeByEui eui = none ∧ s.alm.queue.length < 256) ∧
    (∃ (s : State) (r : Req) (i : Nat) (n : Node), CanStart s r Obj.NODE_REMOVE 4 ∧ i < 262143 ∧ s.node? i = some n) ∧
    (∃ (s : State) (i : Nat) (n : Node), s.node? i = some n ∧ s.alm.removing.contains i = true ∧ s.nodeBusy i = false ∧
     s.shadowed = false ∧ s.mg.fifos.length = 8) :=
  ⟨⟨noded, quay, .bytes (be 8 77), .octets (be 8 77), nodeK, by decide +kernel⟩,
   ⟨{ noded with alm := { noded.alm with queue := [{ (default : Insertion) with eui := 9 }] } }, { (default : Insertion) with eui := 9 }, [], 0, by decide +kernel⟩,
   ⟨noded, quay, 18446744073709551615, 3, 1, by decide +kernel⟩,
   ⟨noded, quay, 5, nodeK, by decide +kernel⟩,
   ⟨{ noded with alm := { noded.alm with removing := [5] } }, 5, nodeK, by decide +kernel⟩⟩

theorem witness_rehashCompletes :
    (∃ (s : State) (r : Req), CanStart s r Obj.NODE_REHASH 4 ∧ s.alm.rehash.phase = 0 ∧ s.bn.badBlocks < 3) ∧
    (∃ (s : State) (l : List ((Nat × Nat) × Nat)), s.alm.rehash.phase = 1 ∧ s.alm.rehash.delta < 16384 ∧
     layoutOf s.alm.rehash.newSeeds (s.alm.nodes.map (·.eui)) = some l) ∧
    (∃ (s : State), s.alm.rehash.phase = 2) ∧
    (∃ (s : State), s.alm.rehash.phase = 3 ∧ s.alm.rehash.pointer < 65536) ∧
    (∃ (s : State), s.alm.rehash.phase = 3 ∧ 65536 ≤ s.alm.rehash.pointer ∧ s.alm.heldNodes = [] ∧ s.mg.fifos.length = 8) :=
  ⟨⟨noded, quay, by decide +kernel⟩,
   ⟨{ live with alm := { live.alm with rehash := { live.alm.rehash with phase := 1 } } }, [], by decide +kernel⟩,
   ⟨{ live with alm := { live.alm with rehash := { live.alm.rehash with phase := 2 } } }, by decide +kernel⟩,
   ⟨{ live with alm := { live.alm with rehash := { live.alm.rehash with phase := 3, pointer := 65535 } } }, by decide +kernel⟩,
   ⟨{ live with alm := { live.alm with rehash := { live.alm.rehash with phase := 3, pointer := 65536 } } }, by decide +kernel⟩⟩

theorem witness_ageingAndJoinsComplete :
    (∃ (s : State) (n : Node), s.shadowed = false ∧ s.alm.loaded = true ∧ s.isOn 4 = true ∧ s.alm.nodes = [n] ∧
     n.pinned = true ∧ n.state = .active ∧ s.getN Obj.NODE_STALE ≤ s.ageOf n.lastHeard ∧ s.mg.fifos.length = 8) ∧
    (∃ (s : State) (n : Node), s.shadowed = false ∧ s.alm.loaded = true ∧ s.isOn 4 = true ∧ s.alm.nodes = [n] ∧
     n.pinned = false ∧ n.state ≠ .joining ∧ s.getN Obj.NODE_EVICT ≠ 0 ∧ s.getN Obj.NODE_EVICT ≤ s.ageOf n.lastHeard ∧
     s.pilot.frames = [] ∧ s.mg.fifos.length = 8) ∧
    (∃ (s : State) (i : Nat) (n : Node), s.node? i = some n ∧ n.state = .joining ∧ n.auto = true ∧
     n.created + s.getN Obj.JOIN_TIMEOUT * secC ≤ s.now ∧ s.shadowed = false ∧ s.mg.fifos.length = 8) ∧
    (∃ (s : State) (eui : Nat) (pan : Nat), s.shadowed = false ∧ s.getB Obj.LODESTAR_ACTIVE = false ∧ s.isOn 4 = true ∧
     s.nodeByEui eui = none ∧ bit (s.getN Obj.JOIN_ENABLE) pan = true ∧ pan < 4 ∧ s.joiningCount < s.getN Obj.JOIN_LIMIT ∧
     s.alm.queue = []) ∧
    (∃ (s : State) (eui : Nat) (n : Node) (k : KeyRec), s.shadowed = false ∧ s.getB Obj.LODESTAR_ACTIVE = false ∧
     s.isOn 4 = true ∧ s.nodeByEui eui = some n ∧ n.state = .joining ∧ s.inForce kJoin eui = some k ∧
     (s.reread.useFor k false).2 = true ∧ ((s.reread.useFor k false).1.useFor k true).2 = true) ∧
    (∃ (s : State) (i : Nat) (a : Nat) (t0 : Count) (n : Node), s.node? i = some n ∧ n.short = some a ∧
     n.shortClear = some t0 ∧ n.neighbour = false ∧ t0 + s.getN Obj.SHORT_HOLD * secC ≤ s.now) :=
  ⟨⟨{ noded with alm := { noded.alm with nodes := [{ nodeK with pinned := true }] }, now := 100000000 * secC }, { nodeK with pinned := true }, by decide +kernel⟩,
   ⟨{ noded.setN Obj.NODE_EVICT 1000 with now := 100000000 * secC }, nodeK, by decide +kernel⟩,
   ⟨{ noded with alm := { noded.alm with nodes := [{ nodeK with state := .joining, auto := true }] }, now := 100000000 * secC }, 5, { nodeK with state := .joining, auto := true }, by decide +kernel⟩,
   ⟨live.setN Obj.JOIN_ENABLE 15, 9, 3, by decide +kernel⟩,
   ⟨joining, 77, { nodeK with state := .joining }, keyJ, by decide +kernel⟩,
   ⟨{ noded with alm := { noded.alm with nodes := [{ nodeK with short := some 1, shortClear := some 0, neighbour := false }] }, now := 100000000 * secC }, 5, 1, 0, { nodeK with short := some 1, shortClear := some 0, neighbour := false }, by decide +kernel⟩⟩

theorem witness_neighboursAndRoutesComplete :
    (∃ (s : State) (b : Nat) (e : NbEntry) (rest : List NbEntry), b < 2 ∧ s.isOn 4 = true ∧ (s.pipe b).learn = e :: rest ∧
     ((s.pipe b).nb.any (fun x => x.eui == e.eui)) = true) ∧
    (∃ (s : State) (b : Nat) (e : NbEntry) (rest : List NbEntry), b < 2 ∧ s.isOn 4 = true ∧ (s.pipe b).learn = e :: rest ∧
     ((s.pipe b).nb.any (fun x => x.eui == e.eui)) = false ∧ ((s.pipe b).nbTable.place (nbHashes (s.pipe b)) e.eui).2 = true) ∧
    (∃ (s : State) (b : Nat), b < 2 ∧ s.isOn 4 = true) ∧
    (∃ (s : State) (d : Dao) (n : Node), s.node? d.node = some n ∧ s.shadowed = false ∧
     s.getB Obj.LODESTAR_ACTIVE = false ∧ s.isOn 4 = true ∧ n.state ≠ .joining ∧ n.state ≠ .lost ∧ n.daoSeq = none ∧
     d.kflag = false) ∧
    (∃ (s : State) (p : Nat), p < s.alm.rpl.length ∧ (nth s.alm.rpl p).started = true) ∧
    (∃ (s : State) (p : Nat), p < 4 ∧ p < s.alm.rpl.length ∧ (nth s.alm.rpl p).started = true ∧ s.isOn 4 = true ∧
     (nth s.alm.rpl p).since + 2 ^ (nth s.alm.rpl p).interval * msC ≤ s.now) ∧
    (∃ (s : State) (p : Nat), p < 4 ∧ p < s.alm.rpl.length ∧ (nth s.alm.rpl p).started = true ∧
     (nth s.alm.rpl p).fired = false ∧ s.isOn 4 = true ∧ s.silent = false ∧ (nth s.alm.rpl p).counter < 10 ∧
     (nth s.alm.rpl p).since + 2 ^ (nth s.alm.rpl p).interval * msC / 2 ≤ s.now ∧
     s.now < (nth s.alm.rpl p).since + 2 ^ (nth s.alm.rpl p).interval * msC) ∧
    (∃ (s : State) (b : Nat) (i : Nat) (x : Reasm), (s.pipe b).reasm[i]? = some x ∧
     x.last + s.getN Obj.REASSEMBLY_TIMEOUT * secC ≤ s.now) :=
  ⟨⟨live.updPipe 1 (fun p => { p with learn := [default], nb := [default] }), 1, default, [], by decide +kernel⟩,
   ⟨live.updPipe 1 (fun p => { p with learn := [default] }), 1, default, [], by decide +kernel⟩,
   ⟨{ live.updPipe 1 (fun p => { p with nb := [default] }) with now := 100000000 * secC }, 1, by decide +kernel⟩,
   ⟨noded, { node := 5, seq := 240, parents := [none], lifetime := 255, kflag := false }, nodeK, by decide +kernel⟩,
   ⟨{ live with alm := { live.alm with rpl := List.replicate 4 { interval := 20, counter := 3, started := true, since := 0, fired := true } } }, 3, by decide +kernel⟩,
   ⟨{ live with now := 2000 * secC, alm := { live.alm with rpl := List.replicate 4 { interval := 20, counter := 10, started := true, since := 0, fired := true } } }, 3, by decide +kernel⟩,
   ⟨{ live with now := 600 * secC, alm := { live.alm with rpl := List.replicate 4 { interval := 20, counter := 9, started := true, since := 0, fired := false } } }, 3, by decide +kernel⟩,
   ⟨{ live.updPipe 1 (fun p => { p with reasm := [default] }) with now := 100000 * secC }, 1, 0, default, by decide +kernel⟩⟩

theorem witness_checkpointsComplete :
    (∃ (s : State), s.alm.ckpt = none ∧ s.alm.loaded = true ∧ s.isOn 2 = true ∧ s.isOn 4 = true ∧
     (s.getT Obj.CKPT_LAST + s.getN Obj.CKPT_PERIOD * secT ≤ s.time ∨ 12288 ≤ s.alm.ring.length)) ∧
    (∃ (s : State) (r : Req), CanStart s r Obj.ALMANAC_CHECKPOINT 4 ∧ s.alm.ckpt = none) ∧
    (∃ (s : State) (c : Checkpoint), s.alm.ckpt = some c) ∧
    (∃ (s : State), s.alm.loaded = false ∧ s.alm.source = 1 ∧ s.isOn 4 = true ∧ s.getB Obj.AON_LOST = false ∧
     s.mg.fifos.length = 8 ∧ s.storedNodes.length ≤ 1) ∧
    (∃ (s : State), s.alm.loaded = false ∧ s.alm.source = 0 ∧ s.isOn 4 = true ∧ s.mg.fifos.length = 8) :=
  ⟨⟨{ noded with now := 10000000 * secC }, by decide +kernel⟩,
   ⟨noded, quay, by decide +kernel⟩,
   ⟨{ noded with alm := { noded.alm with ckpt := some default } }, default, by decide +kernel⟩,
   ⟨{ (noded.setB Obj.AON_LOST false).setN Obj.FLASH_MAP 3 with alm := { noded.alm with loaded := false, source := 1, ckptA := some { nodes := [nodeK], table := noded.alm.table, time := 0, complete := true } } }, by decide +kernel⟩,
   ⟨{ noded with alm := { noded.alm with loaded := false, source := 0, mirror := [nodeK] } }, by decide +kernel⟩⟩

theorem witness_uplinkAndAdmissionComplete :
    (∃ (s : State) (p : Nat) (c : Nat) (fl : Nat) (w : WireFrame) (f : UpFrame), p < 2 ∧ p < s.pilot.ports.length ∧
     p < s.tk.ports.length ∧ s.getN (Obj.TT_LINK_STATE p) = 4 ∧ s.nextClass p = some c ∧ (s.sched p).nextFlow c = some fl ∧
     (s.serve p c fl).2 = some f ∧ f.event = none ∧ s.wireFree p = true ∧ 64 ≤ (s.wireOctets p f w).length ∧
     (s.wireOctets p f w).length ≤ 9216) ∧
    (∃ (s : State) (x : AdmWire) (m : AdmMsg) (b : AdmitBody), s.admRead x = some m ∧ s.isOn 4 = true ∧
     s.pwr.anchor = none ∧ m.ctx < 16 ∧ s.ctxKey m.ctx ≠ 0 ∧ (nth s.pilot.ctxs m.ctx).fresh m.seq = true ∧
     (s.checkKey kAdmit (s.ctxKey m.ctx) 2 m.old m.ok).2 = true ∧ m.body = .request b ∧ b.dstOk = true ∧
     s.remembered m.ctx b.reqId = none ∧ s.pilot.queue.length < 64) ∧
    (∃ (s : State) (x : AdmWire) (m : AdmMsg) (ref : Nat), s.admRead x = some m ∧ s.isOn 4 = true ∧ s.pwr.anchor = none ∧
     m.ctx < 16 ∧ s.ctxKey m.ctx ≠ 0 ∧ (nth s.pilot.ctxs m.ctx).fresh m.seq = true ∧
     (s.checkKey kAdmit (s.ctxKey m.ctx) 2 m.old m.ok).2 = true ∧ m.body = .query ref ∧ s.pilot.queue.length < 64) ∧
    (∃ (s : State) (i : Nat) (r : AdmReq) (b : AdmitBody), s.pilot.queue[i]? = some r ∧ r.msg.body = .request b ∧
     s.silent = false ∧ r.arrival + 150 * usC ≤ s.now) ∧
    (∃ (s : State) (r : AdmReq) (b : AdmitBody) (d : Nat) (p : Option Tick), s.nextRequest = some r ∧
     r.msg.body = .request b ∧ s.remembered r.msg.ctx b.reqId = none ∧ s.getB Obj.LODESTAR_ACTIVE = false ∧
     s.pwr.holdWait = false ∧ s.silent = false ∧ ((s.dequeue r).compute b r.arrival false).2 = .refuse d p) ∧
    (∃ (s : State) (r : AdmReq) (b : AdmitBody) (f : Frame), s.nextRequest = some r ∧ r.msg.body = .request b ∧
     s.remembered r.msg.ctx b.reqId = none ∧ s.getB Obj.LODESTAR_ACTIVE = false ∧ s.pwr.holdWait = false ∧
     s.silent = false ∧ ((s.dequeue r).compute b r.arrival false).2 = .grant f) ∧
    (∃ (s : State) (r : AdmReq) (ref : Nat), s.nextRequest = some r ∧ r.msg.body = .query ref ∧ s.silent = false ∧
     s.getB Obj.LODESTAR_ACTIVE = false ∧ s.upPorts ≠ [] ∧ s.ctxKey r.msg.ctx ≠ 0 ∧
     (((s.dequeue r).seqOut r.msg.ctx).2.useKey kAdmit (s.ctxKey r.msg.ctx) 2 true).2 = true) :=
  ⟨⟨uplinking, 1, 1, 8192, { mac := be 6 1, body := be 1 0x60 ++ be 60 0 }, upf, by decide +kernel⟩,
   ⟨admitting, admWA, msgA, bodyA, by decide +kernel⟩,
   ⟨admitting, { admWA with type := 4, body := be 8 3 }, { msgA with body := .query 3 }, 3, by decide +kernel⟩,
   ⟨{ live with now := secC, pilot := { live.pilot with queue := [{ msg := msgA, cls := 1, arrival := 0 }] } }, 0, { msg := msgA, cls := 1, arrival := 0 }, bodyA, by decide +kernel⟩,
   ⟨{ live with pilot := { live.pilot with queue := [{ msg := msgA, cls := 1, arrival := 0 }] } }, { msg := msgA, cls := 1, arrival := 0 }, bodyA, 1, none, by decide +kernel⟩,
   ⟨admissible, { msg := msgA, cls := 1, arrival := 0 }, bodyA, admF, by decide +kernel⟩,
   ⟨{ (admitting.setN (Obj.TT_LINK_STATE 0) 4) with pilot := { live.pilot with queue := [{ msg := { msgA with body := .query 3 }, cls := 1, arrival := 0 }] } }, { msg := { msgA with body := .query 3 }, cls := 1, arrival := 0 }, 3, by decide +kernel⟩⟩

theorem witness_ledgerAndSettingsComplete :
    (∃ (s : State) (ref : Nat) (w : Wheel) (f : Frame) (i : Inst), s.fires 0 ref = some w ∧ s.frame? ref = some f ∧
     s.nextInst f = some i ∧ s.panServed i.pan = true ∧ (s.flow f.flow).rate ≠ 0) ∧
    (∃ (s : State) (ref : Nat) (w : Wheel) (f : Frame) (i : Inst), s.fires 0 ref = some w ∧ s.frame? ref = some f ∧
     s.nextInst f = some i ∧ s.panServed i.pan = true ∧ (s.flow f.flow).rate = 0 ∧ s.shadowed = false) ∧
    (∃ (s : State) (ref : Nat) (w : Wheel) (f : Frame), s.fires 1 ref = some w ∧ s.frame? ref = some f ∧ s.shadowed = false) ∧
    (∃ (_s : State), True) ∧
    (∃ (s : State) (b : Bool) (key : Nat) (w : Wheel), s.fires (if b then 3 else 2) key = some w) ∧
    (∃ (s : State) (r : Req) (w : Wire) (v : Val), Takes s r 0x6100 2 w v ∧ flowOk v.toOctets = true ∧
     s.flowPending (s.session 0).flowSelect = 0) ∧
    (∃ (s : State) (r : Req) (x : Nat) (w : Wire) (v : Val), Takes s r 0x6500 (x + 1) w v ∧ x < 16 ∧ x < s.pilot.ctxs.length) ∧
    (∃ (s : State), s.isOn 4 = true ∧ s.pwr.anchor = none) ∧
    (∃ (_s : State), True) ∧
    (∃ (s : State), s.isOn 4 = true ∧ s.pwr.anchor = none) :=
  ⟨⟨handing, 7, { kind := 0, key := 7, due := 0 }, frm7, default, by decide +kernel⟩,
   ⟨{ handing with pilot := { handing.pilot with flows := [{ (default : Flow) with num := 3 }] } }, 7, { kind := 0, key := 7, due := 0 }, frm7, default, by decide +kernel⟩,
   ⟨{ handing with pilot := { handing.pilot with fine := [{ kind := 1, key := 7, due := 0 }] } }, 7, { kind := 1, key := 7, due := 0 }, frm7, by decide +kernel⟩,
   ⟨{ live with pilot := { live.pilot with coarse := [{ kind := 0, key := 7, due := 0 }] } }, by decide +kernel⟩,
   ⟨{ live with pilot := { live.pilot with fine := [{ kind := 2, key := 7, due := 0 }] } }, false, 7, { kind := 2, key := 7, due := 0 }, by decide +kernel⟩,
   ⟨live, quay, .bytes [3, 1, 0, 1, 0, 0, 0, 9, 0, 1, 2, 0, 0, 0, 0, 5], .octets [3, 1, 0, 1, 0, 0, 0, 9, 0, 1, 2, 0, 0, 0, 0, 5], by decide +kernel⟩,
   ⟨live, quay, 15, .bytes (be 8 9), .octets (be 8 9), by decide +kernel⟩,
   ⟨live, by decide +kernel⟩,
   ⟨live, by decide +kernel⟩,
   ⟨live, by decide +kernel⟩⟩

theorem witness_trainingCompletes :
    (∃ (s : State) (p : Nat), s.inLink p 1 = true ∧ p < s.tk.ports.length ∧ (s.tport p).paged = false ∧
     (s.tport p).since + msC ≤ s.now) ∧
    (∃ (s : State) (p : Nat), s.inLink p 1 = true ∧ p < s.tk.ports.length ∧ s.getN (Obj.TT_WAKE_PERIOD p) ≠ 0 ∧
     max (s.tport p).since (s.tport p).wakeAt + s.getN (Obj.TT_WAKE_PERIOD p) * msC ≤ s.now) ∧
    (∃ (s : State) (p : Nat) (o : Octets) (psd : List Int), s.inLink p 1 = true ∧ p < s.tk.ports.length ∧
     (pageOf o).crcOk = true ∧ (pageOf o).version = 1 ∧ (pageOf o).role ≤ 2 ∧ (pageOf o).tiers < 8 ∧
     ((s.livePlan p).template ≠ 2 ∨ maskHolds (s.getO (Obj.TT_MASK_POINTS p)) psd = true) ∧ (pageOf o).ack = false) ∧
    (∃ (s : State) (p : Nat), s.inLink p 2 = true ∧ p < s.tk.ports.length ∧ (s.tport p).announce + 2 * msC ≤ s.now ∧
     s.mg.fifos.length = 8) ∧
    (∃ (s : State) (p : Nat), s.inLink p 3 = true ∧ p < s.tk.ports.length ∧ (s.tport p).phase < 2 ∧
     (s.tport p).t1 + phaseEnd (s.tport p).phase ≤ s.now) ∧
    (∃ (s : State) (p : Nat), s.inLink p 3 = true ∧ p < s.tk.ports.length ∧ (s.tport p).phase = 2 ∧
     (s.tport p).t1 + phaseEnd (s.tport p).phase ≤ s.now) ∧
    (∃ (s : State) (p : Nat), s.inLink p 3 = true ∧ p < s.tk.ports.length ∧ (s.tport p).phase = 3 ∧
     (s.tport p).t1 + 110 * msC ≤ s.now) ∧
    (∃ (s : State) (p : Nat), s.inLink p 3 = true ∧ p < s.tk.ports.length ∧ (s.tport p).phase = 4 ∧
     (s.tport p).t1 + 111 * msC ≤ s.now ∧ snrThreshold (s.getN (Obj.TT_TIER_NOW p)) ≤ s.getI (Obj.TT_SNR p)) ∧
    (∃ (s : State) (x : PortLock) (p : Nat), x.p = p ∧ s.inLink p 3 = true ∧ p < s.tk.ports.length ∧
     (s.tport p).phase = 5 ∧ lockHolds x (s.getN (Obj.TT_TIER_NOW p)) = true ∧ s.mg.fifos.length = 8) ∧
    (∃ (s : State) (p : Nat), s.inLink p 3 = true ∧ p < s.tk.ports.length ∧ (s.tport p).phase = 5 ∧
     (s.tport p).t1 + 116 * msC ≤ s.now ∧ s.mg.fifos.length = 8) ∧
    (∃ (s : State) (p : Nat) (e : Count), p < 2 ∧ p < s.tk.ports.length ∧ (s.tport p).holdoff = some e ∧ e ≤ s.now) :=
  ⟨⟨{ linked 1 with now := secC }, 1, by decide +kernel⟩,
   ⟨{ (linked 1).setN (Obj.TT_WAKE_PERIOD 0) 100 with now := secC }, 0, by decide +kernel⟩,
   ⟨linked 1, 1, pageA, [], by decide +kernel⟩,
   ⟨{ linked 2 with now := secC }, 1, by decide +kernel⟩,
   ⟨{ linked 3 with now := secC }, 0, by decide +kernel⟩,
   ⟨{ (linked 3).updTport 0 (fun x => { x with phase := 2 }) with now := secC }, 0, by decide +kernel⟩,
   ⟨{ (linked 3).updTport 0 (fun x => { x with phase := 3 }) with now := secC }, 0, by decide +kernel⟩,
   ⟨{ ((linked 3).setN (Obj.TT_SNR 0) 140).setN (Obj.TT_TIER_NOW 0) 1 |>.updTport 0 (fun x => { x with phase := 4 }) with now := secC }, 0, by decide +kernel⟩,
   ⟨((linked 3).setN (Obj.TT_TIER_NOW 1) 3).updTport 1 (fun x => { x with phase := 5 }), lockW, 1, by decide +kernel⟩,
   ⟨{ (linked 3).updTport 1 (fun x => { x with phase := 5 }) with now := secC }, 1, by decide +kernel⟩,
   ⟨(linked 2).updTport 1 (fun x => { x with holdoff := some 0 }), 1, 0, by decide +kernel⟩⟩

theorem witness_linkLossCompletes :
    (∃ (s : State) (p : Nat), s.inLink p 4 = true ∧ p < s.tk.ports.length) ∧
    (∃ (s : State) (p : Nat) (b : CodeBlock), s.inLink p 4 = true ∧ p < s.tk.ports.length ∧ (s.tport p).pauses = [] ∧
     s.mg.fifos.length = 8 ∧ (oamOf b).crcOk = true ∧ (oamOf b).kind = 2) ∧
    (∃ (s : State) (p : Nat) (n : Nat), s.inLink p 4 = true ∧ p < s.tk.ports.length ∧ (s.tport p).pauses = [] ∧
     s.mg.fifos.length = 8 ∧ 8 ≤ n) ∧
    (∃ (s : State) (p : Nat) (us : Nat), s.inLink p 4 = true ∧ p < s.tk.ports.length ∧ (s.tport p).pauses = [] ∧
     s.mg.fifos.length = 8 ∧ 4 ≤ us) ∧
    (∃ (s : State) (p : Nat) (x : SnrFall), s.inLink p 4 = true ∧ p < s.tk.ports.length ∧ (s.tport p).pauses = [] ∧
     s.mg.fifos.length = 8 ∧ 10000 ≤ x.us ∧ x.snr < snrThreshold (s.getN (Obj.TT_TIER_NOW p)) - 30) ∧
    (∃ (s : State) (p : Nat) (x : SnrFall), s.inLink p 4 = true ∧ 1000000 ≤ x.us ∧
     x.snr < snrThreshold (s.getN (Obj.TT_TIER_NOW p)) + s.getN (Obj.TT_SNR_WARN p) ∧ s.mg.fifos.length = 8) :=
  ⟨⟨linked 4, 1, by decide +kernel⟩,
   ⟨linked 4, 1, oamA 2 100, by decide +kernel⟩,
   ⟨linked 4, 1, 8, by decide +kernel⟩,
   ⟨linked 4, 1, 4, by decide +kernel⟩,
   ⟨linked 4, 1, { snr := -40, us := 10000 }, by decide +kernel⟩,
   ⟨(linked 4).setN (Obj.TT_SNR_WARN 0) 10, 0, { snr := 9, us := 1000000 }, by decide +kernel⟩⟩

theorem witness_trunkRequestsComplete :
    (∃ (s : State) (r : Req) (p : Nat), Takes s r (0x7000 + p) 1 (.bool true) (.bool true) ∧ p < 2 ∧
     p < s.tk.ports.length ∧ s.pwr.dom.length = 16 ∧ s.link p = 0 ∧ s.cond (trunkDom p) = .off ∧ (s.tport p).loop = none) ∧
    (∃ (s : State) (r : Req) (p : Nat), Takes s r (0x7000 + p) 1 (.bool false) (.bool false) ∧ p < 2 ∧
     p < s.tk.ports.length ∧ s.pwr.dom.length = 16 ∧ s.cond (trunkDom p) = .on ∧ (s.tport p).loop = none) ∧
    (∃ (s : State) (r : Req) (m : Nat), CanStart s r Obj.TRUNK_RETRAIN 1 ∧ (m = 1 ∨ m = 2 ∨ m = 3) ∧
     s.tk.ports.length = 2 ∧ (∀ p ∈ List.range 2, bit m p = true → s.link p ≠ 0)) ∧
    (∃ (s : State) (r : Req) (p : Nat) (tier : Nat) (n : Nat), CanStart s r Obj.TRUNK_LOOPBACK 1 ∧ p < 2 ∧
     p < s.tk.ports.length ∧ 1 ≤ tier ∧ tier ≤ 3 ∧ 1 ≤ n ∧ n ≤ 60 ∧ s.getB (Obj.TT_ENABLE p) = false) ∧
    (∃ (s : State) (p : Nat) (x : Loopback), p < 2 ∧ p < s.tk.ports.length ∧ (s.tport p).loop = some x ∧ x.stop ≤ s.now ∧
     s.getB (Obj.TT_ENABLE p) = false ∧ s.mg.fifos.length = 8) ∧
    (∃ (s : State) (p : Nat) (x : WakeTone), p < 2 ∧ s.link p ≠ 4 ∧ s.getN Obj.TRUNK_WAKE_MODE < 2 ∧
     (wakePattern x.gaps = true ∨ s.getN Obj.TRUNK_WAKE_MODE = 1 ∧ s.getN Obj.TRUNK_WAKE_ENERGY < x.mv ∧ 1 ≤ x.us) ∧
     (s.pwr.standby = true ∨ s.pwr.entry.isSome = true)) ∧
    (∃ (s : State) (r : Req) (n : Nat) (w : Wire) (v : Val), Takes s r 0x7030 n w v ∧ 2 ≤ n ∧ n ≤ 0x0B) :=
  ⟨⟨(linked 0).setCond 15 .off, quay, 1, by decide +kernel⟩,
   ⟨linked 4, quay, 1, by decide +kernel⟩,
   ⟨linked 4, quay, 3, by decide +kernel⟩,
   ⟨(linked 0).setB (Obj.TT_ENABLE 1) false, quay, 1, 3, 60, by decide +kernel⟩,
   ⟨((linked 0).setB (Obj.TT_ENABLE 1) false).updTport 1 (fun x => { x with loop := some { tier := 1, stop := 0, tally := noTally, snr := 0 } }), 1, { tier := 1, stop := 0, tally := noTally, snr := 0 }, by decide +kernel⟩,
   ⟨{ linked 1 with pwr := { live.pwr with standby := true } }, 1, { gaps := List.replicate 7 110, mv := 0, us := 0 }, by decide +kernel⟩,
   ⟨live, quay, 3, .bytes (List.replicate 16 0x20), .octets (List.replicate 16 0x20), by decide +kernel⟩⟩

theorem witness_trunkFramesComplete :
    (∃ (s : State) (p : Nat) (fill : Nat) (f : TrunkFrame), s.inLink p 4 = true ∧ p < s.tk.ports.length ∧
     (frameReceived f).2 = true ∧ 64 ≤ (frameReceived f).1.length ∧ (frameReceived f).1.length ≤ 9216 ∧
     fcsHolds (frameReceived f).1 = true ∧ fill ≤ 1048576) ∧
    (∃ (s : State) (p : Nat) (f : TrunkFrame), s.inLink p 4 = true ∧ (frameReceived f).2 = true ∧
     ((frameReceived f).1.length < 64 ∨ 9216 < (frameReceived f).1.length)) ∧
    (∃ (s : State) (p : Nat) (f : TrunkFrame), s.inLink p 4 = true ∧
     ((frameReceived f).2 = false ∨ 64 ≤ (frameReceived f).1.length ∧ (frameReceived f).1.length ≤ 9216 ∧
     fcsHolds (frameReceived f).1 = false)) ∧
    (∃ (s : State) (p : Nat) (fill : Nat), s.inLink p 4 = true ∧ p < s.tk.ports.length ∧ 786432 < fill ∧
     s.mayPause p = true ∧ (s.tport p).xoff = none ∧ (s.tport p).xoffAfter ≤ s.now) ∧
    (∃ (s : State) (p : Nat) (fill : Nat), s.inLink p 4 = true ∧ p < s.tk.ports.length ∧ fill ≤ 786432 ∧
     (s.tport p).xoff = none) ∧
    (∃ (s : State) (p : Nat) (prio : Nat) (q : Nat), s.inLink p 4 = true ∧ p < s.tk.ports.length ∧ prio < 8 ∧ q ≠ 0 ∧
     (s.tport p).pauses = []) ∧
    (∃ (s : State) (p : Nat) (prio : Nat) (x : Pause), p < s.tk.ports.length ∧ (s.tport p).pauses = [x] ∧ x.prio = prio ∧
     x.until' ≤ s.now) ∧
    (∃ (s : State) (p : Nat), s.upPorts = [p] ∧ s.tk.lifeAt = none) ∧
    (∃ (s : State) (e : Count), s.upPorts = [0, 1] ∧ s.tk.lifeAt = some e ∧ e + s.getN Obj.RED_LIFE_CHECK * msC ≤ s.now) ∧
    (∃ (s : State) (b : Nat) (e : Count), b < 2 ∧ s.tk.heard.getD b none = some e ∧
     e + 3 * s.getN Obj.RED_LIFE_CHECK * msC ≤ s.now ∧ bit (s.getN Obj.RED_PARTNER_STATE) b = true ∧ s.mg.fifos.length = 8) :=
  ⟨⟨linked 4, 1, 1048576, tframe, by decide +kernel⟩,
   ⟨linked 4, 1, { tframe with words := [(scramble scr0 (frameBlocks (List.replicate 63 0)), false)] }, by decide +kernel⟩,
   ⟨linked 4, 0, { tframe with words := [(scramble scr0 (frameBlocks (List.replicate 64 0)), false)] }, by decide +kernel⟩,
   ⟨((linked 4).setN (Obj.TT_PFC_TX_MASK 1) 2).updTport 1 (fun x => { x with pfc := true }), 1, 786433, by decide +kernel⟩,
   ⟨linked 4, 1, 786432, by decide +kernel⟩,
   ⟨linked 4, 1, 7, 65535, by decide +kernel⟩,
   ⟨(linked 4).updTport 1 (fun x => { x with pauses := [{ prio := 7, until' := 0, since := 0 }] }), 1, 7, { prio := 7, until' := 0, since := 0 }, by decide +kernel⟩,
   ⟨live.setN (Obj.TT_LINK_STATE 1) 4, 1, by decide +kernel⟩,
   ⟨{ linked 4 with now := 1000 * secC, tk := { (linked 4).tk with lifeAt := some 0 } }, 0, by decide +kernel⟩,
   ⟨{ live.setN Obj.RED_PARTNER_STATE 3 with tk := { live.tk with heard := [some 0, some 0] }, now := 1000 * secC }, 1, 0, by decide +kernel⟩⟩

theorem witness_pulsesComplete :
    (∃ (s : State), s.paired = true ∧ s.isOn 3 = true ∧ windowT ≤ s.time ∧
     (s.cs.windows.all (fun w => decide (w.k < s.time / windowT - 1))) = true ∧
     s.cs.pulseIn ≠ some (s.time / windowT - 1) ∧ s.upPorts ≠ [] ∧ (s.useKey kPair s.pairKey 3 true).2 = true) ∧
    (∃ (s : State), s.paired = true ∧ s.isOn 3 = true ∧ windowT ≤ s.time ∧
     (s.cs.windows.all (fun w => decide (w.k < s.time / windowT - 1))) = true ∧
     s.cs.pulseIn ≠ some (s.time / windowT - 1) ∧ s.upPorts = []) ∧
    (∃ (s : State) (w : PairWire) (q : Pulse), readPulse w = some q ∧
     (s.pairMsg q.src q.pairId q.old q.authentic).2 = true ∧
     s.cs.pulseIn.elim true (fun n => decide (n < q.counter)) = true ∧ q.member ≠ s.getN Obj.CS_PAIRSEL) ∧
    (∃ (s : State) (w : PairWire) (q : Pulse), readPulse w = some q ∧
     (s.pairMsg q.src q.pairId q.old q.authentic).2 = true ∧ s.cs.pulseIn = none ∧ q.member ≠ s.getN Obj.CS_PAIRSEL ∧
     s.getN Obj.CS_STATE = 1 ∧ s.getN Obj.CS_PAIRSEL = 1 ∧ q.state = 1 ∧ s.mg.fifos.length = 8) ∧
    (∃ (s : State) (w : PairWire) (q : Pulse), readPulse w = some q ∧
     (s.pairMsg q.src q.pairId q.old q.authentic).2 = true ∧ s.cs.pulseIn = none ∧ q.member ≠ s.getN Obj.CS_PAIRSEL ∧
     s.getN Obj.CS_STATE = 1 ∧ q.state = 2 ∧ s.mg.fifos.length = 8) ∧
    (∃ (s : State) (w : PairWire) (q : Pulse), readPulse w = some q ∧
     (s.pairMsg q.src q.pairId q.old q.authentic).2 = true ∧ s.cs.pulseIn = none ∧ q.member = s.getN Obj.CS_PAIRSEL ∧
     s.getN Obj.CS_STATE = 1 ∧ s.cs.pulse = none ∧ s.mg.fifos.length = 8) ∧
    (∃ (s : State) (e : Count), s.cs.lastPulse = some e ∧ e + 300 * usC ≤ s.now ∧ s.getN Obj.CS_PARTNER_STATE ≠ 0xFF ∧
     s.getN Obj.CS_STATE < 2) ∧
    (∃ (s : State) (e : Count), s.cs.lastPulse = some e ∧ e + 300 * usC ≤ s.now ∧ s.getN Obj.CS_PARTNER_STATE ≠ 0xFF ∧
     (s.getN Obj.CS_STATE = 3 ∨ s.getN Obj.CS_STATE = 4)) ∧
    (∃ (s : State) (e : Count), s.cs.lastPulse = some e ∧ e + 300 * usC ≤ s.now ∧ s.getN Obj.CS_PARTNER_STATE ≠ 0xFF ∧
     s.getN Obj.CS_STATE = 2 ∧ s.mg.fifos.length = 8) ∧
    (∃ (s : State), s.getN Obj.CS_STATE = 1 ∧ s.cs.lastPulse = none ∧ s.cs.since + secC ≤ s.now) :=
  ⟨⟨{ (pairedA 2).setN (Obj.TT_LINK_STATE 0) 4 with now := secC }, by decide +kernel⟩,
   ⟨{ pairedA 3 with now := secC }, by decide +kernel⟩,
   ⟨pairedA 2, pulseW, pulseB, by decide +kernel⟩,
   ⟨pairedA 1, pulseOf1 2 1, (readPulse (pulseOf1 2 1)).getD default, by decide +kernel⟩,
   ⟨pairedA 1, pulseW, pulseB, by decide +kernel⟩,
   ⟨pairedA 1, pulseOf1 1 1, (readPulse (pulseOf1 1 1)).getD default, by decide +kernel⟩,
   ⟨{ pairedA 1 with now := secC, cs := { live.cs with lastPulse := some 0 } }, 0, by decide +kernel⟩,
   ⟨{ pairedA 3 with now := secC, cs := { live.cs with lastPulse := some 0 } }, 0, by decide +kernel⟩,
   ⟨{ pairedA 2 with now := secC, cs := { live.cs with lastPulse := some 0 } }, 0, by decide +kernel⟩,
   ⟨{ pairedA 1 with now := secC }, by decide +kernel⟩⟩

theorem witness_streamCompletes :
    (∃ (s : State) (x : StreamWire) (m : StreamMsg) (ti : Tick) (l : List (Item × Nat)), readStream x.wire x.recs = some m ∧
     (s.pairMsg m.src m.pairId m.old m.authentic).2 = true ∧ m.member ≠ s.getN Obj.CS_PAIRSEL ∧ s.getN Obj.CS_STATE = 3 ∧
     m.counter = s.cs.acked + 1 ∧ m.recs = [.plan ti l] ∧ s.cs.waiting = []) ∧
    (∃ (s : State) (x : StreamWire) (m : StreamMsg), readStream x.wire x.recs = some m ∧
     (s.pairMsg m.src m.pairId m.old m.authentic).2 = true ∧ m.member ≠ s.getN Obj.CS_PAIRSEL ∧ s.getN Obj.CS_STATE = 3 ∧
     s.cs.acked + 1 < m.counter ∧ (s.cs.waiting.all (fun x => x.counter != m.counter)) = true) ∧
    (∃ (s : State) (x : SentMsg), s.getN Obj.CS_STATE = 2 ∧ s.cs.unacked = [x] ∧ x.last + 500 * usC ≤ s.now ∧
     s.upPorts ≠ [] ∧ (s.useKey kPair s.pairKey 3 true).2 = true) ∧
    (∃ (s : State) (n : Nat) (b : Count), s.getN Obj.CS_STATE = 3 ∧ s.cs.sentAt.head? = some (n, b) ∧ b + 50 * msC ≤ s.now) ∧
    (∃ (s : State) (x : SentMsg), s.getN Obj.CS_STATE = 2 ∧ s.cs.unacked.head? = some x ∧ x.first + 50 * msC ≤ s.now) ∧
    (∃ (s : State) (q : Pulse), s.getN Obj.CS_STATE = 4 ∧ s.cs.full = 2 ∧ s.cs.pulse = some q ∧ q.sent ≤ s.cs.acked ∧
     q.state = 2 ∧ s.mg.fifos.length = 8) :=
  ⟨⟨pairedA 3, { wire := streamW, recs := [.plan 5 []] }, streamB, 5, [], by decide +kernel⟩,
   ⟨pairedA 3, { wire := streamW2, recs := [.plan 5 []] }, { streamB with counter := 2 }, by decide +kernel⟩,
   ⟨{ (pairedA 2).setN (Obj.TT_LINK_STATE 0) 4 with now := secC, cs := { live.cs with unacked := [{ seq := 1, recs := [], octets := 30, first := 0, last := 0 }] } }, { seq := 1, recs := [], octets := 30, first := 0, last := 0 }, by decide +kernel⟩,
   ⟨{ pairedA 3 with now := secC, cs := { live.cs with sentAt := [(1, 0)] } }, 1, 0, by decide +kernel⟩,
   ⟨{ pairedA 2 with now := secC, cs := { live.cs with unacked := [{ seq := 1, recs := [], octets := 30, first := 0, last := 0 }] } }, { seq := 1, recs := [], octets := 30, first := 0, last := 0 }, by decide +kernel⟩,
   ⟨{ pairedA 4 with cs := { live.cs with full := 2, pulse := some pulseB } }, pulseB, by decide +kernel⟩⟩

theorem witness_handoversComplete :
    (∃ (s : State) (e : Count), s.getN Obj.CS_PAIRSEL = 1 ∧ s.getN Obj.CS_STATE = 3 ∧ s.getB Obj.CS_OUTPUT_FAULT = false ∧
     s.getN Obj.CS_REVERT_HOLD ≠ 0 ∧ s.cs.handover = none ∧ s.cs.holdSince = some e ∧
     e + s.getN Obj.CS_REVERT_HOLD * secC ≤ s.now) ∧
    (∃ (s : State) (h : Handover), s.cs.handover = some h ∧ h.at' ≤ s.time ∧ s.getN Obj.CS_STATE = 3) ∧
    (∃ (s : State) (h : Handover), s.cs.handover = some h ∧ h.at' ≤ s.time ∧ s.getN Obj.CS_STATE = 2) ∧
    (∃ (s : State) (r : Req) (q : Pulse), CanStart s r Obj.CONSORT_HANDOVER 1 ∧ s.getN Obj.CS_STATE = 2 ∧
     s.getN Obj.CS_PARTNER_STATE = 3 ∧ s.cs.pulse = some q ∧ q.outFault = false) ∧
    (∃ (s : State) (r : Req) (w : Wire) (v : Val), Takes s r 0x7400 9 w v) :=
  ⟨⟨{ (pairedA 3).setN Obj.CS_REVERT_HOLD 60 with now := 1000000 * secC, cs := { live.cs with holdSince := some 0 } }, 0, by decide +kernel⟩,
   ⟨{ pairedA 3 with cs := { live.cs with handover := some { at' := 0, revert := true, byProc := false } } }, { at' := 0, revert := true, byProc := false }, by decide +kernel⟩,
   ⟨{ pairedA 2 with cs := { live.cs with handover := some { at' := 0, revert := true, byProc := false } } }, { at' := 0, revert := true, byProc := false }, by decide +kernel⟩,
   ⟨{ (pairedA 2).setN Obj.CS_PARTNER_STATE 3 with cs := { live.cs with pulse := some pulseB } }, quay, pulseB, by decide +kernel⟩,
   ⟨live.setB Obj.CS_OUTPUT_FAULT true, quay, .bool true, .bool true, by decide +kernel⟩⟩

theorem witness_ptpAndPpsComplete :
    (∃ (s : State) (p : Nat) (ident : Octets) (li : Int) (a : Announce), -7 ≤ li ∧ li ≤ 1 ∧ p < 2 ∧ p < s.sx.ptp.length ∧
     s.isOn 3 = true ∧ s.getN (Obj.TT_PTP_STATE p) = 9 ∧ s.sx.selected = some a ∧ a.ident = ident) ∧
    (∃ (s : State) (p : Nat) (ident : Octets) (li : Int) (a : Announce), -7 ≤ li ∧ li ≤ 1 ∧ p < 2 ∧ p < s.sx.ptp.length ∧
     s.isOn 3 = true ∧ s.getN (Obj.TT_PTP_STATE p) = 8 ∧ s.sx.selected = some a ∧ a.ident = ident ∧
     s.sx.syncs + 1 < s.getN Obj.PTP_QUALIFY) ∧
    (∃ (s : State) (p : Nat) (a : Announce), p < 2 ∧ s.isOn 3 = true ∧ s.getN (Obj.TT_LINK_STATE p) = 4 ∧
     a.domain = s.getN Obj.PTP_DOMAIN ∧ s.mg.busy = false ∧ s.sx.selected = none ∧ s.sx.masters = [] ∧ -3 ≤ a.logInt ∧
     a.logInt ≤ 3) ∧
    (∃ (s : State) (p : Nat) (e : Count), p < 2 ∧ s.isOn 3 = true ∧ s.getN (Obj.TT_PTP_STATE p) = 9 ∧
     (nth s.sx.ptp p).lastSync = some e ∧ e + 3 * (nth s.sx.ptp p).syncInt ≤ s.now ∧ s.getN (Obj.TT_PTP_STATE (1 - p)) = 3) ∧
    (∃ (s : State) (p : Nat), p < 2 ∧ s.isOn 3 = true ∧ s.getN (Obj.TT_LINK_STATE p) = 4 ∧
     s.getN (Obj.TT_PTP_DELAY_MECH p) = 1 ∧
     (nth s.sx.ptp p).askedAt.elim true (fun x => decide (x + logNs (s.getI Obj.PTP_PDELAY_LOG) ≤ s.now)) = true) ∧
    (∃ (s : State) (p : Nat), p < 2 ∧ s.isOn 3 = true ∧ s.getN (Obj.TT_LINK_STATE p) = 4 ∧
     s.getN (Obj.TT_PTP_DELAY_MECH p) ≠ 1 ∧ 7 ≤ s.getN (Obj.TT_PTP_STATE p) ∧
     (nth s.sx.ptp p).askedAt.elim true (fun x => decide (x + logNs (nth s.sx.ptp p).askLog ≤ s.now)) = true) ∧
    (∃ (s : State) (b : Bool), s.isOn 3 = true ∧ (s.getN Obj.SX_PPS_IN_EDGE == 0) = b ∧ s.getN Obj.SX_SOURCE ≠ 2) ∧
    (∃ (s : State) (b : Bool) (n : Nat) (u : Nat), s.isOn 3 = true ∧ (s.getN Obj.SX_PPS_IN_EDGE == 0) = b ∧
     s.getN Obj.SX_SOURCE = 2 ∧ s.sx.setPending = some (n, u)) ∧
    (∃ (s : State) (e : Count), s.sx.ppsLastAt = some e ∧ s.isOn 3 = true ∧ s.getN Obj.SX_SOURCE = 2 ∧
     e + 1500 * msC ≤ s.now ∧ s.getN Obj.SX_STATE = 2) ∧
    (∃ (s : State), s.isOn 3 = true ∧ s.sx.ppsOut = false ∧ s.ppsMay = true ∧
     s.timeAt (s.now - 1) < (s.time / secT * secT : Nat) ∧ s.sx.ppsHas (s.time / secT) = false) ∧
    (∃ (s : State), s.isOn 3 = true ∧ s.sx.ppsOut = true ∧ s.sx.ppsRise + s.getN Obj.SX_PPS_WIDTH * msC ≤ s.now) :=
  ⟨⟨slaved 9, 1, [1], 1, annA, by decide +kernel⟩,
   ⟨slaved 8, 1, [1], 1, annA, by decide +kernel⟩,
   ⟨linked 4, 1, annA, by decide +kernel⟩,
   ⟨{ slaved 9 with now := 100 * secC }, 1, 0, by decide +kernel⟩,
   ⟨(linked 4).setN (Obj.TT_PTP_DELAY_MECH 1) 1, 1, by decide +kernel⟩,
   ⟨slaved 7, 1, by decide +kernel⟩,
   ⟨live, true, by decide +kernel⟩,
   ⟨{ live.setN Obj.SX_SOURCE 2 with sx := { live.sx with setPending := some (77, 5) } }, true, 77, 5, by decide +kernel⟩,
   ⟨{ (live.setN Obj.SX_SOURCE 2).setN Obj.SX_STATE 2 with now := 10 * secC, sx := { live.sx with ppsLastAt := some 0 } }, 0, by decide +kernel⟩,
   ⟨{ (live.setB Obj.SX_PPS_OUT_ENABLE true).setB Obj.SX_PPS_OUT_GATE false with now := 5 * secC }, by decide +kernel⟩,
   ⟨{ live with now := 5 * secC, sx := { live.sx with ppsOut := true } }, by decide +kernel⟩⟩

theorem witness_sextantWritesComplete :
    (∃ (s : State) (r : Req) (w : Wire) (v : Val), Takes s r 0x8000 7 w v) ∧
    (∃ (s : State) (r : Req) (w : Wire) (v : Val), Takes s r 0x8000 3 w v) ∧
    (∃ (s : State) (r : Req) (o : Octets), Takes s r 0x8000 8 (.bytes o) (.octets o) ∧ fld o 0 1 = 0 ∧
     s.sxSetBad o = none ∧ s.getN Obj.SX_SOURCE ≠ 2) ∧
    (∃ (s : State) (r : Req) (o : Octets), Takes s r 0x8000 8 (.bytes o) (.octets o) ∧ fld o 0 1 = 0 ∧
     s.sxSetBad o = none ∧ s.getN Obj.SX_SOURCE = 2) ∧
    (∃ (s : State) (r : Req) (o : Octets), Takes s r 0x8000 8 (.bytes o) (.octets o) ∧ fld o 0 1 = 1) :=
  ⟨⟨live, quay, .uint 2, .int 2, by decide +kernel⟩,
   ⟨live.setN Obj.SX_SOURCE 0, quay, .nint 4, .int (-5), by decide +kernel⟩,
   ⟨live.setN Obj.SX_SOURCE 0, quay, be 4 0 ++ be 6 77 ++ be 4 5 ++ be 2 0 ++ be 4 9, by decide +kernel⟩,
   ⟨live.setN Obj.SX_SOURCE 2, quay, be 4 0 ++ be 6 77 ++ be 4 0 ++ be 2 0 ++ be 4 9, by decide +kernel⟩,
   ⟨live.setN Obj.SX_SOURCE 0, quay, [1, 0, 0, 0] ++ be 8 12 ++ be 8 0, by decide +kernel⟩⟩

theorem witness_slowTimeCompletes :
    (∃ (s : State), s.sx.pll = true) ∧
    (∃ (s : State), s.sx.pll = false) ∧
    (∃ (s : State), s.sx.pll = true ∧ 32768 ≤ s.sx.runTicks) ∧
    (∃ (s : State), s.sx.pll = false ∧ s.rst.pll = true ∧ s.sx.aonLost = false ∧ s.sx.first = false) ∧
    (∃ (s : State), s.sx.pll = false ∧ s.rst.pll = true ∧ (s.sx.aonLost = true ∨ s.sx.first = true)) :=
  ⟨⟨live, by decide +kernel⟩,
   ⟨{ live with sx := { live.sx with pll := false } }, by decide +kernel⟩,
   ⟨{ live with sx := { live.sx with runTicks := 32768 } }, by decide +kernel⟩,
   ⟨{ live with sx := { live.sx with pll := false, aonLost := false, first := false } }, by decide +kernel⟩,
   ⟨{ live with sx := { live.sx with pll := false, aonLost := true } }, by decide +kernel⟩⟩

theorem witness_calendarCompletes :
    (∃ (s : State), s.calCounts = true ∧
     (dayNo (nth s.calNow 0) (nth s.calNow 1) (nth s.calNow 2) * 86400 + nth s.calNow 3 * 3600 + nth s.calNow 4 * 60 + nth s.calNow 5 + 1) < 31556995200) ∧
    (∃ (s : State), s.getB Obj.CAL_OSF = false ∧ s.mg.fifos.length = 8) ∧
    (∃ (s : State), s.calCounts = true ∧ bit (s.getN Obj.TRIM_STATUS) 0 = false ∧ 0 ≤ s.getI Obj.CAL_TRIM ∧
     s.getN Obj.CAL_SUBSEC + (s.getI Obj.CAL_TRIM).toNat < 32768) ∧
    (∃ (s : State), s.calCounts = true ∧ bit (s.getN Obj.TRIM_STATUS) 0 = false ∧ s.getI Obj.CAL_TRIM < 0) ∧
    (∃ (s : State), s.getB Obj.CAL_TRIM_AUTO = true ∧ s.getN Obj.SX_STATE = 2 ∧ s.sx.trimAt + 1024 * secC ≤ s.now) ∧
    (∃ (s : State) (r : Req) (w : Wire) (v : Val), Takes s r 0x2400 9 w v ∧ dateOk (calParse v.toOctets) = true) ∧
    (∃ (s : State) (r : Req) (b : Bool), Takes s r 0x2400 0x0A (.bool b) (.bool b) ∧ s.getB Obj.CAL_HALT = !b) ∧
    (∃ (s : State) (r : Req) (w : Wire) (v : Val), Takes s r 0x2400 0x0B w v) ∧
    (∃ (s : State) (r : Req) (w : Wire) (v : Val), Takes s r 0x2400 0x10 w v ∧ alarmOk v.toOctets = true) ∧
    (∃ (s : State) (r : Req) (n : Nat) (x : Session), Ready s r ∧ s.isOn 0 = true ∧ 1 ≤ n ∧ n ≤ 8 ∧ s.session? 0 = some x ∧
     x.shadow = none) ∧
    (∃ (s : State) (n : Nat) (x : Session) (y : CalShadow), s.session? n = some x ∧ x.shadow = some y ∧
     y.since + secC ≤ s.now) ∧
    (∃ (s : State) (r : Req) (n : Nat), CanStart s r Obj.CAL_FROM_SEXTANT 0 ∧ n < 2 ^ 31) ∧
    (∃ (s : State) (sec : Nat) (off : Int), s.sx.fromSext = some (sec, off) ∧ s.procRunning Obj.CAL_FROM_SEXTANT = true ∧
     sec * secT ≤ s.time ∧ s.getB Obj.SX_TIME_VALID = true ∧ 0 ≤ (sec : Int) + off ∧ (sec : Int) + off ≤ 31556995199) :=
  ⟨⟨live, by decide +kernel⟩,
   ⟨live.setB Obj.CAL_OSF false, by decide +kernel⟩,
   ⟨live.setI Obj.CAL_TRIM 511, by decide +kernel⟩,
   ⟨live.setI Obj.CAL_TRIM (-512), by decide +kernel⟩,
   ⟨{ (live.setB Obj.CAL_TRIM_AUTO true).setN Obj.SX_STATE 2 with now := 1024 * secC }, by decide +kernel⟩,
   ⟨live, quay, .bytes (be 2 2999 ++ [12, 31, 23, 59, 59, 0]), .octets (be 2 2999 ++ [12, 31, 23, 59, 59, 0]), by decide +kernel⟩,
   ⟨live.setB Obj.CAL_HALT true, quay, false, by decide +kernel⟩,
   ⟨live, quay, .bool false, .bool false, by decide +kernel⟩,
   ⟨live, quay, .bytes [0xFF, 0xFF, 0xFF, 0xFF, 0xFF, 0xFF, 0, 0xFF], .octets [0xFF, 0xFF, 0xFF, 0xFF, 0xFF, 0xFF, 0, 0x7F], by decide +kernel⟩,
   ⟨live, quay, 1, live.session 0, by decide +kernel⟩,
   ⟨{ live.updSession 0 (fun x => { x with shadow := some { fields := [], since := 0 } }) with now := secC }, 0, { live.session 0 with shadow := some { fields := [], since := 0 } }, { fields := [], since := 0 }, by decide +kernel⟩,
   ⟨live, quay, 2 ^ 31 - 1, by decide +kernel⟩,
   ⟨{ (live.setN (Obj.key Obj.CAL_FROM_SEXTANT 1) 1).setB Obj.SX_TIME_VALID true with sx := { live.sx with fromSext := some (0, 31556995199) } }, 0, 31556995199, by decide +kernel⟩⟩

theorem witness_keysComplete :
    (∃ (s : State) (r : Req) (material : Octets) (o : Octets), CanStart s r Obj.BN_IMPORT 1 ∧
     (o.length = 1648 ∨ o.length = 1696) ∧
     s.keyBad false true true o (keyOf o (s.getO Obj.BN_MEAS) material (s.getN Obj.LB_BOOT_COUNT)) = none) ∧
    (∃ (s : State) (r : Req) (material : Octets) (o : Octets), CanStart s r Obj.BN_REPLACE 1 ∧
     (o.length = 1664 ∨ o.length = 1712) ∧
     s.keyBad true true true o (keyOf o (s.getO Obj.BN_MEAS) material (s.getN Obj.LB_BOOT_COUNT)) = none ∧
     s.keyWaits true (fld o 3 1) = false) ∧
    (∃ (s : State) (i : Nat) (x : ImportRun), s.bn.imports[i]? = some x ∧ s.isOn 1 = true ∧ s.bn.badBlocks < 3 ∧
     x.prepared = true ∧ x.replace = false ∧ s.mg.fifos.length = 8) ∧
    (∃ (s : State) (i : Nat) (x : ImportRun), s.bn.imports[i]? = some x ∧ s.isOn 1 = true ∧ s.bn.badBlocks < 3 ∧
     x.prepared = true ∧ x.replace = true ∧ x.old < x.new.gen ∧
     (s.alm.nodes.any (fun n => n.keyId == x.new.keyId && n.keyGen == x.old)) = false ∧ s.mg.fifos.length = 8) ∧
    (∃ (s : State) (r : Req) (o : Octets), CanStart s r Obj.BN_REMOVE 1 ∧ o.length = 9 ∧ 1 ≤ fld o 0 1 ∧ fld o 0 1 ≤ 4 ∧
     s.removeBad (fld o 0 1) (fld o 1 8) = none ∧ s.mg.fifos.length = 8) :=
  ⟨⟨roomy, quay, List.replicate 16 0, keyMsg 2 1 1 1648, by decide +kernel⟩,
   ⟨keyed keyG, quay, List.replicate 16 0, keyMsg 2 1 2 1664, by decide +kernel⟩,
   ⟨{ roomy with bn := { roomy.bn with imports := [importG false] } }, 0, importG false, by decide +kernel⟩,
   ⟨{ keyed keyG with bn := { (keyed keyG).bn with imports := [importG true] } }, 0, importG true, by decide +kernel⟩,
   ⟨keyed { keyG with kind := 3 }, quay, be 1 3 ++ be 8 1, by decide +kernel⟩⟩

theorem witness_binnacleRestComplete :
    (∃ (s : State) (r : Req) (o : Octets), CanStart s r Obj.BN_ATTEST 1 ∧ fld o 32 2 ≤ 64 ∧ o.length = 34 + 9 * fld o 32 2) ∧
    (∃ (s : State) (n : Nat) (o : Octets), s.bn.attest = some (n, o) ∧ s.binnacleSound = true ∧
     (s.session? n).isSome = true ∧ s.procRunning Obj.BN_ATTEST = true) ∧
    (∃ (s : State) (r : Req) (o : Octets), CanStart s r Obj.GROUP_ROLLOVER 1 ∧ o.length = 16 ∧ fld o 0 1 ≤ 3 ∧
     fld o 1 1 ≠ 0 ∧ fld o 2 2 ≠ 0 ∧ fld o 10 4 ≤ 999999999 ∧ ofT64Octets (slice o 4 12) ≤ s.time + 86400 * secT ∧
     (s.inForce kGroup (groupId (fld o 0 1) (fld o 1 1))).isSome = true ∧ s.groupTx (fld o 0 1) ≠ some (fld o 1 1)) ∧
    (∃ (s : State) (x : Rollover), s.bn.roll = some x ∧ x.switched = none ∧ x.at' ≤ s.time ∧ x.pan < s.bn.txKey.length ∧
     s.mg.fifos.length = 8) ∧
    (∃ (s : State) (x : Rollover) (e : Count) (k : Nat), s.bn.roll = some x ∧ x.switched = some (e, some k) ∧ e ≤ s.now ∧
     (s.inForce kGroup (groupId x.pan k)).isSome = true ∧ s.procRunning Obj.GROUP_ROLLOVER = true) ∧
    (∃ (s : State) (x : Rollover) (e : Count), s.bn.roll = some x ∧ x.switched = some (e, none) ∧ e ≤ s.now ∧
     s.procRunning Obj.GROUP_ROLLOVER = true) ∧
    (∃ (_s : State), True) ∧
    (∃ (s : State), s.isOn 1 = true) ∧
    (∃ (s : State), s.isOn 1 = true ∧ s.bn.badBlocks = 2 ∧ s.mg.fifos.length = 8) ∧
    (∃ (s : State), s.isOn 1 = true ∧ s.bn.badBlocks ≠ 2) ∧
    (∃ (s : State), s.isOn 1 = true) ∧
    (∃ (s : State), s.isOn 1 = true) :=
  ⟨⟨live, quay, List.replicate 32 7 ++ be 2 1 ++ be 1 2 ++ be 8 1, by decide +kernel⟩,
   ⟨{ live.setN (Obj.key Obj.BN_ATTEST 1) 1 with bn := { live.bn with attest := some (0, []) } }, 0, [], by decide +kernel⟩,
   ⟨{ keyed keyG with bn := { (keyed keyG).bn with txKey := [some 2, none, none, none] } }, quay, be 1 0 ++ be 1 1 ++ be 2 60 ++ t64Octets 0, by decide +kernel⟩,
   ⟨{ keyed keyG with bn := { (keyed keyG).bn with roll := some rollG } }, rollG, by decide +kernel⟩,
   ⟨{ (keyed keyG).setN (Obj.key Obj.GROUP_ROLLOVER 1) 1 with bn := { (keyed keyG).bn with roll := some { rollG with switched := some (0, some 1) } } }, { rollG with switched := some (0, some 1) }, 0, 1, by decide +kernel⟩,
   ⟨{ live.setN (Obj.key Obj.GROUP_ROLLOVER 1) 1 with bn := { live.bn with roll := some { rollG with switched := some (0, none) } } }, { rollG with switched := some (0, none) }, 0, by decide +kernel⟩,
   ⟨{ live with now := 5, bn := { live.bn with retained := [{ old := keyG, until' := 5 }] } }, by decide +kernel⟩,
   ⟨live, by decide +kernel⟩,
   ⟨{ live with bn := { live.bn with badBlocks := 2 } }, by decide +kernel⟩,
   ⟨live, by decide +kernel⟩,
   ⟨live, by decide +kernel⟩,
   ⟨live, by decide +kernel⟩⟩

theorem witness_powerRequestsComplete :
    (∃ (s : State) (r : Req), CanStart s r Obj.POWER_STATE_SET 0 ∧ s.getN Obj.POWER_STATE = 2) ∧
    (∃ (s : State) (r : Req), CanStart s r Obj.POWER_STATE_SET 0 ∧ s.getN Obj.POWER_STATE ≠ 2) ∧
    (∃ (s : State) (r : Req), CanStart s r Obj.POWER_STATE_SET 0 ∧ s.getN Obj.POWER_STATE ≠ 2 ∧ s.paired = false ∧
     s.tackUnderWay = false) ∧
    (∃ (s : State), s.pwr.holdWait = true ∧ s.pilot.frames = [] ∧ s.pwr.anchor = none ∧
     s.procRunning Obj.POWER_STATE_SET = true) ∧
    (∃ (s : State) (r : Req), CanStart s r Obj.POWER_STATE_SET 0 ∧ (∀ p ∈ List.range 4, s.getB (Obj.PN_ENABLE p) = false) ∧
     s.pilot.frames = [] ∧ s.getN Obj.SPOOL_FRAMES = 0 ∧ s.mg.running = [] ∧ s.tackUnderWay = false) ∧
    (∃ (s : State), s.getN Obj.POWER_STATE = 2 ∧ s.cond 2 = .on ∧ s.mg.busy = false ∧ s.mg.running = [] ∧
     s.pwr.lastRequest + s.getN Obj.HOLD_CORE_IDLE * msC ≤ s.now) ∧
    (∃ (s : State) (r : Req) (w : Wire) (v : Val), Takes s r 0x2000 1 w v ∧ (s.helm.pans.any (·.running)) = true) ∧
    (∃ (s : State) (r : Req) (w : Wire) (v : Val), Takes s r 0x2000 1 w v ∧ (s.helm.pans.any (·.running)) = false ∧
     s.getN Obj.POWER_STATE < 2 ∧ v.toInt.toNat ≠ s.getN Obj.POWER_STATE) :=
  ⟨⟨(live.setN Obj.POWER_STATE 2).setB Obj.LODESTAR_ACTIVE true, quay, by decide +kernel⟩,
   ⟨live, quay, by decide +kernel⟩,
   ⟨live, quay, by decide +kernel⟩,
   ⟨{ live.setN (Obj.key Obj.POWER_STATE_SET 1) 1 with pwr := { live.pwr with holdWait := true } }, by decide +kernel⟩,
   ⟨live.setN Obj.WAKE_CAUSE 8, quay, by decide +kernel⟩,
   ⟨{ live.setN Obj.POWER_STATE 2 with now := 1000000 * secC }, by decide +kernel⟩,
   ⟨{ live with helm := { live.helm with pans := live.helm.pans.map (fun x => { x with running := true }) } }, quay, .uint 1, .int 1, by decide +kernel⟩,
   ⟨live, quay, .uint 1, .int 1, by decide +kernel⟩⟩

theorem witness_wakeComplete :
    (∃ (s : State) (n : Nat), s.getN Obj.OOK_WAKE_CODE = n ∧ bit (s.getN Obj.WAKE_ENABLE) 0 = true ∧ s.watching = true) ∧
    (∃ (s : State) (chips : List Bool), chips.length = 40 ∧ chips.take 8 = ookSync ∧
     chips ≠ ookChips (s.getN Obj.OOK_WAKE_CODE) ∧ bit (s.getN Obj.WAKE_ENABLE) 0 = true ∧ s.watching = true) ∧
    (∃ (s : State) (us : Nat), bit (s.getN Obj.WAKE_ENABLE) 1 = true ∧ 10 ≤ us ∧ s.watching = true) ∧
    (∃ (s : State), s.pwr.standby = true ∧ s.pwr.woken = true ∧ s.pwr.dom.length = 16) :=
  ⟨⟨asleep, asleep.getN Obj.OOK_WAKE_CODE, by decide +kernel⟩,
   ⟨asleep, ookChips (asleep.getN Obj.OOK_WAKE_CODE + 1), by decide +kernel⟩,
   ⟨asleep, 10, by decide +kernel⟩,
   ⟨{ asleep with pwr := { asleep.pwr with woken := true } }, by decide +kernel⟩⟩

theorem witness_supplyComplete :
    (∃ (s : State) (mv : Nat) (us : Nat), s.pwr.off = false ∧ 2 ≤ us ∧ s.pwr.warn = false ∧ s.maySink mv 900 = true ∧
     s.mg.fifos.length = 8) ∧
    (∃ (s : State) (mv : Nat) (us : Nat), s.pwr.off = false ∧ 2 ≤ us ∧ s.pwr.warn = true ∧ s.mayRise mv 930 = true ∧
     s.mg.fifos.length = 8) ∧
    (∃ (s : State) (r : Req), Ready s r ∧ s.isOn 0 = true) ∧
    (∃ (s : State) (mv : Nat) (us : Nat), s.pwr.off = false ∧ 2 ≤ us ∧ s.maySink mv 820 = true ∧ s.pwr.anchor = none ∧
     s.pwr.standby = false) ∧
    (∃ (s : State) (mv : Nat) (us : Nat), s.pwr.off = false ∧ 2 ≤ us ∧ s.maySink mv 820 = true ∧ s.pwr.anchor = none ∧
     s.pwr.standby = true) ∧
    (∃ (s : State) (us : Nat), s.pwr.off = false ∧ 2 ≤ us ∧ s.pwr.anchor = none ∧ s.pwr.standby = false ∧ s.isOn 1 = true) ∧
    (∃ (s : State) (a : Anchor), s.pwr.anchor = some a ∧ (s.rst.supply = false ∨ s.pwr.thermal = true)) ∧
    (∃ (s : State) (a : Anchor), s.pwr.anchor = some a ∧ s.rst.supply = true ∧ s.pwr.thermal = false ∧ s.pwr.off = false) ∧
    (∃ (s : State) (n : Nat) (a : Anchor), s.pwr.anchor = some a ∧ n < 8) ∧
    (∃ (s : State) (mv : Nat) (a : Anchor), s.rst.supply = false ∧ s.mayRise mv 930 = true ∧ s.pwr.anchor = some a) ∧
    (∃ (s : State) (mv : Nat), s.rst.supply = false ∧ s.mayRise mv 930 = true ∧ s.pwr.anchor = none ∧ s.pwr.off = true ∧
     s.pwr.thermal = false ∧ s.pwr.dom.length = 16) :=
  ⟨⟨live, 890, 2, by decide +kernel⟩,
   ⟨{ live with pwr := { live.pwr with warn := true, warnMin := 850 } }, 940, 2, by decide +kernel⟩,
   ⟨live.setN Obj.VSENSE_MIN 850, quay, by decide +kernel⟩,
   ⟨live, 820, 2, by decide +kernel⟩,
   ⟨asleep, 820, 2, by decide +kernel⟩,
   ⟨live, 2, by decide +kernel⟩,
   ⟨{ live with rst := { live.rst with supply := false }, pwr := { live.pwr with anchor := some { thermal := false, start := 0, vsense := 800 } } }, { thermal := false, start := 0, vsense := 800 }, by decide +kernel⟩,
   ⟨{ live with pwr := { live.pwr with anchor := some { thermal := false, start := 0, vsense := 800 } } }, { thermal := false, start := 0, vsense := 800 }, by decide +kernel⟩,
   ⟨{ live with pwr := { live.pwr with anchor := some { thermal := true, start := 0, vsense := 800 } } }, 7, { thermal := true, start := 0, vsense := 800 }, by decide +kernel⟩,
   ⟨{ live with rst := { live.rst with supply := false }, pwr := { live.pwr with anchor := some { thermal := false, start := 0, vsense := 800 } } }, 930, { thermal := false, start := 0, vsense := 800 }, by decide +kernel⟩,
   ⟨{ live with rst := { live.rst with supply := false }, pwr := { live.pwr with off := true } }, 930, by decide +kernel⟩⟩

theorem witness_thermalAndCellComplete :
    (∃ (s : State) (tj : Int), s.pwr.off = false ∧ 1250 < tj ∧ s.mg.fifos.length = 8) ∧
    (∃ (s : State) (tj : Int), s.pwr.off = false ∧ 1350 ≤ tj ∧ s.pwr.anchor = none ∧ s.pwr.standby = false) ∧
    (∃ (s : State) (tj : Int) (secs : Nat), s.pwr.thermal = true ∧ s.pwr.off = true ∧ tj ≤ 1100 ∧ 10 ≤ secs ∧
     s.rst.supply = true) ∧
    (∃ (s : State) (mv : Nat), s.getN Obj.AON_SUPPLY = 0 ∧ s.pwr.vbatAt = none ∧ s.pwr.vbatLowAt = none ∧
     min 4000 mv < s.getN Obj.VBAT_LOW_LIMIT ∧ s.mg.fifos.length = 8) ∧
    (∃ (s : State) (mv : Nat), s.getN Obj.AON_SUPPLY = 0 ∧ s.pwr.vbatAt = none ∧ s.getN Obj.VBAT_LOW_LIMIT ≤ min 4000 mv) ∧
    (∃ (_s : State), True) ∧
    (∃ (_s : State), True) :=
  ⟨⟨live, 1251, by decide +kernel⟩,
   ⟨live, 1350, by decide +kernel⟩,
   ⟨{ live with pwr := { live.pwr with thermal := true, off := true } }, 1100, 10, by decide +kernel⟩,
   ⟨live, 100, by decide +kernel⟩,
   ⟨live, 5000, by decide +kernel⟩,
   ⟨live, by decide +kernel⟩,
   ⟨live, by decide +kernel⟩⟩

theorem witness_resetSourcesComplete :
    (∃ (_s : State), True) ∧
    (∃ (s : State), s.held srcPora = true ∧ s.pwr.dom.length = 16) ∧
    (∃ (s : State) (ns : Nat), 1000 ≤ ns ∧ s.pwr.anchor = none ∧ s.pwr.off = false ∧ s.pwr.dom.length = 16) ∧
    (∃ (ns : Nat), ns < 200) ∧
    (∃ (ns : Nat), 200 ≤ ns ∧ ns < 1000) ∧
    (∃ (s : State), s.held srcPin = true) ∧
    (∃ (s : State) (n : Nat), s.dead = false ∧ 5 ≤ n ∧ n ≤ 8 ∧ s.pwr.dom.length = 16) ∧
    (∃ (s : State) (e : Count), s.dead = false ∧ s.rst.warmAt = some e ∧ e ≤ s.now ∧ s.pwr.dom.length = 16) ∧
    (∃ (s : State), s.dead = false ∧ s.pwr.dom.length = 16) ∧
    (∃ (s : State), s.dead = false ∧ s.attachDue = true ∧ s.pwr.dom.length = 16) ∧
    (∃ (s : State), s.dead = false ∧ s.getN Obj.TACK_STAGE_NOW = 6 ∧ s.mg.busy = false ∧ s.pwr.dom.length = 16) ∧
    (∃ (s : State), s.dead = false ∧ s.isOn 3 = true ∧ s.pwr.dom.length = 16) ∧
    (∃ (s : State) (r : Req), CanStart s r Obj.WARM_RESTART 0) ∧
    (∃ (s : State) (r : Req) (d : Nat), CanStart s r Obj.DOMAIN_RESET 0 ∧ 3 ≤ d ∧ d ≤ 15 ∧ (d ≤ 5 →
     ∀ p ∈ List.range 4, s.getB (Obj.PN_ENABLE p) = false) ∧ s.tackUnderWay = false ∧ s.domOnAir d = false ∧
     s.pwr.dom.length = 16) ∧
    (∃ (s : State) (r : Req) (d : Nat), CanStart s r Obj.DOMAIN_RESET 0 ∧ 3 ≤ d ∧ d ≤ 15 ∧ (d ≤ 5 →
     ∀ p ∈ List.range 4, s.getB (Obj.PN_ENABLE p) = false) ∧ s.tackUnderWay = false ∧ s.domOnAir d = true) ∧
    (∃ (s : State) (h : Hold), h ∈ s.rst.holds ∧ s.holdOver h = true) :=
  ⟨⟨live, by decide +kernel⟩,
   ⟨State.reset, by decide +kernel⟩,
   ⟨live, 1000, by decide +kernel⟩,
   ⟨199, by decide +kernel⟩,
   ⟨999, by decide +kernel⟩,
   ⟨heldBy srcPin 0 none, by decide +kernel⟩,
   ⟨live, 8, by decide +kernel⟩,
   ⟨{ live with rst := { live.rst with warmAt := some 0 } }, 0, by decide +kernel⟩,
   ⟨live, by decide +kernel⟩,
   ⟨staging 4, by decide +kernel⟩,
   ⟨staging 6, by decide +kernel⟩,
   ⟨live, by decide +kernel⟩,
   ⟨live, quay, by decide +kernel⟩,
   ⟨live, quay, 15, by decide +kernel⟩,
   ⟨airing, quay, 12, by decide +kernel⟩,
   ⟨heldBy srcWarm 0 (some 0), { source := 3, dom := 0, until' := some 0 }, by decide +kernel⟩⟩

theorem witness_clockAndReleaseComplete :
    (∃ (s : State), s.rst.trimRun = true) ∧
    (∃ (s : State), s.rst.pll = false ∧ s.dead = false ∧ s.pwr.entry = none ∧ s.held srcPora = false ∧
     s.held srcSag = false ∧ s.held srcPin = false) ∧
    (∃ (s : State), s.rst.pll = true ∧ s.dead = false ∧ s.pwr.dom.length = 16) ∧
    (∃ (s : State), s.mayRelease = true ∧ bit (s.getN Obj.STRAPS) 4 = true ∧ s.releasable.head? = some 5 ∧
     s.rst.metAt + s.cyclesNs (s.getN Obj.SEQ_GAP) ≤ s.now ∧ s.rst.domNo ≠ 5 ∧ s.pwr.dom.length = 16) ∧
    (∃ (s : State), s.mayRelease = true ∧ bit (s.getN Obj.STRAPS) 4 = false ∧ s.releasable = [2] ∧
     s.rst.metAt + s.cyclesNs 64 ≤ s.now ∧ s.rst.attaching = none ∧ s.rst.domNo ≠ 2 ∧ s.pwr.dom.length = 16) :=
  ⟨⟨{ live with rst := { live.rst with trimRun := true } }, by decide +kernel⟩,
   ⟨{ live with rst := { live.rst with pll := false } }, by decide +kernel⟩,
   ⟨live, by decide +kernel⟩,
   ⟨releasing [5], by decide +kernel⟩,
   ⟨(releasing [2]).setN Obj.STRAPS 0, by decide +kernel⟩⟩

theorem witness_attachAndLookoutComplete :
    (∃ (s : State) (i : Nat), s.dead = false ∧ s.isOn 1 = true ∧ s.isOn 2 = true ∧ s.isOn 3 = true ∧ s.isOn 4 = true ∧
     s.mg.busy = true ∧ s.rst.image = some i) ∧
    (∃ (s : State) (c : Chart), s.rst.lodestar = true ∧ s.isOn 3 = true ∧ s.pwr.wakeAt = none ∧ s.dead = false ∧
     s.rst.chart = some c) ∧
    (∃ (s : State), s.rst.lodestar = true ∧ s.isOn 3 = true ∧ s.pwr.wakeAt = none ∧ s.dead = false ∧ s.rst.chart = none) ∧
    (∃ (s : State) (c : Chart), s.isOn 1 = true ∧ s.isOn 3 = true ∧ s.dead = false ∧ s.rst.chart = some c ∧
     (c.state.elim true (fun x => decide (x.time + secT ≤ s.time))) = true) ∧
    (∃ (s : State) (n : Nat), s.isOn 2 = true ∧ n < 4 ∧ n < s.rst.beats.length) ∧
    (∃ (s : State) (n : Nat), s.isOn 2 = true ∧ n < 4 ∧ (nth s.rst.beats n).warned = false ∧
     (nth s.rst.beats n).last + beatC + s.getN Obj.LOOKOUT_WARN_TIME * msC ≤ s.now ∧ n < s.rst.beats.length ∧
     s.mg.fifos.length = 8) ∧
    (∃ (s : State) (n : Nat), s.dead = false ∧ s.isOn 2 = true ∧ n < 4 ∧
     (nth s.rst.beats n).last + s.getN Obj.LOOKOUT_CORE_TIME * msC ≤ s.now ∧ s.pwr.dom.length = 16 ∧ s.mg.fifos.length = 8) ∧
    (∃ (s : State) (n : Nat) (e : Count), s.dead = false ∧ s.isOn 2 = true ∧ 4 ≤ n ∧ s.rst.coreRel = some e ∧
     e + 2 * secC ≤ s.now ∧ s.pwr.dom.length = 16 ∧ s.mg.fifos.length = 8) ∧
    (∃ (s : State) (n : Nat) (us : Nat), s.dead = false ∧ ((n = 2 ∧
     3 ≤ (s.rst.l1.filter (fun e => decide (s.now < e + 600 * secC))).length) ∨ (n = 3 ∧ s.isOn 3 = true ∧
     s.helmStall ≤ us) ∨ ((n = 4 ∨ n = 5) ∧ s.isOn 4 = true ∧ 1000 ≤ us)) ∧ s.pwr.dom.length = 16 ∧ s.mg.fifos.length = 8) :=
  ⟨⟨{ live with mg := { live.mg with busy := true } }, 0, by decide +kernel⟩,
   ⟨{ live with rst := { live.rst with lodestar := true, chart := some chartA } }, chartA, by decide +kernel⟩,
   ⟨{ live with rst := { live.rst with lodestar := true, chart := none } }, by decide +kernel⟩,
   ⟨{ live with rst := { live.rst with chart := some chartA } }, chartA, by decide +kernel⟩,
   ⟨live, 3, by decide +kernel⟩,
   ⟨{ live with now := 100 * secC }, 3, by decide +kernel⟩,
   ⟨{ live with now := 100 * secC }, 3, by decide +kernel⟩,
   ⟨{ live with now := 100 * secC, rst := { live.rst with coreRel := some 0 } }, 255, 0, by decide +kernel⟩,
   ⟨live, 5, 1000, by decide +kernel⟩⟩

theorem witness_bootComplete :
    (∃ (s : State), s.isOn 1 = true ∧ s.isOn 2 = true ∧ s.mg.busy = true ∧ s.rst.image = none ∧ s.rst.waitImage = false ∧
     s.dead = false ∧ s.getN Obj.STRAPS % 4 = 2) ∧
    (∃ (s : State), s.isOn 1 = true ∧ s.isOn 2 = true ∧ s.mg.busy = true ∧ s.rst.image = none ∧ s.rst.waitImage = false ∧
     s.dead = false ∧ s.getN Obj.STRAPS % 4 = 1) ∧
    (∃ (s : State) (m : Option Nat), s.isOn 1 = true ∧ s.isOn 2 = true ∧ s.mg.busy = true ∧ s.rst.image = none ∧
     s.rst.waitImage = false ∧ s.dead = false ∧ s.getN Obj.STRAPS % 4 = 0 ∧ mapOf m = 0) ∧
    (∃ (s : State) (m : Option Nat) (i : Nat), s.isOn 1 = true ∧ s.isOn 2 = true ∧ s.mg.busy = true ∧ s.rst.image = none ∧
     s.rst.waitImage = false ∧ s.dead = false ∧ s.getN Obj.STRAPS % 4 = 0 ∧ mapOf m ≠ 0 ∧ s.rst.tack = [] ∧
     s.confirmedBank = i ∧ i < 2) ∧
    (∃ (s : State) (r : Req) (o : Octets), s.rst.waitImage = true ∧ r.via = .quay ∧ r.blk = none ∧
     s.mg.quay.responses.length < responsePlaces ∧ s.isOn 1 = true ∧ s.dead = false ∧ s.rst.image = none ∧
     o.length ≤ 6291456) :=
  ⟨⟨booting 2, by decide +kernel⟩,
   ⟨booting 1, by decide +kernel⟩,
   ⟨booting 0, none, by decide +kernel⟩,
   ⟨booting 0, some 512, 0, by decide +kernel⟩,
   ⟨{ booting 1 with rst := { (booting 1).rst with waitImage := true } }, quay, [], by decide +kernel⟩⟩

theorem witness_tackComplete :
    (∃ (s : State) (r : Req) (o : Octets), CanStart s r Obj.TACK 1 ∧ o.length = 20 ∧ 32769 ≤ fld o 0 4 ∧
     fld o 0 4 ≤ 6291456 ∧ fld o 4 4 = 0 ∧ fld o 14 4 ≤ 999999999 ∧ ofT64Octets (slice o 8 12) ≤ s.time + 86400 * secT ∧
     s.getN Obj.TACK_STAGE_NOW = 0 ∧ s.getN Obj.POWER_STATE ≠ 2 ∧ s.getB Obj.LODESTAR_ACTIVE = false ∧
     s.rst.banks.length = 2) ∧
    (∃ (s : State) (r : Req) (w : Wire) (v : Val), Takes s r 0xA000 0x0C w v ∧ s.getN Obj.TACK_STAGE_NOW = 1 ∧
     fld v.toOctets 0 4 % segSize = 0 ∧ fld v.toOctets 0 4 + (v.toOctets.length - 4) ≤ s.tackHead.length ∧
     s.tackHead.bank < s.rst.banks.length ∧ 1 < cdiv s.tackHead.length segSize ∧ s.tackHead.segs = []) ∧
    (∃ (s : State) (r : Req) (w : Wire) (v : Val), Takes s r 0xA000 0x0C w v ∧ s.getN Obj.TACK_STAGE_NOW = 1 ∧
     fld v.toOctets 0 4 = 65536 ∧ fld v.toOctets 0 4 + (v.toOctets.length - 4) ≤ s.tackHead.length ∧
     s.tackHead.bank < s.rst.banks.length ∧ cdiv s.tackHead.length segSize = 2 ∧ s.tackHead.segs = [0]) ∧
    (∃ (s : State), s.getN Obj.TACK_STAGE_NOW = 2 ∧ s.mg.busy = false ∧ s.dead = false ∧ s.bn.keccakOut.length < 8 ∧
     s.tackHead.op = 3 ∧ s.procRunning Obj.TACK = true) ∧
    (∃ (s : State), s.getN Obj.TACK_STAGE_NOW = 3 ∧ s.mg.busy = false ∧ s.dead = false ∧
     s.sealList.length ≤ s.freeRecords ∧ s.binnacleSound = true ∧ s.bn.badBlocks < 3) ∧
    (∃ (s : State), s.attachDue = true ∧ s.dead = false ∧ s.pwr.dom.length = 16) ∧
    (∃ (s : State) (r : Req) (w : Wire) (v : Val), Takes s r 0xA000 9 w v ∧ s.getN Obj.TACK_STAGE_NOW = 5) ∧
    (∃ (s : State), s.soaked = true ∧ s.dead = false ∧ s.procRunning Obj.TACK = true ∧ s.tackHead.bank < 2) ∧
    (∃ (s : State), s.getN Obj.TACK_STAGE_NOW = 5 ∧ s.dead = false ∧ s.getT Obj.CONFIRM_DEADLINE ≤ s.time ∧
     s.pwr.dom.length = 16) :=
  ⟨⟨live, quay, be 4 40000 ++ be 4 0 ++ t64Octets 0, by decide +kernel⟩,
   ⟨staging 1, quay, .bytes segA, .octets segA, by decide +kernel⟩,
   ⟨{ staging 1 with rst := { (staging 1).rst with tack := [{ tackA with segs := [0] }] } }, quay, .bytes segB, .octets segB, by decide +kernel⟩,
   ⟨{ (staging 2).setN (Obj.key Obj.TACK 1) 1 with rst := { (staging 2).rst with tack := [{ tackA with op := 3 }] } }, by decide +kernel⟩,
   ⟨staging 3, by decide +kernel⟩,
   ⟨staging 4, by decide +kernel⟩,
   ⟨staging 5, quay, .bool true, .bool true, by decide +kernel⟩,
   ⟨soaking, by decide +kernel⟩,
   ⟨staging 5, by decide +kernel⟩⟩

theorem witness_logbookComplete :
    (∃ (s : State) (e : Nat × Val) (rest : List (Nat × Val)), s.lb.queue = e :: rest ∧ s.isOn 1 = true ∧ s.pwr.anchor = none) ∧
    (∃ (s : State), s.isOn 1 = true ∧ s.pwr.anchor = none ∧ s.getN Obj.LB_SCRUB_POINTER + 1 < lbLines) ∧
    (∃ (s : State) (n : Nat), s.isOn 1 = true ∧ s.pwr.anchor = none ∧ s.getN Obj.LB_SCRUB_POINTER + 1 < lbLines ∧ n ≠ 0) ∧
    (∃ (s : State), s.isOn 1 = true ∧ s.pwr.anchor = none ∧ s.getN Obj.LB_SCRUB_POINTER = lbLines - 1 ∧
     s.mg.fifos.length = 8) ∧
    (∃ (s : State), s.isOn 1 = true ∧ s.diag.wearAt + dayMinutes ≤ s.diag.minutes) ∧
    (∃ (s : State), s.isOn 1 = true ∧ s.diag.rotationAt + dayMinutes ≤ s.diag.minutes) :=
  ⟨⟨{ live with lb := { live.lb with queue := [(Obj.AGE_BIAS 3, .int 5)] } }, (Obj.AGE_BIAS 3, .int 5), [], by decide +kernel⟩,
   ⟨live, by decide +kernel⟩,
   ⟨live, 2, by decide +kernel⟩,
   ⟨live.setN Obj.LB_SCRUB_POINTER 131071, by decide +kernel⟩,
   ⟨{ live with diag := { live.diag with minutes := 1440 } }, by decide +kernel⟩,
   ⟨{ live with diag := { live.diag with minutes := 1440 } }, by decide +kernel⟩⟩

theorem witness_diagnosticsComplete :
    (∃ (s : State), s.isOn 1 = true) ∧
    (∃ (s : State) (b : Int), s.isOn 1 = true ∧ s.diag.minuteMax.getD (s.getI Obj.TJ_NOW) = b) ∧
    (∃ (s : State) (d : Nat) (a : Nat) (n : Nat) (bias : Int), d < 16 ∧ s.isOn d = true ∧ s.isOn 1 = true ∧ n ≠ 0 ∧
     s.getI Obj.AGE_FLOOR + 20 < marginOf a n ∧ -100 ≤ bias ∧ s.getI (Obj.AGE_BIAS d) - 5 ≤ bias ∧
     bias < s.getI (Obj.AGE_BIAS d)) ∧
    (∃ (s : State) (d : Nat) (a : Nat) (n : Nat) (bias : Int), d < 16 ∧ s.isOn d = true ∧ s.isOn 1 = true ∧ n ≠ 0 ∧
     s.getI Obj.AGE_FLOOR ≤ marginOf a n ∧ marginOf a n < s.getI Obj.AGE_FLOOR + 20 ∧ bias ≤ 100 ∧
     s.getI (Obj.AGE_BIAS d) < bias ∧ bias ≤ s.getI (Obj.AGE_BIAS d) + 5) ∧
    (∃ (s : State) (d : Nat) (a : Nat) (n : Nat), s.getI (Obj.AGE_BIAS d) = 100 ∧ d < 16 ∧ s.isOn d = true ∧
     s.isOn 1 = true ∧ n ≠ 0 ∧ marginOf a n < s.getI Obj.AGE_FLOOR ∧ s.diag.marginAt[d]? = some none ∧ s.mg.fifos.length = 8) ∧
    (∃ (s : State) (r : Req) (n : Nat), Ready s r ∧ n < 4 ∧ n < s.diag.caps.length ∧ s.isOn 4 = true ∧
     (nth s.diag.caps n).recs ≠ [] ∧ (nth s.diag.caps n).stalled = []) ∧
    (∃ (s : State) (r : Req) (n : Nat) (w : Wire) (v : Val), Takes s r (0xB500 + n) 4 w v ∧ n < 4 ∧ n < s.diag.caps.length) ∧
    (∃ (s : State), s.isOn 5 = true ∧ s.dead = false) ∧
    (∃ (s : State), s.isOn 5 = true ∧ s.dead = false ∧ s.mg.fifos.length = 8) ∧
    (∃ (s : State), s.isOn 5 = true ∧ s.dead = false ∧ s.pwr.dom.length = 16) ∧
    (∃ (s : State), s.dead = false) ∧
    (∃ (s : State), s.dead = false ∧ s.pwr.dom.length = 16) :=
  ⟨⟨live, by decide +kernel⟩,
   ⟨{ live with diag := { live.diag with minutes := 59, minuteMax := some 1350 } }, 1350, by decide +kernel⟩,
   ⟨live, 15, 500, 1000, (-5), by decide +kernel⟩,
   ⟨live, 15, 945, 1000, 4, by decide +kernel⟩,
   ⟨live.setI (Obj.AGE_BIAS 15) 100, 15, 1500, 1000, by decide +kernel⟩,
   ⟨captured, quay, 3, by decide +kernel⟩,
   ⟨captured, quay, 3, .bool true, .bool true, by decide +kernel⟩,
   ⟨live, by decide +kernel⟩,
   ⟨live, by decide +kernel⟩,
   ⟨live, by decide +kernel⟩,
   ⟨live, by decide +kernel⟩,
   ⟨live, by decide +kernel⟩⟩

theorem witness_selfTestsComplete :
    (∃ (s : State) (c : Nat) (n : Nat) (x : TestRun), s.isOn 4 = true ∧ targetOk c n = true ∧ c ≤ 5 ∧
     s.testGap c n = true ∧ (s.diag.tests.any (fun y => y.code == c && y.target == n && y.began)) = false ∧
     s.diag.tests.find? (fun y => y.code == c && y.target == n) = some x) ∧
    (∃ (s : State) (c : Nat) (n : Nat) (moved : Bool) (e : Count), s.isOn 4 = true ∧ targetOk c n = true ∧ c ≤ 5 ∧
     s.testGap c n = true ∧ (s.diag.tests.any (fun y => y.code == c && y.target == n)) = false ∧
     s.testDue c n moved = some e) ∧
    (∃ (s : State) (c : Nat) (n : Nat) (e : Count), (s.diag.tests.any (fun y => y.code == c && y.target == n && y.handle == 0)) = false ∧
     s.testDue c n false = some e ∧ s.isOn 4 = true ∧ c ≠ 5 ∧ targetOk c n = true ∧ e + s.testPeriod c n ≤ s.now ∧
     s.mg.fifos.length = 8) ∧
    (∃ (s : State) (a : Nat) (b : Banks), a < 5 ∧ s.isOn 4 = true ∧ s.diag.banks[a]? = some b ∧ b.copying = true) ∧
    (∃ (s : State) (r : Req) (n : Nat), CanStart s r Obj.SELFTEST_RUN 4 ∧ n < 4) ∧
    (∃ (s : State) (r : Req) (n : Nat), CanStart s r Obj.SELFTEST_RUN 4 ∧ n < 5) ∧
    (∃ (s : State) (r : Req) (n : Nat), CanStart s r Obj.SELFTEST_RUN 4 ∧ n < 8) ∧
    (∃ (s : State) (r : Req) (n : Nat), CanStart s r Obj.SELFTEST_RUN 4 ∧ n < 8) ∧
    (∃ (s : State) (r : Req) (n : Nat), CanStart s r Obj.SELFTEST_RUN 4 ∧ n = 0) ∧
    (∃ (s : State) (r : Req), CanStart s r Obj.SELFTEST_RUN 4) ∧
    (∃ (s : State) (r : Req), CanStart s r Obj.SELFTEST_RUN 4) ∧
    (∃ (s : State) (r : Req) (n : Nat), CanStart s r Obj.SELFTEST_RUN 4 ∧ n < 3 ∧
     (∀ p ∈ List.range 4, s.getB (Obj.PN_ENABLE p) = false)) ∧
    (∃ (s : State) (c : Nat) (n : Nat) (x : TestRun), s.diag.tests.find? (fun y => y.code == c && y.target == n && y.began) = some x ∧
     s.isOn 4 = true ∧ (c = 2 → (nth s.diag.banks n).freed.isSome = true) ∧ s.mg.fifos.length = 8 ∧ c ≤ 5) ∧
    (∃ (s : State) (n : Nat) (x : TestRun), s.diag.tests.find? (fun y => y.code == 3 && y.target == n && y.began) = some x ∧
     s.isOn 4 = true) :=
  ⟨⟨{ live with diag := { live.diag with tests := [testA] } }, 3, 7, testA, by decide +kernel⟩,
   ⟨{ live.setN Obj.ST_ENABLE 31 with now := 10000000 * secC }, 1, 3, false, ((({ live.setN Obj.ST_ENABLE 31 with now := 10000000 * secC } : State).testDue 1 3 false).getD 0), by decide +kernel⟩,
   ⟨{ live.setN Obj.ST_ENABLE 31 with now := 10000000 * secC }, 1, 3, ((({ live.setN Obj.ST_ENABLE 31 with now := 10000000 * secC } : State).testDue 1 3 false).getD 0), by decide +kernel⟩,
   ⟨{ live with diag := { live.diag with banks := live.diag.banks.map (fun x => { x with copying := true }) } }, 4, { turn := 0, copying := true, freed := none, retired := false }, by decide +kernel⟩,
   ⟨live, quay, 3, by decide +kernel⟩,
   ⟨live, quay, 4, by decide +kernel⟩,
   ⟨live, quay, 7, by decide +kernel⟩,
   ⟨live, quay, 7, by decide +kernel⟩,
   ⟨live, quay, 0, by decide +kernel⟩,
   ⟨live, quay, by decide +kernel⟩,
   ⟨live, quay, by decide +kernel⟩,
   ⟨live, quay, 2, by decide +kernel⟩,
   ⟨{ live with diag := { live.diag with tests := [{ testA with began := true }] } }, 3, 7, { testA with began := true }, by decide +kernel⟩,
   ⟨{ live with diag := { live.diag with tests := [{ testA with began := true }] } }, 7, { testA with began := true }, by decide +kernel⟩⟩

theorem witness_stepRunsFrontCommand :
    ∃ (s : State) (c : Instr) (rest : List Instr), s.pending = c :: rest :=
  ⟨{ live with pending := [.slowTickLatch] }, .slowTickLatch, [], rfl⟩

theorem witness_idleStepTicks : ∃ s : State, s.pending = [] := ⟨State.reset, rfl⟩

theorem witness_stepKeepsCanonicalStores : ∃ s t : State, Canonical s ∧ step s = .next t :=
  ⟨State.reset, State.reset.idle, ⟨by decide, by decide⟩, rfl⟩

theorem witness_stepKeepsBounds : ∃ s t : State, Bounded s ∧ step s = .next t :=
  ⟨State.reset, State.reset.idle, ⟨rfl, by decide, by decide, by decide⟩, rfl⟩

theorem witness_unknownObjectsRefused :
    (∃ ix, Obj.hasIndex ix = false) ∧
    (∃ ix sub, Obj.hasIndex ix = true ∧ ownRow (Obj.key ix sub) = false ∧ Obj.key ix sub ≠ Obj.BOOT_IMAGE ∧
      Obj.row (Obj.key ix sub) = none) ∧
    (∃ (s : State) (r : Req) (ix sub : Nat), Ready s r ∧ sub < 256 ∧ Obj.hasIndex ix = false) ∧
    (∃ (s : State) (r : Req) (ix sub : Nat), Ready s r ∧ sub < 256 ∧ Obj.hasIndex ix = true ∧
      ownRow (Obj.key ix sub) = false ∧ Obj.key ix sub ≠ Obj.BOOT_IMAGE ∧ Obj.row (Obj.key ix sub) = none) ∧
    (∃ ix sub, Obj.hasIndex ix = true ∧ Obj.key ix sub ≠ Obj.BOOT_IMAGE ∧ Obj.row (Obj.key ix sub) = none) ∧
    (∃ (s : State) (r : Req) (ix sub : Nat), Ready s r ∧ sub < 256 ∧ Obj.hasIndex ix = false ∧ ownRead (Obj.key ix sub) = false) ∧
    (∃ (s : State) (r : Req) (ix sub : Nat), Ready s r ∧ sub < 256 ∧ Obj.hasIndex ix = true ∧
      ownRead (Obj.key ix sub) = false ∧ Obj.key ix sub ≠ Obj.BOOT_IMAGE ∧ Obj.row (Obj.key ix sub) = none) :=
  ⟨⟨0x9FFF, by decide +kernel⟩, ⟨0x1101, 255, by decide +kernel⟩, ⟨live, quay, 0x9FFF, 0, by decide +kernel⟩,
   ⟨live, quay, 0x1101, 255, by decide +kernel⟩, ⟨0x1101, 255, by decide +kernel⟩, ⟨live, quay, 0x9FFF, 0, by decide +kernel⟩,
   ⟨live, quay, 0x1101, 255, by decide +kernel⟩⟩

theorem witness_fullFifoLosesOldest :
    ∃ (s : State) (code : Nat) (f : Fifo), s.mg.busy = false ∧ s.mg.fifos[fifoOf code]? = some f ∧ f.recs.length = fifoDepth :=
  ⟨{ live with mg := { live.mg with fifos := [{ Fifo.blank with recs := List.replicate 4096 rec0 }] } }, 0x1101,
   { Fifo.blank with recs := List.replicate 4096 rec0 }, rfl, rfl, List.length_replicate⟩

theorem witness_refusedWriteChangesNothing :
    ∃ (s : State) (r : Req) (ix sub : Nat) (w : Wire) (rc : Rc), Ready s r ∧ ownRow (Obj.key ix sub) = false ∧
      errorOf (s.entered.checkWrite 0 ix sub w (s.entered.lateCause (Obj.key ix sub))) = some rc :=
  ⟨live, quay, 0x1101, 0, .uint 9, .range, by decide +kernel⟩

/-! ## Ill-formed commands are refused (one for each check) -/

def trunkReq (sender : Octets) (tok : Nat) : Req := { via := .trunk { port := 0, udp := 5683, peer := [1], mid := 0, con := true, prot := true } 1 sender true false false 0, tok := tok, blk := none }

theorem test_wf_accepts : Instr.wf (.objectWrite quay 0x1101 0 (.uint 300)) = true := by decide
theorem test_wf_token : Instr.wf (.journalRecordRead { quay with tok := 256 }) = false := by decide
theorem test_wf_trunk_token : Instr.wf (.journalRecordRead (trunkReq [1] (2 ^ 64))) = false := by decide
theorem test_wf_sender : Instr.wf (.journalRecordRead (trunkReq (List.replicate 17 0) 1)) = false := by decide
theorem test_wf_block : Instr.wf (.tackSegment { quay with blk := some (2 ^ 23, true) } (.bytes [])) = false := by decide
theorem test_wf_uint : Instr.wf (.procAbort quay (.uint (2 ^ 64))) = false := by decide
theorem test_wf_nint : Instr.wf (.sxRateWrite quay (.nint (2 ^ 64))) = false := by decide
theorem test_wf_array : Instr.wf (.rxWindowApply quay (.arr3 0 (2 ^ 64) 0)) = false := by decide
theorem test_wf_index : Instr.wf (.objectWrite quay 65536 0 (.uint 1)) = false := by decide
theorem test_wf_subindex : Instr.wf (.objectWrite quay 0x1101 256 (.uint 1)) = false := by decide
theorem test_wf_address_sub : Instr.wf (.trunkAddressWrite quay 256 (.uint 1)) = false := by decide
theorem test_wf_field_sub : Instr.wf (.calFieldRead quay 256) = false := by decide
theorem test_wf_session : Instr.wf (.sessionIdleTimeout 16) = false := by decide
theorem test_wf_transfer_session : Instr.wf (.blockTransferTimeout 16) = false := by decide
theorem test_wf_mid : Instr.wf (.journalRecordRead { trunkReq [1] 1 with
    via := .trunk { port := 0, udp := 5683, peer := [1], mid := 65536, con := true, prot := true } 1 [1] true false false 0 }) = false := by
  decide
theorem test_wf_shadow_session : Instr.wf (.calShadowRelease 16) = false := by decide
theorem test_wf_fifo : Instr.wf (.evtFlush quay 8 (.bool true)) = false := by decide
theorem test_wf_observed_fifo : Instr.wf (.observeNotify 8) = false := by decide
theorem test_wf_stalled_fifo : Instr.wf (.stalledReadServed 12) = false := by decide
theorem test_wf_capture_fifo : Instr.wf (.capFlush quay 4 (.bool true)) = false := by decide
theorem test_wf_port : Instr.wf (.gainStepUp 4 50) = false := by decide
theorem test_wf_chain : Instr.wf (.synthLock 3) = false := by decide
theorem test_wf_retune_chain : Instr.wf (.retuneRun 0 3 250) = false := by decide
theorem test_wf_band : Instr.wf (.aerialModeApply 2) = false := by decide
theorem test_wf_demodulator : Instr.wf (.sfdTimeout 128) = false := by decide
theorem test_wf_window : Instr.wf (.falsePreambleCheck 6) = false := by decide
theorem test_wf_psdu :
    Instr.wf (.rxFrameEnd 0 { psdu := List.replicate 2048 0, crcOk := true, fec := false, fcs32 := true, mcs := 0, snr := 0 })
      = false := by decide +kernel
theorem test_wf_pan : Instr.wf (.disReceived 4) = false := by decide
theorem test_wf_asn : Instr.wf (.cellEnd 0 (2 ^ 40)) = false := by decide
theorem test_wf_quiet_kind : Instr.wf (.quietSlotInsert 2 0) = false := by decide
theorem test_wf_quiet_index : Instr.wf (.quietSlotInsert 0 5) = false := by decide
theorem test_wf_frame_type : Instr.wf (.frameDecision { dataF with ftype := 8 } []) = false := by decide
theorem test_wf_frame_version : Instr.wf (.frameDecision { dataF with version := 4 } []) = false := by decide
theorem test_wf_frame_pan : Instr.wf (.frameDecision { dataF with dstPan := 65536 } []) = false := by decide
theorem test_wf_frame_seq : Instr.wf (.frameDecision { dataF with seqNo := some 256 } []) = false := by decide
theorem test_wf_sub_band : Instr.wf (.dutyBinBoundary 16) = false := by decide
theorem test_wf_slotframe : Instr.wf (.slotframeSwitch 64) = false := by decide
theorem test_wf_node : Instr.wf (.joinTimeout (2 ^ 18)) = false := by decide
theorem test_wf_eui : Instr.wf (.joinVerify (2 ^ 64) 0 false true 0) = false := by decide
theorem test_wf_reference : Instr.wf (.handoverEntry (2 ^ 64)) = false := by decide
theorem test_wf_context : Instr.wf (.admissionMessage { admWA with ctx := 65536 }) = false := by decide +kernel
theorem test_wf_trunk_port : Instr.wf (.linkUp { lockW with p := 2 }) = false := by decide +kernel
theorem test_wf_priority : Instr.wf (.pauseExpiry 0 8) = false := by decide
theorem test_wf_partner_bit : Instr.wf (.redPartnerTimeout 4) = false := by decide
theorem test_wf_page : Instr.wf (.pageReceived 2 pageA [] 0 0) = false := by decide
theorem test_wf_trunk_frame_scrambler : Instr.wf (.trunkFrameReceived 0 { tframe with scr := [] } 0 true) = false := by decide +kernel
theorem test_wf_trunk_frame_place : Instr.wf (.trunkFrameReceived 0 { tframe with pos := 26400 } 0 true) = false := by decide +kernel
theorem test_wf_next_hop : Instr.wf (.uplinkTxSelect 0 { mac := [], body := [] }) = false := by decide
theorem test_wf_pulse_octets : Instr.wf (.pulseReceived { pulseW with octets := List.replicate 8209 0 }) = false := by
  decide +kernel
theorem test_wf_stream_octets : Instr.wf (.streamReceived { wire := { streamW with octets := List.replicate 8209 0 }, recs := [] }) = false := by
  decide +kernel
theorem test_wf_master : Instr.wf (.ptpAnnounce 0 annA) = false := by decide
theorem test_wf_chips : Instr.wf (.ookPatternMatch []) = false := by decide
theorem test_wf_sensor : Instr.wf (.thermalLimit 1300 9) = false := by decide
theorem test_wf_straps : Instr.wf (.pinRelease { straps with boot := 4 }) = false := by decide
theorem test_wf_reset_detail : Instr.wf (.warmAssert 12) = false := by decide
theorem test_wf_core : Instr.wf (.coreHeartbeat 4) = false := by decide
theorem test_wf_lookout_cause : Instr.wf (.lookoutLevel2 { cause := 6, us := 0 }) = false := by decide
theorem test_wf_domain : Instr.wf (.txDomainOff 16) = false := by decide
theorem test_wf_test_code : Instr.wf (.selftestLate 7 0) = false := by decide
theorem test_wf_array_number : Instr.wf (.bankSwap 5) = false := by decide
theorem test_wf_dram_channel : Instr.wf (.dramEccError 2 0 true true) = false := by decide

/-! ## Steps checked against figures of the spec -/

/-- What a step answers, read through `f`. -/
def after {α : Type} (s : State) (c : Instr) (f : State → α) : Option α :=
  match step { s with pending := [c] } with
  | .next t => some (f t)
  | _ => none

/-- The code and the payload of the newest Quay response. -/
def answer (t : State) : Option (Nat × Payload) := t.mg.quay.responses.getLast?.map (fun f => (f.code, f.payload))

-- R46: the CRC-16 of polynomial 0x1021 from 0xFFFF has the published check value 0x29B1 over "123456789".
theorem test_crc16 : crc16 [0x31, 0x32, 0x33, 0x34, 0x35, 0x36, 0x37, 0x38, 0x39] = 0x29B1 := by decide +kernel
-- R290: the CRC-32 of IEEE 802.3 has the published check value 0xCBF43926 over "123456789".
theorem test_fcs : fcsOf [0x31, 0x32, 0x33, 0x34, 0x35, 0x36, 0x37, 0x38, 0x39] = [0x26, 0x39, 0xF4, 0xCB] := by decide +kernel
-- R82: 16 saturated samples are a clipping, 15 are none.
theorem test_clip_16 : after { live.setN (Obj.PP_GAIN_STEP_NOW 0) 3 with now := secC } (.gainStepDown 0 16)
    (fun t => t.getN (Obj.PP_GAIN_STEP_NOW 0)) = some 2 := by decide +kernel
theorem test_clip_15 : after { live.setN (Obj.PP_GAIN_STEP_NOW 0) 3 with now := secC } (.gainStepDown 0 15)
    (fun t => t.getN (Obj.PP_GAIN_STEP_NOW 0)) = some 3 := by decide +kernel
-- R82: the top step is 4 on LA and LB, 1 on HA and HB.
theorem test_gain_top : after (live.setN (Obj.PP_GAIN_STEP_NOW 2) 1) (.gainStepUp 2 1000)
    (fun t => t.getN (Obj.PP_GAIN_STEP_NOW 2)) = some 1 := by decide +kernel
-- R38, R43: no such index is 4.04 with NO_OBJECT.
theorem test_no_object : after live (.objectWrite quay 0x9FFF 0 (.uint 1)) answer = some (some (0x84, .detail .noObject none)) := by
  decide +kernel
-- R37: a write of a RO object is 4.05 with READ_ONLY.
theorem test_read_only : after live (.objectWrite quay 0x1100 0 (.uint 1)) answer = some (some (0x85, .detail .readOnly none)) := by
  decide +kernel
-- R80: SESSION_IDLE lies in 10 to 86,400 s.
theorem test_range : after live (.objectWrite quay 0x1101 0 (.uint 86401)) answer = some (some (0x80, .detail .range none)) := by
  decide +kernel
theorem test_write : after live (.objectWrite quay 0x1101 0 (.uint 86400))
    (fun t => (t.getN Obj.SESSION_IDLE, t.lb.journal.head?.map (fun j => (j.kind, j.index, j.result)))) =
    some (86400, some (1, 0x1101, .ok)) := by decide +kernel
-- R78: a write of false is refused with RANGE and discards nothing.
theorem test_flush_false : after eventful (.evtFlush quay 1 (.bool false)) (fun t => (answer t, (nth t.mg.fifos 1).recs.length)) =
    some (some (0x80, .detail .range none), 1) := by decide +kernel
-- R70: BUSY_RETRY (0x0501) is 5.03 while no Attach has followed.
theorem test_busy : (after { live with mg := { live.mg with busy := true } } (.journalRecordRead quay)
    (fun t => (answer t).map (·.1))) = some (some 0xA3) := by decide +kernel
-- R410, R411: WAKE_N wakes after 10 µs low; 9 µs are too few.
theorem test_wake_n : after asleep (.wakeNLow 10) (fun t => t.pwr.woken) = some true := by decide +kernel
theorem test_wake_n_short : after asleep (.wakeNLow 9) (fun t => t.pwr.woken) = some false := by decide +kernel
-- R351: the subseconds stop at 32,767.
theorem test_slow_tick : after (live.setN Obj.CAL_SUBSEC 32767) .slowTickLatch (fun t => t.getN Obj.CAL_SUBSEC) = some 32767 := by
  decide +kernel
-- R65: an abort of a procedure that is not RUNNING is refused with STATE_CONFLICT.
theorem test_abort_idle : after live (.procAbort quay (.uint 0x31000001)) answer =
    some (some (0x89, .detail .stateConflict none)) := by decide +kernel
-- With no command waiting the block ticks; COUNT stands while the PLL is stopped (log 1).
theorem test_idle : (match step State.reset with | .next t => (t.now, t.pending.length) | _ => (9, 9)) = (0, 0) := by decide +kernel
-- R277: PAM-4 is a Gray mapping; the eight ternary pairs read back, and 0, 0 reads as 000.
theorem test_pam4 : ([[false, false], [false, true], [true, true], [true, false]].map pam4) = [-3, -1, 1, 3] := by decide
theorem test_pam3 : (List.range 8).all (fun n =>
    match pam3 [bit n 2, bit n 1, bit n 0] with
    | [a, b] => pam3Bits a b == [bit n 2, bit n 1, bit n 0]
    | _ => false) = true ∧ pam3Bits 0 0 = [false, false, false] := by decide +kernel
-- R274: descrambling undoes scrambling from the same state of the scrambler.
theorem test_scrambler : descramble (List.replicate 58 true) (scramble (List.replicate 58 true) [idleBlock, idleBlock]) =
    [idleBlock, idleBlock] := by decide +kernel
-- R42, R520: a GET of a general object is answered with its value; of a WO object it is refused with WRITE_ONLY.
theorem test_read : after live (.wakeOnAccessRead quay { ix := 0x1101, sub := 0 }) answer = some (some (0x45, .value (.int 300))) := by decide +kernel
theorem test_read_wo : after live (.wakeOnAccessRead quay { ix := 0x7400, sub := 9 }) answer = some (some (0x85, .detail .writeOnly none)) := by
  decide +kernel
-- R73: an event record is 64 octets; FLAGS holds TIME_VALID and LATE.
theorem test_event_octets : (rec0.octets).length = 64 ∧ ({ rec0 with valid := true, late := true }.octets)[27]? = some 3#8 := by
  decide +kernel

end Sys2Proof.Tests
end

/-! SUPPORT. What a command keeps (Keeps): one lemma for each command, and from them that every step goes on and keeps. The proof of a
command follows its definition, branch by branch, and names the lemma of each operation it does. -/
namespace Sys2Proof.Machine

/-- The answer of a command is a next state, and from `s` to that state everything is kept. -/
def KeepsNext (s : State) : Res → Prop
  | .next u => Keeps s u
  | .fault _ => False
  | .refused _ => False

namespace Keeps

theorem next {s t : State} (h : Keeps s t) : KeepsNext s (.next t) := h

theorem iteNext {s : State} {c : Prop} {_ : Decidable c} {p q : Res} (hp : KeepsNext s p) (hq : KeepsNext s q) :
    KeepsNext s (if c then p else q) := by split <;> assumption

/-- A fold that carries a state beside another value. -/
theorem foldlFst {s : State} {α β : Type} {f : State × β → α → State × β} {a : State × β} (h : Keeps s a.1)
    (hf : ∀ b x, Keeps s b.1 → Keeps s (f b x).1) (l : List α) : Keeps s (l.foldl f a).1 := by
  induction l generalizing a with
  | nil => exact h
  | cons x l ih => exact ih (hf a x h)

/-- A FIFO that keeps some of its records, and those it holds, stays within its bounds. -/
theorem fits_of_sublist {f g : Fifo} (hr : g.recs.Sublist f.recs) (hh : g.held = f.held) (h : f.Fits) : g.Fits :=
  ⟨Nat.le_trans hr.length_le h.1, hh ▸ h.2⟩

theorem fits_leave {f : Fifo} (last : Nat) (h : f.Fits) : (f.leave last).settle.Fits := by
  unfold Fifo.leave
  split
  · exact fits_of_sublist ((List.tail_sublist _).trans (List.dropWhile_sublist _)) rfl h
  · exact h

/-- Each command of a list that `inTurn` runs through goes on from a kept state, and keeps. -/
def EachKeeps (s : State) : List (State → Res) → Prop
  | [] => True
  | f :: l => (∀ u, Keeps s u → KeepsNext s (f u)) ∧ EachKeeps s l

theorem inTurn_next {s t : State} (h : Keeps s t) {l : List (State → Res)}
    (hl : EachKeeps s l) : KeepsNext s (inTurn l t) := by
  have hr : KeepsNext s (.next t) := h.next
  unfold inTurn
  generalize (Host.Outcome.next t : Res) = r at hr ⊢
  induction l generalizing r with
  | nil => exact hr
  | cons f l ih =>
    obtain ⟨hf, hl⟩ := hl
    refine ih hl _ ?_
    cases r with
    | next u => exact hf u hr
    | fault _ => exact hr
    | refused _ => exact hr

section
variable {s t : State} (h : Keeps s t)
include h

/-! ### Management (spec 02) -/

theorem setObserver (n : Nat) (o : Option Observer) : Keeps s (t.updFifo n fun f => { f with observer := o }) :=
  h.updFifo n fun _ hf => hf

theorem leaveFifo (n last : Nat) : Keeps s (t.updFifo n fun f => (f.leave last).settle) :=
  h.updFifo n fun _ hf => fits_leave last hf

theorem takeRecords (n k : Nat) (l : Fifo → List Stalled) :
    Keeps s (t.updFifo n fun f => { f with recs := f.recs.drop k, stalled := l f }) :=
  h.updFifo n fun f => fits_of_sublist (List.drop_sublist k f.recs) rfl

theorem execObjectWrite_next (r : Req) (ix sub : Nat) (w : Wire) : KeepsNext s (execObjectWrite r ix sub w t) :=
  iteNext h (h.write _ _ _ _ _ fun _ _ _ h => h.applyWrite _ _ _)

theorem execWakeOnAccessRead_next (r : Req) (o : ObjAddr) : KeepsNext s (execWakeOnAccessRead r o t) :=
  iteNext h (h.readChecked _ _ _ fun _ _ h => (h.readEffect _ _).replyRead _ _ _ _)

theorem execBlockTransferTimeout_next (sess : Nat) : KeepsNext s (execBlockTransferTimeout sess t) :=
  h.parts rfl rfl rfl

theorem execQuayUartEntry_next (octets : Octets) (baud : Nat) : KeepsNext s (execQuayUartEntry octets baud t) :=
  iteNext (h.setQuay _) h

theorem execQuayCsFall_next (clkHigh : Bool) : KeepsNext s (execQuayCsFall clkHigh t) :=
  (h.setQuay _).wakeSource _

theorem execQuayFrameSent_next : KeepsNext s (execQuayFrameSent t) := by
  unfold execQuayFrameSent
  split
  · exact h
  · dsimp only
    split
    · exact h.setQuay _
    · exact iteNext ((h.setQuay _).leaveFifo _ _) (h.setQuay _)

theorem execSessionIdleTimeout_next (n : Nat) : KeepsNext s (execSessionIdleTimeout n t) := by
  unfold execSessionIdleTimeout
  split
  · exact h
  · exact iteNext (h.closeSession _ _ _) h

theorem execSessionClose_next (r : Req) (w : Wire) : KeepsNext s (execSessionClose r w t) :=
  h.writeThen _ _ _ _ _ (fun _ _ _ h => ite h (h.closeSession _ _ _)) (fun _ _ _ h => ite (h.closeSession _ _ _) h)

theorem execEvtRecordsRead_next (r : Req) (n : Nat) : KeepsNext s (execEvtRecordsRead r n t) :=
  h.readChecked _ _ _ fun _ _ h =>
    have hc := h.cancelObserve _ _ _
    ite (hc.replyRc _ _ _ _) (ite (hc.updFifo _ fun _ hf => hf) ((hc.takeRecords _ _ _).replyRead _ _ _ _))

theorem execStalledReadServed_next (n : Nat) : KeepsNext s (execStalledReadServed n t) := by
  unfold execStalledReadServed
  refine iteNext (h.capServe _) ?_
  dsimp only
  split
  · exact ((h.takeRecords _ _ _).replyAsked _ _ _ _).touch _
  · exact h

theorem execEvtObserveRegister_next (r : Req) (n : Nat) : KeepsNext s (execEvtObserveRegister r n t) :=
  h.readChecked _ _ _ fun _ _ h => ite (h.replyRc _ _ _ _) (h.setObserver _ _)

theorem execObserveNotify_next (n : Nat) : KeepsNext s (execObserveNotify n t) := by
  unfold execObserveNotify
  dsimp only
  split
  · rename_i o _ _ _ _
    have hu : Keeps s (if t.upPorts = [] then (t, false) else t.protectMsg (t.session o.sess).ctx).1 :=
      iteFst h (h.protectMsg _)
    exact iteNext h (iteNext (iteNext h ((h.quayFrame _ _ _ _ _).setObserver _ _))
      (iteNext hu (((hu.takeOscoreSeq _).emit _).setObserver _ _)))
  · exact h

theorem execNotificationAck_next (n : Nat) : KeepsNext s (execNotificationAck n t) := by
  unfold execNotificationAck
  split
  · split
    · exact iteNext h (h.leaveFifo _ _)
    · exact h
  · exact h

theorem execNotificationTimeout_next (n : Nat) : KeepsNext s (execNotificationTimeout n t) := by
  unfold execNotificationTimeout
  split
  · exact iteNext ((h.setObserver _ _).touch _) h
  · exact h

theorem execEvtFlush_next (r : Req) (n : Nat) (w : Wire) : KeepsNext s (execEvtFlush r n w t) :=
  h.write _ _ _ _ _ fun _ _ _ h => h.updFifo _ fun _ hf => ⟨Nat.zero_le _, hf.2⟩

theorem execJournalRecordRead_next (r : Req) : KeepsNext s (execJournalRecordRead r t) := by
  refine h.readChecked _ _ _ fun _ _ h => ?_
  split
  · exact h.replyRc _ _ _ _
  · exact (h.updSession _ _).replyRead _ _ _ _

/-! ### Compass Rose (spec 03) -/

theorem execGainStepDown_next (p samples : Nat) : KeepsNext s (execGainStepDown p samples t) :=
  iteNext (((h.stepGain _ _).bump _).updPort _ _) h

theorem execGainStepUp_next (p heldMs : Nat) : KeepsNext s (execGainStepUp p heldMs t) :=
  iteNext (h.stepGain _ _) h

theorem execTxGroupStart_next (c : Nat) (psdus : List Octets) : KeepsNext s (execTxGroupStart c psdus t) := by
  unfold execTxGroupStart
  split
  · exact h
  · rename_i g _
    have hd := h.dropPlan g
    refine iteNext (foldl hd (fun _ _ h => h.refuseFrame _ _) _) ?_
    split
    · exact iteNext (foldl hd (fun _ _ h => h.joinGroup _ _ _) _) (hd.delayGroup _ _)
    · split
      · exact hd.delayGroup _ _
      · exact iteNext (hd.startGroup _ _) (hd.delayGroup _ _)

theorem execTxGroupEnd_next (c rl iso : Nat) : KeepsNext s (execTxGroupEnd c rl iso t) := by
  unfold execTxGroupEnd
  split
  · exact h
  · exact iteNext ((h.groupOff _ _).chargeGroup _ _)
      (((((h.judgeMatch _ _ _).judgeIsolation _ _).groupOff _ _).chargeGroup _ _).deliverUnacked _ _)

theorem execMismatchSevere_next (c : Nat) (m : CutMeasure) : KeepsNext s (execMismatchSevere c m t) := by
  unfold execMismatchSevere
  split
  · exact h
  · exact iteNext h
      ((((((h.setN _ _).judgeMatch _ _ _).judgeIsolation _ _).cutGroup _).raiseOn _ _ _ _).queueRetune _ _)

theorem execRetuneRun_next (p c winUs : Nat) : KeepsNext s (execRetuneRun p c winUs t) := by
  unfold execRetuneRun
  split
  · exact h
  · exact iteNext (beginRetune (stream (parts (ite (h.procEst _ _) h) rfl rfl rfl) _) _ _ _) h

theorem execRetuneDone_next (p : Nat) (rls : List Nat) : KeepsNext s (execRetuneDone p rls t) := by
  unfold execRetuneDone
  split
  · exact h
  · extract_lets b1 b2 r s1 s2 s3 s4
    have h3 : Keeps s s3 := (((((h.setQ _ _).setQ _ _).setN _ _).bump _).retuneOff _ _ _).retuneResult _ _ _ _
    exact (ite (h3.procDone _ _) h3).radioPower

theorem execRetuneHoldoffExpiry_next (p : Nat) : KeepsNext s (execRetuneHoldoffExpiry p t) := by
  unfold execRetuneHoldoffExpiry
  split
  · exact h
  · exact iteNext ((h.updPort _ _).queueRetune _ _) h

theorem execBearingRetuneSearch_next (r : Req) (w : Wire) : KeepsNext s (execBearingRetuneSearch r w t) :=
  iteNext h (h.start _ _ _ _ _ fun _ _ _ h => h.tookFree.commandRetune _)

theorem execBearingRetuneSet_next (r : Req) (w : Wire) : KeepsNext s (execBearingRetuneSet r w t) :=
  iteNext (h.start _ _ _ _ _ fun _ _ _ h => h.tookFree.commandRetune _) h

theorem execSynthCalibrate_next (r : Req) (w : Wire) : KeepsNext s (execSynthCalibrate r w t) :=
  h.start _ _ _ _ _ fun _ _ _ h => parts (foldl h (fun _ _ h => h.updChain _ _) _) rfl rfl rfl

theorem execSynthTempSample_next (c : Nat) (temp : Int) : KeepsNext s (execSynthTempSample c temp t) :=
  iteNext ((h.setB _ _).updChain _ _) h

theorem execSynthCalStart_next (c winUs : Nat) : KeepsNext s (execSynthCalStart c winUs t) := by
  unfold execSynthCalStart
  dsimp only
  split <;> exact iteNext (h.beginCal _ _ _) h

theorem execSynthCalEnd_next (c : Nat) (temp : Int) : KeepsNext s (execSynthCalEnd c temp t) := by
  unfold execSynthCalEnd
  split
  · exact h
  · refine iteNext ?_ h
    extract_lets s1 s2 s3 left fe s4
    have h3 : Keeps s s3 := ((((h.synth _ _).updChain _ _).setQ _ _).setQ _ _).raiseOn _ _ _ _
    have h4 : Keeps s s4 := h3.parts rfl rfl rfl
    exact iteNext (radioPower (ite (h4.procDone _ _) h4)) h3.radioPower

theorem execSynthLock_next (c : Nat) : KeepsNext s (execSynthLock c t) :=
  iteNext ((h.synth _ _).updChain _ _) h

theorem execSynthUnlock_next (u : LockLoss) : KeepsNext s (execSynthUnlock u t) := by
  unfold execSynthUnlock
  refine iteNext ?_ h
  extract_lets x second air n s1 s2 s3
  have h1 : Keeps s s1 := by
    clear_value air
    cases air with
    | none => exact h
    | some g => exact (((h.judgeMatch _ _ _).judgeIsolation _ _).cutGroup _).bump _
  have h3 : Keeps s s3 := ((h1.raiseOn _ _ _ _).synth _ _).updChain _ _
  exact ite (h3.updChain _ _) h3

theorem execChainPowerUp_next (c : Nat) : KeepsNext s (execChainPowerUp c t) := by
  unfold execChainPowerUp
  extract_lets d cold s1 st
  split
  · exact h
  · refine iteNext h ?_
    extract_lets s2
    have h1 : Keeps s s1 := ite (h.setCond _ _) h
    have h2 : Keeps s s2 := (h1.setN _ _).synth _ _
    exact iteNext (ite (h2.updChain _ _) h2) h1

theorem execTxDomainOff_next (d : Nat) : KeepsNext s (execTxDomainOff d t) :=
  iteNext (foldl (h.setCond _ _) (fun _ _ h => h.synth _ _) _) h

theorem execAerialModeApply_next (b : Nat) : KeepsNext s (execAerialModeApply b t) :=
  iteNext (updPort (parts (h.setN _ _) rfl rfl rfl) _ _) h

/-! ### The receive chain (spec 04) -/

theorem execClaimRound_next (senses : List Sense) (quals : List (Nat × Nat)) : KeepsNext s (execClaimRound senses quals t) := by
  unfold execClaimRound
  extract_lets recs live rx s1 cands s2
  have h1 : Keeps s s1 := h.parts rfl rfl rfl
  have h2 : Keeps s s2 := foldl (foldl h1 (fun _ _ h => h.loseFire _) _) (fun _ _ h => h.candidate _) _
  exact foldl h2 (fun _ _ h => h.markEnergy _) _

theorem execSfdFound_next (d : Nat) (rssi freqOff : Int) (both : Option (Int × Int)) :
    KeepsNext s (execSfdFound d rssi freqOff both t) := by
  unfold execSfdFound
  split
  · exact h
  · extract_lets mate all
    split
    · exact h
    · clear_value mate
      cases mate with
      | none => exact next (parts (h.updCs _) rfl rfl rfl)
      | some m => exact next (parts ((h.falsePreamble _).updCs _) rfl rfl rfl)

theorem execSfdTimeout_next (d : Nat) : KeepsNext s (execSfdTimeout d t) := by
  unfold execSfdTimeout
  split
  · exact h
  · exact iteNext (h.falsePreamble _) h

theorem execPhrError_next (d : Nat) (failed modeSwitch : Bool) (len mcs : Nat) :
    KeepsNext s (execPhrError d failed modeSwitch len mcs t) := by
  unfold execPhrError
  split
  · exact h
  · exact iteNext ((h.releaseRecs _).bump _).radioPower h

theorem execRxFrameEnd_next (d : Nat) (f : RxFrame) : KeepsNext s (execRxFrameEnd d f t) := by
  unfold execRxFrameEnd
  split
  · exact h
  · split
    · exact h
    · extract_lets p rep s1 rx s2 s3 s4
      have h2 : Keeps s s2 := (h.releaseRecs _).parts rfl rfl rfl
      have h3 : Keeps s s3 := (h2.bump _).bump _
      have h4 : Keeps s s4 := ite h3 ((h3.bump _).capture _ _ _ _ _ _ _ _)
      exact (h4.settle _ _).radioPower

theorem execDiversityHoldEnd_next (i : Nat) : KeepsNext s (execDiversityHoldEnd i t) := by
  unfold execDiversityHoldEnd
  split
  · exact h
  · exact iteNext (toHelm (parts h rfl rfl rfl) _) h

theorem execRxGateOpen_next (p : Nat) : KeepsNext s (execRxGateOpen p t) :=
  iteNext (((h.setCond _ _).chanPower.updGate _ _).bump _) h

theorem execListenWindowOpen_next (p : Nat) : KeepsNext s (execListenWindowOpen p t) :=
  iteNext ((h.judgeWindow _ _).updGate _ _) h

theorem execRxGateClose_next (p w : Nat) (energy : Int) : KeepsNext s (execRxGateClose p w energy t) := by
  unfold execRxGateClose
  extract_lets g cells past till more seen s1
  have h1 : Keeps s s1 := (h.judgeWindow _ _).updGate _ _
  exact iteNext (ite h1 (h1.setCond _ _).chanPower) h

theorem execStarvationIntervalEnd_next : KeepsNext s (execStarvationIntervalEnd t) :=
  parts (foldl (h.setN _ _) (fun _ _ h => ite h (h.raiseOn _ _ _ _)) _) rfl rfl rfl

theorem execFalsePreambleCheck_next (w : Nat) : KeepsNext s (execFalsePreambleCheck w t) := by
  unfold execFalsePreambleCheck
  extract_lets n lim clear rx s1
  have h1 : Keeps s s1 := h.parts rfl rfl rfl
  exact iteNext (raiseOn (parts h1 rfl rfl rfl) _ _ _ _) h1

theorem execRxWindowApply_next (r : Req) (w : Wire) : KeepsNext s (execRxWindowApply r w t) :=
  h.start _ _ _ _ _ fun _ _ _ h => h.windowStart _

theorem execWindowApplyBoundary_next : KeepsNext s (execWindowApplyBoundary t) := by
  unfold execWindowApplyBoundary
  split
  · exact h
  · refine iteNext h ?_
    extract_lets changed hit n s1 recs held rx s2
    have h2 : Keeps s s2 := (h.releaseRecs _).parts rfl rfl rfl
    exact (h2.forceSet _).radioPower.chartGeometry

theorem execWindowRearmDone_next : KeepsNext s (execWindowRearmDone t) := by
  unfold execWindowRearmDone
  split
  · rename_i a _ _
    have h1 : ∀ rx, Keeps s { t with rx := rx } := fun _ => h.parts rfl rfl rfl
    cases a.rearm with
    | none => exact h1 _
    | some r => exact (h1 _).rearmEnd _ _ _
  · split
    · exact h
    · split
      · exact h
      · extract_lets rx s1
        have h1 : Keeps s s1 := rearmEnd (h.parts rfl rfl rfl) _ _ _
        exact ite h1 (h1.procDone _ _)

/-! ### Helm (spec 05) -/

theorem execSlotBoundary_next (pan ebPsdu : Nat) : KeepsNext s (execSlotBoundary pan ebPsdu t) := by
  unfold execSlotBoundary
  extract_lets x asn s1 s2 s3 helm s4 l s5 s6
  have h1 : Keeps s s1 := ite h.modeApply h
  have h3 : Keeps s s3 := (((h1.updPan _ _).setN _ _).quietEnd _ _).lookAhead
  have h4 : Keeps s s4 := h3.parts rfl rfl rfl
  have h6 : Keeps s s6 := foldl (foldl h4 (fun _ _ h => h.resyncCell _ _) _) (fun _ _ h => h.advertise _ _ _ _) _
  exact iteNext h (iteNext (h.panEnd _) (iteNext h ((h6.bindShared _ _).assertSlot _ _ _)))

theorem execPlanFreeze_next (b : Nat) (x : Tick) (ending : List Nat) : KeepsNext s (execPlanFreeze b x ending t) := by
  unfold execPlanFreeze
  extract_lets mine due helm s1 r s2 gs helm' s3 s4
  have h1 : Keeps s s1 := h.parts rfl rfl rfl
  have h2 : Keeps s r.1 := foldlFst h1 (fun _ _ h => h.freezeOne _ _ _ _) _
  have h3 : Keeps s s3 := h2.parts rfl rfl rfl
  have h4 : Keeps s s4 := ite h3 (h3.countBlanked _ _)
  refine iteNext h ?_
  exact iteNext h1 (ite h4 (h4.stream _))

theorem execQuietSlotInsert_next (kind ix : Nat) : KeepsNext s (execQuietSlotInsert kind ix t) := by
  unfold execQuietSlotInsert
  extract_lets since cs c b last helm
  split
  · refine iteNext h ?_
    extract_lets asn q s1
    have h1 : Keeps s s1 := bump (h.parts rfl rfl rfl) _
    exact ite (h1.procEst _ _) h1
  · exact h

theorem execFrameDecision_next (f : MacFrame) (ending : List Nat) : KeepsNext s (execFrameDecision f ending t) := by
  unfold execFrameDecision
  split
  · exact h
  · extract_lets rx s1
    have h1 : Keeps s s1 := h.parts rfl rfl rfl
    have hd : ∀ r, Keeps s ((s1.bump Obj.ADDR_FILTERED).dropFrame r none) := fun _ => (h1.bump _).dropFrame _ _
    refine iteNext (h1.bump _) ?_
    split
    · exact hd _
    · exact iteNext (hd _) (iteNext (h1.beaconFrame _ _) (iteNext (hd _) (iteNext (h1.ackFrame _ _ _) (h1.dataFrame _ _ _ _))))

theorem execAckCompose_next (i : Nat) : KeepsNext s (execAckCompose i t) := by
  unfold execAckCompose
  split
  · exact h
  · rename_i a _
    refine iteNext h ?_
    extract_lets helm s1 pend u
    have h1 : Keeps s s1 := h.parts rfl rfl rfl
    have hu : Keeps s u.1 := by
      simp only [u]
      split
      · exact iteFst h1 (h1.useLink _ _)
      · exact h1
    exact ite (hu.placeAck _ _) hu

theorem execAckWaitClose_next (i : Nat) : KeepsNext s (execAckWaitClose i t) := by
  unfold execAckWaitClose
  split
  · exact h
  · refine iteNext h ?_
    extract_lets helm s1 others s2
    have h1 : Keeps s s1 := h.parts rfl rfl rfl
    have h2 : Keeps s s2 := ite (ite h1 (h1.sharedMiss _)) (h1.attemptEnds _ _ _ _)
    exact ite h2 (h2.miss _ _ _)

theorem execCellEnd_next (pan asn : Nat) : KeepsNext s (execCellEnd pan asn t) := by
  unfold execCellEnd
  refine iteNext h ?_
  extract_lets hit stopped due helm s1 s2 s3 keep helm'
  have h1 : Keeps s s1 := dutyCellEnd (h.parts rfl rfl rfl) _ _
  have h2 : Keeps s s2 := foldl h1 (fun _ _ h => h.attemptEnds _ _ _ _) _
  have h3 : Keeps s s3 := ite (foldl h2 (fun _ _ h => h.report _ _ _) _) h2
  exact iteNext h2 (decideReports (h3.parts rfl rfl rfl))

theorem execDutyBinBoundary_next (b : Nat) : KeepsNext s (execDutyBinBoundary b t) :=
  iteNext h (next (parts (h.updDuty _ _) rfl rfl rfl))

theorem execPanEnable_next (r : Req) (p : Nat) (w : Wire) : KeepsNext s (execPanEnable r p w t) :=
  iteNext h (h.write _ _ _ _ _ fun _ _ _ h => ite h (h.panStart _))

theorem execPanStop_next (r : Req) (p : Nat) (w : Wire) : KeepsNext s (execPanStop r p w t) :=
  iteNext (h.write _ _ _ _ _ fun _ _ _ h => h.panStopping _) h

theorem execCellEntryStage_next (r : Req) (w : Wire) : KeepsNext s (execCellEntryStage r w t) :=
  h.write _ _ _ _ _ fun _ _ _ h => h.stageCell _ _

theorem execSchedDiscard_next (r : Req) (w : Wire) : KeepsNext s (execSchedDiscard r w t) :=
  h.write _ _ _ _ _ fun _ _ _ h => h.discardStaged

theorem execScheduleCommit_next (r : Req) (w : Wire) : KeepsNext s (execScheduleCommit r w t) :=
  h.start _ _ _ _ _ fun _ _ _ h => h.commitStart _

theorem execSlotframeSwitch_next (f : Nat) : KeepsNext s (execSlotframeSwitch f t) := by
  unfold execSlotframeSwitch
  split
  · exact h
  · exact iteNext h (h.switchSf _ _)

/-! ### Almanac (spec 06) -/

theorem execNodeFindEui_next (r : Req) (w : Wire) : KeepsNext s (execNodeFindEui r w t) :=
  h.write _ _ _ _ _ fun _ _ _ h => h.reread.updSession _ _

theorem execTableInsert_next : KeepsNext s (execTableInsert t) := by
  unfold execTableInsert
  split
  · exact h
  · refine iteNext h ?_
    extract_lets alm s1
    have h1 : Keeps s s1 := h.parts rfl rfl rfl
    split
    · exact ite (h1.procDone _ _) (h1.insertAgain _ _)
    · split
      · exact h1.insertFailed _
      · extract_lets r s2 s3
        have h2 : Keeps s s2 := h1.insertNode _
        have h3 : Keeps s s3 := (h2.nodeChanged _).raiseOn _ _ _ _
        exact iteNext (h2.insertFailed _) (ite ((h3.procDone _ _).updSession _ _) h3)

theorem execNodeAdd_next (r : Req) (w : Wire) : KeepsNext s (execNodeAdd r w t) :=
  h.start _ _ _ _ _ fun _ _ _ h =>
    ite (h.reread.procDone _ _) (ite (h.reread.insertFailed _) (h.reread.queueInsertion _))

theorem execNodeRemove_next (r : Req) (w : Wire) : KeepsNext s (execNodeRemove r w t) :=
  h.start _ _ _ _ _ fun _ _ _ h => parts (h.updNode _ _) rfl rfl rfl

theorem execNodeRemoveFinish_next (i : Nat) : KeepsNext s (execNodeRemoveFinish i t) := by
  unfold execNodeRemoveFinish
  split
  · exact h.removalDone _
  · exact iteNext ((h.removeWith _ _).removalDone _) h

theorem execNodeRehash_next (r : Req) (w : Wire) : KeepsNext s (execNodeRehash r w t) :=
  h.start _ _ _ _ _ fun _ _ _ h => h.rehashBegin _

theorem execRehashBuildDone_next (eccError : Bool) : KeepsNext s (execRehashBuildDone eccError t) := by
  unfold execRehashBuildDone
  extract_lets r a b alm s1
  have h1 : Keeps s s1 := h.parts rfl rfl rfl
  refine iteNext h (iteNext ((h.fresh.fresh.dramFault _ _ _).rehashEnd _ _) (iteNext (ite (h1.rehashEnd _ _) h1) ?_))
  split
  · exact setN (h.parts rfl rfl rfl) _ _
  · exact iteNext (h.rehashEnd _ _) (iteNext (h.rehashEnd _ _) (next (parts (h.random _) rfl rfl rfl)))

theorem execMigrateStart_next : KeepsNext s (execMigrateStart t) :=
  iteNext h (setN (setN (parts (h.setP _ _) rfl rfl rfl) _ _) _ _)

theorem execMigrateBucket_next : KeepsNext s (execMigrateBucket t) :=
  iteNext h (setN (h.parts rfl rfl rfl) _ _)

theorem execMigrateEnd_next : KeepsNext s (execMigrateEnd t) :=
  iteNext h (rehashEnd (mirrorNodes (h.parts rfl rfl rfl)) _ _)

theorem execSweeperPass_next : KeepsNext s (execSweeperPass t) := by
  unfold execSweeperPass
  extract_lets alm s1 s2
  have h1 : Keeps s s1 := h.parts rfl rfl rfl
  have h2 : Keeps s s2 := foldl h1 (fun _ _ h => h.sweepNode _) _
  exact iteNext h (ite h2 (h2.raiseOn _ _ _ _))

theorem execJoinTimeout_next (i : Nat) : KeepsNext s (execJoinTimeout i t) := by
  unfold execJoinTimeout
  split
  · exact h
  · exact iteNext ((h.removeWith _ _).removalDone _) h

theorem execJoinVerify_next (eui pan : Nat) (relayed ok : Bool) (psdu : Nat) :
    KeepsNext s (execJoinVerify eui pan relayed ok psdu t) := by
  unfold execJoinVerify
  refine iteNext h ?_
  have hr := h.reread
  split
  · exact iteNext (hr.queueInsertion _) hr
  · split
    · exact (hr.keyMissing _ _ _).bump _
    · rename_i r _
      have hu := hr.useFor r false
      refine ite (hu.bump _) (ite ?_ ?_)
      · exact ite ((hu.useFor _ _).joined _ _ _ _) (hu.useFor _ _)
      · split
        · exact hu
        · exact (hu.emit _).controlFrame _ _ _ _ _

theorem execShortAddrRelease_next (i : Nat) : KeepsNext s (execShortAddrRelease i t) := by
  unfold execShortAddrRelease
  split
  · exact h
  · split
    · exact iteNext (nodeChanged (parts (h.updNode _ _) rfl rfl rfl) _) h
    · exact h

theorem execLearnApply_next (b : Nat) : KeepsNext s (execLearnApply b t) := by
  unfold execLearnApply
  extract_lets p
  split
  · exact h
  · have hr : ∀ f, Keeps s (t.reread.updPipe b f) := fun f => h.reread.updPipe b f
    refine iteNext h (iteNext ((hr _).updPipe _ _) (iteNext ((hr _).updPipe _ _) ?_))
    split
    · exact hr _
    · exact ((hr _).updPipe _ _).bump _

theorem execNeighbourSweep_next (b : Nat) : KeepsNext s (execNeighbourSweep b t) :=
  iteNext h ((h.updPipe _ _).bumpBy _ _)

theorem execDaoReceived_next (d : Dao) (psdu : Nat) : KeepsNext s (execDaoReceived d psdu t) := by
  unfold execDaoReceived
  split
  · exact h
  · rename_i n _
    refine iteNext h ?_
    extract_lets s1
    have ha : Keeps s ((t.daoLookups d).applyDao n d) := (h.daoLookups d).applyDao n d
    have h1 : Keeps s s1 := by
      simp only [s1]
      split
      · exact ha
      · exact ite h ha
    refine ite ?_ h1
    split
    · exact h1
    · exact (h1.daoAck _ _).controlFrame _ _ _ _ _

theorem execDisReceived_next (p : Nat) : KeepsNext s (execDisReceived p t) :=
  h.parts rfl rfl rfl

theorem execDioTrickleFire_next (p psdu : Nat) : KeepsNext s (execDioTrickleFire p psdu t) := by
  unfold execDioTrickleFire
  extract_lets x top alm put
  have hp : ∀ y, Keeps s (put y) := fun _ => h.parts rfl rfl rfl
  exact iteNext h (iteNext (hp _) (iteNext h (ite (((hp _).dio _).controlFrame _ _ _ _ _) (hp _))))

theorem execReassemblyTimeout_next (b i : Nat) : KeepsNext s (execReassemblyTimeout b i t) := by
  unfold execReassemblyTimeout
  split
  · exact h
  · exact iteNext ((h.updPipe _ _).bump _) h

theorem execCheckpointPeriod_next : KeepsNext s (execCheckpointPeriod t) := iteNext h.ckptStart h

theorem execAlmanacCheckpoint_next (r : Req) (w : Wire) : KeepsNext s (execAlmanacCheckpoint r w t) :=
  h.start _ _ _ _ _ fun _ _ _ h => ite h h.ckptStart

theorem execCheckpointDone_next : KeepsNext s (execCheckpointDone t) := by
  unfold execCheckpointDone
  split
  · exact h
  · exact procDone (setP (h.parts rfl rfl rfl) _ _) _ _

theorem execAlmanacRestored_next (loadUs : Nat) : KeepsNext s (execAlmanacRestored loadUs t) := by
  unfold execAlmanacRestored
  extract_lets lost kept nodes empty records alm s1 s2 s3
  have h1 : Keeps s s1 := h.parts rfl rfl rfl
  have h2 : Keeps s s2 := foldl h1 (fun _ _ h => h.load _) _
  have h3 : Keeps s s3 := ite (h2.setP _ _) h2
  exact iteNext h (h3.mirrorNodes.restoredEvent _ _ _ _)

theorem execAlmanacMirrorReload_next (loadUs : Nat) : KeepsNext s (execAlmanacMirrorReload loadUs t) :=
  iteNext h (restoredEvent (h.parts rfl rfl rfl) _ _ _ _)

/-! ### Pilot (spec 07) -/

theorem execUplinkTxSelect_next (p : Nat) (w : WireFrame) : KeepsNext s (execUplinkTxSelect p w t) := by
  unfold execUplinkTxSelect
  refine iteNext h ?_
  split
  · exact h
  · rename_i c _
    split
    · exact h
    · rename_i fl _
      have hr := h.serve p c fl
      dsimp only
      split
      · exact hr
      · exact (hr.sendFrame _ _ _).spoolLeave _

theorem takeMessage_next (m : AdmMsg) : KeepsNext s (t.takeMessage m) := by
  unfold State.takeMessage
  extract_lets c u s1 dst c' pilot s2 s3 s4
  have h1 : Keeps s s1 := h.checkKey _ _ _ _ _
  have h3 : Keeps s s3 := setN (h1.parts rfl rfl rfl) _ _
  have h4 : Keeps s s4 := h3.bump _
  refine iteNext (h.bump _) (iteNext (h1.bump _) ?_)
  split
  · exact h3.enqueue _ _
  · split
    · exact ite (h4.sendReply _ _) (ite h4 (h4.enqueue _ _))
    · exact h4.enqueue _ _

theorem execAdmissionMessage_next (x : AdmWire) : KeepsNext s (execAdmissionMessage x t) := by
  unfold execAdmissionMessage
  refine iteNext h ?_
  split
  · exact h.bump _
  · exact h.takeMessage_next _

theorem execAdmitQueueTimeout_next (i : Nat) : KeepsNext s (execAdmitQueueTimeout i t) := by
  unfold execAdmitQueueTimeout
  split
  · exact h
  · exact iteNext h (turnAway (h.parts rfl rfl rfl) _)

theorem execAdmissionCompute_next : KeepsNext s (execAdmissionCompute t) := by
  unfold execAdmissionCompute
  split
  · exact h
  · rename_i r _
    split
    · exact h
    · rename_i b _
      have hd := h.dequeue r
      dsimp only
      split
      · exact iteNext (hd.sendReply _ _) (iteNext hd (hd.shadowDecision _ _ _ _))
      · have hc := hd.compute b r.arrival false
        refine iteNext (hd.answer _ _ _ _ _ _) (iteNext (hc.shadowDecision _ _ _ _) ?_)
        split
        · exact hc.answer _ _ _ _ _ _
        · exact (hc.takeOn _ _ _ _).answer _ _ _ _ _ _

theorem execQuery_next : KeepsNext s (execQuery t) := by
  unfold execQuery
  split
  · exact h
  · split
    · exact h
    · exact (h.dequeue _).answerQuery _ _

theorem execHandoverEntry_next (ref : Nat) : KeepsNext s (execHandoverEntry ref t) := by
  unfold execHandoverEntry
  split
  · rename_i f _ _
    split
    · exact h.dropWheel _
    · rename_i i _
      have hn := h.nextHandover f i
      have ha := fun r => hn.attemptEnds ref i.cell i.asn r
      exact iteNext (ite hn ((ha _).report _ _ _)) (iteNext (ite hn (ha _)) (hn.handOver _ _))
  · exact h

theorem execReportDeadline_next (ref : Nat) : KeepsNext s (execReportDeadline ref t) := by
  unfold execReportDeadline
  split
  · exact h
  · exact ite (h.dropWheel _) ((h.dropWheel _).report _ _ _)

theorem execWheelCoarseSlot_next : KeepsNext s (execWheelCoarseSlot t) := h.parts rfl rfl rfl

theorem execNextEligibleTime_next (node : Bool) (key : Nat) : KeepsNext s (execNextEligibleTime node key t) := by
  unfold execNextEligibleTime
  extract_lets k
  split
  · exact h
  · exact h.dropWheel _

theorem execFlowConfig_next (r : Req) (w : Wire) : KeepsNext s (execFlowConfig r w t) :=
  h.write _ _ _ _ _ fun _ _ _ h => h.configureFlow _ _

theorem execAdmitCtxKeyid_next (r : Req) (ctx : Nat) (w : Wire) : KeepsNext s (execAdmitCtxKeyid r ctx w t) :=
  iteNext h (h.writeThen _ _ _ _ _ (fun _ _ _ h => h) fun _ _ _ h => setN (parts (h.setP _ _) rfl rfl rfl) _ _)

theorem execPaSample_next : KeepsNext s (execPaSample t) :=
  iteNext h (foldl (foldl (foldl h (fun _ _ h => h.addSample _ _ _) _) (fun _ _ h => h.addSample _ _ _) _)
    (fun _ _ h => h.addSample _ _ _) _)

theorem execSampleIntervalEnd_next : KeepsNext s (execSampleIntervalEnd t) :=
  foldl (h.parts rfl rfl rfl) (fun _ _ h => h.set _ _) _

theorem execLedgerSummaryMirror_next (log : Bool) : KeepsNext s (execLedgerSummaryMirror log t) :=
  iteNext h (ite (parts (h.bump _) rfl rfl rfl) (h.parts rfl rfl rfl))

/-! ### Meridian (spec 08) -/

theorem execListenPaging_next (p : Nat) : KeepsNext s (execListenPaging p t) :=
  iteNext h ((h.fresh.fresh.updTport _ _).pageOut _ _ _ _)

theorem execWakePatternSend_next (p : Nat) : KeepsNext s (execWakePatternSend p t) :=
  iteNext h (((h.updTport _ _).signal _ _ _).line _ _ _)

theorem execPageReceived_next (p : Nat) (o : Octets) (psd : List Int) (fault dist : Nat) :
    KeepsNext s (execPageReceived p o psd fault dist t) := by
  unfold execPageReceived
  extract_lets g plan s1
  have h1 : Keeps s s1 := h.updTport _ _
  exact iteNext h (iteNext (iteNext (h1.trainFail _ _ _ _ _) (((h1.goLink _ _).drawSeed _).announcePage _ _ _ _))
    (iteNext (h.announcePage _ _ _ _) h))

theorem execAnnounceTimeout_next (p fault dist : Nat) : KeepsNext s (execAnnounceTimeout p fault dist t) :=
  iteNext h (h.trainFail _ _ _ _ _)

theorem execTrainPhase_next (p : Nat) (snr : Int) (partner : Bool) (fault dist : Nat) :
    KeepsNext s (execTrainPhase p snr partner fault dist t) :=
  iteNext h (iteNext (((h.setI _ _).updTport _ _).sendVerdict _ _)
    (iteNext (h.verdict _ _ _ _) ((h.updTport _ _).sendPhase _ _)))

theorem execLinkUp_next (l : PortLock) : KeepsNext s (execLinkUp l t) :=
  iteNext h ((((h.goLink _ _).raiseOn _ _ _ _).retrained _).spoolDrain _)

theorem execTrainingLockTimeout_next (p fault dist : Nat) : KeepsNext s (execTrainingLockTimeout p fault dist t) :=
  iteNext h (h.trainFail _ _ _ _ _)

theorem execRetrainHoldoffExpiry_next (p : Nat) : KeepsNext s (execRetrainHoldoffExpiry p t) := by
  unfold execRetrainHoldoffExpiry
  split
  · exact h
  · exact iteNext h (h.listen _)

theorem execOamSend_next (p : Nat) (m100 m1000 m2500 : List (List Int)) (snr : Int) :
    KeepsNext s (execOamSend p m100 m1000 m2500 snr t) :=
  iteNext h ((((((h.bumpBy _ _).bumpBy _ _).bumpBy _ _).setI _ _).setN _ _).updTport _ _ |>.oamOut _ _)

theorem execOamReceived_next (p : Nat) (b : CodeBlock) : KeepsNext s (execOamReceived p b t) :=
  iteNext h (h.leaveUp _ _)

theorem execCodewordLockLost_next (x : PortFault) : KeepsNext s (execCodewordLockLost x t) :=
  iteNext (h.leaveUp _ _) h

theorem execSignalLost_next (x : PortFault) : KeepsNext s (execSignalLost x t) :=
  iteNext (h.leaveUp _ _) h

theorem execSnrLinkLost_next (p : Nat) (x : SnrFall) : KeepsNext s (execSnrLinkLost p x t) :=
  iteNext (h.leaveUp _ _) h

theorem execSnrWarn_next (p : Nat) (x : SnrFall) : KeepsNext s (execSnrWarn p x t) :=
  iteNext ((h.setI _ _).raiseOn _ _ _ _) h

theorem execTtEnableWrite_next (r : Req) (p : Nat) (w : Wire) : KeepsNext s (execTtEnableWrite r p w t) :=
  iteNext h (h.write _ _ _ _ _ fun _ _ _ h => ite ((h.setP _ _).enablePort _) ((h.setP _ _).disablePort _))

theorem execTrunkRetrain_next (r : Req) (w : Wire) : KeepsNext s (execTrunkRetrain r w t) := by
  refine h.start _ _ _ _ _ fun u n v h => ?_
  extract_lets l off tk s1 s2
  have h2 : Keeps s s2 := foldl (h.parts rfl rfl rfl) (fun _ _ h => h.retrainPort _) _
  exact ite (h2.procDone _ _) h2

theorem execTrunkLoopback_next (r : Req) (w : Wire) : KeepsNext s (execTrunkLoopback r w t) :=
  h.start _ _ _ _ _ fun _ _ _ h => (h.switch _ _).updTport _ _

theorem execLoopbackEnd_next (p : Nat) (m100 m1000 m2500 : List (List Int)) (snr : Int) :
    KeepsNext s (execLoopbackEnd p m100 m1000 m2500 snr t) := by
  unfold execLoopbackEnd
  split
  · exact h
  · exact iteNext (h.updTport _ _) (((h.updTport _ _).endLoopback _).procDone _ _)

theorem execTrunkWakeDetect_next (p : Nat) (x : WakeTone) : KeepsNext s (execTrunkWakeDetect p x t) :=
  iteNext (h.wakeSource _) h

theorem execTrunkFrameReceived_next (p : Nat) (f : TrunkFrame) (fill : Nat) (idle : Bool) :
    KeepsNext s (execTrunkFrameReceived p f fill idle t) := by
  unfold execTrunkFrameReceived
  extract_lets r x s1 s2 ring wrong s3 s4 s5 super s6 s7
  have h1 : Keeps s s1 := h.bump _
  have h2 : Keeps s s2 := h1.rxFill _ _
  have h3 : Keeps s s3 := ite (h2.bump _) h2
  have h4 : Keeps s s4 := by
    simp only [s4]
    split
    · exact ite h3 (h3.noteSource _ _)
    · exact h3
  have h5 : Keeps s s5 := h4.ptpRx _ _ _
  have h6 : Keeps s s6 := ite (h5.supervised _) h5
  have h7 : Keeps s s7 := ite (h6.passThrough _ _ _ _ _) h6
  refine iteNext h (iteNext (h.badFrame _ _ _ _) (iteNext (h.bump _) (iteNext (h.badFrame _ _ _ _) ?_)))
  exact iteNext (h1.bump _) (iteNext (ite (h5.supervised _) h5) (ite (h7.deliverTrunk _ _ _ _) h7))

theorem execXoffRefresh_next (p fill : Nat) : KeepsNext s (execXoffRefresh p fill t) :=
  iteNext (h.rxFill _ _) h

theorem execPfcReceived_next (p : Nat) (quanta : List (Nat × Nat)) : KeepsNext s (execPfcReceived p quanta t) :=
  iteNext h (foldl (h.bump _) (fun _ _ h => ite (h.pauseOne _ _ _) h) _)

theorem execPauseExpiry_next (p prio : Nat) : KeepsNext s (execPauseExpiry p prio t) := by
  unfold execPauseExpiry
  split
  · exact h
  · exact iteNext h (h.pauseEnd _ _ _)

theorem execSupervisionSend_next : KeepsNext s (execSupervisionSend t) :=
  iteNext h (sendPlain (foldl (h.parts rfl rfl rfl) (fun _ _ h => h.line _ _ _) _) _ _ _ _ _)

theorem execRedPartnerTimeout_next (b : Nat) : KeepsNext s (execRedPartnerTimeout b t) := by
  unfold execRedPartnerTimeout
  split
  · exact h
  · exact iteNext h (h.setPartner _ _)

theorem execTrunkAddressWrite_next (r : Req) (sub : Nat) (w : Wire) : KeepsNext s (execTrunkAddressWrite r sub w t) :=
  iteNext h (h.writeThen _ _ _ _ _ (fun _ _ _ h => h) fun _ _ _ h => h.setP _ _)

/-! ### Consort (spec 09) -/

theorem execPulseSend_next (heard : List (Nat × Nat × Int)) : KeepsNext s (execPulseSend heard t) := by
  unfold execPulseSend
  extract_lets k s1 u q s2
  have h1 : Keeps s s1 := (h.ownWindow _ _).countMissed _
  have hu : Keeps s u.1 := h1.useKey _ _ _ _
  have h2 : Keeps s s2 := ite h1 (ite ((hu.pairFrame _).emit _) hu)
  exact iteNext h (ite h2.evaluate h2)

theorem hearPulse_next (q : Pulse) : KeepsNext s (t.hearPulse q) := by
  unfold State.hearPulse
  extract_lets u s1 known s2
  have h1 : Keeps s s1 := h.pairMsg _ _ _ _
  have h2 : Keeps s s2 := (h1.setN _ _).updCs _
  exact iteNext h1 (iteNext (ite (h2.raiseOn _ _ _ _) h2) (h1.takePulse _))

theorem execPulseReceived_next (w : PairWire) : KeepsNext s (execPulseReceived w t) := by
  unfold execPulseReceived
  split
  · exact h
  · exact h.hearPulse_next _

theorem execPulseLoss_next : KeepsNext s (execPulseLoss t) := by
  unfold execPulseLoss
  split
  · exact h
  · extract_lets st s1 fault s2 s3
    have h1 : Keeps s s1 := h.setN _ _
    have h3 : Keeps s s3 := (h1.dropHandover.updCs _).raiseOn _ _ _ _
    exact iteNext h (iteNext h1 (iteNext (h3.updCs _).assertStart (h3.takeOver _ _).assertStart))

theorem execPairingTimeout_next : KeepsNext s (execPairingTimeout t) :=
  iteNext ((h.csGo _).updCs _).assertStart h

theorem hearStream_next (m : StreamMsg) : KeepsNext s (t.hearStream m) := by
  unfold State.hearStream
  extract_lets u s1 st begins
  have h1 : Keeps s s1 := h.pairMsg _ _ _ _
  exact iteNext h1 (iteNext (((h1.applyMsg _).drainWaiting _).updCs _) (iteNext h1 (h1.updCs _)))

theorem execStreamReceived_next (x : StreamWire) : KeepsNext s (execStreamReceived x t) := by
  unfold execStreamReceived
  split
  · exact h
  · exact h.hearStream_next _

theorem execStreamResend_next : KeepsNext s (execStreamResend t) :=
  iteNext h ((foldl h (fun _ _ h => h.sendStream _ _) _).updCs _)

theorem execStreamResync_next : KeepsNext s (execStreamResync t) :=
  iteNext h.toResync (iteNext (h.updCs _).backlog h)

theorem execResyncDone_next : KeepsNext s (execResyncDone t) :=
  iteNext ((h.csGo _).raiseOn _ _ _ _) h

theorem execRevertStart_next : KeepsNext s (execRevertStart t) := iteNext (h.updCs _) h

theorem execHandoverInstant_next : KeepsNext s (execHandoverInstant t) := by
  unfold execHandoverInstant
  split
  · exact h
  · extract_lets st s1 s2
    have h1 : Keeps s s1 := ite ((h.updCs _).procDone _ _) h
    have h2 : Keeps s s2 := h1.yieldTo _ _
    exact iteNext h (iteNext (h.takeOver _ _) (iteNext (ite (h2.updCs _) h2) h))

theorem execConsortHandover_next (r : Req) (w : Wire) : KeepsNext s (execConsortHandover r w t) :=
  h.start _ _ _ _ _ fun _ _ _ h => h.updCs _

theorem execCsFaultClear_next (r : Req) (w : Wire) : KeepsNext s (execCsFaultClear r w t) :=
  h.write _ _ _ _ _ fun _ _ _ h => h.setP _ _

/-! ### Sextant and the Chronometer (spec 10) -/

theorem execPtpSyncMeasurement_next (p : Nat) (ident : Octets) (m : SyncTimes) (logInt : Int) :
    KeepsNext s (execPtpSyncMeasurement p ident m logInt t) := by
  unfold execPtpSyncMeasurement
  extract_lets s1 s1' mean diff o s2 st slave s3 s4 n s5 s6
  have h1 : Keeps s s1 := h.ptpHeard _
  have h2 : Keeps s s2 := h1.updPtp _ _
  have h4 : Keeps s s4 := (((h2.setN _ _).setN _ _).setI _ _).setN _ _
  have h5 : Keeps s s5 := (h2.updSx _).setN _ _
  have h6 : Keeps s s6 := h5.setN _ _
  exact iteNext h (iteNext h1 (iteNext h2 (iteNext (ite (h4.measure _ _) h4) (iteNext (ite h6.sxQualified h6) (h5.setN _ _)))))

theorem execPtpAnnounce_next (p : Nat) (a : Announce) : KeepsNext s (execPtpAnnounce p a t) := by
  unfold execPtpAnnounce
  extract_lets m s1 best old s2 changed s3 s4 s5
  have h1 : Keeps s s1 := h.updSx _
  have h5 : Keeps s s5 := ((((h1.updSx _).set _ _).setI _ _).ptpRoles _).raiseOn _ _ _ _
  exact iteNext h (iteNext h1 (iteNext (((h1.updSx _).setI _ _).ptpRoles _) (ite (h5.sxLost _) h5)))

theorem execPtpMasterLoss_next (p : Nat) : KeepsNext s (execPtpMasterLoss p t) :=
  iteNext h (h.ptpPortLoss _ _)

theorem execDelayReqSend_next (p : Nat) : KeepsNext s (execDelayReqSend p t) :=
  iteNext h (iteNext (h.askDelay _ _) (iteNext h (h.askDelay _ _)))

theorem execPpsInEdge_next (rising : Bool) : KeepsNext s (execPpsInEdge rising t) := by
  unfold execPpsInEdge
  extract_lets x s1 spaced n s2 pend r s3
  have h2 : Keeps s s2 := (h.set _ _).updSx _
  have h3 : Keeps s s3 := by
    clear_value pend
    rcases pend with _ | ⟨sec, unc⟩
    · exact h2.measure _ _
    · exact (h2.setAbsolute _ _).updSx _
  exact iteNext h (iteNext h2 (ite h3.sxQualified h3))

theorem execPpsInLost_next : KeepsNext s (execPpsInLost t) := by
  unfold execPpsInLost
  split
  · exact h
  · exact iteNext h (((h.updSx _).raiseOn _ _ _ _).sxLost _)

theorem execPpsOutEdge_next : KeepsNext s (execPpsOutEdge t) :=
  iteNext h (iteNext (iteNext (h.updSx _) h) (iteNext (h.updSx _) h))

theorem execSxSourceWrite_next (r : Req) (w : Wire) : KeepsNext s (execSxSourceWrite r w t) :=
  h.write _ _ _ _ _ fun _ _ _ h => ((h.setP _ _).updSx _).sxGo _ _ _

theorem execSxRateWrite_next (r : Req) (w : Wire) : KeepsNext s (execSxRateWrite r w t) :=
  h.write _ _ _ _ _ fun _ _ _ h => h.setRate _

theorem execSxSetAbsolute_next (r : Req) (w : Wire) : KeepsNext s (execSxSetAbsolute r w t) :=
  iteNext h (h.write _ _ _ _ _ fun _ _ _ h => ite (h.updSx _) (h.setAbsolute _ _))

theorem execSxSetRelative_next (r : Req) (w : Wire) : KeepsNext s (execSxSetRelative r w t) :=
  iteNext h (h.write _ _ _ _ _ fun _ _ _ h => h.stepTime _ _)

theorem execSlowTickLatch_next : KeepsNext s (execSlowTickLatch t) := by
  unfold execSlowTickLatch
  extract_lets s1 s2
  have h1 : Keeps s s1 := h.updSx _
  have h2 : Keeps s s2 := ite h1 (ite (h1.updSx _) (h1.setN _ _))
  exact iteNext (h2.updSx _).latchPair h2

theorem execSlowRatioMeasure_next : KeepsNext s (execSlowRatioMeasure t) :=
  iteNext h ((h.setN _ _).updSx _)

theorem execSextantReconcile_next (ticks : Nat) : KeepsNext s (execSextantReconcile ticks t) := by
  unfold execSextantReconcile
  extract_lets s1 n ns16 adv ppm growth unc m cause sx s2 helm s3 s4 s5 s6 s7 s8
  have h1 : Keeps s s1 := h.updSx _
  have h2 : Keeps s s2 := h1.parts rfl rfl rfl
  have h3 : Keeps s s3 := ite (h2.parts rfl rfl rfl) h2
  have h4 : Keeps s s4 := h3.setI _ _
  have h5 : Keeps s s5 := ite ((h4.setRate _).updSx _) h4
  have h7 : Keeps s s7 := (h5.sxGo _ _ _).raiseOn _ _ _ _
  have h8 : Keeps s s8 := ite ((h7.setB _ _).raiseOn _ _ _ _) h7
  exact iteNext h (iteNext h1.resumeSaved.pllRuns h8.pllRuns)

theorem execCalCarry_next : KeepsNext s (execCalCarry t) := iteNext (h.calSecond _) h

theorem execCalOscStopped_next : KeepsNext s (execCalOscStopped t) :=
  iteNext (h.updSx _) ((h.updSx _).setOsf _)

theorem execCalTrimApply_next : KeepsNext s (execCalTrimApply t) :=
  iteNext h (iteNext (h.updSx _) (iteNext (h.setN _ _) (h.calSecond _)))

theorem execCalTrimAutoUpdate_next : KeepsNext s (execCalTrimAutoUpdate t) :=
  iteNext h (((h.updSx _).lbDrain.journal _ _ _ _ _ _ _).setP _ _)

theorem execCalSet_next (r : Req) (w : Wire) : KeepsNext s (execCalSet r w t) :=
  h.write _ _ _ _ _ fun _ _ _ h => h.calApply _ _

theorem execCalHaltWrite_next (r : Req) (w : Wire) : KeepsNext s (execCalHaltWrite r w t) :=
  h.write _ _ _ _ _ fun _ _ _ h =>
    ite h.calRelease (ite (h.calRelease.setB _ _) ((((h.calRelease.setB _ _).setN _ _).updSx _).calChanged _ _))

theorem execCalOsfClear_next (r : Req) (w : Wire) : KeepsNext s (execCalOsfClear r w t) :=
  h.write _ _ _ _ _ fun _ _ _ h => h.setB _ _

theorem execCalAlarmWrite_next (r : Req) (w : Wire) : KeepsNext s (execCalAlarmWrite r w t) :=
  h.write _ _ _ _ _ fun _ _ _ h => h.setP _ _

theorem execCalFieldRead_next (r : Req) (sub : Nat) : KeepsNext s (execCalFieldRead r sub t) :=
  iteNext h (h.readChecked _ _ _ fun _ _ h => (h.updSession _ _).replyRead _ _ _ _)

theorem execCalShadowRelease_next (sess : Nat) : KeepsNext s (execCalShadowRelease sess t) :=
  h.updSession _ _

theorem execCalFromSextant_next (r : Req) (w : Wire) : KeepsNext s (execCalFromSextant r w t) :=
  h.start _ _ _ _ _ fun _ _ _ h => h.updSx _

theorem execCalFromSextantApply_next : KeepsNext s (execCalFromSextantApply t) := by
  unfold execCalFromSextantApply
  split
  · exact h
  · extract_lets s1 c
    have h1 : Keeps s s1 := h.updSx _
    exact iteNext h (iteNext (h1.procDone _ _) (iteNext (h1.procDone _ _) ((h1.calApply _ _).procDone _ _)))

/-! ### Binnacle (spec 11) -/

theorem execBnImport_next (r : Req) (opens : Bool) (material : Octets) (w : Wire) :
    KeepsNext s (execBnImport r opens material w t) :=
  h.start _ _ _ _ _ fun _ _ _ h => h.keyStart _ _ _ _ _

theorem execBnReplace_next (r : Req) (opens proof : Bool) (material : Octets) (w : Wire) :
    KeepsNext s (execBnReplace r opens proof material w t) :=
  h.start _ _ _ _ _ fun _ _ _ h => h.keyStart _ _ _ _ _

theorem execKeyCommit_next (i : Nat) : KeepsNext s (execKeyCommit i t) := by
  unfold execKeyCommit
  split
  · exact h
  · exact iteNext h (iteNext (h.importFails _ _) (iteNext (h.commitKey _) (iteNext h
      (((h.procEst _ _).keyJournal _ _ _ _ _ _).commitKey _))))

theorem execBnRemove_next (r : Req) (w : Wire) : KeepsNext s (execBnRemove r w t) := by
  refine h.start _ _ _ _ _ fun u n v h => ?_
  extract_lets kind id
  split
  · exact h.keyFails _ _ _ _
  · exact (((ite (foldl h (fun _ _ h => h.closeSession _ _ _) _) h).removeKey _ _ _).keyCommitted _ _ _ _ _ _).procDone _ _

theorem execBnAttest_next (r : Req) (w : Wire) : KeepsNext s (execBnAttest r w t) :=
  h.start _ _ _ _ _ fun _ _ _ h => h.updBn _

theorem execAttestDone_next : KeepsNext s (execAttestDone t) := by
  unfold execAttestDone
  split
  · exact h
  · exact iteNext h (iteNext ((h.updBn _).procDone _ _) (((h.updBn _).updSession _ _).procDone _ _))

theorem execGroupRollover_next (r : Req) (w : Wire) : KeepsNext s (execGroupRollover r w t) :=
  h.start _ _ _ _ _ fun _ _ _ h => ite (h.procDone _ _) (h.updBn _)

theorem execGroupKeySwitch_next : KeepsNext s (execGroupKeySwitch t) := by
  unfold execGroupKeySwitch
  split
  · exact h
  · exact iteNext h ((h.updBn _).keyCommitted _ _ _ _ _ _)

theorem execGroupOverlapEnd_next : KeepsNext s (execGroupOverlapEnd t) := by
  unfold execGroupOverlapEnd
  split
  · exact h
  · split
    · exact h
    · exact iteNext h ((h.dropGroupOld _ _).procDone _ _)

theorem execRetainedGenExpiry_next : KeepsNext s (execRetainedGenExpiry t) := h.updBn _

theorem execEntropyBlock_next (ok : Bool) : KeepsNext s (execEntropyBlock ok t) :=
  iteNext h (iteNext (h.updBn _) (iteNext ((h.updBn _).raiseOn _ _ _ _) (h.updBn _)))

theorem execBlobDirectoryRebuilt_next : KeepsNext s (execBlobDirectoryRebuilt t) := iteNext h (h.updBn _)

theorem execSectorCompaction_next (n : Nat) : KeepsNext s (execSectorCompaction n t) := iteNext h (h.updBn _)

/-! ### Power (spec 12) -/

theorem execEnterFullService_next (r : Req) (w : Wire) : KeepsNext s (execEnterFullService r w t) :=
  iteNext h (h.start _ _ _ _ _ fun _ _ _ h => (ite h.leaveHold h).procDone _ _)

theorem execEnterHold_next (r : Req) (w : Wire) : KeepsNext s (execEnterHold r w t) :=
  iteNext h (h.start _ _ _ _ _ fun _ _ _ h => ite (h.procDone _ _) (h.updPwr _))

theorem execHoldEntry_next : KeepsNext s (execHoldEntry t) :=
  iteNext h ((((((h.fresh.updPwr _).procEst _ _).lodestarOn).stateChange _ _ _).gating _).procDone _ _)

theorem execEnterStandby_next (r : Req) (w : Wire) : KeepsNext s (execEnterStandby r w t) :=
  iteNext h (h.start _ _ _ _ _ fun _ _ _ h => (((h.setN _ _).updPwr _).setN _ _).set _ _)

theorem execCoreIdleRetention_next : KeepsNext s (execCoreIdleRetention t) := iteNext h (h.setCond _ _)

theorem execPowerModeWrite_next (r : Req) (w : Wire) : KeepsNext s (execPowerModeWrite r w t) :=
  h.write _ _ _ _ _ fun _ _ _ h => ite ((h.setP _ _).updPwr _) ((h.setP _ _).updPwr _).modeApply

theorem execOokPatternMatch_next (chips : List Bool) : KeepsNext s (execOokPatternMatch chips t) :=
  iteNext h (iteNext (h.wakeSource _) (h.bump _))

theorem execWakeNLow_next (us : Nat) : KeepsNext s (execWakeNLow us t) := iteNext (h.wakeSource _) h

theorem execWakeDeclared_next : KeepsNext s (execWakeDeclared t) := by
  unfold execWakeDeclared
  extract_lets m s1 s1' mg s2
  have h2 : Keeps s s2 := (((h.updPwr _).setCond _ _).biasFor _).parts rfl rfl rfl
  exact iteNext h (foldl h2 (fun _ _ h => h.setCond _ _) _)

theorem execVsenseWarn_next (low : Bool) (mv us : Nat) : KeepsNext s (execVsenseWarn low mv us t) :=
  iteNext h (iteNext (iteNext h ((((h.updPwr _).sense _).bumpQ _).raiseOn _ _ _ _))
    (iteNext h (((h.updPwr _).sense _).raiseOn _ _ _ _)))

theorem execVsenseMinRead_next (r : Req) : KeepsNext s (execVsenseMinRead r t) :=
  h.readChecked _ _ _ fun _ _ h => (h.setN _ _).replyRead _ _ _ _

theorem execSagCrossing_next (mv us : Nat) : KeepsNext s (execSagCrossing mv us t) :=
  iteNext h (iteNext ((h.sense _).updRst _) (((h.sense _).updRst _).anchorStart _ _))

theorem execRailBad_next (mv us : Nat) : KeepsNext s (execRailBad mv us t) :=
  iteNext h (iteNext (((h.sense _).updRst _).anchorStart _ _) ((h.sense _).updRst _))

theorem execAnchorSaveDone_next : KeepsNext s (execAnchorSaveDone t) := by
  unfold execAnchorSaveDone
  split
  · exact h
  · exact h.anchorEnd _ _ _ _ _

theorem execHoldUpSupplyLoss_next (n : Nat) : KeepsNext s (execHoldUpSupplyLoss n t) := by
  unfold execHoldUpSupplyLoss
  split
  · exact h
  · exact iteNext h ((h.updRst _).anchorEnd _ _ _ _ _)

theorem execSupplyReturn_next (mv : Nat) : KeepsNext s (execSupplyReturn mv t) :=
  have h1 := (h.sense mv).updRst fun r => { r with supply := true, metAt := (t.sense mv).now }
  iteNext h (ite h1 h1.leaveOff.trimStart)

theorem execThermalLimit_next (tj : Int) (n : Nat) : KeepsNext s (execThermalLimit tj n t) :=
  iteNext h (h.raiseOn _ _ _ _)

theorem execThermalTrip_next (tj : Int) (n : Nat) : KeepsNext s (execThermalTrip tj n t) :=
  iteNext h ((h.raiseOn _ _ _ _).anchorStart _ _)

theorem execThermalRecovery_next (tj : Int) (secs : Nat) : KeepsNext s (execThermalRecovery tj secs t) :=
  iteNext h ((h.updPwr _).setN _ _).leaveOff

theorem execVbatMeasure_next (mv : Nat) : KeepsNext s (execVbatMeasure mv t) :=
  iteNext h (iteNext ((((h.setN _ _).updPwr _).updPwr _).raiseOn _ _ _ _) ((h.setN _ _).updPwr _))

theorem execAonSupplyChange_next (vbat : Bool) : KeepsNext s (execAonSupplyChange vbat t) := h.setN _ _

theorem execAonBrownout_next : KeepsNext s (execAonBrownout t) := h.aonLoss _

/-! ### Reset, boot, Lodestar, Tack and Lookout (spec 13) -/

theorem execPoraAssert_next : KeepsNext s (execPoraAssert t) := h.aonLoss _

theorem execPoraRelease_next (x : Straps) (test supply : Bool) : KeepsNext s (execPoraRelease x test supply t) :=
  iteNext h (((((h.setCond _ _).latchStraps _).updRst _).updPwr _).sourceGone _)

theorem execPinAssert_next (ns : Nat) : KeepsNext s (execPinAssert ns t) :=
  iteNext h (iteNext (h.anchorCut.assertReset _ _ _) (iteNext (h.fresh.anchorCut.assertReset _ _ _) h.fresh))

theorem execPinRelease_next (x : Straps) : KeepsNext s (execPinRelease x t) :=
  iteNext h ((h.latchStraps _).sourceGone _)

theorem execWarmAssert_next (detail : Nat) : KeepsNext s (execWarmAssert detail t) :=
  iteNext h (iteNext (iteNext h ((h.updRst _).assertReset _ _ _)) (h.assertReset _ _ _))

theorem execCoreAssert_next (detail : Nat) : KeepsNext s (execCoreAssert detail t) :=
  iteNext h (iteNext (h.assertReset _ _ _) (iteNext (iteNext (h.tackReset _) h) (iteNext (iteNext (h.tackReset _) h) h)))

theorem execHelmLockstep_next (steps : Nat) : KeepsNext s (execHelmLockstep steps t) :=
  iteNext h ((h.raise _ _ _).assertReset _ _ _)

theorem execWarmRestart_next (r : Req) (w : Wire) : KeepsNext s (execWarmRestart r w t) :=
  h.start _ _ _ _ _ fun _ _ _ h => h.updRst _

theorem execDomainReset_next (r : Req) (w : Wire) : KeepsNext s (execDomainReset r w t) :=
  h.start _ _ _ _ _ fun _ _ _ h => ite (h.updRst _) (h.domainReset _)

theorem execResetHoldEnd_next : KeepsNext s (execResetHoldEnd t) := by
  unfold execResetHoldEnd
  extract_lets gone met s1
  have h1 : Keeps s s1 := h.updRst _
  exact iteNext h (ite h1.trimStart h1)

theorem execTrimLoadDone_next (words : List TrimWord) : KeepsNext s (execTrimLoadDone words t) := by
  unfold execTrimLoadDone
  extract_lets s1 s2 s3
  have h1 : Keeps s s1 := ((h.setN _ _).setN _ _).updRst _
  have h3 : Keeps s s3 := ((foldl h1 (fun _ _ h => h.trimWord _) _).setB _ _).biasFor _
  exact iteNext h (ite (foldl h3 (fun _ _ h => h.setN _ _) _) h3)

theorem execPllLock_next : KeepsNext s (execPllLock t) := iteNext h (h.updRst _)

theorem execRefclkLoss_next : KeepsNext s (execRefclkLoss t) := by
  unfold execRefclkLoss
  extract_lets mg rst s1
  have h1 : Keeps s s1 := h.parts rfl rfl rfl
  exact iteNext h ((h1.emptyFifos.stopPll _).intoReset _ _ _)

theorem execDomainRelease_next (rootOk : Bool) (rd : List LbRead) : KeepsNext s (execDomainRelease rootOk rd t) := by
  unfold execDomainRelease
  extract_lets seq wait l s1 s2
  have h1 : Keeps s s1 := foldl h (fun _ _ h => h.releaseOne _ _ _) _
  have h2 : Keeps s s2 := (h1.updPwr _).updRst _
  exact iteNext h (ite (h2.set _ _) h2)

theorem execFirmwareAttach_next : KeepsNext s (execFirmwareAttach t) := by
  unfold execFirmwareAttach
  extract_lets ms s1 s2 s3 s4 s5 pilot s6
  have h4 : Keeps s s4 := (((((h.writeHeld.setN _ _).resetRecorded _).ledgerLost).tackResumed.fullTable).rplAgain).woken
  have h6 : Keeps s s6 := ((h4.updPwr _).updRst _).parts rfl rfl rfl
  exact iteNext h (iteNext h (ite (h6.procDone _ _) h6))

theorem execLodestarStart_next : KeepsNext s (execLodestarStart t) := by
  unfold execLodestarStart
  refine iteNext h ?_
  dsimp only
  split
  · exact h.lodestarOn
  · exact h.lodestarOn.parts rfl rfl rfl

theorem execChartStateWrite_next : KeepsNext s (execChartStateWrite t) := iteNext h h.chartState

theorem execCoreHeartbeat_next (core : Nat) : KeepsNext s (execCoreHeartbeat core t) := iteNext h (h.updRst _)

theorem execLookoutWarn_next (core : Nat) : KeepsNext s (execLookoutWarn core t) :=
  iteNext h (((h.updRst _).bumpQ _).raise _ _ _)

theorem execLookoutLevel1_next (core : Nat) : KeepsNext s (execLookoutLevel1 core t) :=
  iteNext h (iteNext (iteNext h (h.lookoutReset _ _ _)) (iteNext h (h.lookoutReset _ _ _)))

theorem execLookoutLevel2_next (x : Stall) : KeepsNext s (execLookoutLevel2 x t) :=
  iteNext h (iteNext (h.lookoutReset _ _ _) h)

theorem execBootImageCheck_next (mbit : Option Nat) : KeepsNext s (execBootImageCheck mbit t) := by
  unfold execBootImageCheck
  extract_lets m s1 boot b s2
  have h1 : Keeps s s1 := ((h.setN _ _).setN _ _).bankVersions
  have h2 : Keeps s s2 := ite (h1.bootFailed _ _ _).startRecovery h1.bootTack
  clear_value boot
  exact iteNext h (iteNext ((h1.set _ _).updRst _) (iteNext h1.startRecovery (ite (h2.bootFailed _ _ _) h2)))

theorem execBootImageWrite_next (r : Req) (w : Wire) : KeepsNext s (execBootImageWrite r w t) := by
  unfold execBootImageWrite
  refine iteNext (h.write _ _ _ _ _ fun _ _ _ h => h) ?_
  have hb := h.block r 0 Obj.BOOT_IMAGE w
  generalize t.block r 0 Obj.BOOT_IMAGE w = b at hb ⊢
  cases b with
  | stop u => exact hb
  | whole w u =>
    have hu : Keeps s u := hb
    dsimp only
    split
    · exact iteNext (hu.refuse _ _ _ _ _) (iteNext (hu.refuse _ _ _ _ _)
        (((hu.journal _ _ _ _ _ _ _).startImage _ _ _ _).reply _ _ _ _))
    · exact hu.refuse _ _ _ _ _

theorem execTack_next (r : Req) (w : Wire) : KeepsNext s (execTack r w t) :=
  h.start _ _ _ _ _ fun _ _ _ h => (((h.fresh.updRst _).tackPut _).bankVersions).stageEvent _

theorem execTackSegment_next (r : Req) (w : Wire) : KeepsNext s (execTackSegment r w t) := by
  refine h.write _ _ _ _ _ fun u n v h => ?_
  extract_lets o off x n segs s1 s2
  have h2 : Keeps s s2 := (h.updRst _).tackPut _
  exact ite ((h2.tackOp _).stageEvent _) h2

theorem execTackVerifyDone_next : KeepsNext s (execTackVerifyDone t) := by
  unfold execTackVerifyDone
  extract_lets x o arm
  refine iteNext h (iteNext (h.abandonTack.procDone _ _) ?_)
  split
  · exact h.abandonTack.procDone _ _
  · have ha : Keeps s (arm t).bankVersions := (h.set _ _).bankVersions
    exact iteNext (ha.stageEvent _) (iteNext (ha.stageEvent _) ((ha.tackPut _).stageEvent _))

theorem execSealDone_next : KeepsNext s (execSealDone t) :=
  iteNext h (iteNext (h.abandonTack.procDone _ _) (iteNext (h.abandonTack.procDone _ _)
    ((((((h.writeBlobs _).updBn _).setN _ _).raiseOn _ _ _ _).tackOp _).stageEvent _)))

theorem execTackAttachTime_next : KeepsNext s (execTackAttachTime t) := iteNext (h.tackReset _) h

theorem execTackConfirm_next (r : Req) (w : Wire) : KeepsNext s (execTackConfirm r w t) :=
  h.write _ _ _ _ _ fun _ _ _ h => h.updRst _

theorem execTackSoakDone_next : KeepsNext s (execTackSoakDone t) := by
  unfold execTackSoakDone
  extract_lets x roll s1 s2 s3
  have h2 : Keeps s s2 := ((h.sealEnd _ _).tackOp _).setP _ _
  have h3 : Keeps s s3 := ite (h2.setP _ _) h2
  exact iteNext h (h3.tackOver.procDone _ _)

theorem execConfirmDeadline_next : KeepsNext s (execConfirmDeadline t) := iteNext h (h.fallBack _)

theorem execProcAbort_next (r : Req) (w : Wire) : KeepsNext s (execProcAbort r w t) := by
  unfold execProcAbort
  extract_lets ask
  have hg := h.gate r ask true
  generalize t.gate r ask true = g at hg ⊢
  cases g with
  | stop u => exact hg
  | go n u =>
    have hu : Keeps s u := hg
    have ha : ∀ x, Keeps s (((u.lbDrain.journal 3 n 0xF001 0 .ok [] w.cbor).abortApply x).reply n (r.answers Obj.PROC_ABORT)
        coapChanged .none) := fun x => ((hu.lbDrain.journal _ _ _ _ _ _ _).abortApply x).reply _ _ _ _
    dsimp only
    split
    · exact hu.refuse _ _ _ _ _
    · split
      · exact hu.refuse _ _ _ _ _
      · exact ite ((ha _).fallBack _) (ha _)

/-! ### Logbook, diagnostics and capture (spec 14) -/

theorem execLogbookCommit_next : KeepsNext s (execLogbookCommit t) := by
  unfold execLogbookCommit
  split
  · exact h
  · exact iteNext h (next (lbCommit (by exact h.parts rfl rfl rfl) _ _))

theorem execScrubLine_next (skip : Bool) (bits : Nat) (bad : Option (Option LbRead)) :
    KeepsNext s (execScrubLine skip bits bad t) := by
  unfold execScrubLine
  extract_lets x y lb s1 s2 s3 p
  have h1 : Keeps s s1 := h.parts rfl rfl rfl
  have h2 : Keeps s s2 := ite h1 (h1.setQ _ _)
  have h3 : Keeps s s3 := by
    refine ite h1 ?_
    split
    · exact h2
    · exact h2.bumpQ _
    · exact h2.lbRead _
  exact iteNext h (ite h3.scrubDone (h3.setN _ _))

theorem execWearProjection_next : KeepsNext s (execWearProjection t) := by
  unfold execWearProjection
  extract_lets x years diag s1 lb
  have h1 : Keeps s s1 := setQ (h.parts rfl rfl rfl) _ _
  exact iteNext h (iteNext (raise (by exact h1.parts rfl rfl rfl) _ _ _) h1)

theorem execRotationReassign_next : KeepsNext s (execRotationReassign t) :=
  iteNext h (next (h.parts rfl rfl rfl))

theorem execTjSample_next (temps : List Int) : KeepsNext s (execTjSample temps t) := by
  unfold execTjSample
  split
  · exact h
  · extract_lets x s1 s2 diag
    have h1 : Keeps s s1 := h.setI _ _
    have h2 : Keeps s s2 := ite (h1.setQ _ _) h1
    exact iteNext h (h2.parts rfl rfl rfl)

theorem execTjMinute_next : KeepsNext s (execTjMinute t) := by
  unfold execTjMinute
  extract_lets k s1 n diag s2
  have h2 : Keeps s s2 := (h.setQ _ _).parts rfl rfl rfl
  exact iteNext h (ite (h2.bumpQ _) h2)

theorem execAgeingMeasure_next (d delay period : Nat) (bias : Int) : KeepsNext s (execAgeingMeasure d delay period bias t) := by
  unfold execAgeingMeasure
  extract_lets margin s1 old bias s2 last diag
  have h1 : Keeps s s1 := h.setI _ _
  have h2 : Keeps s s2 := ite h1 (h1.setQ _ _)
  exact iteNext h (iteNext h1 (iteNext (raise (h2.parts rfl rfl rfl) _ _ _) h2))

theorem execBackgroundTestRun_next (code target : Nat) (moved : Bool) :
    KeepsNext s (execBackgroundTestRun code target moved t) := by
  unfold execBackgroundTestRun
  refine iteNext h ?_
  split
  · exact h.testBegin _
  · split
    · exact h
    · exact h.testBegin _

theorem execSelftestLate_next (code target : Nat) : KeepsNext s (execSelftestLate code target t) := by
  unfold execSelftestLate
  extract_lets cur due
  clear_value due
  cases due with
  | none => exact h
  | some d => exact iteNext h (raise (bump (h.parts rfl rfl rfl) _) _ _ _)

theorem execBankSwap_next (a : Nat) : KeepsNext s (execBankSwap a t) := iteNext h (next (h.parts rfl rfl rfl))

theorem execSelftestAdcCalibration_next (r : Req) (w : Wire) : KeepsNext s (execSelftestAdcCalibration r w t) := h.selftest 1 r w
theorem execSelftestBankBist_next (r : Req) (w : Wire) : KeepsNext s (execSelftestBankBist r w t) := h.selftest 2 r w
theorem execSelftestKeccakKat_next (r : Req) (w : Wire) : KeepsNext s (execSelftestKeccakKat r w t) := h.selftest 3 r w
theorem execSelftestAesKat_next (r : Req) (w : Wire) : KeepsNext s (execSelftestAesKat r w t) := h.selftest 4 r w
theorem execSelftestLogbookRead_next (r : Req) (w : Wire) : KeepsNext s (execSelftestLogbookRead r w t) := h.selftest 5 r w
theorem execSelftestTxPowerCal_next (r : Req) (w : Wire) : KeepsNext s (execSelftestTxPowerCal r w t) := h.selftest 6 r w

theorem execSelftestResult_next (code target : Nat) (fail : Bool) (detail : Nat) (gains : List Nat) :
    KeepsNext s (execSelftestResult code target fail detail gains t) := by
  unfold execSelftestResult
  split
  · exact h
  · extract_lets ends diag s1 s2 s3 s4
    have h2 : Keeps s s2 := testEffect (bump (h.parts rfl rfl rfl) _) _ _ _
    have h3 : Keeps s s3 := ite ((h2.bump _).raise _ _ _) h2
    have h4 : Keeps s s4 := h3.testResult _ _ _
    exact iteNext h (iteNext (h4.procDone _ _) h4)

theorem execCapRecordsRead_next (r : Req) (n : Nat) : KeepsNext s (execCapRecordsRead r n t) :=
  h.readChecked _ _ _ fun _ _ h => ite (h.updCap _ _) ((h.updCap _ _).replyRead _ _ _ _)

theorem execCapFlush_next (r : Req) (n : Nat) (w : Wire) : KeepsNext s (execCapFlush r n w t) :=
  h.write _ _ _ _ _ fun _ _ _ h => h.updCap _ _

theorem execDramEccError_next (channel addr : Nat) (corrected table : Bool) :
    KeepsNext s (execDramEccError channel addr corrected table t) :=
  have hd := h.dramFault channel addr table
  iteNext h (iteNext (h.bump _) (ite (hd.assertReset _ _ _) hd))

theorem execSramEccError_next (corrected : Bool) : KeepsNext s (execSramEccError corrected t) :=
  iteNext h (iteNext (h.bump _) (h.assertReset _ _ _))

/-! ### A request on the Quay port -/

theorem servePut3_next (r : Req) (ix : Nat) (w : Wire) : KeepsNext s (t.servePut3 r ix w) :=
  have hc : Keeps s t.fresh.2.fresh.2.fresh.2 := h.fresh.fresh.fresh
  iteNext (h.inTurn_next ⟨fun _ h => h.execEnterFullService_next r w, fun _ h => h.execEnterHold_next r w,
      fun _ h => h.execEnterStandby_next r w, trivial⟩) <|
    iteNext (h.execWarmRestart_next r w) <| iteNext (h.execDomainReset_next r w) <|
    iteNext (h.execCalFromSextant_next r w) <|
    iteNext (h.inTurn_next ⟨fun _ h => h.execBearingRetuneSearch_next r w, fun _ h => h.execBearingRetuneSet_next r w,
      trivial⟩) <|
    iteNext (h.execSynthCalibrate_next r w) <| iteNext (h.execRxWindowApply_next r w) <|
    iteNext (h.execScheduleCommit_next r w) <| iteNext (h.execNodeAdd_next r w) <| iteNext (h.execNodeRemove_next r w) <|
    iteNext (h.execNodeRehash_next r w) <| iteNext (h.execAlmanacCheckpoint_next r w) <|
    iteNext (h.execTrunkRetrain_next r w) <| iteNext (h.execTrunkLoopback_next r w) <|
    iteNext (h.execConsortHandover_next r w) <| iteNext (hc.execBnImport_next r _ _ w) <|
    iteNext (hc.execBnReplace_next r _ _ _ w) <| iteNext (h.execBnRemove_next r w) <| iteNext (h.execBnAttest_next r w) <|
    iteNext (h.execGroupRollover_next r w) <| iteNext (h.execTack_next r w) <|
    h.inTurn_next ⟨fun _ h => h.execSelftestAdcCalibration_next r w, fun _ h => h.execSelftestBankBist_next r w,
      fun _ h => h.execSelftestKeccakKat_next r w, fun _ h => h.execSelftestAesKat_next r w,
      fun _ h => h.execSelftestLogbookRead_next r w, fun _ h => h.execSelftestTxPowerCal_next r w, trivial⟩

/-- TT_ENABLE stands as `@`: Lean would otherwise evaluate `2 ≤ ix - 0x7000` to find the shape of the goal. -/
theorem servePut_next (r : Req) (ix sub : Nat) (w : Wire) : KeepsNext s (t.servePut r ix sub w) :=
  iteNext (h.servePut3_next r ix w) <| iteNext (h.execObjectWrite_next r ix sub w) <|
    iteNext (h.execBootImageWrite_next r w) <| iteNext (h.execSessionClose_next r w) <| iteNext (h.execProcAbort_next r w) <|
    iteNext (h.execCellEntryStage_next r w) <| iteNext (h.execSchedDiscard_next r w) <| iteNext (h.execNodeFindEui_next r w) <|
    iteNext (h.execSxSourceWrite_next r w) <| iteNext (h.execSxRateWrite_next r w) <|
    iteNext (h.inTurn_next ⟨fun _ h => h.execSxSetAbsolute_next r w, fun _ h => h.execSxSetRelative_next r w, trivial⟩) <|
    iteNext (h.execCalSet_next r w) <| iteNext (h.execCalHaltWrite_next r w) <| iteNext (h.execCalOsfClear_next r w) <|
    iteNext (h.execCalAlarmWrite_next r w) <| iteNext (h.execFlowConfig_next r w) <| iteNext (h.execCsFaultClear_next r w) <|
    iteNext (h.execPowerModeWrite_next r w) <| iteNext (h.execTackSegment_next r w) <| iteNext (h.execTackConfirm_next r w) <|
    iteNext (h.execEvtFlush_next r _ w) <| iteNext (h.execCapFlush_next r _ w) <|
    iteNext (h.inTurn_next ⟨fun _ h => h.execPanEnable_next r _ w, fun _ h => h.execPanStop_next r _ w, trivial⟩) <|
    iteNext (@execTtEnableWrite_next _ _ h r _ w) <| iteNext (h.execTrunkAddressWrite_next r sub w) (h.execAdmitCtxKeyid_next r _ w)

theorem serveGet_next (r : Req) (ix sub : Nat) (observe : Bool) : KeepsNext s (t.serveGet r ix sub observe) :=
  iteNext (h.execWakeOnAccessRead_next r _) <| iteNext (h.execJournalRecordRead_next r) <|
    iteNext (h.execVsenseMinRead_next r) <| iteNext (h.execCalFieldRead_next r sub) <|
    iteNext (h.execCapRecordsRead_next r _) <| iteNext (h.execEvtObserveRegister_next r _) (h.execEvtRecordsRead_next r _)

theorem serveQuay_next (body : Octets) : KeepsNext s (t.serveQuay body) :=
  iteNext h (iteNext (h.servePut_next _ _ _ _) (h.serveGet_next _ _ _ _))

theorem execQuayFrameDiscard_next (raw : Octets) : KeepsNext s (execQuayFrameDiscard raw t) := by
  unfold execQuayFrameDiscard
  have hq := h.quayIn raw
  dsimp only
  split
  · exact hq.setQuay _
  · exact (hq.bump _).setQuay _
  · exact (hq.setQuay _).serveQuay_next _

end

/-! ### Every command, every step -/

/-- Every command goes on from every state, and keeps. -/
theorem exec_next {s t : State} (h : Keeps s t) (c : Instr) : KeepsNext s (exec c t) :=
  match c with
  | .objectWrite r ix sub w => h.execObjectWrite_next r ix sub w
  | .wakeOnAccessRead r o => h.execWakeOnAccessRead_next r o
  | .blockTransferTimeout sess => h.execBlockTransferTimeout_next sess
  | .quayFrameDiscard raw => h.execQuayFrameDiscard_next raw
  | .quayUartEntry octets baud => h.execQuayUartEntry_next octets baud
  | .quayCsFall clkHigh => h.execQuayCsFall_next clkHigh
  | .quayFrameSent => h.execQuayFrameSent_next
  | .sessionIdleTimeout n => h.execSessionIdleTimeout_next n
  | .sessionClose r w => h.execSessionClose_next r w
  | .evtRecordsRead r n => h.execEvtRecordsRead_next r n
  | .stalledReadServed n => h.execStalledReadServed_next n
  | .evtObserveRegister r n => h.execEvtObserveRegister_next r n
  | .observeNotify n => h.execObserveNotify_next n
  | .notificationAck n => h.execNotificationAck_next n
  | .notificationTimeout n => h.execNotificationTimeout_next n
  | .evtFlush r n w => h.execEvtFlush_next r n w
  | .journalRecordRead r => h.execJournalRecordRead_next r
  | .procAbort r w => h.execProcAbort_next r w
  | .gainStepDown p samples => h.execGainStepDown_next p samples
  | .gainStepUp p heldMs => h.execGainStepUp_next p heldMs
  | .txGroupStart c psdus => h.execTxGroupStart_next c psdus
  | .txGroupEnd c rl iso => h.execTxGroupEnd_next c rl iso
  | .mismatchSevere c m => h.execMismatchSevere_next c m
  | .retuneRun p c winUs => h.execRetuneRun_next p c winUs
  | .retuneDone p rls => h.execRetuneDone_next p rls
  | .retuneHoldoffExpiry p => h.execRetuneHoldoffExpiry_next p
  | .bearingRetuneSearch r w => h.execBearingRetuneSearch_next r w
  | .bearingRetuneSet r w => h.execBearingRetuneSet_next r w
  | .synthCalibrate r w => h.execSynthCalibrate_next r w
  | .synthTempSample c temp => h.execSynthTempSample_next c temp
  | .synthCalStart c winUs => h.execSynthCalStart_next c winUs
  | .synthCalEnd c temp => h.execSynthCalEnd_next c temp
  | .synthLock c => h.execSynthLock_next c
  | .synthUnlock u => h.execSynthUnlock_next u
  | .chainPowerUp c => h.execChainPowerUp_next c
  | .txDomainOff d => h.execTxDomainOff_next d
  | .aerialModeApply b => h.execAerialModeApply_next b
  | .claimRound senses quals => h.execClaimRound_next senses quals
  | .sfdFound d rssi freqOff both => h.execSfdFound_next d rssi freqOff both
  | .sfdTimeout d => h.execSfdTimeout_next d
  | .phrError d failed modeSwitch len mcs => h.execPhrError_next d failed modeSwitch len mcs
  | .rxFrameEnd d f => h.execRxFrameEnd_next d f
  | .diversityHoldEnd n => h.execDiversityHoldEnd_next n
  | .rxGateOpen p => h.execRxGateOpen_next p
  | .listenWindowOpen p => h.execListenWindowOpen_next p
  | .rxGateClose p w energy => h.execRxGateClose_next p w energy
  | .starvationIntervalEnd => h.execStarvationIntervalEnd_next
  | .falsePreambleCheck w => h.execFalsePreambleCheck_next w
  | .rxWindowApply r w => h.execRxWindowApply_next r w
  | .windowApplyBoundary => h.execWindowApplyBoundary_next
  | .windowRearmDone => h.execWindowRearmDone_next
  | .slotBoundary pan ebPsdu => h.execSlotBoundary_next pan ebPsdu
  | .planFreeze b t ending => h.execPlanFreeze_next b t ending
  | .quietSlotInsert kind ix => h.execQuietSlotInsert_next kind ix
  | .frameDecision f ending => h.execFrameDecision_next f ending
  | .ackCompose n => h.execAckCompose_next n
  | .ackWaitClose n => h.execAckWaitClose_next n
  | .cellEnd pan asn => h.execCellEnd_next pan asn
  | .dutyBinBoundary b => h.execDutyBinBoundary_next b
  | .panEnable r p w => h.execPanEnable_next r p w
  | .panStop r p w => h.execPanStop_next r p w
  | .cellEntryStage r w => h.execCellEntryStage_next r w
  | .schedDiscard r w => h.execSchedDiscard_next r w
  | .scheduleCommit r w => h.execScheduleCommit_next r w
  | .slotframeSwitch f => h.execSlotframeSwitch_next f
  | .helmLockstep steps => h.execHelmLockstep_next steps
  | .nodeFindEui r w => h.execNodeFindEui_next r w
  | .tableInsert => h.execTableInsert_next
  | .nodeAdd r w => h.execNodeAdd_next r w
  | .nodeRemove r w => h.execNodeRemove_next r w
  | .nodeRemoveFinish n => h.execNodeRemoveFinish_next n
  | .nodeRehash r w => h.execNodeRehash_next r w
  | .rehashBuildDone eccError => h.execRehashBuildDone_next eccError
  | .migrateStart => h.execMigrateStart_next
  | .migrateBucket => h.execMigrateBucket_next
  | .migrateEnd => h.execMigrateEnd_next
  | .sweeperPass => h.execSweeperPass_next
  | .joinTimeout n => h.execJoinTimeout_next n
  | .joinVerify eui pan relayed ok psdu => h.execJoinVerify_next eui pan relayed ok psdu
  | .shortAddrRelease n => h.execShortAddrRelease_next n
  | .learnApply b => h.execLearnApply_next b
  | .neighbourSweep b => h.execNeighbourSweep_next b
  | .daoReceived d psdu => h.execDaoReceived_next d psdu
  | .disReceived p => h.execDisReceived_next p
  | .dioTrickleFire p psdu => h.execDioTrickleFire_next p psdu
  | .reassemblyTimeout b n => h.execReassemblyTimeout_next b n
  | .checkpointPeriod => h.execCheckpointPeriod_next
  | .almanacCheckpoint r w => h.execAlmanacCheckpoint_next r w
  | .checkpointDone => h.execCheckpointDone_next
  | .almanacRestored loadUs => h.execAlmanacRestored_next loadUs
  | .almanacMirrorReload loadUs => h.execAlmanacMirrorReload_next loadUs
  | .uplinkTxSelect p bytes => h.execUplinkTxSelect_next p bytes
  | .admissionMessage x => h.execAdmissionMessage_next x
  | .admitQueueTimeout n => h.execAdmitQueueTimeout_next n
  | .admissionCompute => h.execAdmissionCompute_next
  | .query => h.execQuery_next
  | .handoverEntry ref => h.execHandoverEntry_next ref
  | .reportDeadline ref => h.execReportDeadline_next ref
  | .wheelCoarseSlot => h.execWheelCoarseSlot_next
  | .flowConfig r w => h.execFlowConfig_next r w
  | .admitCtxKeyid r ctx w => h.execAdmitCtxKeyid_next r ctx w
  | .paSample => h.execPaSample_next
  | .sampleIntervalEnd => h.execSampleIntervalEnd_next
  | .ledgerSummaryMirror log => h.execLedgerSummaryMirror_next log
  | .nextEligibleTime node key => h.execNextEligibleTime_next node key
  | .listenPaging p => h.execListenPaging_next p
  | .wakePatternSend p => h.execWakePatternSend_next p
  | .pageReceived p o maskOk fault dist => h.execPageReceived_next p o maskOk fault dist
  | .announceTimeout p fault dist => h.execAnnounceTimeout_next p fault dist
  | .trainPhase p snr partner fault dist => h.execTrainPhase_next p snr partner fault dist
  | .linkUp p => h.execLinkUp_next p
  | .retrainHoldoffExpiry p => h.execRetrainHoldoffExpiry_next p
  | .oamSend p m100 m1000 m2500 snr => h.execOamSend_next p m100 m1000 m2500 snr
  | .oamReceived p b => h.execOamReceived_next p b
  | .codewordLockLost x => h.execCodewordLockLost_next x
  | .signalLost x => h.execSignalLost_next x
  | .snrLinkLost p x => h.execSnrLinkLost_next p x
  | .snrWarn p x => h.execSnrWarn_next p x
  | .ttEnableWrite r p w => h.execTtEnableWrite_next r p w
  | .trunkRetrain r w => h.execTrunkRetrain_next r w
  | .trunkLoopback r w => h.execTrunkLoopback_next r w
  | .loopbackEnd p m100 m1000 m2500 snr => h.execLoopbackEnd_next p m100 m1000 m2500 snr
  | .trunkWakeDetect p x => h.execTrunkWakeDetect_next p x
  | .trunkFrameReceived p f fill idle => h.execTrunkFrameReceived_next p f fill idle
  | .xoffRefresh p fill => h.execXoffRefresh_next p fill
  | .pfcReceived p quanta => h.execPfcReceived_next p quanta
  | .pauseExpiry p prio => h.execPauseExpiry_next p prio
  | .supervisionSend => h.execSupervisionSend_next
  | .redPartnerTimeout b => h.execRedPartnerTimeout_next b
  | .trunkAddressWrite r sub w => h.execTrunkAddressWrite_next r sub w
  | .trainingLockTimeout p fault dist => h.execTrainingLockTimeout_next p fault dist
  | .pulseSend heard => h.execPulseSend_next heard
  | .pulseReceived w => h.execPulseReceived_next w
  | .pulseLoss => h.execPulseLoss_next
  | .pairingTimeout => h.execPairingTimeout_next
  | .streamReceived x => h.execStreamReceived_next x
  | .streamResend => h.execStreamResend_next
  | .streamResync => h.execStreamResync_next
  | .resyncDone => h.execResyncDone_next
  | .revertStart => h.execRevertStart_next
  | .handoverInstant => h.execHandoverInstant_next
  | .consortHandover r w => h.execConsortHandover_next r w
  | .csFaultClear r w => h.execCsFaultClear_next r w
  | .ptpSyncMeasurement p ident m logInt => h.execPtpSyncMeasurement_next p ident m logInt
  | .ptpAnnounce p a => h.execPtpAnnounce_next p a
  | .ptpMasterLoss p => h.execPtpMasterLoss_next p
  | .ppsInEdge rising => h.execPpsInEdge_next rising
  | .ppsInLost => h.execPpsInLost_next
  | .ppsOutEdge => h.execPpsOutEdge_next
  | .sxSourceWrite r w => h.execSxSourceWrite_next r w
  | .sxRateWrite r w => h.execSxRateWrite_next r w
  | .sxSetAbsolute r w => h.execSxSetAbsolute_next r w
  | .sxSetRelative r w => h.execSxSetRelative_next r w
  | .slowTickLatch => h.execSlowTickLatch_next
  | .slowRatioMeasure => h.execSlowRatioMeasure_next
  | .sextantReconcile ticks => h.execSextantReconcile_next ticks
  | .calCarry => h.execCalCarry_next
  | .calOscStopped => h.execCalOscStopped_next
  | .calTrimApply => h.execCalTrimApply_next
  | .calTrimAutoUpdate => h.execCalTrimAutoUpdate_next
  | .calSet r w => h.execCalSet_next r w
  | .calHaltWrite r w => h.execCalHaltWrite_next r w
  | .calOsfClear r w => h.execCalOsfClear_next r w
  | .calAlarmWrite r w => h.execCalAlarmWrite_next r w
  | .calFieldRead r sub => h.execCalFieldRead_next r sub
  | .calShadowRelease sess => h.execCalShadowRelease_next sess
  | .calFromSextant r w => h.execCalFromSextant_next r w
  | .calFromSextantApply => h.execCalFromSextantApply_next
  | .delayReqSend p => h.execDelayReqSend_next p
  | .bnImport r opens material w => h.execBnImport_next r opens material w
  | .bnReplace r opens proof material w => h.execBnReplace_next r opens proof material w
  | .keyCommit n => h.execKeyCommit_next n
  | .bnRemove r w => h.execBnRemove_next r w
  | .bnAttest r w => h.execBnAttest_next r w
  | .attestDone => h.execAttestDone_next
  | .groupRollover r w => h.execGroupRollover_next r w
  | .groupKeySwitch => h.execGroupKeySwitch_next
  | .groupOverlapEnd => h.execGroupOverlapEnd_next
  | .retainedGenExpiry => h.execRetainedGenExpiry_next
  | .entropyBlock ok => h.execEntropyBlock_next ok
  | .blobDirectoryRebuilt => h.execBlobDirectoryRebuilt_next
  | .sectorCompaction n => h.execSectorCompaction_next n
  | .enterFullService r w => h.execEnterFullService_next r w
  | .enterHold r w => h.execEnterHold_next r w
  | .holdEntry => h.execHoldEntry_next
  | .enterStandby r w => h.execEnterStandby_next r w
  | .coreIdleRetention => h.execCoreIdleRetention_next
  | .powerModeWrite r w => h.execPowerModeWrite_next r w
  | .ookPatternMatch chips => h.execOokPatternMatch_next chips
  | .wakeNLow us => h.execWakeNLow_next us
  | .wakeDeclared => h.execWakeDeclared_next
  | .vsenseWarn low mv us => h.execVsenseWarn_next low mv us
  | .sagCrossing mv us => h.execSagCrossing_next mv us
  | .anchorSaveDone => h.execAnchorSaveDone_next
  | .supplyReturn mv => h.execSupplyReturn_next mv
  | .thermalLimit tj n => h.execThermalLimit_next tj n
  | .thermalTrip tj n => h.execThermalTrip_next tj n
  | .thermalRecovery tj secs => h.execThermalRecovery_next tj secs
  | .railBad mv us => h.execRailBad_next mv us
  | .vbatMeasure mv => h.execVbatMeasure_next mv
  | .aonBrownout => h.execAonBrownout_next
  | .holdUpSupplyLoss n => h.execHoldUpSupplyLoss_next n
  | .aonSupplyChange vbat => h.execAonSupplyChange_next vbat
  | .vsenseMinRead r => h.execVsenseMinRead_next r
  | .sealDone => h.execSealDone_next
  | .poraAssert => h.execPoraAssert_next
  | .pinAssert ns => h.execPinAssert_next ns
  | .pinRelease x => h.execPinRelease_next x
  | .warmAssert detail => h.execWarmAssert_next detail
  | .coreAssert detail => h.execCoreAssert_next detail
  | .resetHoldEnd => h.execResetHoldEnd_next
  | .trimLoadDone words => h.execTrimLoadDone_next words
  | .pllLock => h.execPllLock_next
  | .domainRelease rootOk rd => h.execDomainRelease_next rootOk rd
  | .bootImageCheck mbit => h.execBootImageCheck_next mbit
  | .bootImageWrite r w => h.execBootImageWrite_next r w
  | .firmwareAttach => h.execFirmwareAttach_next
  | .lodestarStart => h.execLodestarStart_next
  | .chartStateWrite => h.execChartStateWrite_next
  | .tack r w => h.execTack_next r w
  | .tackSegment r w => h.execTackSegment_next r w
  | .tackVerifyDone => h.execTackVerifyDone_next
  | .tackAttachTime => h.execTackAttachTime_next
  | .tackConfirm r w => h.execTackConfirm_next r w
  | .tackSoakDone => h.execTackSoakDone_next
  | .confirmDeadline => h.execConfirmDeadline_next
  | .coreHeartbeat core => h.execCoreHeartbeat_next core
  | .lookoutWarn core => h.execLookoutWarn_next core
  | .lookoutLevel1 core => h.execLookoutLevel1_next core
  | .lookoutLevel2 x => h.execLookoutLevel2_next x
  | .warmRestart r w => h.execWarmRestart_next r w
  | .domainReset r w => h.execDomainReset_next r w
  | .poraRelease x test supply => h.execPoraRelease_next x test supply
  | .refclkLoss => h.execRefclkLoss_next
  | .logbookCommit => h.execLogbookCommit_next
  | .scrubLine skip bits bad => h.execScrubLine_next skip bits bad
  | .wearProjection => h.execWearProjection_next
  | .rotationReassign => h.execRotationReassign_next
  | .tjSample temps => h.execTjSample_next temps
  | .tjMinute => h.execTjMinute_next
  | .ageingMeasure d delay period bias => h.execAgeingMeasure_next d delay period bias
  | .backgroundTestRun code target moved => h.execBackgroundTestRun_next code target moved
  | .selftestLate code target => h.execSelftestLate_next code target
  | .bankSwap a => h.execBankSwap_next a
  | .selftestAdcCalibration r w => h.execSelftestAdcCalibration_next r w
  | .selftestBankBist r w => h.execSelftestBankBist_next r w
  | .selftestKeccakKat r w => h.execSelftestKeccakKat_next r w
  | .selftestAesKat r w => h.execSelftestAesKat_next r w
  | .selftestLogbookRead r w => h.execSelftestLogbookRead_next r w
  | .selftestTxPowerCal r w => h.execSelftestTxPowerCal_next r w
  | .selftestResult code target fail detail gains => h.execSelftestResult_next code target fail detail gains
  | .capRecordsRead r n => h.execCapRecordsRead_next r n
  | .capFlush r n w => h.execCapFlush_next r n w
  | .dramEccError channel addr corrected table => h.execDramEccError_next channel addr corrected table
  | .sramEccError corrected => h.execSramEccError_next corrected

theorem next_of_keepsNext {s : State} {r : Res} (h : KeepsNext s r) : ∃ t, r = .next t ∧ Keeps s t := by
  cases r with
  | next t => exact ⟨t, rfl, h⟩
  | fault _ => exact h.elim
  | refused _ => exact h.elim

end Keeps

/-- A step goes on, and keeps what the state holds beside the command it takes from the queue. -/
theorem step_keeps (s : State) : ∃ t, step s = .next t ∧ Keeps { s with pending := s.pending.tail } t := by
  unfold step
  split
  · rename_i hq
    refine ⟨s.idle, rfl, ?_⟩
    rw [hq, List.tail_nil, ← hq]
    exact (Keeps.refl s).idle
  · rename_i c rest hq
    rw [hq, List.tail_cons]
    exact Keeps.next_of_keepsNext ((Keeps.refl _).exec_next c)

/-! ### The state after reset -/

/-- An event FIFO right after reset: blank but for what it holds until Attach, at most one record. -/
def Fifo.AsReset (f : Fifo) : Prop := f = { Fifo.blank with held := f.held } ∧ f.held.length ≤ 1

theorem asReset_of_mem_fifos {f : Fifo} (hf : f ∈ State.reset.mg.fifos) : f.AsReset := by
  rcases List.mem_append.1 hf with hf | hf
  · obtain rfl := List.mem_singleton.1 hf
    exact ⟨rfl, Nat.le_refl 1⟩
  · obtain rfl := List.eq_of_mem_replicate hf
    exact ⟨rfl, Nat.zero_le 1⟩

/-- Nothing to read, nothing lost, nothing counted. -/
theorem Fifo.AsReset.fields {f : Fifo} (h : f.AsReset) : f.recs = [] ∧ f.lost = 0 ∧ f.flushed = 0 ∧ f.nextSeq = 0 := by
  rw [h.1]
  exact ⟨rfl, rfl, rfl, rfl⟩

theorem Fifo.AsReset.fits {f : Fifo} (h : f.AsReset) : f.Fits :=
  ⟨h.fields.1 ▸ Nat.zero_le fifoDepth, Nat.le_trans h.2 (by decide)⟩

/-- Nothing is listed in an empty store, so every object reads its default. -/
theorem get_of_obj_nil {s : State} (h : s.obj = []) (k : Nat) : s.get k = Obj.default k := by
  simp only [State.get, h, Store.find, List.find?_nil, Option.map_none, Option.getD_none]

theorem cond_reset {d : Nat} (h : d < 16) : State.reset.cond d = .reset := by
  have hd : State.reset.pwr.dom = List.replicate 16 Cond.reset := rfl
  rw [State.cond, hd, List.getD_eq_getElem?_getD, List.getElem?_replicate_of_lt h, Option.getD_some]

theorem canonical_reset : Canonical State.reset := ⟨rfl, rfl⟩

theorem bounded_reset : Bounded State.reset :=
  ⟨rfl, fun _ hf => (asReset_of_mem_fifos hf).fits, List.cons_ne_nil _ _, by decide⟩

end Sys2Proof.Machine

namespace Sys2Proof.Machine

/-! ### COUNT: the tick's work leaves it alone

COUNT (`State.now`) moves in one place, the first line of `State.idle`. So each operation that an
idle step calls has a rule of the same form as in Laws/State: it leaves `now` as it is. -/

theorem State.ite_now {c : Prop} {_ : Decidable c} (s t : State) :
    (if c then s else t).now = if c then s.now else t.now :=
  apply_ite State.now c s t

theorem State.foldl_now {α : Type} {f : State → α → State} (hf : ∀ s a, (f s a).now = s.now) (l : List α) (s : State) :
    (l.foldl f s).now = s.now := by
  induction l generalizing s with
  | nil => rfl
  | cons a l ih => exact (ih _).trans (hf s a)

/-- The rule of a loop in the form that names the step's result: the kernel then compares the two states
before it reads their `now`, and need not evaluate the step. -/
theorem State.foldl_now_of_eq {α : Type} {f : State → α → State} (hf : ∀ s a t, t = f s a → t.now = s.now) (l : List α)
    (s : State) : (l.foldl f s).now = s.now :=
  State.foldl_now (fun s a => hf s a _ rfl) l s

@[simp] theorem State.noteCause_now (s : State) (source detail dom : Nat) : (s.noteCause source detail dom).now = s.now := by
  simp [State.noteCause, State.ite_now]

@[simp] theorem State.emptyFifos_now (s : State) : s.emptyFifos.now = s.now := rfl

@[simp] theorem State.stopPll_now (s : State) (cause : Nat) : (s.stopPll cause).now = s.now := by
  unfold State.stopPll
  split <;> rfl

@[simp] theorem State.dropObservers_now (s : State) (sess : Nat) : (s.dropObservers sess).now = s.now := rfl

@[simp] theorem State.coreWake_now (s : State) : s.coreWake.now = s.now := by
  unfold State.coreWake
  split <;> rfl

@[simp] theorem State.raiseFrom_now (s : State) (code sev source dom : Nat) (param : Octets) :
    (s.raiseFrom code sev source dom param).now = s.now := by
  unfold State.raiseFrom
  dsimp only
  split <;> simp

@[simp] theorem State.raiseOn_now (s : State) (code sev source : Nat) (param : Octets) :
    (s.raiseOn code sev source param).now = s.now := by
  simp [State.raiseOn]

@[simp] theorem State.keyMissing_now (s : State) (kind id user : Nat) : (s.keyMissing kind id user).now = s.now := by
  unfold State.keyMissing
  split <;> simp

@[simp] theorem State.setUses_now (s : State) (i : Nat × Nat × Nat) (n : Nat) : (s.setUses i n).now = s.now := rfl

@[simp] theorem State.setCeiling_now (s : State) (k n : Nat) : (s.setCeiling k n).now = s.now := rfl

@[simp] theorem State.reserveCounter_now (s : State) (k step n : Nat) : (s.reserveCounter k step n).now = s.now := by
  unfold State.reserveCounter
  split <;> rfl

@[simp] theorem State.useRec_now (s : State) (r : KeyRec) : (s.useRec r).1.now = s.now := by
  unfold State.useRec
  split
  · rfl
  · split
    · rfl
    · dsimp only
      split <;> simp [State.ite_now]

@[simp] theorem State.useFor_now (s : State) (r : KeyRec) (out : Bool) : (s.useFor r out).1.now = s.now := by
  unfold State.useFor
  split <;> simp

@[simp] theorem State.useKey_now (s : State) (kind id user : Nat) (out : Bool) : (s.useKey kind id user out).1.now = s.now := by
  unfold State.useKey
  split <;> simp

@[simp] theorem State.protectMsg_now (s : State) (ctx : Nat) : (s.protectMsg ctx).1.now = s.now := by
  simp [State.protectMsg]

@[simp] theorem State.reply_now (s : State) (sess : Nat) (t : Tok) (code : Nat) (p : Payload) :
    (s.reply sess t code p).now = s.now := by
  simp [State.reply, State.ite_now]

@[simp] theorem State.replyRc_now (s : State) (sess : Nat) (t : Tok) (rc : Rc) (micros : Option Nat) :
    (s.replyRc sess t rc micros).now = s.now := by
  simp [State.replyRc]

@[simp] theorem State.dropStalled_now (s : State) (sess : Nat) : (s.dropStalled sess).now = s.now :=
  State.foldl_now (fun _ _ => by simp) _ _

@[simp] theorem State.raise_now (s : State) (code sev : Nat) (param : Octets) : (s.raise code sev param).now = s.now := by
  simp [State.raise]

@[simp] theorem State.closeSession_now (s : State) (n cause closing : Nat) : (s.closeSession n cause closing).now = s.now := by
  simp [State.closeSession]

@[simp] theorem State.loseMgmt_now (s : State) : s.loseMgmt.now = s.now := by
  unfold State.loseMgmt
  exact State.foldl_now (fun _ _ => by simp) _ _

@[simp] theorem State.touch_now (s : State) (n : Nat) : (s.touch n).now = s.now := rfl

@[simp] theorem State.loseRequests_now (s : State) : s.loseRequests.now = s.now := by
  unfold State.loseRequests
  rw [State.foldl_now (fun _ _ => State.touch_now ..)]
  exact State.foldl_now (fun _ _ => State.dropStalled_now ..) _ _

@[simp] theorem State.procAborted_now (s : State) (ix : Nat) : (s.procAborted ix).now = s.now := by
  unfold State.procAborted
  split <;> rfl

@[simp] theorem State.wakeSource_now (s : State) (b : Nat) : (s.wakeSource b).now = s.now := by
  simp [State.wakeSource, State.ite_now]

@[simp] theorem State.switch_now (s : State) (d : Nat) (on : Bool) : (s.switch d on).now = s.now := by
  simp [State.switch, State.ite_now]

@[simp] theorem State.chanPower_now (s : State) : s.chanPower.now = s.now := by
  simp [State.chanPower]

@[simp] theorem State.releaseRecs_now (s : State) (p : Recep → Bool) : (s.releaseRecs p).now = s.now := rfl

@[simp] theorem State.radioPower_now (s : State) : s.radioPower.now = s.now := by
  simp [State.radioPower, State.ite_now, State.foldl_now]

@[simp] theorem State.dutyCharge_now (s : State) (freq bw : Nat) (c : Count) (x : Nat) :
    (s.dutyCharge freq bw c x).now = s.now := by
  unfold State.dutyCharge
  exact State.foldl_now (fun _ _ => by simp) _ _

@[simp] theorem State.stepGain_now (s : State) (p n : Nat) : (s.stepGain p n).now = s.now := rfl

@[simp] theorem State.holdGain_now (s : State) (p : Nat) : (s.holdGain p).now = s.now := by
  simp [State.holdGain, State.ite_now]

@[simp] theorem State.unblank_now (s : State) (ps : List Nat) : (s.unblank ps).now = s.now := by
  unfold State.unblank
  exact State.foldl_now (fun _ _ => by split <;> simp) _ _

@[simp] theorem State.femReceive_now (s : State) (p : Nat) : (s.femReceive p).now = s.now := rfl

@[simp] theorem State.femTail_now (s : State) (p : Nat) (te : Tick) : (s.femTail p te).now = s.now := rfl

@[simp] theorem State.retuneOff_now (s : State) (p : Nat) (run : RetuneRun) (n : Nat) : (s.retuneOff p run n).now = s.now := by
  unfold State.retuneOff
  split <;> simp

@[simp] theorem State.abortRetune_now (s : State) : s.abortRetune.now = s.now := by
  unfold State.abortRetune
  refine (State.radioPower_now _).trans (State.foldl_now_of_eq (fun s e t h => ?_) _ _)
  rw [h, State.retuneOff_now]

@[simp] theorem State.synth_now (s : State) (c st : Nat) : (s.synth c st).now = s.now := rfl

@[simp] theorem State.abortCal_now (s : State) (c : Nat) : (s.abortCal c).now = s.now := by
  unfold State.abortCal
  dsimp only
  split <;> simp

@[simp] theorem State.seat_now (s : State) (n : Node) : (s.seat n).1.now = s.now := rfl

@[simp] theorem State.deltaMoves_now (s : State) (n : Nat) : (s.deltaMoves n).now = s.now := by
  unfold State.deltaMoves
  split <;> rfl

@[simp] theorem State.insertNode_now (s : State) (n : Node) : (s.insertNode n).1.now = s.now := by
  unfold State.insertNode
  dsimp only
  split <;> simp

@[simp] theorem State.backlog_now (s : State) : s.backlog.now = s.now := rfl

@[simp] theorem State.pairFrame_now (s : State) (o : Octets) : (s.pairFrame o).now = s.now := by
  unfold State.pairFrame
  exact State.foldl_now (fun _ _ => by simp) _ _

@[simp] theorem State.sendStream_now (s : State) (n : Nat) (l : List StreamRec) : (s.sendStream n l).now = s.now := by
  simp [State.sendStream, State.ite_now]

@[simp] theorem State.stream_now (s : State) (r : StreamRec) : (s.stream r).now = s.now := by
  unfold State.stream
  split <;> simp

@[simp] theorem State.streamNode_now (s : State) (i : Nat) : (s.streamNode i).now = s.now := by
  simp [State.streamNode]

@[simp] theorem State.mirrorNodes_now (s : State) : s.mirrorNodes.now = s.now := rfl

@[simp] theorem State.delta_now (s : State) (i : Nat) : (s.delta i).now = s.now := rfl

@[simp] theorem State.nodeChanged_now (s : State) (i : Nat) : (s.nodeChanged i).now = s.now := by
  simp [State.nodeChanged]

@[simp] theorem State.procDone_now (s : State) (ix : Nat) (rc : Rc) : (s.procDone ix rc).now = s.now := by
  unfold State.procDone
  split <;> rfl

@[simp] theorem State.random_now (s : State) (n : Nat) : (s.random n).2.now = s.now := rfl

@[simp] theorem State.rehashBegin_now (s : State) (byProc : Bool) : (s.rehashBegin byProc).now = s.now := by
  unfold State.rehashBegin
  split <;> simp

@[simp] theorem State.rehashAuto_now (s : State) : s.rehashAuto.now = s.now := by
  simp [State.rehashAuto]

@[simp] theorem State.seatRefused_now (s : State) (eui : Nat) : (s.seatRefused eui).now = s.now := by
  simp [State.seatRefused, State.ite_now]

@[simp] theorem State.enterStreamed_now (s : State) (n : Node) : (s.enterStreamed n).now = s.now := by
  unfold State.enterStreamed
  dsimp only
  split <;> simp

@[simp] theorem State.releaseHeld_now (s : State) : s.releaseHeld.now = s.now := by
  unfold State.releaseHeld
  exact State.foldl_now (fun _ _ => by simp) _ _

@[simp] theorem State.rehashEnd_now (s : State) (rc : Rc) (held : Nat) : (s.rehashEnd rc held).now = s.now := by
  unfold State.rehashEnd
  dsimp only
  split <;> simp

@[simp] theorem State.mirrorSx_now (s : State) : s.mirrorSx.now = s.now := rfl

@[simp] theorem State.setRate_now (s : State) (r : Int) : (s.setRate r).now = s.now := rfl

@[simp] theorem State.ppsHold_now (s : State) : s.ppsHold.now = s.now := by
  unfold State.ppsHold
  split <;> rfl

@[simp] theorem State.sxGo_now (s : State) (want cause unc : Nat) : (s.sxGo want cause unc).now = s.now := by
  simp [State.sxGo, State.ite_now]

@[simp] theorem State.sxLost_now (s : State) (cause : Nat) : (s.sxLost cause).now = s.now := by
  unfold State.sxLost
  split <;> simp

@[simp] theorem State.ptpPortLoss_now (s : State) (p st : Nat) : (s.ptpPortLoss p st).now = s.now := by
  simp [State.ptpPortLoss, State.ite_now]

@[simp] theorem State.ptpLink_now (s : State) (p : Nat) (up : Bool) : (s.ptpLink p up).now = s.now := by
  simp [State.ptpLink, State.ite_now]

@[simp] theorem State.goLink_now (s : State) (p st : Nat) : (s.goLink p st).now = s.now := by
  simp [State.goLink]

@[simp] theorem State.disable_now (s : State) (p : Nat) : (s.disable p).now = s.now := by
  simp [State.disable]

@[simp] theorem State.listen_now (s : State) (p : Nat) : (s.listen p).now = s.now := by
  simp [State.listen]

@[simp] theorem State.enablePort_now (s : State) (p : Nat) : (s.enablePort p).now = s.now := by
  unfold State.enablePort
  dsimp only
  split <;> simp

@[simp] theorem State.endLoopback_now (s : State) (p : Nat) : (s.endLoopback p).now = s.now := by
  unfold State.endLoopback
  repeat' split
  all_goals simp [State.ite_now]

@[simp] theorem State.keyJournal_now (s : State) (op kind id old new handle : Nat) :
    (s.keyJournal op kind id old new handle).now = s.now := rfl

@[simp] theorem State.dropImport_now (s : State) (run : ImportRun) : (s.dropImport run).now = s.now := by
  unfold State.dropImport
  split <;> rfl

@[simp] theorem State.abortImport_now (s : State) (h : Nat) : (s.abortImport h).now = s.now := by
  unfold State.abortImport
  split <;> simp

@[simp] theorem State.keyCommitted_now (s : State) (kind op id gen handle ix : Nat) :
    (s.keyCommitted kind op id gen handle ix).now = s.now := by
  simp [State.keyCommitted]

@[simp] theorem State.dropUses_now (s : State) (it : Nat × Nat × Nat → Bool) : (s.dropUses it).now = s.now := rfl

@[simp] theorem State.eraseKey_now (s : State) (kind id : Nat) : (s.eraseKey kind id).now = s.now := rfl

@[simp] theorem State.removeKey_now (s : State) (kind id handle : Nat) : (s.removeKey kind id handle).now = s.now := by
  rw [State.removeKey, State.eraseKey_now, State.keyJournal_now]

@[simp] theorem State.dropGroupOld_now (s : State) (x : Rollover) (old : Option Nat) : (s.dropGroupOld x old).now = s.now := by
  unfold State.dropGroupOld
  repeat' split
  all_goals simp [State.ite_now]

@[simp] theorem State.testResult_now (s : State) (t : TestRun) (out micros : Nat) : (s.testResult t out micros).now = s.now := by
  simp [State.testResult]

@[simp] theorem State.holdHunters_now (s : State) (p : Nat) (held : Bool) : (s.holdHunters p held).now = s.now := rfl

@[simp] theorem State.calChainOff_now (s : State) (c : Nat) : (s.calChainOff c).now = s.now := by
  simp [State.calChainOff]

@[simp] theorem State.abortTest_now (s : State) (t : TestRun) : (s.abortTest t).now = s.now := by
  simp [State.abortTest, State.ite_now]

theorem State.getD_ite_now {c : Prop} {_ : Decidable c} {s : State} {a b : Option State} (ha : (a.getD s).now = s.now)
    (hb : (b.getD s).now = s.now) : ((if c then a else b).getD s).now = s.now := by
  split
  · exact ha
  · exact hb

@[simp] theorem State.abortWork_now (s : State) (ix : Nat) : ((s.abortWork ix).getD s).now = s.now := by
  unfold State.abortWork
  dsimp only
  repeat' (first | with_reducible refine State.getD_ite_now ?_ ?_ | split)
  all_goals simp [State.foldl_now, State.foldl_now fun s i => State.updNode_now s i _]

@[simp] theorem State.resetProc_now (s : State) (ix : Nat) : (s.resetProc ix).now = s.now := by
  simp [State.resetProc]

@[simp] theorem State.abortProcs_now (s : State) (r : List Nat) (source detail : Nat) :
    (s.abortProcs r source detail).now = s.now := by
  unfold State.abortProcs
  exact State.foldl_now (fun _ _ => by split <;> simp) _ _

@[simp] theorem State.line_now (s : State) (kind p : Nat) (args : List Nat) : (s.line kind p args).now = s.now := rfl

@[simp] theorem State.cutWire_now (s : State) (p : Nat) : (s.cutWire p).now = s.now := by
  unfold State.cutWire
  repeat' split
  all_goals simp

@[simp] theorem State.arrive_now (s : State) (p : Nat) (f : UpFrame) : (s.arrive p f).now = s.now := rfl

@[simp] theorem State.spoolDrain_now (s : State) (p : Nat) : (s.spoolDrain p).now = s.now := by
  unfold State.spoolDrain
  split
  · rfl
  · simp [State.ite_now, State.foldl_now fun s f => State.arrive_now s p f]

@[simp] theorem State.pauseEnd_now (s : State) (p : Nat) (x : Pause) (t : Count) : (s.pauseEnd p x t).now = s.now := by
  simp [State.pauseEnd, State.ite_now]

@[simp] theorem State.spoolDiscard_now (s : State) : s.spoolDiscard.now = s.now := by
  unfold State.spoolDiscard
  dsimp only
  split <;> simp

@[simp] theorem State.spoolRoom_now (s : State) (cls octets n : Nat) : (s.spoolRoom cls octets n).1.now = s.now := by
  induction n generalizing s with
  | zero => rfl
  | succ n ih =>
    unfold State.spoolRoom
    split
    · rfl
    · split
      · rfl
      · rw [ih, State.spoolDiscard_now]

@[simp] theorem State.lodestarRoom_now (s : State) : s.lodestarRoom.now = s.now := by
  unfold State.lodestarRoom
  split <;> simp

@[simp] theorem State.spoolWrite_now (s : State) (f : UpFrame) : (s.spoolWrite f).now = s.now := by
  unfold State.spoolWrite
  dsimp only
  split <;> simp

@[simp] theorem State.spoolStart_now (s : State) : s.spoolStart.now = s.now := by
  simp [State.spoolStart, State.foldl_now]

@[simp] theorem State.portDown_now (s : State) (p : Nat) : (s.portDown p).now = s.now := by
  simp [State.portDown, State.ite_now, State.foldl_now fun s f => State.arrive_now s (1 - p) f]

@[simp] theorem State.leaveUp_now (s : State) (p cause : Nat) : (s.leaveUp p cause).now = s.now := by
  unfold State.leaveUp
  dsimp only
  rw [State.portDown_now, State.ite_now, State.disable_now, State.listen_now, ite_self, State.setN_now, State.setN_now,
    State.updTport_now, State.foldl_now_of_eq (fun s y t h => by rw [h, State.pauseEnd_now]), State.raiseOn_now,
    State.cutWire_now]

@[simp] theorem State.retrained_now (s : State) (p : Nat) : (s.retrained p).now = s.now := by
  simp [State.retrained, State.ite_now]

@[simp] theorem State.loseTrunk_now (s : State) (p : Nat) : (s.loseTrunk p).now = s.now := by
  unfold State.loseTrunk
  split <;> simp

@[simp] theorem State.setFrames_now (s : State) (l : List Frame) : (s.setFrames l).now = s.now := rfl

@[simp] theorem State.dropWheel_now (s : State) (p : Wheel → Bool) : (s.dropWheel p).now = s.now := rfl

@[simp] theorem State.dutyDropAll_now (s : State) (ref : Nat) : (s.dutyDropAll ref).now = s.now := rfl

@[simp] theorem State.reserveSeq_now (s : State) (k step n : Nat) : (s.reserveSeq k step n).now = s.now := by
  unfold State.reserveSeq
  dsimp only
  split <;> simp

@[simp] theorem State.takeCounter_now (s : State) (k step : Nat) : (s.takeCounter k step).2.now = s.now := by
  simp [State.takeCounter]

@[simp] theorem State.sendOwn_now (s : State) (o : Out) (octets : Nat) : (s.sendOwn o octets).now = s.now := by
  simp [State.sendOwn, State.ite_now, State.foldl_now fun s q => State.arrive_now s q _]

@[simp] theorem State.sendAdm_now (s : State) (dst type ctx seq : Nat) (body : Octets) (o : Out) (octets : Nat) :
    (s.sendAdm dst type ctx seq body o octets).now = s.now := by
  simp [State.sendAdm, State.ite_now]

@[simp] theorem State.report_now (s : State) (ref st : Nat) (t : Tick) : (s.report ref st t).now = s.now := by
  unfold State.report
  split
  · rfl
  · simp [State.ite_now]

@[simp] theorem State.attemptEnds_now (s : State) (ref cell asn reason : Nat) :
    (s.attemptEnds ref cell asn reason).now = s.now := rfl

@[simp] theorem State.deliverUnacked_now (s : State) (g : Group) (fs : List AirFrame) : (s.deliverUnacked g fs).now = s.now := by
  unfold State.deliverUnacked
  exact State.foldl_now (fun _ _ => by split <;> simp) _ _

@[simp] theorem State.dutyDrop_now (s : State) (ref inst : Nat) : (s.dutyDrop ref inst).now = s.now := rfl

@[simp] theorem State.chargeGroup_now (s : State) (g : Group) (cut : Option Nat) : (s.chargeGroup g cut).now = s.now := by
  unfold State.chargeGroup
  exact State.foldl_now (fun _ _ => by simp [State.ite_now]) _ _

@[simp] theorem State.groupOff_now (s : State) (g : Group) (te : Tick) : (s.groupOff g te).now = s.now := by
  unfold State.groupOff
  dsimp only
  split <;> simp

@[simp] theorem State.cutItems_now (s : State) (g : Group) : (s.cutItems g).now = s.now := rfl

@[simp] theorem State.fresh_now (s : State) : s.fresh.2.now = s.now := rfl

@[simp] theorem State.setBe_now (s : State) (node be skip : Nat) : (s.setBe node be skip).now = s.now := rfl

@[simp] theorem State.addDue_now (s : State) (d : Due) : (s.addDue d).now = s.now := rfl

@[simp] theorem State.sharedMiss_now (s : State) (w : AckWait) : (s.sharedMiss w).now = s.now := by
  unfold State.sharedMiss
  dsimp only
  split <;> simp

@[simp] theorem State.drifted_now (s : State) (i cause : Nat) (e : Option Int) (lee tag : Nat) :
    (s.drifted i cause e lee tag).now = s.now := by
  simp [State.drifted]

@[simp] theorem State.setNodeState_now (s : State) (i : Nat) (st : NodeState) : (s.setNodeState i st).now = s.now := by
  simp [State.setNodeState]

@[simp] theorem State.lost_now (s : State) (i misses : Nat) : (s.lost i misses).now = s.now := by
  simp [State.lost, State.foldl_now]

@[simp] theorem State.miss_now (s : State) (i sf tag : Nat) : (s.miss i sf tag).now = s.now := by
  unfold State.miss
  repeat' split
  all_goals simp [State.ite_now]

@[simp] theorem State.cutGroup_now (s : State) (g : Group) : (s.cutGroup g).now = s.now := by
  simp [State.cutGroup, State.ite_now, State.foldl_now]

@[simp] theorem State.loseChain_now (s : State) (c : Nat) : (s.loseChain c).now = s.now := by
  unfold State.loseChain
  dsimp only
  refine (State.setN_now ..).trans ((State.foldl_now (fun _ _ => ?_) _ _).trans ((State.updChain_now ..).trans ?_))
  · exact (State.updPort_now ..).trans (State.retuneOff_now ..)
  · split
    · rfl
    · exact State.cutGroup_now ..

@[simp] theorem State.blankRecs_now (s : State) (p : Recep → Bool) : (s.blankRecs p).now = s.now := by
  unfold State.blankRecs
  exact State.foldl_now (fun _ _ => by simp) _ _

@[simp] theorem State.loseReceive_now (s : State) (r : List Nat) : (s.loseReceive r).now = s.now := by
  simp [State.loseReceive, State.ite_now]

@[simp] theorem State.loseDelta_now (s : State) : s.loseDelta.now = s.now := by
  unfold State.loseDelta
  split <;> rfl

@[simp] theorem State.loseFront_now (s : State) : s.loseFront.now = s.now := rfl

@[simp] theorem State.loseAlmanac_now (s : State) (dram : Bool) : (s.loseAlmanac dram).now = s.now := rfl

@[simp] theorem State.losePilot_now (s : State) : s.losePilot.now = s.now := rfl

@[simp] theorem State.noteLost_now (s : State) (source : Nat) (dram : Bool) : (s.noteLost source dram).now = s.now := by
  simp [State.noteLost, State.ite_now]

@[simp] theorem State.loseServo_now (s : State) : s.loseServo.now = s.now := by
  unfold State.loseServo
  exact State.foldl_now (fun _ _ => by split <;> simp) _ _

@[simp] theorem State.setP_now (s : State) (k : Nat) (v : Val) : (s.setP k v).now = s.now := by
  unfold State.setP
  split <;> rfl

@[simp] theorem State.setSf_now (s : State) (f : Nat) (x : Slotframe) : (s.setSf f x).now = s.now := by
  simp [State.setSf, State.ite_now]

@[simp] theorem State.restage_now (s : State) (sfs : List Slotframe) : (s.restage sfs).now = s.now := by
  unfold State.restage
  exact State.foldl_now (fun _ _ => by simp) _ _

@[simp] theorem State.loseHelm_now (s : State) (dram ledger served : Bool) : (s.loseHelm dram ledger served).now = s.now := by
  unfold State.loseHelm
  exact State.foldl_now (fun _ _ => by simp) _ _

@[simp] theorem State.loseDram_now (s : State) : s.loseDram.now = s.now := rfl

@[simp] theorem State.lookAhead_now (s : State) : s.lookAhead.now = s.now := rfl

@[simp] theorem State.countUnindexed_now (s : State) : s.countUnindexed.now = s.now := rfl

@[simp] theorem State.tableFrom_now (s : State) (t : List Slotframe × List (Nat × Cell)) : (s.tableFrom t).now = s.now := by
  unfold State.tableFrom
  dsimp only
  rw [State.lookAhead_now, State.countUnindexed_now, State.foldl_now (fun _ _ => State.setN_now ..)]

@[simp] theorem State.reloadTable_now (s : State) : s.reloadTable.now = s.now := by
  unfold State.reloadTable
  split
  · rfl
  · rw [State.tableFrom_now]

@[simp] theorem State.loseDomains_now (s : State) (r : List Nat) (source : Nat) (dram : Bool) :
    (s.loseDomains r source dram).now = s.now := by
  simp [State.loseDomains, State.ite_now]

@[simp] theorem State.loseBinnacle_now (s : State) : s.loseBinnacle.now = s.now := rfl

@[simp] theorem State.loseObjs_now (s : State) (r : List Nat) (aborted : List Nat) : (s.loseObjs r aborted).now = s.now := rfl

@[simp] theorem State.biasFor_now (s : State) (st : Nat) : (s.biasFor st).now = s.now := rfl

@[simp] theorem State.intoReset_now (s : State) (r : List Nat) (source detail : Nat) :
    (s.intoReset r source detail).now = s.now := by
  simp [State.intoReset, State.ite_now, State.foldl_now]

@[simp] theorem State.assertReset_now (s : State) (source dom detail : Nat) : (s.assertReset source dom detail).now = s.now := by
  simp [State.assertReset, State.ite_now]

@[simp] theorem State.domainReset_now (s : State) (d : Nat) : (s.domainReset d).now = s.now := by
  simp [State.domainReset]

@[simp] theorem State.domainTick_now (s : State) : s.domainTick.now = s.now := by
  unfold State.domainTick
  repeat' split
  all_goals simp

@[simp] theorem State.enterStandby_now (s : State) (e : Entry) : (s.enterStandby e).now = s.now := by
  unfold State.enterStandby
  rw [State.raiseOn_now]
  dsimp only
  rw [State.updPwr_now, State.setCond_now, State.foldl_now (fun _ _ => State.setCond_now ..), State.loseObjs_now,
    State.loseDomains_now]

@[simp] theorem State.chartState_now (s : State) : s.chartState.now = s.now := by
  unfold State.chartState
  split <;> rfl

@[simp] theorem State.lbDrain_now (s : State) : s.lbDrain.now = s.now := by
  unfold State.lbDrain
  exact State.foldl_now (fun _ _ => by simp) _ _

@[simp] theorem State.stopClocks_now (s : State) (ds : List Nat) : (s.stopClocks ds).now = s.now := by
  unfold State.stopClocks
  exact State.foldl_now (fun _ _ => by split <;> simp) _ _

@[simp] theorem State.entryWork_now (s : State) (step : Nat) : (s.entryWork step).now = s.now := by
  simp [State.entryWork, State.ite_now]

@[simp] theorem State.abandon_now (s : State) (e : Entry) : (s.abandon e).now = s.now := by
  simp [State.abandon, State.ite_now, State.foldl_now]

@[simp] theorem State.entryTick_now (s : State) : s.entryTick.now = s.now := by
  unfold State.entryTick
  repeat' split
  all_goals simp [State.ite_now]

@[simp] theorem State.biasTick_now (s : State) : s.biasTick.now = s.now := by
  unfold State.biasTick
  split
  · rfl
  · simp [State.ite_now, State.foldl_now]

@[simp] theorem State.synthRest_now (s : State) : s.synthRest.now = s.now := by
  unfold State.synthRest
  exact State.foldl_now (fun _ _ => by split <;> simp) _ _

@[simp] theorem State.synthRelock_now (s : State) : s.synthRelock.now = s.now := by
  unfold State.synthRelock
  exact State.foldl_now (fun _ _ => by split <;> simp) _ _

/-- An idle step moves COUNT by 1 ns while the system PLL is locked, and by nothing else. -/
theorem State.idle_now (s : State) : s.idle.now = if s.rst.pll then s.now + 1 else s.now := by
  unfold State.idle
  dsimp only
  rw [State.domainTick_now, State.entryTick_now, State.biasTick_now, State.synthRest_now, State.synthRelock_now, State.ite_now]

end Sys2Proof.Machine

section
open Sys2Proof.Machine

/-- Settles O51: a step keeps the canonical form of both stores, as each of its operations does. -/
theorem stepKeepsCanonicalStores : Obligations.StepKeepsCanonicalStores := by
  intro s t hs ht
  obtain ⟨u, hu, hk⟩ := step_keeps s
  obtain rfl : u = t := by simpa [hu] using ht
  exact hk.canonical hs

/-- Settles O48: with no command waiting the step is the tick, which moves COUNT by its rule and leaves the queue as it is. -/
theorem idleStepTicks : Obligations.IdleStepTicks := by
  intro s hq
  exact ⟨s.idle, by simp [step, hq], s.idle_now, (Keeps.refl s).idle.queueSame.trans hq⟩

/-- Settles O49: the stores are empty, so each object reads its default, and every other part stands as State.reset writes it. -/
theorem resetState : Obligations.ResetState :=
  ⟨get_of_obj_nil rfl, fun _ => cond_reset, rfl, fun _ hf => (asReset_of_mem_fifos hf).fields, rfl, rfl, rfl⟩

/-- Settles O50: empty stores are canonical, and the FIFOs and the journal of State.reset hold a record at most. -/
theorem invariantsHoldAtReset : Obligations.InvariantsHoldAtReset := ⟨canonical_reset, bounded_reset⟩

end

namespace Sys2Proof.Machine

/-! ### What the supply watch has found

The save, the trips, the backup cell, the causes to report: fields of `Power` that no event raised, no procedure aborted, no
domain lost and no reset asserted changes. An operation that leaves all of `pwr` alone says so (`_pwr`);
the others leave what the supply watch has found (`_watch`). -/

/-- The power state with all but what the supply watch has found blanked out. -/
def Power.watch (p : Power) : Power :=
  { p with dom := [], bias := [], biasAt := none, standby := false, entry := none, holdWait := false, lastRequest := 0,
           woken := false, wakeAt := none, modeFrom := none, modeInForce := 0 }

/-- Two power states agree in what the supply watch has found where they agree in each finding. -/
theorem Power.watch_eq_iff {p q : Power} :
    p.watch = q.watch ↔
      p.off = q.off ∧ p.anchor = q.anchor ∧ p.anchorEv = q.anchorEv ∧ p.aonCause = q.aonCause ∧ p.pfailN = q.pfailN ∧
        p.warn = q.warn ∧ p.warnMin = q.warnMin ∧ p.thermal = q.thermal ∧ p.brownout = q.brownout ∧
        p.vbatAt = q.vbatAt ∧ p.vbatLowAt = q.vbatLowAt := by
  simp [Power.watch]

@[simp] theorem Power.watch_woken (p : Power) (b : Bool) : { p with woken := b }.watch = p.watch := rfl
@[simp] theorem Power.watch_holdWait (p : Power) (b : Bool) : { p with holdWait := b }.watch = p.watch := rfl
@[simp] theorem Power.watch_entry (p : Power) (e : Option Entry) : { p with entry := e }.watch = p.watch := rfl
@[simp] theorem Power.watch_wakeAt (p : Power) (c : Option Count) : { p with wakeAt := c }.watch = p.watch := rfl
@[simp] theorem Power.watch_entryEnd (p : Power) :
    { p with entry := none, standby := false, holdWait := false }.watch = p.watch := rfl
@[simp] theorem Power.watch_mode (p : Power) (n : Nat) (c : Option Count) :
    { p with modeInForce := n, modeFrom := c }.watch = p.watch := rfl

@[simp] theorem State.setCond_watch (s : State) (d : Nat) (c : Cond) : (s.setCond d c).pwr.watch = s.pwr.watch := rfl

theorem State.ite_pwr {c : Prop} {_ : Decidable c} (s t : State) :
    (if c then s else t).pwr = if c then s.pwr else t.pwr :=
  apply_ite State.pwr c s t

theorem State.ite_watch {c : Prop} {_ : Decidable c} (s t : State) :
    (if c then s else t).pwr.watch = if c then s.pwr.watch else t.pwr.watch :=
  apply_ite (fun s => s.pwr.watch) c s t

/-- A loop leaves alone what each of its rounds does. -/
theorem State.foldl_same {α β : Type} (π : State → β) {f : State → α → State} (hf : ∀ s a, π (f s a) = π s)
    (l : List α) (s : State) : π (l.foldl f s) = π s := by
  induction l generalizing s with
  | nil => rfl
  | cons a l ih => exact (ih _).trans (hf s a)

theorem State.foldl_pwr {α : Type} {f : State → α → State} (hf : ∀ s a, (f s a).pwr = s.pwr) (l : List α) (s : State) :
    (l.foldl f s).pwr = s.pwr :=
  State.foldl_same State.pwr hf l s

theorem State.foldl_watch {α : Type} {f : State → α → State} (hf : ∀ s a, (f s a).pwr.watch = s.pwr.watch) (l : List α)
    (s : State) : (l.foldl f s).pwr.watch = s.pwr.watch :=
  State.foldl_same (fun s => s.pwr.watch) hf l s

/-- As State.foldl_now_of_eq: the step's result has a name, so that the kernel need not evaluate the step. -/
theorem State.foldl_watch_of_eq {α : Type} {f : State → α → State} (hf : ∀ s a t, t = f s a → t.pwr.watch = s.pwr.watch)
    (l : List α) (s : State) : (l.foldl f s).pwr.watch = s.pwr.watch :=
  State.foldl_watch (fun s a => hf s a _ rfl) l s

theorem State.getD_ite_watch {c : Prop} {_ : Decidable c} {s : State} {a b : Option State}
    (ha : (a.getD s).pwr.watch = s.pwr.watch) (hb : (b.getD s).pwr.watch = s.pwr.watch) :
    ((if c then a else b).getD s).pwr.watch = s.pwr.watch := by
  split
  · exact ha
  · exact hb

@[simp] theorem State.noteCause_pwr (s : State) (source detail dom : Nat) : (s.noteCause source detail dom).pwr = s.pwr := by
  simp [State.noteCause, State.ite_pwr]

@[simp] theorem State.emptyFifos_pwr (s : State) : s.emptyFifos.pwr = s.pwr := rfl

@[simp] theorem State.stopPll_pwr (s : State) (cause : Nat) : (s.stopPll cause).pwr = s.pwr := by
  unfold State.stopPll
  split <;> rfl

@[simp] theorem State.dropObservers_pwr (s : State) (sess : Nat) : (s.dropObservers sess).pwr = s.pwr := rfl

@[simp] theorem State.coreWake_watch (s : State) : s.coreWake.pwr.watch = s.pwr.watch := by
  unfold State.coreWake
  split <;> rfl

@[simp] theorem State.raiseFrom_watch (s : State) (code sev source dom : Nat) (param : Octets) :
    (s.raiseFrom code sev source dom param).pwr.watch = s.pwr.watch := by
  unfold State.raiseFrom
  dsimp only
  split <;> simp

@[simp] theorem State.raiseOn_watch (s : State) (code sev source : Nat) (param : Octets) :
    (s.raiseOn code sev source param).pwr.watch = s.pwr.watch := by
  simp [State.raiseOn]

@[simp] theorem State.keyMissing_watch (s : State) (kind id user : Nat) :
    (s.keyMissing kind id user).pwr.watch = s.pwr.watch := by
  unfold State.keyMissing
  split <;> simp

@[simp] theorem State.setUses_pwr (s : State) (i : Nat × Nat × Nat) (n : Nat) : (s.setUses i n).pwr = s.pwr := rfl

@[simp] theorem State.reserveCounter_pwr (s : State) (k step n : Nat) : (s.reserveCounter k step n).pwr = s.pwr := by
  unfold State.reserveCounter
  split <;> rfl

@[simp] theorem State.useRec_watch (s : State) (r : KeyRec) : (s.useRec r).1.pwr.watch = s.pwr.watch := by
  unfold State.useRec
  split
  · rfl
  · split
    · rfl
    · dsimp only
      split <;> simp [State.ite_watch]

@[simp] theorem State.useFor_watch (s : State) (r : KeyRec) (out : Bool) : (s.useFor r out).1.pwr.watch = s.pwr.watch := by
  unfold State.useFor
  split <;> simp

@[simp] theorem State.useKey_watch (s : State) (kind id user : Nat) (out : Bool) :
    (s.useKey kind id user out).1.pwr.watch = s.pwr.watch := by
  unfold State.useKey
  split <;> simp

@[simp] theorem State.protectMsg_watch (s : State) (ctx : Nat) : (s.protectMsg ctx).1.pwr.watch = s.pwr.watch := by
  simp [State.protectMsg]

@[simp] theorem State.reply_watch (s : State) (sess : Nat) (t : Tok) (code : Nat) (p : Payload) :
    (s.reply sess t code p).pwr.watch = s.pwr.watch := by
  simp [State.reply, State.ite_watch]

@[simp] theorem State.replyRc_watch (s : State) (sess : Nat) (t : Tok) (rc : Rc) (micros : Option Nat) :
    (s.replyRc sess t rc micros).pwr.watch = s.pwr.watch := by
  simp [State.replyRc]

@[simp] theorem State.dropStalled_watch (s : State) (sess : Nat) : (s.dropStalled sess).pwr.watch = s.pwr.watch :=
  State.foldl_watch (fun _ _ => by simp) _ _

@[simp] theorem State.raise_watch (s : State) (code sev : Nat) (param : Octets) :
    (s.raise code sev param).pwr.watch = s.pwr.watch := by
  simp [State.raise]

@[simp] theorem State.closeSession_watch (s : State) (n cause closing : Nat) :
    (s.closeSession n cause closing).pwr.watch = s.pwr.watch := by
  simp [State.closeSession]

@[simp] theorem State.loseMgmt_watch (s : State) : s.loseMgmt.pwr.watch = s.pwr.watch := by
  unfold State.loseMgmt
  exact State.foldl_watch (fun _ _ => by simp) _ _

@[simp] theorem State.touch_pwr (s : State) (n : Nat) : (s.touch n).pwr = s.pwr := rfl

@[simp] theorem State.loseRequests_watch (s : State) : s.loseRequests.pwr.watch = s.pwr.watch := by
  unfold State.loseRequests
  rw [State.foldl_watch (fun _ _ => congrArg Power.watch (State.touch_pwr ..))]
  exact State.foldl_watch (fun _ _ => State.dropStalled_watch ..) _ _

@[simp] theorem State.procAborted_pwr (s : State) (ix : Nat) : (s.procAborted ix).pwr = s.pwr := by
  unfold State.procAborted
  split <;> rfl

@[simp] theorem State.wakeSource_watch (s : State) (b : Nat) : (s.wakeSource b).pwr.watch = s.pwr.watch := by
  simp [State.wakeSource, State.ite_watch]

@[simp] theorem State.switch_watch (s : State) (d : Nat) (on : Bool) : (s.switch d on).pwr.watch = s.pwr.watch := by
  simp [State.switch, State.ite_watch]

@[simp] theorem State.chanPower_watch (s : State) : s.chanPower.pwr.watch = s.pwr.watch := by
  simp [State.chanPower]

@[simp] theorem State.releaseRecs_pwr (s : State) (p : Recep → Bool) : (s.releaseRecs p).pwr = s.pwr := rfl

@[simp] theorem State.radioPower_watch (s : State) : s.radioPower.pwr.watch = s.pwr.watch := by
  simp [State.radioPower, State.ite_watch, State.foldl_watch]

@[simp] theorem State.dutyCharge_pwr (s : State) (freq bw : Nat) (c : Count) (x : Nat) :
    (s.dutyCharge freq bw c x).pwr = s.pwr := by
  unfold State.dutyCharge
  exact State.foldl_pwr (fun _ _ => by simp) _ _

@[simp] theorem State.stepGain_pwr (s : State) (p n : Nat) : (s.stepGain p n).pwr = s.pwr := rfl

@[simp] theorem State.holdGain_pwr (s : State) (p : Nat) : (s.holdGain p).pwr = s.pwr := by
  simp [State.holdGain, State.ite_pwr]

@[simp] theorem State.unblank_pwr (s : State) (ps : List Nat) : (s.unblank ps).pwr = s.pwr := by
  unfold State.unblank
  exact State.foldl_pwr (fun _ _ => by split <;> simp) _ _

@[simp] theorem State.femReceive_pwr (s : State) (p : Nat) : (s.femReceive p).pwr = s.pwr := rfl

@[simp] theorem State.femTail_pwr (s : State) (p : Nat) (te : Tick) : (s.femTail p te).pwr = s.pwr := rfl

@[simp] theorem State.retuneOff_pwr (s : State) (p : Nat) (run : RetuneRun) (n : Nat) :
    (s.retuneOff p run n).pwr = s.pwr := by
  unfold State.retuneOff
  split <;> simp

@[simp] theorem State.abortRetune_watch (s : State) : s.abortRetune.pwr.watch = s.pwr.watch := by
  unfold State.abortRetune
  refine (State.radioPower_watch _).trans (State.foldl_watch_of_eq (fun s e t h => ?_) _ _)
  rw [h, State.retuneOff_pwr]

@[simp] theorem State.synth_pwr (s : State) (c st : Nat) : (s.synth c st).pwr = s.pwr := rfl

@[simp] theorem State.abortCal_pwr (s : State) (c : Nat) : (s.abortCal c).pwr = s.pwr := by
  unfold State.abortCal
  dsimp only
  split <;> simp

@[simp] theorem State.seat_pwr (s : State) (n : Node) : (s.seat n).1.pwr = s.pwr := rfl

@[simp] theorem State.deltaMoves_pwr (s : State) (n : Nat) : (s.deltaMoves n).pwr = s.pwr := by
  unfold State.deltaMoves
  split <;> rfl

@[simp] theorem State.insertNode_pwr (s : State) (n : Node) : (s.insertNode n).1.pwr = s.pwr := by
  unfold State.insertNode
  dsimp only
  split <;> simp

@[simp] theorem State.backlog_pwr (s : State) : s.backlog.pwr = s.pwr := rfl

@[simp] theorem State.pairFrame_pwr (s : State) (o : Octets) : (s.pairFrame o).pwr = s.pwr := by
  unfold State.pairFrame
  exact State.foldl_pwr (fun _ _ => by simp) _ _

@[simp] theorem State.sendStream_watch (s : State) (n : Nat) (l : List StreamRec) :
    (s.sendStream n l).pwr.watch = s.pwr.watch := by
  simp [State.sendStream, State.ite_watch]

@[simp] theorem State.stream_watch (s : State) (r : StreamRec) : (s.stream r).pwr.watch = s.pwr.watch := by
  unfold State.stream
  split <;> simp

@[simp] theorem State.streamNode_watch (s : State) (i : Nat) : (s.streamNode i).pwr.watch = s.pwr.watch := by
  simp [State.streamNode]

@[simp] theorem State.mirrorNodes_pwr (s : State) : s.mirrorNodes.pwr = s.pwr := rfl

@[simp] theorem State.delta_pwr (s : State) (i : Nat) : (s.delta i).pwr = s.pwr := rfl

@[simp] theorem State.nodeChanged_watch (s : State) (i : Nat) : (s.nodeChanged i).pwr.watch = s.pwr.watch := by
  simp [State.nodeChanged]

@[simp] theorem State.procDone_pwr (s : State) (ix : Nat) (rc : Rc) : (s.procDone ix rc).pwr = s.pwr := by
  unfold State.procDone
  split <;> rfl

@[simp] theorem State.random_pwr (s : State) (n : Nat) : (s.random n).2.pwr = s.pwr := rfl

@[simp] theorem State.rehashBegin_pwr (s : State) (byProc : Bool) : (s.rehashBegin byProc).pwr = s.pwr := by
  unfold State.rehashBegin
  split <;> simp

@[simp] theorem State.rehashAuto_pwr (s : State) : s.rehashAuto.pwr = s.pwr := by
  simp [State.rehashAuto]

@[simp] theorem State.seatRefused_watch (s : State) (eui : Nat) : (s.seatRefused eui).pwr.watch = s.pwr.watch := by
  simp [State.seatRefused, State.ite_watch]

@[simp] theorem State.enterStreamed_watch (s : State) (n : Node) : (s.enterStreamed n).pwr.watch = s.pwr.watch := by
  unfold State.enterStreamed
  dsimp only
  split <;> simp

@[simp] theorem State.releaseHeld_watch (s : State) : s.releaseHeld.pwr.watch = s.pwr.watch := by
  unfold State.releaseHeld
  exact State.foldl_watch (fun _ _ => by simp) _ _

@[simp] theorem State.rehashEnd_watch (s : State) (rc : Rc) (held : Nat) :
    (s.rehashEnd rc held).pwr.watch = s.pwr.watch := by
  unfold State.rehashEnd
  dsimp only
  split <;> simp

@[simp] theorem State.setRate_pwr (s : State) (r : Int) : (s.setRate r).pwr = s.pwr := rfl

@[simp] theorem State.ppsHold_pwr (s : State) : s.ppsHold.pwr = s.pwr := by
  unfold State.ppsHold
  split <;> rfl

@[simp] theorem State.sxGo_watch (s : State) (want cause unc : Nat) : (s.sxGo want cause unc).pwr.watch = s.pwr.watch := by
  simp [State.sxGo, State.ite_watch]

@[simp] theorem State.sxLost_watch (s : State) (cause : Nat) : (s.sxLost cause).pwr.watch = s.pwr.watch := by
  unfold State.sxLost
  split <;> simp

@[simp] theorem State.ptpPortLoss_watch (s : State) (p st : Nat) : (s.ptpPortLoss p st).pwr.watch = s.pwr.watch := by
  simp [State.ptpPortLoss, State.ite_watch]

@[simp] theorem State.ptpLink_watch (s : State) (p : Nat) (up : Bool) : (s.ptpLink p up).pwr.watch = s.pwr.watch := by
  simp [State.ptpLink, State.ite_watch]

@[simp] theorem State.goLink_watch (s : State) (p st : Nat) : (s.goLink p st).pwr.watch = s.pwr.watch := by
  simp [State.goLink]

@[simp] theorem State.disable_watch (s : State) (p : Nat) : (s.disable p).pwr.watch = s.pwr.watch := by
  simp [State.disable]

@[simp] theorem State.listen_watch (s : State) (p : Nat) : (s.listen p).pwr.watch = s.pwr.watch := by
  simp [State.listen]

@[simp] theorem State.enablePort_watch (s : State) (p : Nat) : (s.enablePort p).pwr.watch = s.pwr.watch := by
  unfold State.enablePort
  dsimp only
  split <;> simp

@[simp] theorem State.endLoopback_watch (s : State) (p : Nat) : (s.endLoopback p).pwr.watch = s.pwr.watch := by
  unfold State.endLoopback
  repeat' split
  all_goals simp [State.ite_watch]

@[simp] theorem State.keyJournal_pwr (s : State) (op kind id old new handle : Nat) :
    (s.keyJournal op kind id old new handle).pwr = s.pwr := rfl

@[simp] theorem State.dropImport_pwr (s : State) (run : ImportRun) : (s.dropImport run).pwr = s.pwr := by
  unfold State.dropImport
  split <;> rfl

@[simp] theorem State.abortImport_pwr (s : State) (h : Nat) : (s.abortImport h).pwr = s.pwr := by
  unfold State.abortImport
  split <;> simp

@[simp] theorem State.keyCommitted_watch (s : State) (kind op id gen handle ix : Nat) :
    (s.keyCommitted kind op id gen handle ix).pwr.watch = s.pwr.watch := by
  simp [State.keyCommitted]

@[simp] theorem State.eraseKey_pwr (s : State) (kind id : Nat) : (s.eraseKey kind id).pwr = s.pwr := rfl

@[simp] theorem State.removeKey_pwr (s : State) (kind id handle : Nat) : (s.removeKey kind id handle).pwr = s.pwr := by
  rw [State.removeKey, State.eraseKey_pwr, State.keyJournal_pwr]

@[simp] theorem State.dropGroupOld_watch (s : State) (x : Rollover) (old : Option Nat) :
    (s.dropGroupOld x old).pwr.watch = s.pwr.watch := by
  unfold State.dropGroupOld
  repeat' split
  all_goals simp [State.ite_watch]

@[simp] theorem State.testResult_watch (s : State) (t : TestRun) (out micros : Nat) :
    (s.testResult t out micros).pwr.watch = s.pwr.watch := by
  simp [State.testResult]

@[simp] theorem State.holdHunters_pwr (s : State) (p : Nat) (held : Bool) : (s.holdHunters p held).pwr = s.pwr := rfl

@[simp] theorem State.calChainOff_watch (s : State) (c : Nat) : (s.calChainOff c).pwr.watch = s.pwr.watch := by
  simp [State.calChainOff]

@[simp] theorem State.abortTest_watch (s : State) (t : TestRun) : (s.abortTest t).pwr.watch = s.pwr.watch := by
  simp [State.abortTest, State.ite_watch]

@[simp] theorem State.abortWork_watch (s : State) (ix : Nat) : ((s.abortWork ix).getD s).pwr.watch = s.pwr.watch := by
  unfold State.abortWork
  dsimp only
  repeat' (first | with_reducible refine State.getD_ite_watch ?_ ?_ | split)
  all_goals simp [State.foldl_watch, State.foldl_watch fun s i => congrArg Power.watch (State.updNode_pwr s i _)]

@[simp] theorem State.resetProc_watch (s : State) (ix : Nat) : (s.resetProc ix).pwr.watch = s.pwr.watch := by
  simp [State.resetProc]

@[simp] theorem State.abortProcs_watch (s : State) (r : List Nat) (source detail : Nat) :
    (s.abortProcs r source detail).pwr.watch = s.pwr.watch := by
  unfold State.abortProcs
  exact State.foldl_watch (fun _ _ => by split <;> simp) _ _

@[simp] theorem State.line_pwr (s : State) (kind p : Nat) (args : List Nat) : (s.line kind p args).pwr = s.pwr := rfl

@[simp] theorem State.cutWire_pwr (s : State) (p : Nat) : (s.cutWire p).pwr = s.pwr := by
  unfold State.cutWire
  repeat' split
  all_goals simp

@[simp] theorem State.arrive_pwr (s : State) (p : Nat) (f : UpFrame) : (s.arrive p f).pwr = s.pwr := rfl

@[simp] theorem State.spoolDrain_pwr (s : State) (p : Nat) : (s.spoolDrain p).pwr = s.pwr := by
  unfold State.spoolDrain
  split
  · rfl
  · simp [State.ite_pwr, State.foldl_pwr fun s f => State.arrive_pwr s p f]

@[simp] theorem State.pauseEnd_watch (s : State) (p : Nat) (x : Pause) (t : Count) :
    (s.pauseEnd p x t).pwr.watch = s.pwr.watch := by
  simp [State.pauseEnd, State.ite_watch]

@[simp] theorem State.spoolDiscard_watch (s : State) : s.spoolDiscard.pwr.watch = s.pwr.watch := by
  unfold State.spoolDiscard
  dsimp only
  split <;> simp

@[simp] theorem State.spoolRoom_watch (s : State) (cls octets n : Nat) :
    (s.spoolRoom cls octets n).1.pwr.watch = s.pwr.watch := by
  induction n generalizing s with
  | zero => rfl
  | succ n ih =>
    unfold State.spoolRoom
    split
    · rfl
    · split
      · rfl
      · rw [ih, State.spoolDiscard_watch]

@[simp] theorem State.lodestarRoom_watch (s : State) : s.lodestarRoom.pwr.watch = s.pwr.watch := by
  unfold State.lodestarRoom
  split <;> simp

@[simp] theorem State.spoolWrite_watch (s : State) (f : UpFrame) : (s.spoolWrite f).pwr.watch = s.pwr.watch := by
  unfold State.spoolWrite
  dsimp only
  split <;> simp

@[simp] theorem State.spoolStart_watch (s : State) : s.spoolStart.pwr.watch = s.pwr.watch := by
  simp [State.spoolStart, State.foldl_watch]

@[simp] theorem State.portDown_watch (s : State) (p : Nat) : (s.portDown p).pwr.watch = s.pwr.watch := by
  simp [State.portDown, State.ite_watch, State.foldl_watch fun s f => congrArg Power.watch (State.arrive_pwr s (1 - p) f)]

@[simp] theorem State.leaveUp_watch (s : State) (p cause : Nat) : (s.leaveUp p cause).pwr.watch = s.pwr.watch := by
  unfold State.leaveUp
  dsimp only
  rw [State.portDown_watch, State.ite_watch, State.disable_watch, State.listen_watch, ite_self, State.setN_pwr, State.setN_pwr,
    State.updTport_pwr, State.foldl_watch_of_eq (fun s y t h => by rw [h, State.pauseEnd_watch]), State.raiseOn_watch,
    State.cutWire_pwr]

@[simp] theorem State.retrained_pwr (s : State) (p : Nat) : (s.retrained p).pwr = s.pwr := by
  simp [State.retrained, State.ite_pwr]

@[simp] theorem State.loseTrunk_watch (s : State) (p : Nat) : (s.loseTrunk p).pwr.watch = s.pwr.watch := by
  unfold State.loseTrunk
  split <;> simp

@[simp] theorem State.setFrames_pwr (s : State) (l : List Frame) : (s.setFrames l).pwr = s.pwr := rfl

@[simp] theorem State.dropWheel_pwr (s : State) (p : Wheel → Bool) : (s.dropWheel p).pwr = s.pwr := rfl

@[simp] theorem State.dutyDropAll_pwr (s : State) (ref : Nat) : (s.dutyDropAll ref).pwr = s.pwr := rfl

@[simp] theorem State.reserveSeq_watch (s : State) (k step n : Nat) : (s.reserveSeq k step n).pwr.watch = s.pwr.watch := by
  unfold State.reserveSeq
  dsimp only
  split <;> simp

@[simp] theorem State.takeCounter_watch (s : State) (k step : Nat) : (s.takeCounter k step).2.pwr.watch = s.pwr.watch := by
  simp [State.takeCounter]

@[simp] theorem State.sendOwn_pwr (s : State) (o : Out) (octets : Nat) : (s.sendOwn o octets).pwr = s.pwr := by
  simp [State.sendOwn, State.ite_pwr, State.foldl_pwr fun s q => State.arrive_pwr s q _]

@[simp] theorem State.sendAdm_watch (s : State) (dst type ctx seq : Nat) (body : Octets) (o : Out) (octets : Nat) :
    (s.sendAdm dst type ctx seq body o octets).pwr.watch = s.pwr.watch := by
  simp [State.sendAdm, State.ite_watch]

@[simp] theorem State.report_watch (s : State) (ref st : Nat) (t : Tick) : (s.report ref st t).pwr.watch = s.pwr.watch := by
  unfold State.report
  split
  · rfl
  · simp [State.ite_watch]

@[simp] theorem State.attemptEnds_pwr (s : State) (ref cell asn reason : Nat) :
    (s.attemptEnds ref cell asn reason).pwr = s.pwr := rfl

@[simp] theorem State.deliverUnacked_watch (s : State) (g : Group) (fs : List AirFrame) :
    (s.deliverUnacked g fs).pwr.watch = s.pwr.watch := by
  unfold State.deliverUnacked
  exact State.foldl_watch (fun _ _ => by split <;> simp) _ _

@[simp] theorem State.dutyDrop_pwr (s : State) (ref inst : Nat) : (s.dutyDrop ref inst).pwr = s.pwr := rfl

@[simp] theorem State.chargeGroup_pwr (s : State) (g : Group) (cut : Option Nat) : (s.chargeGroup g cut).pwr = s.pwr := by
  unfold State.chargeGroup
  exact State.foldl_pwr (fun _ _ => by simp [State.ite_pwr]) _ _

@[simp] theorem State.groupOff_watch (s : State) (g : Group) (te : Tick) : (s.groupOff g te).pwr.watch = s.pwr.watch := by
  unfold State.groupOff
  dsimp only
  split <;> simp

@[simp] theorem State.cutItems_pwr (s : State) (g : Group) : (s.cutItems g).pwr = s.pwr := rfl

@[simp] theorem State.fresh_pwr (s : State) : s.fresh.2.pwr = s.pwr := rfl

@[simp] theorem State.setBe_pwr (s : State) (node be skip : Nat) : (s.setBe node be skip).pwr = s.pwr := rfl

@[simp] theorem State.addDue_pwr (s : State) (d : Due) : (s.addDue d).pwr = s.pwr := rfl

@[simp] theorem State.sharedMiss_pwr (s : State) (w : AckWait) : (s.sharedMiss w).pwr = s.pwr := by
  unfold State.sharedMiss
  dsimp only
  split <;> simp

@[simp] theorem State.drifted_watch (s : State) (i cause : Nat) (e : Option Int) (lee tag : Nat) :
    (s.drifted i cause e lee tag).pwr.watch = s.pwr.watch := by
  simp [State.drifted]

@[simp] theorem State.setNodeState_watch (s : State) (i : Nat) (st : NodeState) :
    (s.setNodeState i st).pwr.watch = s.pwr.watch := by
  simp [State.setNodeState]

@[simp] theorem State.lost_watch (s : State) (i misses : Nat) : (s.lost i misses).pwr.watch = s.pwr.watch := by
  simp [State.lost, State.foldl_watch]

@[simp] theorem State.miss_watch (s : State) (i sf tag : Nat) : (s.miss i sf tag).pwr.watch = s.pwr.watch := by
  unfold State.miss
  repeat' split
  all_goals simp [State.ite_watch]

@[simp] theorem State.cutGroup_watch (s : State) (g : Group) : (s.cutGroup g).pwr.watch = s.pwr.watch := by
  simp [State.cutGroup, State.ite_watch, State.foldl_watch]

@[simp] theorem State.loseChain_watch (s : State) (c : Nat) : (s.loseChain c).pwr.watch = s.pwr.watch := by
  unfold State.loseChain
  dsimp only
  refine (congrArg Power.watch (State.setN_pwr ..)).trans ((State.foldl_watch (fun _ _ => ?_) _ _).trans
    ((congrArg Power.watch (State.updChain_pwr ..)).trans ?_))
  · exact congrArg Power.watch ((State.updPort_pwr ..).trans (State.retuneOff_pwr ..))
  · split
    · rfl
    · exact State.cutGroup_watch ..

@[simp] theorem State.blankRecs_pwr (s : State) (p : Recep → Bool) : (s.blankRecs p).pwr = s.pwr := by
  unfold State.blankRecs
  exact State.foldl_pwr (fun _ _ => by simp) _ _

@[simp] theorem State.loseReceive_pwr (s : State) (r : List Nat) : (s.loseReceive r).pwr = s.pwr := by
  simp [State.loseReceive, State.ite_pwr]

@[simp] theorem State.loseDelta_pwr (s : State) : s.loseDelta.pwr = s.pwr := by
  unfold State.loseDelta
  split <;> rfl

@[simp] theorem State.loseFront_pwr (s : State) : s.loseFront.pwr = s.pwr := rfl

@[simp] theorem State.loseAlmanac_pwr (s : State) (dram : Bool) : (s.loseAlmanac dram).pwr = s.pwr := rfl

@[simp] theorem State.losePilot_pwr (s : State) : s.losePilot.pwr = s.pwr := rfl

@[simp] theorem State.noteLost_pwr (s : State) (source : Nat) (dram : Bool) : (s.noteLost source dram).pwr = s.pwr := by
  simp [State.noteLost, State.ite_pwr]

@[simp] theorem State.loseServo_pwr (s : State) : s.loseServo.pwr = s.pwr := by
  unfold State.loseServo
  exact State.foldl_pwr (fun _ _ => by split <;> simp) _ _

@[simp] theorem State.setP_pwr (s : State) (k : Nat) (v : Val) : (s.setP k v).pwr = s.pwr := by
  unfold State.setP
  split <;> rfl

@[simp] theorem State.setSf_pwr (s : State) (f : Nat) (x : Slotframe) : (s.setSf f x).pwr = s.pwr := by
  simp [State.setSf, State.ite_pwr]

@[simp] theorem State.loseHelm_pwr (s : State) (dram ledger served : Bool) :
    (s.loseHelm dram ledger served).pwr = s.pwr := by
  unfold State.loseHelm
  exact State.foldl_pwr (fun _ _ => by simp) _ _

@[simp] theorem State.loseDram_pwr (s : State) : s.loseDram.pwr = s.pwr := rfl

@[simp] theorem State.lookAhead_pwr (s : State) : s.lookAhead.pwr = s.pwr := rfl

@[simp] theorem State.countUnindexed_pwr (s : State) : s.countUnindexed.pwr = s.pwr := rfl

@[simp] theorem State.tableFrom_pwr (s : State) (t : List Slotframe × List (Nat × Cell)) : (s.tableFrom t).pwr = s.pwr := by
  unfold State.tableFrom
  dsimp only
  rw [State.lookAhead_pwr, State.countUnindexed_pwr, State.foldl_pwr (fun _ _ => State.setN_pwr ..)]

@[simp] theorem State.reloadTable_pwr (s : State) : s.reloadTable.pwr = s.pwr := by
  unfold State.reloadTable
  split
  · rfl
  · rw [State.tableFrom_pwr]

@[simp] theorem State.loseDomains_watch (s : State) (r : List Nat) (source : Nat) (dram : Bool) :
    (s.loseDomains r source dram).pwr.watch = s.pwr.watch := by
  simp [State.loseDomains, State.ite_watch]

@[simp] theorem State.loseBinnacle_pwr (s : State) : s.loseBinnacle.pwr = s.pwr := rfl

@[simp] theorem State.loseObjs_pwr (s : State) (r : List Nat) (aborted : List Nat) :
    (s.loseObjs r aborted).pwr = s.pwr := rfl

@[simp] theorem State.biasFor_watch (s : State) (st : Nat) : (s.biasFor st).pwr.watch = s.pwr.watch := rfl

@[simp] theorem State.intoReset_watch (s : State) (r : List Nat) (source detail : Nat) :
    (s.intoReset r source detail).pwr.watch = s.pwr.watch := by
  simp [State.intoReset, State.ite_watch, State.foldl_watch]

@[simp] theorem State.assertReset_watch (s : State) (source dom detail : Nat) :
    (s.assertReset source dom detail).pwr.watch = s.pwr.watch := by
  simp [State.assertReset, State.ite_watch]

/-! ### An event raised -/

theorem nth_upd_same {α : Type} [Inhabited α] {l : List α} {n : Nat} (h : n < l.length) (f : α → α) :
    nth (upd l n f) n = f (nth l n) := by
  simp [nth, upd, h]

theorem Fifo.getLast?_write (f : Fifo) (r : EvRec) : (f.write r).recs.getLast? = some { r with seq := f.nextSeq } := by
  unfold Fifo.write
  split <;> simp

theorem Fifo.getLast?_hold (f : Fifo) (r : EvRec) : (f.hold r).held.getLast? = some r := by
  unfold Fifo.hold
  split <;> simp

/-- An event is the newest record of its FIFO, whether written or held until Attach. -/
theorem raised_raiseFrom {s : State} {code : Nat} (h : fifoOf code < s.mg.fifos.length) (sev source dom : Nat) (param : Octets) :
    Raised (s.raiseFrom code sev source dom param) code sev param := by
  simp only [Raised, State.lastEvent, raiseFrom_mg, nth_upd_same h]
  cases s.mg.busy
  · simp [Fifo.getLast?_write]
  · simp [Fifo.getLast?_hold]

@[simp] theorem raiseOn_obj (s : State) (code sev source : Nat) (param : Octets) :
    (s.raiseOn code sev source param).obj = s.obj := by
  simp [State.raiseOn]

@[simp] theorem raiseOn_sx (s : State) (code sev source : Nat) (param : Octets) :
    (s.raiseOn code sev source param).sx = s.sx := by
  simp only [State.raiseOn, State.raiseFrom, State.updFifo_sx]
  split
  · rw [coreWake_same]
  · rfl

theorem coreWake_standby (s : State) : s.coreWake.pwr.standby = s.pwr.standby := by
  unfold State.coreWake
  split <;> rfl

theorem coreWake_holds (s : State) : s.coreWake.rst.holds = s.rst.holds := by
  unfold State.coreWake
  split <;> rfl

@[simp] theorem raiseOn_standby (s : State) (code sev source : Nat) (param : Octets) :
    (s.raiseOn code sev source param).pwr.standby = s.pwr.standby := by
  simp only [State.raiseOn, State.raiseFrom, State.updFifo_pwr]
  split
  · exact coreWake_standby s
  · rfl

@[simp] theorem raiseOn_holds (s : State) (code sev source : Nat) (param : Octets) :
    (s.raiseOn code sev source param).rst.holds = s.rst.holds := by
  simp only [State.raiseOn, State.raiseFrom, State.updFifo_rst]
  split
  · exact coreWake_holds s
  · rfl

/-- What an object reads depends on the dictionary alone. -/
theorem State.getN_of_obj {s t : State} (h : t.obj = s.obj) (k : Nat) : t.getN k = s.getN k := by
  simp only [State.getN, State.getI, State.get, h]

theorem State.getB_of_obj {s t : State} (h : t.obj = s.obj) (k : Nat) : t.getB k = s.getB k := by
  simp only [State.getB, State.get, h]

/-! ### Anchor and the way out of OFF (R403, R417) -/

@[simp] theorem State.lbHead_pwr (s : State) : s.lbHead.pwr = s.pwr := by
  unfold State.lbHead
  split <;> rfl

@[simp] theorem State.radioOff_watch (s : State) : s.radioOff.pwr.watch = s.pwr.watch := by
  unfold State.radioOff
  exact (State.foldl_watch (fun s d => State.setCond_watch s d .off) _ _).trans (by simp)

/-- A trigger of Anchor out of STANDBY starts a save at once, and a thermal trigger stands. -/
theorem anchorStart_saves {s : State} (h : s.pwr.standby = false) (thermal : Bool) (mv : Nat) :
    (s.anchorStart thermal mv).pwr.anchor = some { thermal := thermal, start := s.now, vsense := mv } ∧
      (s.anchorStart thermal mv).pwr.entry = none ∧
      (s.anchorStart thermal mv).pwr.thermal = (s.pwr.thermal || thermal) := by
  have hw := State.radioOff_watch (s.updPwr (fun p => { p with thermal := p.thermal || thermal }))
  obtain ⟨-, -, -, -, -, -, -, ht, -⟩ := Power.watch_eq_iff.1 hw
  simp [State.anchorStart, h, ht]

/-- Out of OFF, with power back and no trip standing, every domain but PD0 AON is powered and held in RESET. -/
theorem leaveOff_of_power {s : State} (ho : s.pwr.off = true) (hs : s.rst.supply = true) (ht : s.pwr.thermal = false) :
    s.leaveOff = ((List.range 15).map (· + 1)).foldl (fun s d => s.setCond d .reset)
      (s.updPwr (fun p => { p with off := false })) := by
  simp only [State.leaveOff, ho, hs, ht, and_self, if_true]

/-- The device goes on, and no object changes. -/
theorem leaveOff_powers {s : State} (ho : s.pwr.off = true) (hs : s.rst.supply = true) (ht : s.pwr.thermal = false) :
    s.leaveOff.pwr.off = false ∧ s.leaveOff.pwr.thermal = false ∧ s.leaveOff.obj = s.obj := by
  rw [leaveOff_of_power ho hs ht]
  obtain ⟨hoff, -, -, -, -, -, -, hthermal, -⟩ := Power.watch_eq_iff.1
    (State.foldl_watch (fun s d => State.setCond_watch s d .reset) ((List.range 15).map (· + 1))
      (s.updPwr (fun p => { p with off := false })))
  exact ⟨hoff, hthermal.trans ht, State.foldl_same State.obj (fun s d => State.setCond_obj s d .reset) _ _⟩

/-! ### The backup cell (R419) -/

/-- VBAT is measured at `mv`. -/
def State.vbatSeen (s : State) (mv : Nat) : State :=
  (s.setN Obj.VBAT_NOW (min 4000 mv)).updPwr (fun p => { p with vbatAt := some s.now })

/-- VBAT_LOW is raised after a measurement. -/
def State.vbatLow (s : State) (mv : Nat) : State :=
  ((s.vbatSeen mv).updPwr (fun p => { p with vbatLowAt := some s.now })).raiseOn 0x1107 2 0x2030 (be 2 (min 4000 mv))

theorem vbatSeen_limit (s : State) (mv : Nat) : (s.vbatSeen mv).getN Obj.VBAT_LOW_LIMIT = s.getN Obj.VBAT_LOW_LIMIT :=
  (State.getN_of_obj (State.updPwr_obj ..) _).trans (State.getN_setN_ne (by decide))

/-- On main power the first measurement is always due; it raises VBAT_LOW below the limit, once in 24 h. -/
theorem execVbatMeasure_of_due {s : State} (hs : s.getN Obj.AON_SUPPLY = 0) (ha : s.pwr.vbatAt = none) (mv : Nat) :
    execVbatMeasure mv s =
      if min 4000 mv < s.getN Obj.VBAT_LOW_LIMIT ∧ s.pwr.vbatLowAt.elim true (fun t => decide (t + 86400 * secC ≤ s.now)) then
        .next (s.vbatLow mv)
      else .next (s.vbatSeen mv) := by
  rw [← vbatSeen_limit s mv]
  exact if_neg (by simp [hs, ha])

theorem vbatLow_power (s : State) (mv : Nat) :
    (s.vbatLow mv).pwr.vbatAt = some s.now ∧ (s.vbatLow mv).pwr.vbatLowAt = some s.now := by
  obtain ⟨-, -, -, -, -, -, -, -, -, hv, hl⟩ := Power.watch_eq_iff.1 (State.raiseOn_watch
    ((s.vbatSeen mv).updPwr (fun p => { p with vbatLowAt := some s.now })) 0x1107 2 0x2030 (be 2 (min 4000 mv)))
  exact ⟨hv, hl⟩

/-! ### The calendar started again (R359) -/

/-- The objects that a restart of the calendar writes. -/
def calObjs : List Nat :=
  [Obj.CAL_YEAR, Obj.CAL_MONTH, Obj.CAL_DAY, Obj.CAL_HOUR, Obj.CAL_MINUTE, Obj.CAL_SECOND, Obj.CAL_WEEKDAY, Obj.CAL_SUBSEC,
    Obj.CAL_HALT, Obj.CAL_END, Obj.CAL_ALARM_FIRED, Obj.CAL_OSF]

/-- The writes of a restart of the calendar, as a read sees them. -/
theorem calRestart_get (s : State) (cause k : Nat) :
    (s.calRestart cause).get k =
      ((((((s.setCal [2000, 1, 1, 0, 0, 0, 6]).setN Obj.CAL_SUBSEC 0).setB Obj.CAL_HALT false).setB Obj.CAL_END false).setB
        Obj.CAL_ALARM_FIRED false).setB Obj.CAL_OSF true).get k := by
  simp only [State.get, State.calRestart, State.setOsf, raiseOn_obj]
  rfl

/-- It writes the calendar's objects and no other. -/
theorem calRestart_get_ne {k : Nat} (s : State) (cause : Nat) (h : k ∉ calObjs) : (s.calRestart cause).get k = s.get k := by
  simp only [calObjs, List.mem_cons, List.not_mem_nil, or_false, not_or] at h
  simp only [calRestart_get, State.setCal, List.zip_cons_cons, List.zip_nil_right, List.foldl_cons, List.foldl_nil,
    State.get_setB_ne, State.get_setN_ne, h, ne_eq, not_false_eq_true]

/-- The calendar stands at 2000-01-01 00:00:00, a Saturday. -/
theorem calRestart_calNow (s : State) (cause : Nat) : (s.calRestart cause).calNow = [2000, 1, 1, 0, 0, 0, 6] := by
  simp only [State.calNow, List.map_cons, List.map_nil, State.getN, State.getI, calRestart_get, State.setCal,
    List.zip_cons_cons, List.zip_nil_right, List.foldl_cons, List.foldl_nil, State.setN, State.setB, State.get_set]
  rfl

theorem calRestart_sx (s : State) (cause : Nat) :
    (s.calRestart cause).sx.slow = s.sx.slow ∧ (s.calRestart cause).sx.aonLost = s.sx.aonLost := by
  simp only [State.calRestart, State.setOsf, raiseOn_sx]
  exact ⟨rfl, rfl⟩

theorem held_calRestart (s : State) (cause source : Nat) : (s.calRestart cause).held source = s.held source := by
  simp only [State.held, State.calRestart, State.setOsf, raiseOn_holds]
  rfl

theorem calRestart_watch (s : State) (cause : Nat) : (s.calRestart cause).pwr.watch = s.pwr.watch := by
  simp only [State.calRestart, State.setOsf, State.raiseOn_watch]
  rfl

/-! ### A source asserted, and the loss of PD0 AON (R420, R426) -/

/-- An asserted source holds. -/
theorem held_assertReset (s : State) (source dom detail : Nat) : (s.assertReset source dom detail).held source = true := by
  simp [State.held, State.assertReset]

/-- What PD0 AON forgets before the reset of reach PORA asserts: its power state, but for the cause, and the holds but PIN's. -/
def State.aonForget (s : State) (cause : Nat) : State :=
  (s.anchorCut.updPwr (fun p =>
    { p with standby := false, off := false, entry := none, woken := false, wakeAt := none, thermal := false, warn := false,
             vbatAt := none, vbatLowAt := none, brownout := decide (cause = 1), aonCause := some cause })).updRst (fun r =>
    { r with holds := r.holds.filter (fun h => h.source == srcPin), l1 := [], trimRun := false, supply := false })

/-- The state after that reset. -/
def State.aonReset (s : State) (cause : Nat) : State :=
  (s.aonForget cause).assertReset srcPora 0 (if cause = 0 then 0 else 12)

theorem aonReset_held (s : State) (cause : Nat) : (s.aonReset cause).held srcPora = true := held_assertReset ..

/-- What Sextant is left with: the mark of the loss, the slow counter at 0 (log 42) and no measured ratio. -/
def Sextant.forget (x : Sextant) : Sextant := { x with aonLost := true, slow := 0, ratioMeasured := false }

theorem aonLoss_eq (s : State) (cause : Nat) :
    s.aonLoss cause = (((((s.aonReset cause).setB Obj.AON_LOST true).setB Obj.SX_TIME_VALID false).updSx Sextant.forget).setN
      Obj.SX_SLOW_RATIO 2000000000).calRestart (if cause = 0 then 0 else 2) := rfl

theorem aonLoss_calNow (s : State) (cause : Nat) : (s.aonLoss cause).calNow = [2000, 1, 1, 0, 0, 0, 6] := by
  rw [aonLoss_eq, calRestart_calNow]

theorem aonLoss_sx (s : State) (cause : Nat) : (s.aonLoss cause).sx.slow = 0 ∧ (s.aonLoss cause).sx.aonLost = true := by
  simp [aonLoss_eq, calRestart_sx, Sextant.forget]

theorem aonLoss_held (s : State) (cause : Nat) : (s.aonLoss cause).held srcPora = true := by
  rw [aonLoss_eq, held_calRestart]
  simpa only [State.held, State.setN_rst, State.updSx_rst, State.setB_rst] using aonReset_held s cause

/-- AON_LOST and SX_TIME_VALID are no objects of the calendar, so its restart leaves them as the loss wrote them. -/
theorem aonLoss_objects (s : State) (cause : Nat) :
    (s.aonLoss cause).getB Obj.AON_LOST = true ∧ (s.aonLoss cause).getB Obj.SX_TIME_VALID = false := by
  have h : ∀ k, k ∉ calObjs → k ≠ Obj.SX_SLOW_RATIO → (s.aonLoss cause).getB k =
      (((s.aonReset cause).setB Obj.AON_LOST true).setB Obj.SX_TIME_VALID false).getB k := by
    intro k hc hr
    rw [aonLoss_eq, State.getB, calRestart_get_ne _ _ hc, State.get_setN_ne hr]
    exact State.getB_of_obj (State.updSx_obj ..) k
  rw [h _ (by decide) (by decide), h _ (by decide) (by decide), State.getB_setB_same, State.getB, State.get_setB_ne (by decide)]
  exact ⟨State.getB_setB_same .., rfl⟩

theorem aonLoss_latches (s : State) (cause : Nat) :
    (s.aonLoss cause).pwr.brownout = decide (cause = 1) ∧ (s.aonLoss cause).pwr.aonCause = some cause := by
  have hw : (s.aonLoss cause).pwr.watch = (s.aonForget cause).pwr.watch := by
    rw [aonLoss_eq, calRestart_watch, State.setN_pwr, State.updSx_pwr, State.setB_pwr, State.setB_pwr, State.aonReset,
      State.assertReset_watch]
  obtain ⟨-, -, -, hc, -, -, -, -, hb, -⟩ := Power.watch_eq_iff.1 hw
  exact ⟨hb, hc⟩

end Sys2Proof.Machine

section
open Sys2Proof.Machine

/-- Settles O53: each command's rule (`Keeps.exec_next`) says that it goes on, as it was where its condition fails (log 3), and
that the queue stays. -/
theorem everyCommandCompletes : Obligations.EveryCommandCompletes := by
  intro c s
  obtain ⟨t, ht, hk⟩ := Keeps.next_of_keepsNext ((Keeps.refl s).exec_next c)
  exact ⟨t, ht, hk.queueSame⟩

/-- Settles O38: each command's condition picks its branch. Where that branch raises an event or asserts a reset, what the supply
watch has found stands through it (`Power.watch`); a restart of the calendar writes the calendar's objects alone. That the slow
counter is 0 after a loss of PD0 AON is the model's choice (log 42). -/
theorem thermalAndCellComplete : Obligations.ThermalAndCellComplete := by
  refine ⟨?_, ?_, ?_, ?_, ?_, ?_, ?_⟩
  · rintro s tj n ⟨hoff, htj, hf⟩
    exact ⟨_, if_neg (by simp [hoff, htj]), raised_raiseFrom (hf ▸ by decide) .., raiseOn_obj ..⟩
  · rintro s tj n ⟨hoff, htj, hanchor, hstandby⟩
    obtain ⟨ha, he, ht⟩ := anchorStart_saves (s := s.raiseOn 0x1108 3 0x2020 (beI 2 tj ++ be 1 n ++ be 1 1))
      ((raiseOn_standby ..).trans hstandby) true (s.getN Obj.VSENSE_NOW)
    rw [Bool.or_true] at ht
    rw [State.raiseOn_now] at ha
    exact ⟨_, if_neg (by simp [hoff, htj, hanchor]), ht, ha, he⟩
  · rintro s tj secs ⟨hthermal, hoff, htj, hsecs, hsupply⟩
    obtain ⟨ho, ht, hobj⟩ := leaveOff_powers (s := (s.updPwr (fun p => { p with thermal := false })).setN Obj.RESET_DETAIL 3)
      hoff hsupply rfl
    exact ⟨_, if_neg (by simp [hthermal, hoff, htj, hsecs]), ht, ho,
      (State.getN_of_obj hobj _).trans (State.getN_setN_same ..)⟩
  · rintro s mv ⟨hsupply, hat, hlow, hmv, hf⟩
    obtain ⟨hv, hl⟩ := vbatLow_power s mv
    exact ⟨_, (execVbatMeasure_of_due hsupply hat mv).trans (if_pos ⟨hmv, by simp [hlow]⟩),
      (State.getN_of_obj (raiseOn_obj ..) _).trans (State.getN_setN_same ..), hv, hl, raised_raiseFrom (hf ▸ by decide) ..⟩
  · rintro s mv ⟨hsupply, hat, hmv⟩
    exact ⟨_, (execVbatMeasure_of_due hsupply hat mv).trans (if_neg fun h => Nat.not_lt.2 hmv h.1),
      State.getN_setN_same .., rfl, rfl, rfl⟩
  · exact fun s vbat => ⟨_, rfl, State.getN_setN_same .., rfl⟩
  · intro s
    obtain ⟨hl, hv⟩ := aonLoss_objects s 1
    obtain ⟨hb, hc⟩ := aonLoss_latches s 1
    obtain ⟨hs, ha⟩ := aonLoss_sx s 1
    exact ⟨_, rfl, hl, hv, hb, hc, hs, ha, aonLoss_calNow s 1, aonLoss_held s 1⟩

end

namespace Sys2Proof.Machine

/-! ### What the operations of reception leave alone

Power of the radio domains, receptions released and events raised change the receptions, the gates, conditions and a few objects; one
rule for each says what stays. -/

theorem State.ite_rx {c : Prop} {_ : Decidable c} (s t : State) : (if c then s else t).rx = if c then s.rx else t.rx :=
  apply_ite State.rx c s t

theorem State.ite_obj {c : Prop} {_ : Decidable c} (s t : State) : (if c then s else t).obj = if c then s.obj else t.obj :=
  apply_ite State.obj c s t

theorem State.foldl_rx {α : Type} {f : State → α → State} (hf : ∀ s a, (f s a).rx = s.rx) (l : List α) (s : State) :
    (l.foldl f s).rx = s.rx :=
  State.foldl_same State.rx hf l s

theorem State.foldl_obj {α : Type} {f : State → α → State} (hf : ∀ s a, (f s a).obj = s.obj) (l : List α) (s : State) :
    (l.foldl f s).obj = s.obj :=
  State.foldl_same State.obj hf l s

theorem State.get_of_obj {s t : State} (h : t.obj = s.obj) (k : Nat) : t.get k = s.get k := by
  simp only [State.get, h]

theorem State.getN_of_get {s t : State} {k j : Nat} (h : t.get k = s.get j) : t.getN k = s.getN j := by
  simp only [State.getN, State.getI, h]

@[simp] theorem State.raiseOn_rx (s : State) (code sev source : Nat) (param : Octets) :
    (s.raiseOn code sev source param).rx = s.rx := by
  simp only [State.raiseOn, State.raiseFrom, State.updFifo_rx]
  split
  · rw [coreWake_same]
  · rfl

@[simp] theorem State.switch_rx (s : State) (d : Nat) (on : Bool) : (s.switch d on).rx = s.rx := by
  simp [State.switch, State.ite_rx]

@[simp] theorem State.switch_obj (s : State) (d : Nat) (on : Bool) : (s.switch d on).obj = s.obj := by
  simp [State.switch, State.ite_obj]

@[simp] theorem State.chanPower_rx (s : State) : s.chanPower.rx = s.rx := by
  simp [State.chanPower]

@[simp] theorem State.chanPower_obj (s : State) : s.chanPower.obj = s.obj := by
  simp [State.chanPower]

@[simp] theorem State.releaseRecs_obj (s : State) (p : Recep → Bool) : (s.releaseRecs p).obj = s.obj := rfl

@[simp] theorem promote_nil (r : Recep) : promote r [] = [] := by
  simp [promote]

/-- Where every reception is released none is left. -/
theorem State.releaseRecs_recs_of_all {s : State} {p : Recep → Bool} (h : ∀ r ∈ s.rx.recs, p r = true) :
    (s.releaseRecs p).rx.recs = [] := by
  have hleft : s.rx.recs.filter (fun r => !p r) = [] := List.filter_eq_nil_iff.2 (by simpa using h)
  have hfold : ∀ l : List Recep, l.foldl (fun l g => promote g l) [] = [] := by
    intro l
    induction l with
    | nil => rfl
    | cons g l ih => simpa using ih
  simp only [State.releaseRecs, hleft, hfold]

/-- The power of the radio domains shuts gates and takes receptions away; nothing else of the receive chain changes. -/
theorem State.radioPower_rx (s : State) :
    ∃ recs gates, s.radioPower.rx = { s.rx with recs := recs, gates := gates } ∧ (s.rx.recs = [] → recs = []) := by
  refine ⟨s.radioPower.rx.recs, s.radioPower.rx.gates, ?_, fun h => ?_⟩
  · simp [State.radioPower, State.releaseRecs, State.foldl_rx, State.ite_rx]
  · simp [State.radioPower, State.releaseRecs, State.foldl_rx, State.ite_rx, h]

/-- Of the objects it writes the synthesisers' states alone. -/
theorem State.radioPower_get_ne {k : Nat} (s : State) (h : ∀ c, k ≠ Obj.CC_SYNTH_STATE c) : s.radioPower.get k = s.get k := by
  refine (State.foldl_same (State.get · k) (fun _ c => by split <;> simp [State.get_setN_ne (h c)]) _ _).trans
    (State.get_of_obj ?_ k)
  simp [State.foldl_obj, State.ite_obj]

/-! ### One reception, from its claim to its report (R130–R137, R143) -/

theorem recOf_alone {s : State} {r : Recep} (h : s.rx.recs = [r]) : s.recOf r.demod = some r := by
  simp [State.recOf, h]

theorem releaseRecs_alone {s : State} {r : Recep} {p : Recep → Bool} (h : s.rx.recs = [r]) (hp : p r = true) :
    (s.releaseRecs p).rx.recs = [] :=
  State.releaseRecs_recs_of_all (by simpa [h] using hp)

/-- With no demodulator in use the first is free. -/
theorem freeDemod_of_idle {s : State} (h : s.rx.recs = []) : s.freeDemod = some 0 := by
  unfold State.freeDemod State.poolSize
  rw [h]
  split <;> rfl

@[simp] theorem claim_obj (s : State) (c : Cand) (d : Nat) (again : Bool) : (s.claim c d again).obj = s.obj := rfl

/-- A claim where no reception stands has no copy to look for. -/
theorem claim_recs_of_idle {s : State} (h : s.rx.recs = []) (c : Cand) (d : Nat) (again : Bool) :
    (s.claim c d again).rx.recs.map (fun r => (r.demod, r.win, r.k, r.mode, r.q)) = [(d, c.win, c.k, c.mode, c.q)] := by
  simp [State.claim, h]

theorem poolClaim_of_idle {s : State} (h : s.rx.recs = []) (c : Cand) (again : Bool) :
    s.poolClaim c again = (s.claim c 0 again, true) := by
  simp only [State.poolClaim, freeDemod_of_idle h]

/-- A candidate on a free channel of an idle pool claims the first demodulator. -/
theorem candidate_of_idle {s : State} (h : s.rx.recs = []) (c : Cand) :
    s.candidate c = (s.updGate (winPort c.win) (fun g => { g with fired := true, lastUse := s.now })).claim c 0 false := by
  have hmine : s.rx.recs.filter (fun r => r.win == c.win && r.k == c.k) = [] := by rw [h]; rfl
  simp only [State.candidate, hmine, List.any_nil, Bool.false_eq_true, if_false]
  exact congrArg Prod.fst (poolClaim_of_idle (s := s.updGate (winPort c.win) _) h c false)

theorem loseFire_of_none {s : State} {x : Sense} (h : (s.port (winPort x.win)).retuneRun = none) : s.loseFire x = s := by
  simp only [State.loseFire, h]

@[simp] theorem markEnergy_obj (s : State) (x : Sense) : (s.markEnergy x).obj = s.obj := by
  simp [State.markEnergy, State.ite_obj]

theorem markEnergy_recs (s : State) (x : Sense) : (s.markEnergy x).rx.recs = s.rx.recs := by
  unfold State.markEnergy
  dsimp only
  split <;> rfl

/-- A round in which one hunter fires, with the pool idle: its candidate, then the mark of the energy. -/
theorem execClaimRound_of_idle {s : State} {x : Sense} {c : Cand} (hr : s.rx.recs = []) (hs : s.rx.starved = [])
    (hc : s.cand x = some c) (hp : (s.port (winPort x.win)).retuneRun = none) :
    execClaimRound [x] [] s = .next ((s.candidate c).markEnergy x) := by
  have hsame : { s with rx := { s.rx with recs := [], starved := [] } } = s := by rw [← hr, ← hs]
  simp only [execClaimRound, hr, hs, List.map_nil, List.filter_nil, hsame, List.filterMap_cons, List.filterMap_nil, hc,
    List.foldl_cons, List.foldl_nil, candInsert, loseFire_of_none hp]

/-- What SFD_FOUND writes into a reception (R138, R140). -/
def State.sfdMark (s : State) (r : Recep) (rssi off : Int) : Tick × Count × Int × Int × Nat :=
  let p := winPort r.win
  let step := s.getN (Obj.PP_GAIN_STEP_NOW p)
  (s.time - s.getN (Obj.PP_RX_DELAY p) * nsT, s.now, s.rssiAt p step rssi, off, step)

/-- The only reception finds its SFD within the offset range of its mode. -/
theorem execSfdFound_alone {s : State} {r : Recep} (h : s.rx.recs = [r]) (hs : r.sfd = none) (rssi : Int) {off : Int}
    (ho : r.offsetOk off = true) :
    ∃ t, execSfdFound r.demod rssi off none s = .next t ∧ t.rx.recs = [{ r with sfd := some (s.sfdMark r rssi off) }] ∧
      t.obj = s.obj := by
  simp [execSfdFound, recOf_alone h, hs, h, ho, State.sfdMark]

/-- A false preamble of the only reception. -/
theorem falsePreamble_alone {s : State} {r : Recep} (h : s.rx.recs = [r]) :
    (s.falsePreamble r).rx.recs = [] ∧ Bumped s (s.falsePreamble r) (Obj.PP_FALSE_PREAMBLE (winPort r.win)) :=
  ⟨releaseRecs_alone (p := fun x => x == r) h (by simp), State.getN_bump_same ..⟩

theorem execSfdTimeout_of_late {s : State} {r : Recep} (h : s.rx.recs = [r]) (hs : r.sfd = none)
    (ht : r.claimedAt + sfdTimeoutNs r.mode (s.getN (Obj.WW_PREAMBLE_MAX_NOW r.win)) ≤ s.now) :
    execSfdTimeout r.demod s = .next (s.falsePreamble r) := by
  simp only [execSfdTimeout, recOf_alone h, hs, ht, Option.isNone_none, and_self, if_true]

/-- The power of the radio domains leaves alone a counter that is no synthesiser's state. -/
theorem Bumped.radioPower {s t : State} {k : Nat} (hb : Bumped s t k) (h : ∀ c, k ≠ Obj.CC_SYNTH_STATE c) :
    Bumped s t.radioPower k :=
  (State.getN_of_get (State.radioPower_get_ne t h)).trans hb

/-- PHR_ERROR frees the demodulator and counts. -/
theorem execPhrError_of_failed {s : State} {r : Recep} (h : s.rx.recs = [r]) (hs : r.sfd.isSome = true) (ms : Bool) (len mcs : Nat) :
    execPhrError r.demod true ms len mcs s =
      .next ((s.releaseRecs (fun x => x == r)).bump (Obj.PP_PHR_ERROR (winPort r.win))).radioPower := by
  simp only [execPhrError, recOf_alone h, hs, true_or, and_self, if_true]

/-- The end of a frame before its report is passed on: the demodulator is free, the frame and its report are counted. -/
def State.frameEnded (s : State) (r : Recep) : State :=
  let s := s.releaseRecs (fun y => y.demod == r.demod)
  let s : State := { s with rx := { s.rx with rxSeq := (s.rx.rxSeq + 1) % 2 ^ 32 } }
  (s.bump (Obj.PP_RX_FRAMES (winPort r.win))).bump Obj.RX_REPORTS

theorem frameEnded_counts (s : State) (r : Recep) :
    Bumped s (s.frameEnded r) (Obj.PP_RX_FRAMES (winPort r.win)) ∧ Bumped s (s.frameEnded r) Obj.RX_REPORTS := by
  have hne : Obj.PP_RX_FRAMES (winPort r.win) ≠ Obj.RX_REPORTS := by simp only [Obj.PP_RX_FRAMES, Obj.RX_REPORTS]; omega
  constructor
  · exact (State.getN_of_get (State.get_bump_ne hne)).trans (State.getN_bump_same ..)
  · rw [Bumped, State.frameEnded, State.getN_bump_same, State.getN_of_get (State.get_bump_ne hne.symm)]
    rfl

/-- With no copy held, passed or still received, a report goes to Helm. -/
theorem settle_of_single {s : State} (hh : s.rx.held = []) (hp : s.rx.passed = []) (hr : s.rx.recs = []) (r : Recep) (rep : Report) :
    s.settle r rep = s.toHelm rep := by
  simp [State.settle, hh, hp, hr]

/-- The only reception ends its frame with a sound FCS. -/
theorem execRxFrameEnd_alone {s : State} {r : Recep} {x : Tick × Count × Int × Int × Nat} {f : RxFrame} (h : s.rx.recs = [r])
    (hs : r.sfd = some x) (hf : f.crcOk = true) (hh : s.rx.held = []) (hp : s.rx.passed = []) :
    execRxFrameEnd r.demod f s = .next ((s.frameEnded r).toHelm (s.compose r x f)).radioPower := by
  have hr : (s.frameEnded r).rx.recs = [] := releaseRecs_alone (p := fun y => y.demod == r.demod) h (by simp)
  rw [← settle_of_single (s := s.frameEnded r) hh hp hr]
  simp only [execRxFrameEnd, recOf_alone h, hs, hf, if_true]
  rfl

/-- A report held for 50 µs goes to Helm as it stands (R143). -/
theorem execDiversityHoldEnd_of_late {s : State} {i : Nat} {h : Held} (hi : s.rx.held[i]? = some h)
    (hl : h.since + 50 * usC ≤ s.now) :
    execDiversityHoldEnd i s =
      .next ({ s with rx := { s.rx with held := s.rx.held.filter (fun x => x != h) } }.toHelm h.rep) := by
  simp only [execDiversityHoldEnd, hi, hl, or_true, if_true]

end Sys2Proof.Machine

section
open Sys2Proof.Machine

/-- Settles O9: with one reception, or none, the search of each command finds what its condition names (`recOf_alone`,
`candidate_of_idle`, `settle_of_single`), and the power of the radio domains that follows a release leaves the counters and the reports
alone. That a copy held for 50 µs goes on as it stands is R143; PP_RX_FRAMES counts every frame past its PHR and the RSSI is rounded
down by the model's choice (log 57). -/
theorem receptionsComplete : Obligations.ReceptionsComplete := by
  refine ⟨?_, ?_, ?_, ?_, ?_, ?_⟩
  · rintro s x c ⟨hr, hs, -, hc, hp⟩
    refine ⟨_, execClaimRound_of_idle hr hs hc hp, ?_, ?_⟩
    · rw [markEnergy_recs, candidate_of_idle hr]
      exact claim_recs_of_idle hr c 0 false
    · rw [markEnergy_obj, candidate_of_idle hr, claim_obj, State.updGate_obj]
  · rintro s d rssi off r ⟨hr, rfl, hs, ho⟩
    obtain ⟨t, ht, hrecs, hobj⟩ := execSfdFound_alone hr hs rssi ho
    exact ⟨t, ht, by rw [hrecs]; rfl, hobj⟩
  · rintro s d r ⟨hr, rfl, hs, ht⟩
    refine ⟨s.falsePreamble r, ?_, falsePreamble_alone hr⟩
    exact execSfdTimeout_of_late hr hs ht
  · rintro s d len mcs ms r ⟨hr, rfl, hs⟩
    obtain ⟨recs, gates, hrx, hnil⟩ :=
      ((s.releaseRecs (fun x => x == r)).bump (Obj.PP_PHR_ERROR (winPort r.win))).radioPower_rx
    refine ⟨_, execPhrError_of_failed hr hs ms len mcs, ?_, ?_, ?_⟩
    · rw [hrx]
      exact hnil (releaseRecs_alone (p := fun x => x == r) hr (by simp))
    · exact Bumped.radioPower (State.getN_bump_same ..) (by intro c; simp only [Obj.PP_PHR_ERROR, Obj.CC_SYNTH_STATE]; omega)
    · rw [hrx]
      rfl
  · rintro s d f r ⟨hr, rfl, hs, hf, hh, hp⟩
    obtain ⟨x, hx⟩ := Option.isSome_iff_exists.1 hs
    obtain ⟨hframes, hreports⟩ := frameEnded_counts s r
    obtain ⟨recs, gates, hrx, hnil⟩ := ((s.frameEnded r).toHelm (s.compose r x f)).radioPower_rx
    refine ⟨_, execRxFrameEnd_alone hr hx hf hh hp, ?_, ?_, ?_, ?_⟩
    · rw [hrx]
      exact hnil (releaseRecs_alone (p := fun y => y.demod == r.demod) hr (by simp))
    · exact Bumped.radioPower hframes (by intro c; simp only [Obj.PP_RX_FRAMES, Obj.CC_SYNTH_STATE]; omega)
    · exact Bumped.radioPower hreports (by intro c; simp only [Obj.RX_REPORTS, Obj.CC_SYNTH_STATE]; omega)
    · rw [hrx]
      simp [State.toHelm, State.compose]
  · rintro s i h ⟨hi, hl⟩
    refine ⟨_, execDiversityHoldEnd_of_late hi hl, rfl, ?_, rfl⟩
    simp [State.toHelm]

end

namespace Sys2Proof.Machine

/-! ### Gates (R144, R145) -/

theorem setCond_cond_same {s : State} {d : Nat} (h : d < s.pwr.dom.length) (c : Cond) : (s.setCond d c).cond d = c := by
  simp [State.cond, State.setCond, upd, h]

theorem setCond_cond_ne {s : State} {d e : Nat} (h : e ≠ d) (c : Cond) : (s.setCond d c).cond e = s.cond e := by
  simp [State.cond, State.setCond, upd, Ne.symm h]

theorem switch_cond_ne {s : State} {d e : Nat} (h : e ≠ d) (on : Bool) : (s.switch d on).cond e = s.cond e := by
  unfold State.switch
  split
  · exact setCond_cond_ne h _
  · split
    · exact setCond_cond_ne h _
    · rfl

/-- PD10 CHAN and PD11 DEMOD are the domains that follow the receive domains. -/
theorem chanPower_cond {s : State} {p : Nat} (h : p < 4) : s.chanPower.cond (rxDom p) = s.cond (rxDom p) := by
  have h10 : rxDom p ≠ 10 := by simp only [rxDom]; omega
  have h11 : rxDom p ≠ 11 := by simp only [rxDom]; omega
  simp only [State.chanPower, switch_cond_ne h10, switch_cond_ne h11]

/-- A receive domain of a port takes the condition it is given. -/
theorem rxDom_powered {s : State} {p : Nat} (hp : p < 4) (hd : s.pwr.dom.length = 16) (c : Cond) :
    (s.setCond (rxDom p) c).chanPower.cond (rxDom p) = c :=
  (chanPower_cond hp).trans (setCond_cond_same (by simp only [hd, rxDom]; omega) c)

theorem updGate_gate {s : State} {p : Nat} (h : p < s.rx.gates.length) (g : Gate → Gate) :
    nth (s.updGate p g).rx.gates p = g (nth s.rx.gates p) :=
  nth_upd_same h g

@[simp] theorem judgeWindow_rx (s : State) (p : Nat) (more : Bool) : (s.judgeWindow p more).rx = s.rx := by
  simp [State.judgeWindow, State.ite_rx]

@[simp] theorem judgeWindow_pwr (s : State) (p : Nat) (more : Bool) : (s.judgeWindow p more).pwr = s.pwr := by
  simp [State.judgeWindow, State.ite_pwr]

/-- A gate that listens to no window has none to judge. -/
theorem judgeWindow_of_deaf {s : State} {p : Nat} (h : (nth s.rx.gates p).listening = false) (more : Bool) :
    s.judgeWindow p more = s := by
  simp [State.judgeWindow, h]

/-- The gate as it opens for a cell. -/
def Gate.opened (now : Count) : Gate :=
  { open' := true, listening := false, fired := false, energy := false, since := 0, lastUse := now }

/-- RX_GATE_OPEN where a cell of the port is due. -/
theorem execRxGateOpen_of_due {s : State} {p : Nat} (hp : p < 4) (hm : s.pwr.modeInForce = 1) (hw : s.rxWanted p = true)
    (hc : s.cond (rxDom p) = .off) (ho : s.pwr.off = false) (hs : s.pwr.standby = false)
    (hd : ∃ c ∈ s.gateCells p, c.start ≤ s.time + gateLead ∧ s.time < c.guard) :
    execRxGateOpen p s =
      .next (((s.setCond (rxDom p) .on).chanPower.updGate p (fun _ => Gate.opened (s.setCond (rxDom p) .on).chanPower.now)).bump
        (Obj.PP_GATE_OPENS p)) := by
  have hdue : (s.gateCells p).any (fun c => decide (c.start ≤ s.time + gateLead ∧ s.time < c.guard)) = true := by
    simpa using hd
  exact if_pos ⟨hp, hm, hw, hc, ho, hs, by rw [hdue, Bool.true_or]⟩

/-- The latest opening among the listen windows of a port that are due. -/
def State.latestOpening (s : State) (p : Nat) : Tick :=
  (((s.gateCells p).filter (fun c => decide (c.opens ≤ s.time ∧ s.time ≤ c.closes))).map (·.opens)).foldl max 0

/-- LISTEN_WINDOW_OPEN on an open gate that is deaf, where a window of the port is due. -/
theorem execListenWindowOpen_of_due {s : State} {p : Nat} (hp : p < 4) (hon : s.isOn (rxDom p) = true)
    (ho : (nth s.rx.gates p).open' = true) (hl : (nth s.rx.gates p).listening = false)
    (hd : ∃ c ∈ s.gateCells p, c.opens ≤ s.time ∧ s.time ≤ c.closes) :
    execListenWindowOpen p s = .next (s.updGate p (fun g =>
      { g with listening := true, fired := false, energy := false, since := max g.since (s.latestOpening p) })) := by
  have hdue : (s.gateCells p).filter (fun c => decide (c.opens ≤ s.time ∧ s.time ≤ c.closes)) ≠ [] := by
    simpa [List.filter_eq_nil_iff] using hd
  refine (if_pos ⟨hp, hon, ho, .inl hdue, .inl hl⟩).trans ?_
  rw [judgeWindow_of_deaf hl]
  rfl

/-- RX_GATE_CLOSE between cells: each has ended, or does not begin for 300 µs after the power-up it would need. -/
theorem execRxGateClose_between {s : State} {p : Nat} (hp : p < 4) (hm : s.pwr.modeInForce = 1)
    (ho : (nth s.rx.gates p).open' = true) (hu : (nth s.rx.gates p).lastUse + 2 * usC ≤ s.now)
    (hr : s.rx.recs.all (fun r => winPort r.win != p) = true)
    (hcells : ∀ c ∈ s.gateCells p, s.time + gateLead + 300 * usT ≤ c.start ∨ c.guard + 2 * usT ≤ s.time ∧
      c.start ≤ s.time + gateLead)
    (hk : s.bandKept (bandOf p) s.time (s.time + gateLead + 300 * usT) = false) (w : Nat) (e : Int) :
    ∃ seen, execRxGateClose p w e s = .next (((s.judgeWindow p seen).updGate p (fun g =>
      { g with open' := false, listening := false, fired := false, energy := false })).setCond (rxDom p) .off).chanPower := by
  have hpast : (s.gateCells p).all (fun c => decide (s.time + gateLead < c.start ∨ c.guard + 2 * usT ≤ s.time)) = true := by
    refine List.all_eq_true.2 fun c hc => decide_eq_true ?_
    rcases hcells c hc with hstart | ⟨hguard, -⟩
    · exact .inl (Nat.lt_of_lt_of_le (Nat.lt_add_of_pos_right (by decide)) hstart)
    · exact .inr hguard
  have hnext : (s.gateCells p).any (fun c =>
      decide (s.time + gateLead < c.start ∧ c.start < s.time + gateLead + 300 * usT)) = false := by
    refine List.any_eq_false.2 fun c hc h => ?_
    obtain ⟨hlead, htill⟩ := of_decide_eq_true h
    rcases hcells c hc with hstart | ⟨-, hstart⟩
    · exact Nat.not_lt.2 hstart htill
    · exact Nat.not_lt.2 hstart hlead
  refine ⟨decide (w < 6 ∧ winPort w = p) && s.getB (Obj.WW_ENABLE_NOW w) && decide (s.getI (Obj.WW_HUNT_ENERGY_NOW w) ≤ e),
    (if_pos ⟨hp, hm, ho, hpast, hu, hr⟩).trans ?_⟩
  simp only [hnext, hk, Bool.or_self, Bool.false_eq_true, if_false]

/-! ### The interval counts (R149) -/

/-- STARVATION_INTERVAL_END writes the peak, raises its events and starts the counts anew. -/
theorem execStarvationIntervalEnd_eq (s : State) :
    ∃ t : State, execStarvationIntervalEnd s = .next { t with rx := { t.rx with
        starvedCount := [0, 0], preemptCount := [0, 0], peakBusy := t.rx.recs.length } } ∧
      t.rx = s.rx ∧ t.obj = (s.setN Obj.DEMOD_BUSY_PEAK s.rx.peakBusy).obj :=
  ⟨_, rfl, State.foldl_rx (fun _ _ => by simp [State.ite_rx]) _ _, State.foldl_obj (fun _ _ => by simp [State.ite_obj]) _ _⟩

/-- The count of a window has started anew, and the instant of its event is noted. -/
def State.falseNoted (s : State) (w : Nat) : State :=
  { s with rx := { s.rx with falseCount := upd s.rx.falseCount w (fun _ => 0),
                             falseEventAt := upd s.rx.falseEventAt w (fun _ => some s.now) } }

/-- FALSE_PREAMBLE_CHECK over the limit, with no event of the window before. -/
theorem execFalsePreambleCheck_over {s : State} {w : Nat} (hw : w < 6) (hl : s.getN (Obj.WW_FALSE_LIMIT_NOW w) ≠ 0)
    (hn : s.getN (Obj.WW_FALSE_LIMIT_NOW w) < s.rx.falseCount.getD w 0) (he : s.rx.falseEventAt.getD w none = none) :
    execFalsePreambleCheck w s = .next ((s.falseNoted w).raiseOn 0x3012 1 (0x3400 + w)
      (be 1 w ++ be 4 (s.rx.falseCount.getD w 0) ++ be 1 (s.getN (Obj.WW_HUNT_Q_NOW w)))) :=
  if_pos ⟨hw, hl, hn, by simp only [he, Option.elim_none]⟩

/-! ### What the pair stream leaves alone (R308, R314) -/

/-- The receive chain, the Quay queues, and the objects below index 0x7000: the stream's own are those of the trunk, of Consort and of
Logbook. -/
def State.besideStream (s : State) : Receive × Quay × (Fin 0x700000 → Val) := (s.rx, s.mg.quay, fun k => s.get k)

theorem besideStream_eq {s t : State} (h : t.besideStream = s.besideStream) :
    t.rx = s.rx ∧ t.mg.quay = s.mg.quay ∧ ∀ k < 0x700000, t.get k = s.get k := by
  simp only [State.besideStream, Prod.mk.injEq, funext_iff] at h
  exact ⟨h.1, h.2.1, fun k hk => h.2.2 ⟨k, hk⟩⟩

theorem besideStream_of {s t : State} (hr : t.rx = s.rx) (hq : t.mg.quay = s.mg.quay) (ho : t.obj = s.obj) :
    t.besideStream = s.besideStream := by
  simp only [State.besideStream, hr, hq, State.get_of_obj ho]

theorem besideStream_set {s : State} {k : Nat} (h : 0x700000 ≤ k) (v : Val) : (s.set k v).besideStream = s.besideStream := by
  have hne : ∀ j : Fin 0x700000, (j : Nat) ≠ k := fun j => by have := j.2; omega
  simp only [State.besideStream, State.set_rx, State.set_mg, State.get_set_ne (hne _)]

theorem State.ite_besideStream {c : Prop} {_ : Decidable c} (s t : State) :
    (if c then s else t).besideStream = if c then s.besideStream else t.besideStream :=
  apply_ite State.besideStream c s t

@[simp] theorem emit_besideStream (s : State) (o : Out) : (s.emit o).besideStream = s.besideStream := rfl

@[simp] theorem updBn_besideStream (s : State) (f : Binnacle → Binnacle) : (s.updBn f).besideStream = s.besideStream := rfl

@[simp] theorem raiseOn_besideStream (s : State) (code sev source : Nat) (param : Octets) :
    (s.raiseOn code sev source param).besideStream = s.besideStream :=
  besideStream_of (by simp) (by rw [State.raiseOn, raiseFrom_mg]) (by simp)

@[simp] theorem keyMissing_besideStream (s : State) (kind id user : Nat) :
    (s.keyMissing kind id user).besideStream = s.besideStream := by
  simp [State.keyMissing, State.ite_besideStream]

@[simp] theorem setCeiling_besideStream (s : State) (k n : Nat) : (s.setCeiling k n).besideStream = s.besideStream :=
  besideStream_set (by decide) _

@[simp] theorem reserveCounter_besideStream (s : State) (k step n : Nat) :
    (s.reserveCounter k step n).besideStream = s.besideStream := by
  simp [State.reserveCounter, State.ite_besideStream]

@[simp] theorem useRec_besideStream (s : State) (r : KeyRec) : (s.useRec r).1.besideStream = s.besideStream := by
  unfold State.useRec State.setUses
  split
  · rfl
  · split
    · rfl
    · dsimp only
      split <;> simp [State.ite_besideStream]

@[simp] theorem useKey_besideStream (s : State) (kind id user : Nat) (out : Bool) :
    (s.useKey kind id user out).1.besideStream = s.besideStream := by
  unfold State.useKey State.useFor
  split
  · simp
  · split <;> simp

@[simp] theorem pairFrame_besideStream (s : State) (o : Octets) : (s.pairFrame o).besideStream = s.besideStream := by
  unfold State.pairFrame
  refine State.foldl_same State.besideStream (fun s p => ?_) _ _
  exact (besideStream_set (by simp only [Obj.TT_FRAMES_TX]; omega) _).trans (emit_besideStream ..)

@[simp] theorem sendStream_besideStream (s : State) (n : Nat) (l : List StreamRec) :
    (s.sendStream n l).besideStream = s.besideStream := by
  simp [State.sendStream, State.ite_besideStream]

@[simp] theorem stream_besideStream (s : State) (r : StreamRec) : (s.stream r).besideStream = s.besideStream := by
  unfold State.stream
  split
  · exact (besideStream_set (by decide) _).trans (sendStream_besideStream ..)
  · rfl

@[simp] theorem streamStart_besideStream (s : State) (ix : Nat) (v : Val) : (s.streamStart ix v).besideStream = s.besideStream := by
  simp [State.streamStart, State.ite_besideStream]

/-! ### What a procedure start leaves alone (R62, R63)

Behind the gate a start drains Logbook's queue, is journaled and enters RUNNING: of the objects it writes LB_COMMITS and those of the
procedure's own index. -/

theorem coreWake_table (s : State) : s.coreWake.rst.lodestar = s.rst.lodestar ∧ s.coreWake.rst.table = s.rst.table := by
  unfold State.coreWake
  split <;> exact ⟨rfl, rfl⟩

theorem coreWake_cond_ne {s : State} {d : Nat} (h : d ≠ 2) : s.coreWake.cond d = s.cond d := by
  unfold State.coreWake
  split
  · exact setCond_cond_ne h _
  · rfl

theorem entered_isOn_ne {s : State} {d : Nat} (h : d ≠ 2) : s.entered.isOn d = s.isOn d := by
  have hc : s.entered.cond d = s.cond d := coreWake_cond_ne h
  simp only [State.isOn, hc]

@[simp] theorem entered_helm (s : State) : s.entered.helm = s.helm := by
  simp only [State.entered, State.updSession_helm]
  rw [coreWake_same]

@[simp] theorem entered_lb (s : State) : s.entered.lb = s.lb := by
  simp only [State.entered, State.updSession_lb]
  rw [coreWake_same]

@[simp] theorem entered_quay (s : State) : s.entered.mg.quay = s.mg.quay := by
  simp only [State.entered, State.updSession]
  rw [coreWake_same]

@[simp] theorem lbDrain_helm (s : State) : s.lbDrain.helm = s.helm := by
  unfold State.lbDrain
  exact State.foldl_same State.helm (fun _ _ => by simp) _ _

@[simp] theorem lbDrain_rst (s : State) : s.lbDrain.rst = s.rst := by
  unfold State.lbDrain
  exact State.foldl_same State.rst (fun _ _ => by simp) _ _

@[simp] theorem lbDrain_mg (s : State) : s.lbDrain.mg = s.mg := by
  unfold State.lbDrain
  exact State.foldl_same State.mg (fun _ _ => by simp) _ _

theorem lbCommit_get_ne {s : State} {j : Nat} (h : j ≠ Obj.LB_COMMITS) (k : Nat) (v : Val) : (s.lbCommit k v).get j = s.get j :=
  State.get_bump_ne h

@[simp] theorem lbCommit_starts (s : State) (k : Nat) (v : Val) : (s.lbCommit k v).lb.starts = s.lb.starts := rfl

@[simp] theorem lbDrain_starts (s : State) : s.lbDrain.lb.starts = s.lb.starts := by
  unfold State.lbDrain
  exact State.foldl_same (·.lb.starts) (fun _ _ => by simp) _ _

theorem lbDrain_get_ne {s : State} {k : Nat} (h : k ≠ Obj.LB_COMMITS) : s.lbDrain.get k = s.get k := by
  unfold State.lbDrain
  exact State.foldl_same (State.get · k) (fun _ _ => lbCommit_get_ne h ..) _ _

/-- The objects of a procedure that enters RUNNING. -/
theorem procBegin_obj (s : State) (ix : Nat) (est : Tick) :
    (s.procBegin ix est).obj = ((((s.setN (Obj.key ix 1) 1).setN (Obj.key ix 2) 0).set (Obj.key ix 4) (t64 est)).setN
      (Obj.key ix 5) (ix * 65536 + nextStart (s.startCount ix))).obj := rfl

theorem procBegin_get_ne {s : State} {ix k : Nat} (h : k / 256 ≠ ix) (est : Tick) : (s.procBegin ix est).get k = s.get k := by
  have hne : ∀ sub < 256, k ≠ Obj.key ix sub := fun sub hsub => by simp only [Obj.key]; omega
  rw [State.get_of_obj (procBegin_obj ..), State.get_setN_ne (hne 5 (by decide)), State.get_set_ne (hne 4 (by decide)),
    State.get_setN_ne (hne 2 (by decide)), State.get_setN_ne (hne 1 (by decide))]

theorem procBegin_runs (s : State) (ix : Nat) (est : Tick) :
    (s.procBegin ix est).procState ix = 1 ∧ (s.procBegin ix est).procHandle ix = ix * 65536 + nextStart (s.startCount ix) := by
  constructor
  · rw [State.procState, State.getN_of_obj (procBegin_obj ..), State.getN_setN_ne (by simp [Obj.key]),
      State.getN_of_get (State.get_set_ne (by simp [Obj.key])), State.getN_setN_ne (by simp [Obj.key]), State.getN_setN_same]
  · rw [State.procHandle, State.getN_of_obj (procBegin_obj ..), State.getN_setN_same]

section
variable (s : State) (ix : Nat) (w : Wire) (est : State → Val → Tick) (v : Val)

theorem started_get_ne {k : Nat} (hc : k ≠ Obj.LB_COMMITS) (hk : k / 256 ≠ ix) : (s.started ix w est v).get k = s.get k := by
  rw [State.started, procBegin_get_ne hk, State.get_of_obj (State.journal_obj ..), lbDrain_get_ne hc, entered_get]

/-- A started procedure is RUNNING, with the handle of the next start count (R63). -/
theorem started_runs :
    (s.started ix w est v).procState ix = 1 ∧ (s.started ix w est v).procHandle ix = ix * 65536 + nextStart (s.startCount ix) := by
  have hstarts : (s.entered.lbDrain.journal 2 0 ix 3 .ok [] w.cbor).startCount ix = s.startCount ix := by
    simp [State.startCount, State.journal]
  rw [State.started, ← hstarts]
  exact procBegin_runs ..

theorem started_quay : (s.started ix w est v).mg.quay = s.mg.quay := by
  simp [State.started, State.procBegin]

/-- A start leaves the table in force, where its object index is none of the two that say which table that is. -/
theorem started_tableNow (hl : Obj.LODESTAR_ACTIVE / 256 ≠ ix) (hp : Obj.POWER_STATE / 256 ≠ ix) :
    (s.started ix w est v).tableNow = s.tableNow := by
  have hrst : (s.started ix w est v).rst = s.coreWake.rst := by simp [State.started, State.entered]
  have hhelm : (s.started ix w est v).helm = s.helm := by simp [State.started]
  simp only [State.tableNow, State.fromChart, State.getB, State.getN, State.getI, started_get_ne s ix w est v (by decide) hl,
    started_get_ne s ix w est v (by decide) hp, hhelm, hrst, coreWake_table]
  rfl

end

/-- Step 5 of R520 for a start of a procedure that is in no chapter's list of causes. -/
theorem startCause_none {s : State} {ix : Nat} (hs : s.shadowed = false) (hr : s.procRunning ix = false)
    (hne : ix ≠ Obj.SCHEDULE_COMMIT ∧ ix ≠ Obj.TACK ∧ ix ≠ Obj.DOMAIN_RESET) : s.startCause ix = none := by
  simp [State.startCause, hs, hr, hne]

/-! ### A window apply, from its start to its re-arm (R147–R149) -/

theorem checkStart_apply {s : State} {r : Req} (h : CanStart s r Obj.RX_WINDOW_APPLY 1) (bad : State → Nat → Val → Option Rc)
    (hb : bad s.entered 0 (.time 0 0 0) = none) :
    s.entered.checkStart 0 Obj.RX_WINDOW_APPLY (.arr3 0 0 0) bad = .ok (.time 0 0 0) := by
  obtain ⟨-, hon, hshadow, hrun⟩ := h
  have hobj : s.entered.obj = s.obj := entered_obj s
  have hcause : s.entered.startCause Obj.RX_WINDOW_APPLY = none := by
    refine startCause_none ?_ ?_ (by decide)
    · rw [← hshadow]
      simp only [State.shadowed, State.getN_of_obj hobj]
    · rw [← hrun]
      simp only [State.procRunning, State.procState, State.getN_of_obj hobj]
  have hrow : procTable.find? (fun p => p.ix == Obj.RX_WINDOW_APPLY) = some ⟨Obj.RX_WINDOW_APPLY, 1, .time64, []⟩ := by decide
  have hown : s.entered.isOn 1 = true := (entered_isOn_ne (by decide)).trans hon
  simp [State.checkStart, hrow, hcause, hown, Ty.read, ignoreReserved, hb]

/-- What the check of a window set rests on: the table in force, and band and hopping sequence of its PANs. -/
theorem windowsFail_congr {s t : State} (htab : t.tableNow = s.tableNow) (hband : ∀ p, t.get (Obj.PN_BAND p) = s.get (Obj.PN_BAND p))
    (hlen : ∀ p, t.get (Obj.PN_HOP_LEN p) = s.get (Obj.PN_HOP_LEN p))
    (hseq : ∀ p, t.get (Obj.PN_HOP_SEQ p) = s.get (Obj.PN_HOP_SEQ p)) (l : List (Nat × Val)) :
    t.windowsFail l = s.windowsFail l := by
  simp only [State.windowsFail, State.hopEntries, State.getN, State.getI, State.getO, htab, hband, hlen, hseq]
  rfl

/-- Staged keys are those of the indices 0x3400 to 0x3405. -/
theorem index_of_stagedKey {k : Nat} (h : k ∈ stagedKeys) : 0x3400 ≤ k / 256 ∧ k / 256 < 0x3406 := by
  simp only [stagedKeys, List.mem_flatMap, List.mem_range, List.mem_map] at h
  obtain ⟨w, hw, i, hi, rfl⟩ := h
  omega

theorem mem_stagedKeys {k w i : Nat} (hw : w < 6) (hi : i < 11) (hk : 0x340001 + w * 256 + i = k) : k ∈ stagedKeys :=
  List.mem_flatMap.2 ⟨w, List.mem_range.2 hw, List.mem_map.2 ⟨i, List.mem_range.2 hi, hk⟩⟩

theorem stagedSet_congr {s t : State} (h : ∀ k ∈ stagedKeys, t.get k = s.get k) : t.stagedSet = s.stagedSet :=
  List.map_congr_left fun k hk => by rw [h k hk]

/-- The state in which an accepted apply at once is answered. -/
abbrev State.applyStarted (s : State) (est : State → Val → Tick) : State :=
  s.started Obj.RX_WINDOW_APPLY (.arr3 0 0 0) est (.time 0 0 0)

/-- The start of an apply changes nothing that the check of the staged set looks at. -/
theorem applyStarted_checks (s : State) (est : State → Val → Tick) :
    (s.applyStarted est).stagedSet = s.stagedSet ∧ ∀ l, (s.applyStarted est).windowsFail l = s.windowsFail l := by
  have hget : ∀ k, k ≠ Obj.LB_COMMITS → k / 256 ≠ Obj.RX_WINDOW_APPLY → (s.applyStarted est).get k = s.get k :=
    fun k hc hk => started_get_ne s _ _ est _ hc hk
  constructor
  · refine stagedSet_congr fun k hk => ?_
    have := index_of_stagedKey hk
    exact hget k (by simp only [Obj.LB_COMMITS]; omega) (by simp only [Obj.RX_WINDOW_APPLY]; omega)
  · have hpan : ∀ k, 0x400000 ≤ k → k % 256 ≠ 2 → (s.applyStarted est).get k = s.get k := fun k hk hc =>
      hget k (by simp only [Obj.LB_COMMITS]; omega) (by simp only [Obj.RX_WINDOW_APPLY]; omega)
    refine windowsFail_congr (started_tableNow s _ _ est _ (by decide) (by decide)) ?_ ?_ ?_
    · exact fun p => hpan _ (by simp only [Obj.PN_BAND]; omega) (by simp only [Obj.PN_BAND]; omega)
    · exact fun p => hpan _ (by simp only [Obj.PN_HOP_LEN]; omega) (by simp only [Obj.PN_HOP_LEN]; omega)
    · exact fun p => hpan _ (by simp only [Obj.PN_HOP_SEQ]; omega) (by simp only [Obj.PN_HOP_SEQ]; omega)

/-- A staged set that no rule refuses waits for its time, and the re-arm of an apply before it goes on. -/
theorem windowStart_of_sound {s : State} (h : s.windowsFail s.stagedSet = none) (at' : Tick) :
    s.windowStart at' = { s with rx := { s.rx with
      apply := some { staged := s.stagedSet, at' := at', handle := s.procHandle Obj.RX_WINDOW_APPLY, aborted := false, rearm := none }
      rearming := s.rx.rearming ++ s.rx.apply.toList } } := by
  unfold State.windowStart
  dsimp only
  rw [h]

/-- The state in which its work begins: the reply with the handle is queued. -/
def State.applyAnswered (s : State) (r : Req) (est : State → Val → Tick) : State :=
  (s.applyStarted est).reply 0 (r.answers (Obj.key Obj.RX_WINDOW_APPLY 3)) coapChanged
    (.handle ((s.applyStarted est).procHandle Obj.RX_WINDOW_APPLY))

/-- RX_WINDOW_APPLY at once, where its start is not refused. -/
theorem execRxWindowApply_taken {s : State} {r : Req} (h : CanStart s r Obj.RX_WINDOW_APPLY 1) :
    ∃ est, execRxWindowApply r (.arr3 0 0 0) s =
      .next (((s.applyAnswered r est).windowStart 0).streamStart Obj.RX_WINDOW_APPLY (.time 0 0 0)) := by
  unfold execRxWindowApply
  rw [start_taken h.1 (checkStart_apply h _ (if_neg (by simp [State.farAhead, Val.toTick, ofT64])))]
  exact ⟨_, rfl⟩

/-- A reply on the Quay port is nothing that the check of a window set looks at. -/
theorem reply_checks (s : State) (t : Tok) (code : Nat) (p : Payload) :
    (s.reply 0 t code p).stagedSet = s.stagedSet ∧ ∀ l, (s.reply 0 t code p).windowsFail l = s.windowsFail l :=
  ⟨rfl, fun _ => rfl⟩

theorem applyAnswered_sound {s : State} (h : s.windowsFail s.stagedSet = none) (r : Req) (est : State → Val → Tick) :
    (s.applyAnswered r est).windowsFail (s.applyAnswered r est).stagedSet = none := by
  obtain ⟨hset, hfail⟩ := applyStarted_checks s est
  simp only [State.applyAnswered, reply_checks, hfail, hset, h]

theorem applyAnswered_runs (s : State) (r : Req) (est : State → Val → Tick) :
    (s.applyAnswered r est).procState Obj.RX_WINDOW_APPLY = 1 := by
  have hobj : (s.applyAnswered r est).obj = (s.applyStarted est).obj := by
    rw [State.applyAnswered, reply_quay, State.quayFrame_obj]
  exact (State.getN_of_obj hobj _).trans (started_runs s Obj.RX_WINDOW_APPLY (.arr3 0 0 0) est (.time 0 0 0)).1

theorem applyAnswered_replied {s : State} {r : Req} (h : Ready s r) (est : State → Val → Tick) :
    Replied (s.applyAnswered r est) r coapChanged
      (.handle (Obj.RX_WINDOW_APPLY * 65536 + nextStart (s.startCount Obj.RX_WINDOW_APPLY))) := by
  obtain ⟨-, -, -, -, -, -, -, -, -, -, -, -, hroom⟩ := h
  rw [← (started_runs s Obj.RX_WINDOW_APPLY (.arr3 0 0 0) est (.time 0 0 0)).2]
  refine replied_reply ?_ _ _ _
  rwa [State.applyStarted, started_quay]

/-! ### The change to the new set -/

theorem nowKey_inj {a b : Nat} (h : nowKey a = nowKey b) : a = b := Nat.add_right_cancel h

/-- Keys copied into force: each object in force takes the value of its key. -/
theorem get_copied (f : Nat → Val) (l : List Nat) (s : State) (k : Nat) :
    ((l.map (fun k => (k, f k))).foldl (fun s e => s.set (nowKey e.1) e.2) s).get (nowKey k) =
      if k ∈ l then f k else s.get (nowKey k) := by
  induction l generalizing s with
  | nil => simp
  | cons a l ih =>
    rw [List.map_cons, List.foldl_cons, ih]
    by_cases hka : k = a
    · simp [hka]
    · have hne : nowKey k ≠ nowKey a := fun h => hka (nowKey_inj h)
      simp [hka, State.get_set_ne hne]

/-- The staged set of a state brought into force. -/
theorem forceSet_get {s t : State} {k : Nat} (h : k ∈ stagedKeys) : (t.forceSet s.stagedSet).get (nowKey k) = s.get k := by
  have := index_of_stagedKey h
  have hne : nowKey k ≠ Obj.HUNTERS_IN_FORCE := by simp only [nowKey, Obj.HUNTERS_IN_FORCE]; omega
  rw [State.forceSet, State.get_setN_ne hne, State.stagedSet, get_copied, if_pos h]

@[simp] theorem forceSet_rx (s : State) (l : List (Nat × Val)) : (s.forceSet l).rx = s.rx := by
  rw [State.forceSet, State.setN_rx]
  exact State.foldl_rx (fun _ _ => by simp) _ _

theorem setP_get_ne {s : State} {j k : Nat} (h : j ≠ k) (hc : j ≠ Obj.LB_COMMITS) (v : Val) : (s.setP k v).get j = s.get j := by
  unfold State.setP
  dsimp only
  split
  · rw [lbCommit_get_ne hc, State.get_set_ne h]
  · exact State.get_set_ne h

@[simp] theorem setP_rx (s : State) (k : Nat) (v : Val) : (s.setP k v).rx = s.rx := by
  simp [State.setP, State.ite_rx]

@[simp] theorem chartGeometry_rx (s : State) : s.chartGeometry.rx = s.rx := by
  simp [State.chartGeometry]

theorem chartGeometry_get_ne {s : State} {k : Nat} (h : k ≠ Obj.LODESTAR_CHART_TIME) (hc : k ≠ Obj.LB_COMMITS) :
    s.chartGeometry.get k = s.get k :=
  setP_get_ne h hc _

/-- What the boundary of an apply does before the set takes force: receptions before their SFD on changed windows go, the windows are
held, the re-arm begins. -/
def State.boundaryPassed (s : State) (a : WinApply) : State :=
  let changed := s.changedWindows a.staged
  let hit := fun (r : Recep) => changed.contains r.win && r.sfd.isNone
  let t := s.releaseRecs hit
  { t with rx := { t.rx with
      recs := t.rx.recs.map (fun r => if changed.contains r.win then { r with kept := true } else r)
      heldWin := (List.range 6).map (fun w => changed.contains w || t.rx.heldWin.getD w false)
      apply := some { a with rearm := some (changed, (s.rx.recs.filter hit).length) } } }

theorem execWindowApplyBoundary_of_due {s : State} {a : WinApply} (ha : s.rx.apply = some a) (hr : a.rearm = none)
    (ht : a.at' ≤ s.time) :
    execWindowApplyBoundary s = .next ((s.boundaryPassed a).forceSet a.staged).radioPower.chartGeometry := by
  have hgo : ¬ (a.rearm.isSome ∨ s.time < a.at') := by simp [hr, Nat.not_lt.2 ht]
  simp only [execWindowApplyBoundary, ha, if_neg hgo]
  rfl

/-- A value that the boundary brings into force stands through the power of the radio domains and the new chart. Subindex 5 of a
synthesiser is its state (R100). -/
theorem boundary_get {s : State} {j k : Nat} (hk : k ∈ stagedKeys) (hj : j = nowKey k) (h5 : j % 256 ≠ 5) (t : State) :
    ((t.forceSet s.stagedSet).radioPower.chartGeometry).get j = s.get k := by
  have := index_of_stagedKey hk
  simp only [nowKey] at hj
  rw [chartGeometry_get_ne (by simp only [Obj.LODESTAR_CHART_TIME]; omega) (by simp only [Obj.LB_COMMITS]; omega),
    State.radioPower_get_ne _ (by intro c; simp only [Obj.CC_SYNTH_STATE]; omega), hj]
  exact forceSet_get hk

/-- The first two values of a window in force after the boundary are its staged ones. -/
theorem boundary_window {s : State} {w : Nat} (hw : w < 6) (t : State) :
    ((t.forceSet s.stagedSet).radioPower.chartGeometry).get (Obj.WW_ENABLE_NOW w) = s.get (Obj.WW_ENABLE w) ∧
      ((t.forceSet s.stagedSet).radioPower.chartGeometry).get (Obj.WW_FIRST_NOW w) = s.get (Obj.WW_FIRST w) := by
  simp only [Obj.WW_ENABLE_NOW, Obj.WW_ENABLE, Obj.WW_FIRST_NOW, Obj.WW_FIRST]
  exact ⟨boundary_get (mem_stagedKeys hw (i := 0) (by decide) (by omega)) (by simp only [nowKey]; omega) (by omega) t,
    boundary_get (mem_stagedKeys hw (i := 1) (by decide) (by omega)) (by simp only [nowKey]; omega) (by omega) t⟩

/-! ### The re-arm -/

/-- An apply that has re-armed its windows leaves the receive chain: the hunters of those that no other re-arm holds are free. -/
theorem rearmEnd_rx (s : State) (a : WinApply) (changed : List Nat) (n : Nat) :
    (s.rearmEnd a changed n).rx = { s.rx with
      heldWin := (s.rx.heldWin.zipIdx).map (fun e => e.1 && (!changed.contains e.2 || s.rearmHolds.contains e.2)) } := by
  simp [State.rearmEnd, State.windowApplied]

theorem rearmEnd_obj (s : State) (a : WinApply) (changed : List Nat) (n : Nat) : (s.rearmEnd a changed n).obj = s.obj := by
  simp [State.rearmEnd, State.windowApplied]

theorem rearmEnd_heldWin {s : State} {w : Nat} {changed : List Nat} (hw : w ∈ changed) (hh : w ∉ s.rearmHolds)
    (a : WinApply) (n : Nat) : (s.rearmEnd a changed n).rx.heldWin.getD w false = false := by
  rw [rearmEnd_rx]
  cases h : s.rx.heldWin[w]? <;> simp [List.getElem?_zipIdx, h, hw, hh]

/-- A RUNNING procedure that completes is DONE. -/
theorem procDone_of_running {s : State} {ix : Nat} (h : s.procRunning ix = true) :
    (s.procDone ix .ok).procState ix = 2 ∧ (s.procDone ix .ok).rx = s.rx := by
  rw [State.procDone, if_pos h]
  refine ⟨?_, State.procEnd_rx ..⟩
  exact (State.getN_setN_ne (by simp [Obj.key])).trans (State.getN_setN_same ..)

/-- WINDOW_REARM_DONE of a commanded apply, with no aborted one before it. -/
theorem execWindowRearmDone_of_apply {s : State} {a : WinApply} {l : List Nat} {n : Nat} (hq : s.rx.rearming = [])
    (ha : s.rx.apply = some a) (hr : a.rearm = some (l, n)) (hh : a.handle ≠ 0) :
    execWindowRearmDone s =
      .next ((({ s with rx := { s.rx with apply := none } } : State).rearmEnd a l n).procDone Obj.RX_WINDOW_APPLY .ok) := by
  simp only [execWindowRearmDone, hq, ha, hr, if_neg hh]

end Sys2Proof.Machine

section
open Sys2Proof.Machine

/-- Settles O10: each clause's conditions pick the branch of its command (`execRxGateOpen_of_due` and the lemmas beside it). What comes
after the effect, the power of the channel and demodulator domains, an event raised, the pair stream or the chart, leaves it alone. An
apply that is done holds no window any more, so every window it changed is free (R149). -/
theorem gatedReceptionCompletes : Obligations.GatedReceptionCompletes := by
  refine ⟨?_, ?_, ?_, ?_, ?_, ?_, ?_, ?_⟩
  · rintro s p ⟨hp, hg, hd, hm, hw, hc, ho, hs, hdue⟩
    refine ⟨_, execRxGateOpen_of_due hp hm hw hc ho hs hdue, rxDom_powered hp hd .on, ?_, ?_⟩
    · refine (updGate_gate ?_ _).trans ?_
      · simpa [hg] using hp
      · simp [Gate.opened]
    · rw [Bumped, State.getN_bump_same, State.getN_of_obj (s := s) (by simp)]
  · rintro s p ⟨hp, hg, hon, ho, hl, hdue⟩
    have hgate := updGate_gate (s := s) (p := p) (hg ▸ hp) (fun g =>
      { g with listening := true, fired := false, energy := false, since := max g.since (s.latestOpening p) })
    exact ⟨_, execListenWindowOpen_of_due hp hon ho hl hdue, by simp [hgate], by simp [hgate], by simp [hgate], by simp [hgate, ho],
      by simp [hgate], rfl, rfl⟩
  · rintro s p w e ⟨hp, hg, hd, hm, ho, hu, hr, hcells, hk⟩
    obtain ⟨seen, hexec⟩ := execRxGateClose_between hp hm ho hu hr hcells hk w e
    refine ⟨_, hexec, rxDom_powered hp ?_ .off, ?_⟩
    · simpa using hd
    · rw [State.chanPower_rx, State.setCond_rx, updGate_gate (by simpa [hg] using hp), judgeWindow_rx]
  · rintro s -
    obtain ⟨t, hexec, hrx, hobj⟩ := execStarvationIntervalEnd_eq s
    refine ⟨_, hexec, ?_, congrArg (·.recs.length) hrx, rfl, rfl⟩
    exact (State.getN_of_obj hobj _).trans (State.getN_setN_same ..)
  · rintro s w ⟨hw, hlen, hf, hl, hn, he⟩
    refine ⟨_, execFalsePreambleCheck_over hw hl hn he, ?_, ?_⟩
    · rw [State.raiseOn_rx]
      simp [State.falseNoted, upd, hlen, hw]
    · exact raised_raiseFrom (hf ▸ by decide) ..
  · rintro s r ⟨hcan, hsound⟩
    obtain ⟨est, hexec⟩ := execRxWindowApply_taken hcan
    obtain ⟨hrx, hquay, hget⟩ := besideStream_eq (streamStart_besideStream ((s.applyAnswered r est).windowStart 0)
      Obj.RX_WINDOW_APPLY (.time 0 0 0))
    rw [windowStart_of_sound (applyAnswered_sound hsound r est)] at hexec hrx hquay hget
    refine ⟨_, hexec, ?_, ?_, ?_⟩
    · rw [hrx]
      rfl
    · exact (State.getN_of_get (hget _ (by decide))).trans (applyAnswered_runs s r est)
    · rw [Replied, hquay]
      exact applyAnswered_replied hcan.1 est
  · rintro s a ⟨ha, hr, ht, hset⟩
    obtain ⟨recs, gates, hrx, -⟩ := ((s.boundaryPassed a).forceSet a.staged).radioPower_rx
    refine ⟨_, execWindowApplyBoundary_of_due ha hr ht, ?_, ?_⟩
    · rw [chartGeometry_rx, hrx, forceSet_rx]
      rfl
    · intro w hw
      rw [hset]
      exact boundary_window (List.mem_range.1 hw) _
  · rintro s a l n ⟨hq, ha, hr, hh, hrun⟩
    obtain ⟨hstate, hrx⟩ := procDone_of_running (ix := Obj.RX_WINDOW_APPLY)
      (s := ({ s with rx := { s.rx with apply := none } } : State).rearmEnd a l n) (by
        rw [← hrun]
        simp only [State.procRunning, State.procState, State.getN_of_obj (rearmEnd_obj ..)]
        rfl)
    refine ⟨_, execWindowRearmDone_of_apply hq ha hr hh, ?_, fun w hw _ => ?_, ?_, hstate⟩
    · rw [hrx, rearmEnd_rx]
    · rw [hrx]
      exact rearmEnd_heldWin hw (by simp [State.rearmHolds, hq]) a n
    · rw [hrx, rearmEnd_rx]

end

namespace Sys2Proof.Machine

/-! ### What the pair stream, events and the power of the radio domains leave of Helm -/

theorem State.ite_helm {c : Prop} {_ : Decidable c} (s t : State) :
    (if c then s else t).helm = if c then s.helm else t.helm :=
  apply_ite State.helm c s t

theorem State.foldl_helm {α : Type} {f : State → α → State} (hf : ∀ s a, (f s a).helm = s.helm) (l : List α) (s : State) :
    (l.foldl f s).helm = s.helm :=
  State.foldl_same State.helm hf l s

@[simp] theorem State.raiseOn_helm (s : State) (code sev source : Nat) (param : Octets) :
    (s.raiseOn code sev source param).helm = s.helm := by
  simp only [State.raiseOn, State.raiseFrom, State.updFifo_helm]
  split
  · rw [coreWake_same]
  · rfl

@[simp] theorem State.switch_helm (s : State) (d : Nat) (on : Bool) : (s.switch d on).helm = s.helm := by
  simp [State.switch, State.ite_helm]

@[simp] theorem State.chanPower_helm (s : State) : s.chanPower.helm = s.helm := by
  simp [State.chanPower]

@[simp] theorem State.releaseRecs_helm (s : State) (p : Recep → Bool) : (s.releaseRecs p).helm = s.helm := rfl

@[simp] theorem State.radioPower_helm (s : State) : s.radioPower.helm = s.helm := by
  simp [State.radioPower, State.foldl_helm, State.ite_helm]

@[simp] theorem State.keyMissing_helm (s : State) (kind id user : Nat) : (s.keyMissing kind id user).helm = s.helm := by
  simp [State.keyMissing, State.ite_helm]

@[simp] theorem State.reserveCounter_helm (s : State) (k step n : Nat) : (s.reserveCounter k step n).helm = s.helm := by
  unfold State.reserveCounter
  split <;> rfl

@[simp] theorem State.useRec_helm (s : State) (r : KeyRec) : (s.useRec r).1.helm = s.helm := by
  unfold State.useRec State.setUses
  split
  · rfl
  · split
    · rfl
    · dsimp only
      split <;> simp [State.ite_helm]

@[simp] theorem State.useKey_helm (s : State) (kind id user : Nat) (out : Bool) : (s.useKey kind id user out).1.helm = s.helm := by
  unfold State.useKey State.useFor
  split
  · simp
  · split <;> simp

@[simp] theorem State.pairFrame_helm (s : State) (o : Octets) : (s.pairFrame o).helm = s.helm := by
  unfold State.pairFrame
  exact State.foldl_helm (fun _ _ => by simp) _ _

@[simp] theorem State.sendStream_helm (s : State) (n : Nat) (l : List StreamRec) : (s.sendStream n l).helm = s.helm := by
  simp [State.sendStream, State.ite_helm]

@[simp] theorem State.stream_helm (s : State) (r : StreamRec) : (s.stream r).helm = s.helm := by
  unfold State.stream
  split
  · exact State.sendStream_helm ..
  · rfl

/-! ### What the service of a slot leaves alone (R157, R161, R181, R183) -/

/-- The services of the PANs, the upcoming-cell list, and the objects below index 0x5000: a miss of a neighbour and the frames reported
with it write those of Pilot, of the trunk and of Logbook. -/
def State.slots (s : State) : List Pan × List (Nat × Nat) × (Fin 0x500000 → Val) :=
  (s.helm.pans, s.helm.upcoming, fun k => s.get k)

theorem slots_eq {s t : State} (h : t.slots = s.slots) :
    t.helm.pans = s.helm.pans ∧ t.helm.upcoming = s.helm.upcoming ∧ ∀ k < 0x500000, t.get k = s.get k := by
  simp only [State.slots, Prod.mk.injEq, funext_iff] at h
  exact ⟨h.1, h.2.1, fun k hk => h.2.2 ⟨k, hk⟩⟩

theorem slots_of_obj {s t : State} (hh : t.helm = s.helm) (ho : t.obj = s.obj) : t.slots = s.slots := by
  simp only [State.slots, hh, State.get_of_obj ho]

theorem slots_of_besideStream {s t : State} (hh : t.helm = s.helm) (hb : t.besideStream = s.besideStream) : t.slots = s.slots := by
  obtain ⟨-, -, hget⟩ := besideStream_eq hb
  simp only [State.slots, hh, Prod.mk.injEq, true_and]
  exact funext fun k => hget k (by have := k.2; omega)

theorem slots_set {s : State} {k : Nat} (h : 0x500000 ≤ k) (v : Val) : (s.set k v).slots = s.slots := by
  have hne : ∀ j : Fin 0x500000, (j : Nat) ≠ k := fun j => by have := j.2; omega
  simp only [State.slots, State.set_helm, State.get_set_ne (hne _)]

theorem State.ite_slots {c : Prop} {_ : Decidable c} (s t : State) :
    (if c then s else t).slots = if c then s.slots else t.slots :=
  apply_ite State.slots c s t

theorem State.foldl_slots {α : Type} {f : State → α → State} (hf : ∀ s a, (f s a).slots = s.slots) (l : List α) (s : State) :
    (l.foldl f s).slots = s.slots :=
  State.foldl_same State.slots hf l s

@[simp] theorem State.emit_slots (s : State) (o : Out) : (s.emit o).slots = s.slots := rfl
@[simp] theorem State.updNode_slots (s : State) (i : Nat) (g : Node → Node) : (s.updNode i g).slots = s.slots := rfl
@[simp] theorem State.arrive_slots (s : State) (p : Nat) (f : UpFrame) : (s.arrive p f).slots = s.slots := rfl
@[simp] theorem State.setFrames_slots (s : State) (l : List Frame) : (s.setFrames l).slots = s.slots := rfl
@[simp] theorem State.dropWheel_slots (s : State) (p : Wheel → Bool) : (s.dropWheel p).slots = s.slots := rfl
@[simp] theorem State.dutyDropAll_slots (s : State) (ref : Nat) : (s.dutyDropAll ref).slots = s.slots := rfl
@[simp] theorem State.addDue_slots (s : State) (d : Due) : (s.addDue d).slots = s.slots := rfl
@[simp] theorem State.setBe_slots (s : State) (node be skip : Nat) : (s.setBe node be skip).slots = s.slots := rfl

@[simp] theorem State.raiseOn_slots (s : State) (code sev source : Nat) (param : Octets) :
    (s.raiseOn code sev source param).slots = s.slots :=
  slots_of_obj (by simp) (by simp)

@[simp] theorem State.useKey_slots (s : State) (kind id user : Nat) (out : Bool) :
    (s.useKey kind id user out).1.slots = s.slots :=
  slots_of_besideStream (by simp) (by simp)

@[simp] theorem State.reserveCounter_slots (s : State) (k step n : Nat) : (s.reserveCounter k step n).slots = s.slots :=
  slots_of_besideStream (by simp) (by simp)

@[simp] theorem State.stream_slots (s : State) (r : StreamRec) : (s.stream r).slots = s.slots :=
  slots_of_besideStream (by simp) (by simp)

@[simp] theorem State.nodeChanged_slots (s : State) (i : Nat) : (s.nodeChanged i).slots = s.slots :=
  State.stream_slots ..

@[simp] theorem State.drifted_slots (s : State) (i cause : Nat) (e : Option Int) (lee tag : Nat) :
    (s.drifted i cause e lee tag).slots = s.slots := by
  simp [State.drifted]

@[simp] theorem State.setNodeState_slots (s : State) (i : Nat) (st : NodeState) : (s.setNodeState i st).slots = s.slots := by
  simp [State.setNodeState]

/-- The sequence numbers of admission messages are objects of Pilot. -/
@[simp] theorem State.takeCounter_slots (s : State) (ctx step : Nat) :
    (s.takeCounter (Obj.ADMIT_SEQ_OUT ctx) step).2.slots = s.slots := by
  have hkey : 0x500000 ≤ Obj.ADMIT_SEQ_OUT ctx := by simp only [Obj.ADMIT_SEQ_OUT]; omega
  simp [State.takeCounter, State.reserveSeq, State.ite_slots, State.setN, slots_set hkey]

@[simp] theorem State.sendOwn_slots (s : State) (o : Out) (octets : Nat) : (s.sendOwn o octets).slots = s.slots := by
  unfold State.sendOwn
  split
  · rfl
  · exact State.foldl_slots (fun _ _ => by simp) _ _

@[simp] theorem State.sendAdm_slots (s : State) (dst type ctx seq : Nat) (body : Octets) (o : Out) (octets : Nat) :
    (s.sendAdm dst type ctx seq body o octets).slots = s.slots := by
  simp [State.sendAdm, State.ite_slots]

/-- A terminal report entered in the ring: the frame leaves the ledger, its duty reservations, wheel entries and due attempts go, and
the counter of its state goes up (R261). -/
def State.reportFiled (s : State) (r : Term) : State :=
  let s := s.setFrames (s.pilot.frames.filter (fun x => x.ref != r.ref))
  let s := (s.dutyDropAll r.ref).dropWheel (fun w => (w.kind == 0 || w.kind == 1) && w.key == r.ref)
  let due := s.helm.due.filter (fun d => !(d.kind == 0 && d.ref == r.ref))
  let s := { s with pilot := { s.pilot with reports := r :: s.pilot.reports.take (reportRing - 1) },
                    helm := { s.helm with due := due } }
  s.bump (if r.state = 2 then Obj.REPORTS_DELIVERED else if r.state = 3 then Obj.REPORTS_NOT_ACKED
    else Obj.REPORTS_UNREACHABLE)

/-- The report on its way: to the control plane for flow 0, else to the head-end by the member that drives the chains (R262). -/
def State.reportSent (s : State) (f : Frame) (r : Term) : State :=
  if f.flow = 0 then (s.emit (.control 0 f.node)).stream (.report r.ref r.state)
  else if s.shadowed then s
  else
    let q := s.takeCounter (Obj.ADMIT_SEQ_OUT f.ctx) seqStep
    (q.2.sendAdm f.src 3 f.ctx q.1 r.octets (.admReport f.src f.ctx q.1 r.eui r) reportOctets).stream (.report r.ref r.state)

/-- The event of a terminal report, as PA_REPORT_EVENTS chooses (R263). -/
def State.reportRaised (s : State) (f : Frame) (r : Term) : State :=
  let ev := s.getN Obj.PA_REPORT_EVENTS
  if ev = 2 ∨ (ev = 1 ∧ r.state ≠ 2) then
    s.raiseOn 0x5001 (if r.state = 2 then 0 else 1) 0x6100
      (be 8 r.ref ++ be 4 f.node ++ be 1 r.state ++ be 1 f.made ++ be 1 f.reason ++ be 2 f.flow ++ be 1 f.cls ++ t64Octets r.time)
  else s

/-- A terminal report of a frame in the ledger is filed, sent and raised. -/
theorem report_of_known {s : State} {ref : Nat} {f : Frame} (h : s.frame? ref = some f) (st : Nat) (t : Tick) :
    ∃ r, s.report ref st t = ((s.reportFiled r).reportSent f r).reportRaised f r := by
  simp only [State.report, h]
  exact ⟨{ ref := ref, reqId := f.reqId, eui := (s.node? f.node).elim 0 (·.eui), state := st, made := f.made,
           reason := f.reason, promise := f.promise, time := t }, rfl⟩

@[simp] theorem State.reportFiled_slots (s : State) (r : Term) : (s.reportFiled r).slots = s.slots := by
  refine (slots_set ?_ _).trans rfl
  split
  · decide
  · split <;> decide

@[simp] theorem State.reportSent_slots (s : State) (f : Frame) (r : Term) : (s.reportSent f r).slots = s.slots := by
  simp [State.reportSent, State.ite_slots]

@[simp] theorem State.reportRaised_slots (s : State) (f : Frame) (r : Term) : (s.reportRaised f r).slots = s.slots := by
  simp [State.reportRaised, State.ite_slots]

@[simp] theorem State.report_slots (s : State) (ref st : Nat) (t : Tick) : (s.report ref st t).slots = s.slots := by
  cases h : s.frame? ref with
  | none => simp only [State.report, h]
  | some f =>
    obtain ⟨r, hr⟩ := report_of_known h st t
    simp [hr]

@[simp] theorem State.lost_slots (s : State) (i misses : Nat) : (s.lost i misses).slots = s.slots := by
  simp [State.lost, State.foldl_slots]

@[simp] theorem State.miss_slots (s : State) (i sf tag : Nat) : (s.miss i sf tag).slots = s.slots := by
  unfold State.miss
  repeat' split
  all_goals simp [State.ite_slots]

@[simp] theorem State.resyncCell_slots (s : State) (asn : Nat) (e : Nat × Cell) : (s.resyncCell asn e).slots = s.slots := by
  unfold State.resyncCell
  split
  · exact State.foldl_slots (fun _ _ => by simp [State.ite_slots]) _ _
  · rfl

@[simp] theorem State.advertise_slots (s : State) (pan asn psdu : Nat) (e : Nat × Cell) :
    (s.advertise pan asn psdu e).slots = s.slots := by
  simp [State.advertise, State.ite_slots]

@[simp] theorem State.bindShared_slots (s : State) (pan asn : Nat) : (s.bindShared pan asn).slots = s.slots := by
  have hcount : ∀ l : List Nat, (l.foldl (fun s i =>
      if (s.beOf i pan).2 = 0 then s else s.setBe i (s.beOf i pan).1 ((s.beOf i pan).2 - 1)) s).slots = s.slots :=
    fun l => State.foldl_slots (fun _ _ => by simp [State.ite_slots]) l s
  unfold State.bindShared
  split
  · rfl
  · dsimp only
    split <;> exact hcount _

@[simp] theorem State.assertSlot_slots (s : State) (pan asn psdu : Nat) : (s.assertSlot pan asn psdu).slots = s.slots := by
  unfold State.assertSlot
  dsimp only
  split
  · rfl
  · cases s.firstSf pan <;> rfl

/-- The slot's events carry what fell in the quiet slots that have ended, and the list loses them. -/
@[simp] theorem State.quietEnd_slots (s : State) (pan asn : Nat) : (s.quietEnd pan asn).slots = s.slots := by
  unfold State.quietEnd
  exact State.foldl_slots (fun _ _ => by simp) _ _

@[simp] theorem State.stateChange_helm (s : State) (after cause micros : Nat) : (s.stateChange after cause micros).helm = s.helm := by
  have hbias : ∀ (l : List Nat) (s : State), (l.foldl (fun s d => s.setCond d .biasChange) s).helm = s.helm :=
    fun l s => State.foldl_helm (fun _ _ => by simp) l s
  simp [State.stateChange, State.biasShift, State.ite_helm, State.biasFor, hbias]

@[simp] theorem State.gating_helm (s : State) (m : Nat) : (s.gating m).helm = s.helm := by
  simp [State.gating]

@[simp] theorem State.modeApply_helm (s : State) : s.modeApply.helm = s.helm := by
  unfold State.modeApply
  dsimp only
  split
  · rfl
  · split <;> simp

end Sys2Proof.Machine

namespace Sys2Proof.Machine

/-! ### The boundary of a slot (R151, R155, R157, R161) -/

theorem updPan_pan {s : State} {p : Nat} (h : p < s.helm.pans.length) (f : Pan → Pan) :
    nth (s.updPan p f).helm.pans p = f (nth s.helm.pans p) :=
  nth_upd_same h f

/-- The list rebuilt by a look-ahead is as long as UPCOMING_DEPTH says. -/
theorem lookAhead_depth (s : State) : s.lookAhead.getN Obj.UPCOMING_DEPTH = s.lookAhead.helm.upcoming.length := by
  rw [State.lookAhead, State.getN_setN_same]
  exact (List.length_map _).symm

theorem lookAhead_get_ne {s : State} {k : Nat} (h : k ≠ Obj.UPCOMING_DEPTH) : s.lookAhead.get k = s.get k :=
  State.get_setN_ne h

@[simp] theorem lookAhead_pans (s : State) : s.lookAhead.helm.pans = s.helm.pans := rfl

/-- The slot of a PAN in service has begun: POWER_MODE that is due takes effect, PN_ASN and the upcoming-cell list move on. -/
def State.slotBegun (s : State) (pan psdu asn : Nat) : State :=
  let s := if s.pwr.modeFrom.elim false (fun t => decide (t + 120 * usC ≤ s.now)) then s.modeApply else s
  (((s.updPan pan (fun x => { x with running := true, psdu := psdu })).setN (Obj.PN_ASN pan) asn).quietEnd pan asn).lookAhead

/-- What the slot does for its cells: misses of resynchronisation, beacons, the frame of a SHARED cell, an assertion beacon. -/
def State.slotWork (s : State) (pan psdu asn : Nat) : State :=
  let s := { s with helm := { s.helm with blankedWin := s.helm.blankedWin.filter (fun e => decide (asn ≤ e.2 + 1)) } }
  let l := s.chosenCells pan asn
  let s := l.foldl (fun s e => s.resyncCell asn e) s
  let s := l.foldl (fun s e => s.advertise pan asn psdu e) s
  (s.bindShared pan asn).assertSlot pan asn psdu

/-- SLOT_BOUNDARY of an enabled PAN from its epoch on. -/
theorem execSlotBoundary_of_served {s : State} {pan : Nat} (hp : pan < 4) (hon : s.isOn 3 = true)
    (hstop : (nth s.helm.pans pan).stopping = false) (hen : s.getB (Obj.PN_ENABLE pan) = true)
    (hep : s.epoch pan ≤ (s.time : Int)) (psdu : Nat) :
    execSlotBoundary pan psdu s =
      .next ((s.slotBegun pan psdu (s.asnAt pan s.time)).slotWork pan psdu (s.asnAt pan s.time)) := by
  have hgo : ¬ (4 ≤ pan ∨ s.isOn 3 = false) := by simp [hon, Nat.not_le.2 hp]
  have hserve : ¬ (s.getB (Obj.PN_ENABLE pan) = false ∨ (s.time : Int) < s.epoch pan) := by simp [hen, Int.not_lt.2 hep]
  simp only [execSlotBoundary, if_neg hgo, hstop, Bool.false_eq_true, if_false, if_neg hserve]
  rfl

/-- SLOT_BOUNDARY of a PAN that is to stop. -/
theorem execSlotBoundary_of_stopping {s : State} {pan : Nat} (hp : pan < 4) (hon : s.isOn 3 = true)
    (hstop : (nth s.helm.pans pan).stopping = true) (psdu : Nat) :
    execSlotBoundary pan psdu s = .next (s.panEnd pan) := by
  have hgo : ¬ (4 ≤ pan ∨ s.isOn 3 = false) := by simp [hon, Nat.not_le.2 hp]
  simp only [execSlotBoundary, if_neg hgo, hstop, if_true]

@[simp] theorem slotWork_slots (s : State) (pan psdu asn : Nat) : (s.slotWork pan psdu asn).slots = s.slots := by
  simp only [State.slotWork, State.assertSlot_slots, State.bindShared_slots]
  rw [State.foldl_slots (fun _ _ => State.advertise_slots ..), State.foldl_slots (fun _ _ => State.resyncCell_slots ..)]
  rfl

/-- At the beginning of its slot the PAN runs, and PN_ASN is the slot's. -/
theorem slotBegun_serves {s : State} {pan : Nat} (h : pan < s.helm.pans.length) (hp : pan < 4) (psdu asn : Nat) :
    (nth (s.slotBegun pan psdu asn).helm.pans pan).running = true ∧ (s.slotBegun pan psdu asn).getN (Obj.PN_ASN pan) = asn := by
  have hkey : Obj.PN_ASN pan < 0x500000 ∧ Obj.PN_ASN pan ≠ Obj.UPCOMING_DEPTH := by
    simp only [Obj.PN_ASN, Obj.UPCOMING_DEPTH]; omega
  simp only [State.slotBegun]
  generalize hm : (if s.pwr.modeFrom.elim false (fun t => decide (t + 120 * usC ≤ s.now)) then s.modeApply else s) = m
  have hmode : m.helm = s.helm := by simp [← hm, State.ite_helm]
  obtain ⟨hpans, -, hget⟩ := slots_eq (State.quietEnd_slots
    ((m.updPan pan (fun x => { x with running := true, psdu := psdu })).setN (Obj.PN_ASN pan) asn) pan asn)
  constructor
  · rw [lookAhead_pans, hpans, State.setN_helm, updPan_pan (hmode ▸ h)]
  · rw [State.getN_of_get ((lookAhead_get_ne hkey.2).trans (hget _ hkey.1)), State.getN_setN_same]

/-- The end of a PAN's service. -/
theorem panEnd_stopped {s : State} {pan : Nat} (h : pan < s.helm.pans.length) :
    (nth (s.panEnd pan).helm.pans pan).running = false ∧ (nth (s.panEnd pan).helm.pans pan).stopping = false := by
  have hpans : (s.panEnd pan).helm.pans = upd s.helm.pans pan (fun x => { x with running := false, stopping := false }) := by
    simp only [State.panEnd, State.radioPower_helm, lookAhead_pans]
    rfl
  simp [hpans, nth_upd_same h]

/-! ### The freeze (R162–R167, R186) -/

/-- One frame is due at a freeze, a beacon of a PAN in service, and the member makes transmissions. -/
structure BeaconAlone (s : State) (b : Nat) (t : Tick) (d : Due) : Prop where
  band : b < 2
  on : s.isOn 3 = true
  ahead : s.time ≤ t
  near : t ≤ s.time + 150 * usT
  due : s.helm.due = [d]
  kind : d.kind = 2
  start : d.start = t
  cell : d.cell ≠ noCell
  pan : s.getN (Obj.PN_BAND d.pan) = b
  served : s.panServed d.pan = true
  notPairing : s.getN Obj.CS_STATE ≠ 1
  notResync : s.getN Obj.CS_STATE ≠ 4

/-- The state with no frame due, in which the freeze tests the one that was. -/
def State.dueTaken (s : State) : State := { s with helm := { s.helm with due := [] } }

/-- The groups of a freeze are planned at their frequencies, blank their listen windows, and are streamed. -/
def State.groupsPlanned (s : State) (b : Nat) (t : Tick) (gs : List Group) : State :=
  let gs := gs.map (fun g => { g with freq := s.planFreq g, nplan := s.nPlan g })
  let s := { s with helm := { s.helm with plans := s.helm.plans ++ gs } }
  let s := if s.silent then s else s.countBlanked b gs
  if gs = [] then s else s.stream (.plan t (gs.flatMap (fun g => g.frames.map (fun f => (s.itemOf g f, f.air)))))

theorem execPlanFreeze_alone {s : State} {b : Nat} {t : Tick} {d : Due} (h : BeaconAlone s b t d) (ending : List Nat) :
    execPlanFreeze b t ending s =
      .next ((s.dueTaken.freezeOne [] d t ending).1.groupsPlanned b t (s.dueTaken.freezeOne [] d t ending).2) := by
  have hmine : (d.start == t && d.cell != noCell && s.getN (Obj.PN_BAND d.pan) == b ||
      (d.kind == 3 && d.start == t && s.getN (Obj.PN_BAND d.pan) == b)) = true := by
    simp [h.start, h.cell, h.pan]
  have hchosen : s.inChosen d = true := by simp [State.inChosen, h.kind]
  have hgo : ¬ (2 ≤ b ∨ s.isOn 3 = false ∨ t < s.time ∨ s.time + 150 * usT < t ∨ [d] = []) := by
    simp [h.on, Nat.not_le.2 h.band, Nat.not_lt.2 h.ahead, Nat.not_lt.2 h.near]
  have hpair : ¬ (s.dueTaken.getN Obj.CS_STATE = 1 ∨ s.dueTaken.getN Obj.CS_STATE = 4) := not_or.2 ⟨h.notPairing, h.notResync⟩
  simp only [execPlanFreeze, h.due, List.filter_cons, List.filter_nil, hmine, h.served, hchosen, Bool.and_self, if_true,
    List.foldl_cons, List.foldl_nil, dueInsert, if_neg hgo, Bool.not_true, Bool.false_eq_true, if_false]
  exact (if_neg hpair).trans rfl

/-- Listen windows counted as blanked leave the frames due and the plans as they are. -/
theorem countBlanked_due_plans (s : State) (b : Nat) (gs : List Group) :
    (s.countBlanked b gs).helm.due = s.helm.due ∧ (s.countBlanked b gs).helm.plans = s.helm.plans := by
  have hsame : (fun s : State => (s.helm.due, s.helm.plans)) (s.countBlanked b gs) = (s.helm.due, s.helm.plans) := by
    unfold State.countBlanked
    refine State.foldl_same (fun s => (s.helm.due, s.helm.plans)) (fun s g => ?_) _ _
    refine State.foldl_same (fun s => (s.helm.due, s.helm.plans)) (fun s w => ?_) _ _
    split <;> rfl
  exact Prod.mk.inj hsame

theorem groupsPlanned_due_plans (s : State) (b : Nat) (t : Tick) (gs : List Group) :
    (s.groupsPlanned b t gs).helm.due = s.helm.due ∧ (s.groupsPlanned b t gs).helm.plans =
      s.helm.plans ++ gs.map (fun g => { g with freq := s.planFreq g, nplan := s.nPlan g }) := by
  simp only [State.groupsPlanned, State.ite_helm, State.stream_helm, ite_self]
  split
  · exact ⟨rfl, rfl⟩
  · exact countBlanked_due_plans ..

/-- With no group to plan nothing is left to do. -/
theorem groupsPlanned_nil (s : State) (b : Nat) (t : Tick) : s.groupsPlanned b t [] = s := by
  simp [State.groupsPlanned, State.countBlanked]

/-- A beacon that passes every test of the freeze goes into a group of its own. -/
theorem freezeOne_beacon_placed {s : State} {d : Due} (hk : d.kind = 2) {t : Tick} {ending : List Nat} {p c f bw : Nat}
    (h : s.placeDue [] d t ending = .ok (p, c, f, bw)) :
    s.freezeOne [] d t ending = (s, addCarrier [] c p t (s.airOf d c f bw)) := by
  have hprotect : s.protect d = (s, true) := by simp [State.protect, hk]
  simp only [State.freezeOne, h, hprotect, if_true]

/-- A beacon that fails a test, but for that of the duty cycle and of the quiet slots, is skipped. -/
theorem freezeOne_beacon_failed {s : State} {d : Due} (hk : d.kind = 2) {t : Tick} {ending : List Nat} {r : Nat} (hr : r ≠ 10)
    (h : s.placeDue [] d t ending = .error (r, none)) :
    s.freezeOne [] d t ending = (s.bump Obj.BEACONS_SKIPPED, []) := by
  simp [State.freezeOne, h, hr, State.deferDue, hk]

theorem toOption_eq_some {ε α : Type} {x : Except ε α} {a : α} : x.toOption = some a ↔ x = .ok a := by
  cases x <;> simp [Except.toOption]

theorem errorOf_eq_some {ε α : Type} {x : Except ε α} {e : ε} : errorOf x = some e ↔ x = .error e := by
  cases x <;> simp [errorOf]

/-! ### Quiet slots (R166) -/

/-- The quiet slot of kind `kind` for chain `c` and port `p` in the next slot of PAN `pan` that begins 1 ms ahead or later. -/
def State.quietOf (s : State) (kind c p pan : Nat) : Quiet :=
  { kind := kind, chain := c, port := p, pan := pan,
    asn := cdiv (((s.time + msT : Nat) : Int) - s.epoch pan).toNat (max 1 (s.slotLen pan)), deferred := 0, withheld := 0 }

/-- A quiet slot is inserted on its chain, and counted. -/
def State.quietInserted (s : State) (q : Quiet) : State :=
  { s with helm := { s.helm with quiet := s.helm.quiet ++ [q],
                                 lastQuiet := upd s.helm.lastQuiet q.chain (fun _ => some s.now) } }.bump Obj.QUIET_SLOTS

/-- QUIET_SLOT_INSERT for a calibration that has waited 2 s, with none inserted for its chain. -/
theorem execQuietSlotInsert_cal {s : State} {c p : Nat} {t0 : Count} (hc : c < 3) (hs : (s.chain c).pendingSince = some t0)
    (hp : s.shortestPan (chainBand c) = some p) (hw : t0 + 2 * secC ≤ s.now) (hl : s.helm.lastQuiet.getD c none = none)
    (hq : s.helm.quiet.all (fun q => !(q.kind == 0 && q.chain == c)) = true) :
    execQuietSlotInsert 0 c s = .next (s.quietInserted (s.quietOf 0 c 4 p)) := by
  have hnone : s.helm.quiet.any (fun q => q.kind == 0 && q.chain == c) = false := by
    rwa [← List.not_any_eq_all_not, Bool.not_eq_true'] at hq
  simp only [execQuietSlotInsert, if_true, hs, hp, hl, hnone]
  refine (if_neg ?_).trans ?_
  · simp [Nat.not_le.2 hc, Nat.not_lt.2 hw]
  · simp [State.quietInserted, State.quietOf]

/-- The chain on which a retune of a port is made: LOCKED and free, else free, else the first of the port (R89). -/
def State.retuneChain (s : State) (p : Nat) : Option Nat :=
  (((s.chainsOf p).find? s.lockedFree).orElse (fun _ => (s.chainsOf p).find? s.chainFree)).orElse (fun _ => (s.chainsOf p).head?)

theorem chainsOf_lt {s : State} {p c : Nat} (h : c ∈ s.chainsOf p) : c < 3 := by
  have hband : c ∈ bandChains (bandOf p) := (List.mem_filter.1 h).1
  unfold bandChains at hband
  split at hband <;> simp at hband <;> omega

theorem retuneChain_lt {s : State} {p c : Nat} (h : s.retuneChain p = some c) : c < 3 := by
  refine chainsOf_lt (s := s) (p := p) ?_
  simp only [State.retuneChain] at h
  cases hlocked : (s.chainsOf p).find? s.lockedFree with
  | some x =>
    obtain rfl : x = c := by simpa [hlocked] using h
    exact List.mem_of_find?_eq_some hlocked
  | none =>
    cases hfree : (s.chainsOf p).find? s.chainFree with
    | some x =>
      obtain rfl : x = c := by simpa [hlocked, hfree] using h
      exact List.mem_of_find?_eq_some hfree
    | none => exact List.mem_of_head? (by simpa [hlocked, hfree] using h)

/-- QUIET_SLOT_INSERT for a retune that has waited 2 s, with none inserted for its port: the quiet slot is inserted, and is the new
expected start of a BEARING_RETUNE (R64). -/
theorem execQuietSlotInsert_retune {s : State} {p c pan : Nat} {q : RetuneReq} (hp : p < 4) (hc : s.retuneChain p = some c)
    (hr : (s.port p).retuneReq = some q) (hpan : s.shortestPan (chainBand c) = some pan) (hw : q.since + 2 * secC ≤ s.now)
    (hl : s.helm.lastQuiet.getD c none = none)
    (hq : s.helm.quiet.all (fun q => !(q.kind == 1 && q.port == p)) = true) :
    ∃ t, execQuietSlotInsert 1 p s = .next t ∧ t.helm = (s.quietInserted (s.quietOf 1 c p pan)).helm ∧
      t.getN Obj.QUIET_SLOTS = (s.quietInserted (s.quietOf 1 c p pan)).getN Obj.QUIET_SLOTS := by
  have hnone : s.helm.quiet.any (fun q => q.kind == 1 && q.port == p) = false := by
    rwa [← List.not_any_eq_all_not, Bool.not_eq_true'] at hq
  have hchain : (((s.chainsOf p).find? s.lockedFree).orElse (fun _ => (s.chainsOf p).find? s.chainFree)).orElse
      (fun _ => (s.chainsOf p).head?) = some c := hc
  simp only [execQuietSlotInsert, Nat.one_ne_zero, if_false, hr, Option.map_some, hchain, Option.getD_some, hpan, hl, hnone]
  refine ⟨_, if_neg ?_, ?_, ?_⟩
  · simp [Nat.not_le.2 hp, Nat.not_le.2 (retuneChain_lt hc), Nat.not_lt.2 hw]
  · split <;> rfl
  · split
    · exact State.getN_of_get (State.get_set_ne (by decide))
    · rfl

/-! ### The end of a cell (R189, R260, R261) -/

/-- The due attempts of a PAN's cells that have ended, and their duty reservations, go. -/
def State.cellsEnded (s : State) (pan asn : Nat) : State :=
  let due := s.helm.due.filter (fun d => !(d.pan == pan && d.cell != noCell && !d.shared && decide (d.asn ≤ asn)))
  { s with helm := { s.helm with due := due } }.dutyCellEnd pan asn

/-- The reserved attempts of a PAN's cells that have ended and were not used: on air in no group, with no acknowledgement awaited. -/
def State.unused (s : State) (pan asn : Nat) : List (Nat × Inst) :=
  s.pilot.frames.flatMap (fun f => (f.insts.filter (fun i => i.pan == pan && decide (i.asn ≤ asn) &&
    !((s.fe.chains.filterMap (·.group)).any (fun g => g.frames.any (fun x => x.ref == f.ref && x.cell == i.cell && x.asn == i.asn))) &&
    !(s.helm.waits.any (fun w => w.ref == f.ref && w.cell == i.cell && w.asn == i.asn)))).map (fun i => (f.ref, i)))

/-- Of the TX cells kept in their old form those that a reserved attempt still needs stay (R159). -/
def State.oldCellsKept (s : State) : State :=
  let keep := s.helm.oldCells.filter (fun e => s.pilot.frames.any (fun f => f.insts.any (fun i => i.cell == e.1)))
  { s with helm := { s.helm with oldCells := keep } }

/-- The attempts that were not used end with a reason of R260: 15, or 13 where the PAN has stopped. -/
def State.attemptsEnded (s : State) (l : List (Nat × Inst)) (reason : Nat) : State :=
  l.foldl (fun s x => s.attemptEnds x.1 x.2.cell x.2.asn reason) s

theorem attemptsEnded_obj (s : State) (l : List (Nat × Inst)) (reason : Nat) : (s.attemptsEnded l reason).obj = s.obj :=
  State.foldl_obj (f := fun s (x : Nat × Inst) => s.attemptEnds x.1 x.2.cell x.2.asn reason) (fun _ _ => rfl) l s

/-- CELL_END once the cell has ended, by its parts. -/
theorem execCellEnd_eq {s : State} {pan asn : Nat} (ht : s.cellStart pan (asn + 1) ≤ s.time) :
    execCellEnd pan asn s =
      let u := (s.cellsEnded pan asn).attemptsEnded (s.unused pan asn) (if (nth s.helm.pans pan).running = false then 13 else 15)
      if u.shadowed then .next u
      else .next (if (nth s.helm.pans pan).running = false then
        ((s.unused pan asn).map (·.1)).eraseDups.foldl (fun s r => s.report r 3 s.time) u else u).oldCellsKept.decideReports :=
  if_neg (Nat.not_lt.2 ht)

/-- CELL_END of a member that drives the chains, where the PAN runs or no reserved attempt went unused. -/
theorem execCellEnd_of_past {s : State} {pan asn : Nat} (ht : s.cellStart pan (asn + 1) ≤ s.time) (hs : s.shadowed = false)
    (hrun : (nth s.helm.pans pan).running = true ∨ s.unused pan asn = []) :
    execCellEnd pan asn s =
      .next (((s.cellsEnded pan asn).attemptsEnded (s.unused pan asn) 15).oldCellsKept.decideReports) := by
  have hshadow : ∀ l reason, ((s.cellsEnded pan asn).attemptsEnded l reason).shadowed = false := by
    intro l reason
    rw [← hs]
    simp only [State.shadowed, State.getN_of_obj (attemptsEnded_obj ..)]
    rfl
  rw [execCellEnd_eq ht]
  rcases hrun with hrun | hnone
  · simp [hrun, hshadow]
  · simp only [hnone, hshadow, Bool.false_eq_true, if_false, List.map_nil, List.eraseDups_nil, List.foldl_nil, ite_self]
    rfl

/-- Where every frame's promise lies ahead none is decided. -/
theorem decideReports_of_ahead {s : State} (h : ∀ f ∈ s.pilot.frames, s.time < f.promise) : s.decideReports = s := by
  have hnone : s.pilot.frames.filter (fun f => f.insts.isEmpty && decide (f.promise ≤ s.time) &&
      !(s.helm.waits.any (fun w => w.ref == f.ref))) = [] :=
    List.filter_eq_nil_iff.2 fun f hf => by simp [Nat.not_le.2 (h f hf)]
  simp only [State.decideReports, hnone, List.foldl_nil]

/-- The one frame's one reserved attempt, on air nowhere and awaited nowhere, went unused. -/
theorem unused_alone {s : State} {pan asn : Nat} {f : Frame} {i : Inst} (hf : s.pilot.frames = [f]) (hi : f.insts = [i])
    (hp : i.pan = pan) (ha : i.asn ≤ asn) (hg : s.fe.chains.filterMap (·.group) = []) (hw : s.helm.waits = []) :
    s.unused pan asn = [(f.ref, i)] := by
  simp [State.unused, hf, hi, hp, ha, hg, hw]

/-! ### Duty-cycle bins (R190, R191) -/

/-- A sub-band at a new bin: the limits take effect and the charges out of every window go. -/
def State.dutyRenewed (s : State) (b : Nat) : State :=
  let cur := s.binAt b s.now
  let lim := s.getN (Obj.SB_LIMIT b) * s.getN (Obj.SB_WINDOW b)
  s.updDuty b (fun d =>
    { d with bin := cur, limit := lim, reserve := lim * s.getN (Obj.SB_ALARM_RESERVE b) / 100,
             charges := d.charges.filter (fun e => decide ((cur : Int) ≤ e.1 + 64)) })

theorem execDutyBinBoundary_of_new {s : State} {b : Nat} (hb : b < 16) (he : s.getB (Obj.SB_ENABLE b) = true)
    (hon : s.isOn 3 = true) (hbin : (nth s.helm.duty b).bin < s.binAt b s.now) :
    execDutyBinBoundary b s = .next { s.dutyRenewed b with
      helm := { (s.dutyRenewed b).helm with mirror := (s.dutyRenewed b).helm.duty, mirrorAt := some s.now, away := [] } } := by
  have hgo : ¬ (16 ≤ b ∨ s.getB (Obj.SB_ENABLE b) = false ∨ s.isOn 3 = false ∨ s.binAt b s.now ≤ (nth s.helm.duty b).bin) := by
    simp [he, hon, Nat.not_le.2 hb, Nat.not_le.2 hbin]
  exact (if_neg hgo).trans rfl

end Sys2Proof.Machine

section
open Sys2Proof.Machine

/-- Settles O11: each clause's conditions pick the branch of its command (`execSlotBoundary_of_served` and the lemmas beside it). The
work of a slot for its cells leaves the PANs' services, the upcoming-cell list and Helm's objects alone (`State.slots`), and the pair
stream all of Helm. BEACONS_SKIPPED for a beacon that fails at the freeze is R186; the bins and what is mirrored at their boundary are
R190 and R191. -/
theorem slotsComplete : Obligations.SlotsComplete := by
  refine ⟨?_, ?_, ?_, ?_, ?_, ?_, ?_, ?_, ?_⟩
  · rintro s pan eb ⟨hp, hlen, hon, hstop, hen, hep⟩
    obtain ⟨hpans, hupcoming, hget⟩ := slots_eq (slotWork_slots (s.slotBegun pan eb (s.asnAt pan s.time)) pan eb (s.asnAt pan s.time))
    obtain ⟨hruns, hasn⟩ := slotBegun_serves hlen hp eb (s.asnAt pan s.time)
    refine ⟨_, execSlotBoundary_of_served hp hon hstop hen hep eb, ?_, ?_, ?_⟩
    · rw [hpans, hruns]
    · exact (State.getN_of_get (hget _ (by simp only [Obj.PN_ASN]; omega))).trans hasn
    · rw [State.getN_of_get (hget _ (by decide)), hupcoming]
      exact lookAhead_depth _
  · rintro s pan eb ⟨hp, hlen, hon, hstop⟩
    exact ⟨_, execSlotBoundary_of_stopping hp hon hstop eb, panEnd_stopped hlen⟩
  · rintro s b p c f bw ti d ⟨hb, hon, hahead, hnear, hdue, hk, hstart, hcell, hpan, hserved, h1, h4, hplace⟩
    have halone : BeaconAlone s b ti d := ⟨hb, hon, hahead, hnear, hdue, hk, hstart, hcell, hpan, hserved, h1, h4⟩
    have hplaced : s.dueTaken.placeDue [] d ti [] = .ok (p, c, f, bw) := toOption_eq_some.1 hplace
    have hexec := execPlanFreeze_alone halone []
    rw [freezeOne_beacon_placed hk hplaced] at hexec
    obtain ⟨hd, hplans⟩ := groupsPlanned_due_plans s.dueTaken b ti (addCarrier [] c p ti (s.dueTaken.airOf d c f bw))
    refine ⟨_, hexec, hd, ?_⟩
    rw [hplans]
    simp [State.dueTaken, addCarrier, State.airOf, hk]
  · rintro s b r ti d ⟨hb, hon, hahead, hnear, hdue, hk, hstart, hcell, hpan, hserved, h1, h4, hr, herr⟩
    have halone : BeaconAlone s b ti d := ⟨hb, hon, hahead, hnear, hdue, hk, hstart, hcell, hpan, hserved, h1, h4⟩
    have hfailed : s.dueTaken.placeDue [] d ti [] = .error (r, none) := errorOf_eq_some.1 herr
    have hexec := execPlanFreeze_alone halone []
    rw [freezeOne_beacon_failed hk hr hfailed, groupsPlanned_nil] at hexec
    exact ⟨_, hexec, rfl, rfl, State.getN_bump_same ..⟩
  · rintro s c p t0 ⟨hc, hlen, hs, hp, hw, hl, hq⟩
    refine ⟨_, execQuietSlotInsert_cal hc hs hp hw hl hq, ?_, ?_, State.getN_bump_same ..⟩
    · simp [State.quietInserted, State.quietOf]
    · simp [State.quietInserted, State.quietOf, upd, hlen]
  · rintro s p c pan q ⟨hp, hc, -, hr, hpan, hw, hl, hq⟩
    obtain ⟨t, hexec, hhelm, hcount⟩ := execQuietSlotInsert_retune hp hc hr hpan hw hl hq
    refine ⟨t, hexec, ?_, hcount.trans (State.getN_bump_same ..)⟩
    simp [hhelm, State.quietInserted, State.quietOf]
  · rintro s pan asn ⟨ht, hs, hf⟩
    have hnone : s.unused pan asn = [] := by simp [State.unused, hf]
    have hexec := execCellEnd_of_past ht hs (.inr hnone)
    rw [hnone, decideReports_of_ahead (by simp [State.attemptsEnded, State.oldCellsKept, State.cellsEnded, State.dutyCellEnd, hf])]
      at hexec
    refine ⟨_, hexec, rfl, ?_, rfl, rfl⟩
    simp [State.attemptsEnded, State.oldCellsKept, State.cellsEnded, State.dutyCellEnd, hf]
  · rintro s pan asn f i ⟨ht, hs, hf, hi, hp, ha, hg, hw, hrun, hahead⟩
    have hexec := execCellEnd_of_past ht hs (.inl hrun)
    rw [unused_alone hf hi hp ha hg hw] at hexec
    have hframes : (((s.cellsEnded pan asn).attemptsEnded [(f.ref, i)] 15).oldCellsKept).pilot.frames =
        [{ f with made := f.made + 1, reason := 15, insts := [] }] := by
      simp [State.attemptsEnded, State.oldCellsKept, State.cellsEnded, State.dutyCellEnd, State.attemptEnds, State.updFrame, hf, hi]
    rw [decideReports_of_ahead (by rw [hframes]; exact List.forall_mem_singleton.2 hahead)] at hexec
    exact ⟨_, hexec, hframes, rfl⟩
  · rintro s b ⟨hb, hlen, he, hon, hbin⟩
    refine ⟨_, execDutyBinBoundary_of_new hb he hon hbin, ?_, ?_, rfl, rfl, rfl, rfl⟩
    · simp [State.dutyRenewed, State.updDuty, nth_upd_same hlen]
    · simp [State.dutyRenewed, State.updDuty, nth_upd_same hlen]

end

namespace Sys2Proof.Machine

/-! ### An acknowledgement that member B withholds (R327) -/

/-- An acknowledgement that would cover an instant that member B keeps clear is withheld: nothing is planned for it. -/
theorem placeAck_of_guarded {s : State} {a : AckPlan} (h : s.guardsAssertion (bandOf a.port) a.start (a.start + a.air * usT) = true)
    (pend : Bool) : s.placeAck a pend = s.bump Obj.ACK_WITHHELD_BLANK := if_pos h

/-- ACK_COMPOSE of an acknowledgement to a node that is not in the table uses no key. -/
theorem execAckCompose_of_unknown {s : State} {i : Nat} {a : AckPlan} (hi : s.helm.acks[i]? = some a)
    (ht : a.start ≤ s.time + 40 * usT) (hn : s.node? a.node = none) :
    ∃ pend, execAckCompose i s =
      .next (({ s with helm := { s.helm with acks := s.helm.acks.eraseIdx i } } : State).placeAck a pend) := by
  have hnode : ({ s with helm := { s.helm with acks := s.helm.acks.eraseIdx i } } : State).node? a.node = none := hn
  simp only [execAckCompose, hi, if_neg (Nat.not_lt.2 ht), hnode, if_true]
  exact ⟨_, rfl⟩

/-- An acknowledgement of 100 ms on port LA. -/
def longAck : AckPlan :=
  { node := 0, pan := 0, port := 0, chain := 0, start := 0, air := 100000, cls := 0, corr := 0, freq := 0, bw := 0, pending := none,
    who := 0, dst := .none, asn := 0 }

/-- Member B without a partner pulse, in the assertion slots of PAN 0, that owes this acknowledgement. -/
def guarding : State :=
  let s := (State.reset.setN Obj.CS_PAIRSEL 2).setN Obj.CS_PARTNER_STATE 0xFF
  { s with helm := { s.helm with
      acks := [longAck]
      pans := [{ running := true, stopping := false, assertLeft := 0, assertFirst := some 0, psdu := 0 }] } }

/-- The acknowledgement covers the SFD instant of an assertion beacon in slot 0. -/
theorem guarding_guards : (guarding.guardsAssertion 0 0 (100000 * usT)) = true := by decide

end Sys2Proof.Machine

section
open Sys2Proof.Machine

/-- Refutes O12: ACK_COMPOSE plans no acknowledgement that would cover the SFD instant of an assertion beacon, which member B keeps
clear (R327); the clause for ACK_COMPOSE does not exclude that. The state `guarding` meets its conditions and plans nothing. -/
theorem not_framesHeardComplete : ¬ Obligations.FramesHeardComplete := by
  rintro ⟨-, -, hack, -⟩
  obtain ⟨t, hexec, -, hplans⟩ := hack guarding 0 longAck ⟨rfl, Nat.zero_le _, rfl, rfl, rfl⟩
  obtain ⟨pend, hnext⟩ := execAckCompose_of_unknown (s := guarding) (i := 0) (a := longAck) rfl (Nat.zero_le _) rfl
  rw [placeAck_of_guarded guarding_guards] at hnext
  obtain rfl := Host.Outcome.next.inj (hexec.symm.trans hnext)
  exact List.cons_ne_nil _ _ hplans.symm

end

namespace Sys2Proof.Machine

/-! ### A dictionary write that is taken (R59, R314, R520) -/

/-- A value that passes the checks passes them too where its chapter adds causes that it does not meet: of the branches of the checks one
alone takes a value, and the added causes stand before it. -/
theorem checkWrite_of_late {s : State} {sess ix sub : Nat} {w : Wire} {v : Val} {late : Val → Option Rc}
    (h : s.checkWrite sess ix sub w (fun _ => none) = .ok v) (hl : late v = none) :
    s.checkWrite sess ix sub w late = .ok v := by
  revert h
  unfold State.checkWrite
  dsimp only
  repeat' split
  all_goals intro h; cases h
  all_goals simp_all

/-- The state in which an accepted write of `w` to `ix:sub` takes effect: Logbook's queue drained, the write journaled. -/
def State.taken (s : State) (ix sub : Nat) (w : Wire) : State :=
  s.entered.lbDrain.journal 1 0 ix sub .ok (s.entered.lbDrain.oldOf 0 (Obj.key ix sub)) w.cbor

@[simp] theorem lbDrain_sx (s : State) : s.lbDrain.sx = s.sx := by
  unfold State.lbDrain
  exact State.foldl_same State.sx (fun _ _ => by simp) _ _

@[simp] theorem lbDrain_now (s : State) : s.lbDrain.now = s.now := by
  unfold State.lbDrain
  exact State.foldl_same State.now (fun _ _ => by simp) _ _

section
variable (s : State) (ix sub : Nat) (w : Wire)

theorem taken_get_ne {k : Nat} (h : k ≠ Obj.LB_COMMITS) : (s.taken ix sub w).get k = s.get k := by
  rw [State.taken, State.get_of_obj (State.journal_obj ..), lbDrain_get_ne h, entered_get]

@[simp] theorem taken_helm : (s.taken ix sub w).helm = s.helm := by
  simp [State.taken]

@[simp] theorem taken_quay : (s.taken ix sub w).mg.quay = s.mg.quay := by
  simp [State.taken]

theorem taken_table : (s.taken ix sub w).rst.lodestar = s.rst.lodestar ∧ (s.taken ix sub w).rst.table = s.rst.table := by
  have hrst : (s.taken ix sub w).rst = s.coreWake.rst := by simp [State.taken, State.entered]
  rw [hrst]
  exact coreWake_table s

/-- Sextant time rests on Sextant, COUNT and SX_RATE. -/
theorem time_congr {s t : State} (hx : t.sx = s.sx) (hn : t.now = s.now) (hr : t.get Obj.SX_RATE = s.get Obj.SX_RATE) :
    t.time = s.time := by
  simp only [State.time, State.timeAt, State.getI, hx, hn, hr]

theorem epoch_congr {s t : State} {p : Nat} (h : t.get (Obj.PN_EPOCH p) = s.get (Obj.PN_EPOCH p)) : t.epoch p = s.epoch p := by
  have htick : t.getT (Obj.PN_EPOCH p) = s.getT (Obj.PN_EPOCH p) := congrArg Val.toTick h
  unfold State.epoch
  rw [htick]

theorem taken_time : (s.taken ix sub w).time = s.time := by
  refine time_congr ?_ ?_ (taken_get_ne s ix sub w (by decide))
  · simp only [State.taken, State.journal_sx, lbDrain_sx, State.entered, State.updSession_sx]
    rw [coreWake_same]
  · simp only [State.taken, State.journal_now, lbDrain_now, State.entered, State.updSession_now]
    rw [coreWake_same]

@[simp] theorem streamWrite_helm (sess : Nat) (v : Val) : (s.streamWrite sess ix sub v).helm = s.helm := by
  simp [State.streamWrite, State.ite_helm]

@[simp] theorem streamWrite_besideStream (sess : Nat) (v : Val) : (s.streamWrite sess ix sub v).besideStream = s.besideStream := by
  simp [State.streamWrite, State.ite_besideStream]

end

/-- A write that no check refuses: its effect, its copy to the pair stream, its reply. -/
theorem write_of_takes {s : State} {r : Req} {ix sub : Nat} {w : Wire} {v : Val} {late : State → Nat → Val → Option Rc}
    {eff : State → Nat → Val → State} (h : Takes s r ix sub w v) (hl : late s.entered 0 v = none) :
    s.write r ix sub w late eff =
      ((eff (s.taken ix sub w) 0 v).streamWrite 0 ix sub v).reply 0 (r.answers (Obj.key ix sub)) coapChanged .none :=
  write_taken h.1 (checkWrite_of_late (toOption_eq_some.1 h.2) hl)

/-- What it leaves of its effect: Helm and the objects below index 0x7000 stand, and the request is answered. -/
theorem write_effect {s : State} {r : Req} {ix sub : Nat} {w : Wire} {v : Val} {late : State → Nat → Val → Option Rc}
    {eff : State → Nat → Val → State} (h : Takes s r ix sub w v) (hl : late s.entered 0 v = none)
    (hq : (eff (s.taken ix sub w) 0 v).mg.quay = s.mg.quay) :
    (s.write r ix sub w late eff).helm = (eff (s.taken ix sub w) 0 v).helm ∧
      (∀ k < 0x700000, (s.write r ix sub w late eff).get k = (eff (s.taken ix sub w) 0 v).get k) ∧
      Replied (s.write r ix sub w late eff) r coapChanged .none := by
  obtain ⟨-, hquay, hget⟩ := besideStream_eq (streamWrite_besideStream (eff (s.taken ix sub w) 0 v) ix sub 0 v)
  obtain ⟨-, -, -, -, -, -, -, -, -, -, -, -, hroom⟩ := h.1
  rw [write_of_takes h hl]
  refine ⟨?_, fun k hk => ?_, replied_reply ?_ _ _ _⟩
  · rw [reply_quay, State.quayFrame_helm, streamWrite_helm]
  · rw [reply_quay, State.get_of_obj (State.quayFrame_obj ..), hget k hk]
  · rw [hquay, hq]
    exact hroom

/-! ### The service of a PAN (R155, R223) -/

theorem State.getB_of_get {s t : State} {k j : Nat} (h : t.get k = s.get j) : t.getB k = s.getB j := by
  simp only [State.getB, h]

@[simp] theorem setP_helm (s : State) (k : Nat) (v : Val) : (s.setP k v).helm = s.helm := by
  simp [State.setP, State.ite_helm]

theorem State.ite_mg {c : Prop} {_ : Decidable c} (s t : State) : (if c then s else t).mg = if c then s.mg else t.mg :=
  apply_ite State.mg c s t

theorem State.foldl_mg {α : Type} {f : State → α → State} (hf : ∀ s a, (f s a).mg = s.mg) (l : List α) (s : State) :
    (l.foldl f s).mg = s.mg :=
  State.foldl_same State.mg hf l s

@[simp] theorem setP_mg (s : State) (k : Nat) (v : Val) : (s.setP k v).mg = s.mg := by
  simp [State.setP, State.ite_mg]

theorem setP_time (s : State) {k : Nat} (h : k ≠ Obj.SX_RATE) (v : Val) : (s.setP k v).time = s.time := by
  refine time_congr ?_ ?_ (setP_get_ne h.symm (by decide) v)
  · unfold State.setP
    split <;> rfl
  · unfold State.setP
    split <;> rfl

@[simp] theorem chartGeometry_helm (s : State) : s.chartGeometry.helm = s.helm := by
  simp [State.chartGeometry]

@[simp] theorem chartGeometry_mg (s : State) : s.chartGeometry.mg = s.mg := by
  simp [State.chartGeometry]

@[simp] theorem State.switch_mg (s : State) (d : Nat) (on : Bool) : (s.switch d on).mg = s.mg := by
  simp [State.switch, State.ite_mg]

@[simp] theorem State.releaseRecs_mg (s : State) (p : Recep → Bool) : (s.releaseRecs p).mg = s.mg := rfl

@[simp] theorem State.chanPower_mg (s : State) : s.chanPower.mg = s.mg := by
  simp [State.chanPower]

@[simp] theorem State.radioPower_mg (s : State) : s.radioPower.mg = s.mg := by
  simp [State.radioPower, State.foldl_mg, State.ite_mg]

/-- What R155 refuses rests on the objects alone. -/
theorem panRefusal_congr {s t : State} (h : t.obj = s.obj) (p : Nat) : t.panRefusal p = s.panRefusal p := by
  simp only [State.panRefusal, State.hopEntries, State.winCovers, State.getO, State.get_of_obj h, State.getN_of_obj h,
    State.getB_of_obj h]
  rfl

/-- PN_ENABLE of a PAN is none of the objects that its start or stop writes after it. -/
theorem panEnable_ne {p : Nat} (hp : p < 4) :
    Obj.PN_ENABLE p ≠ Obj.LODESTAR_CHART_TIME ∧ Obj.PN_ENABLE p ≠ Obj.LB_COMMITS ∧ (∀ c, Obj.PN_ENABLE p ≠ Obj.CC_SYNTH_STATE c) ∧
      Obj.PN_ENABLE p ≠ Obj.UPCOMING_DEPTH ∧ Obj.PN_ENABLE p ≠ Obj.PN_ASN p ∧ Obj.PN_ENABLE p ≠ Obj.RP_VERSION p := by
  simp only [Obj.PN_ENABLE, Obj.LODESTAR_CHART_TIME, Obj.LB_COMMITS, Obj.CC_SYNTH_STATE, Obj.UPCOMING_DEPTH, Obj.PN_ASN,
    Obj.RP_VERSION]
  exact ⟨by omega, by omega, fun c => by omega, by omega, by omega, by omega⟩

/-- The power of the radio domains and the new chart leave PN_ENABLE as it is. -/
theorem serviceSet_enable {p : Nat} (hp : p < 4) (s : State) :
    s.radioPower.chartGeometry.get (Obj.PN_ENABLE p) = s.get (Obj.PN_ENABLE p) := by
  obtain ⟨hchart, hcommits, hsynth, -⟩ := panEnable_ne hp
  rw [chartGeometry_get_ne hchart hcommits, State.radioPower_get_ne s hsynth]

theorem setP_get_same (s : State) (k : Nat) (v : Val) (h : k ≠ Obj.LB_COMMITS) : (s.setP k v).get k = v := by
  unfold State.setP
  dsimp only
  split
  · rw [lbCommit_get_ne h, State.get_set_same]
  · exact State.get_set_same ..

/-- What a start of the service does once PN_ENABLE is true (R155, R223). -/
def State.panBegun (s : State) (p : Nat) : State :=
  let on := s.epoch p ≤ s.time
  let s := s.updPan p (fun x => { x with running := on, stopping := false })
  let s := s.setP (Obj.RP_VERSION p) (.int (((s.getN (Obj.RP_VERSION p) + 1) % 256 : Nat) : Int))
  let rpl : Rpl := { interval := s.getN (Obj.RP_DIO_IMIN p), counter := 0, started := true, since := s.now, fired := false }
  let s := { s with alm := { s.alm with rpl := upd s.alm.rpl p (fun _ => rpl) } }
  let s := if on then (s.setN (Obj.PN_ASN p) (s.asnAt p s.time)).lookAhead else s
  (s.radioPower).chartGeometry

theorem panStart_eq (s : State) (p : Nat) : s.panStart p = (s.setP (Obj.PN_ENABLE p) (.bool true)).panBegun p := rfl

/-- The PAN runs at once where its epoch has passed. -/
theorem panBegun_pans (s : State) (p : Nat) :
    (s.panBegun p).helm.pans = upd s.helm.pans p (fun x =>
      { x with running := decide (s.epoch p ≤ (s.time : Int)), stopping := false }) := by
  simp only [State.panBegun, chartGeometry_helm, State.radioPower_helm]
  split <;> simp only [lookAhead_pans, State.setN_helm, setP_helm] <;> rfl

theorem panBegun_mg (s : State) (p : Nat) : (s.panBegun p).mg = s.mg := by
  simp only [State.panBegun, chartGeometry_mg, State.radioPower_mg]
  split
  · exact setP_mg ..
  · exact setP_mg ..

theorem panBegun_enable {p : Nat} (hp : p < 4) (s : State) : (s.panBegun p).get (Obj.PN_ENABLE p) = s.get (Obj.PN_ENABLE p) := by
  obtain ⟨-, hcommits, -, hdepth, hasn, hversion⟩ := panEnable_ne hp
  simp only [State.panBegun, serviceSet_enable hp]
  split
  · rw [lookAhead_get_ne hdepth, State.get_setN_ne hasn]
    exact setP_get_ne hversion hcommits _
  · exact setP_get_ne hversion hcommits _

/-- An enable that is taken: PN_ENABLE is true, and the PAN runs where its epoch has passed. -/
theorem panStart_serves {s : State} {p : Nat} (hp : p < 4) (h : p < s.helm.pans.length) :
    (s.panStart p).get (Obj.PN_ENABLE p) = .bool true ∧
      (nth (s.panStart p).helm.pans p).running = decide (s.epoch p ≤ (s.time : Int)) ∧ (s.panStart p).mg = s.mg := by
  have hepoch : (s.setP (Obj.PN_ENABLE p) (.bool true)).epoch p = s.epoch p :=
    epoch_congr (setP_get_ne (by simp only [Obj.PN_EPOCH, Obj.PN_ENABLE]; omega) (by simp only [Obj.PN_EPOCH, Obj.LB_COMMITS]; omega) _)
  have htime : (s.setP (Obj.PN_ENABLE p) (.bool true)).time = s.time :=
    setP_time s (by simp only [Obj.PN_ENABLE, Obj.SX_RATE]; omega) _
  rw [panStart_eq]
  refine ⟨?_, ?_, ?_⟩
  · rw [panBegun_enable hp]
    exact setP_get_same _ _ _ (panEnable_ne hp).2.1
  · rw [panBegun_pans, setP_helm, nth_upd_same h, hepoch, htime]
  · rw [panBegun_mg, setP_mg]

/-- A stop that is taken: PN_ENABLE is false, and a PAN that runs is to stop at its next slot boundary. -/
theorem panStopping_stops {s : State} {p : Nat} (hp : p < 4) (h : p < s.helm.pans.length) :
    (s.panStopping p).get (Obj.PN_ENABLE p) = .bool false ∧
      (nth (s.panStopping p).helm.pans p).stopping = (nth s.helm.pans p).running ∧ (s.panStopping p).mg = s.mg := by
  have hpans : (s.panStopping p).helm.pans = upd s.helm.pans p (fun x => { x with stopping := x.running }) := by
    simp only [State.panStopping, chartGeometry_helm, State.radioPower_helm, State.updPan, setP_helm]
  refine ⟨?_, ?_, ?_⟩
  · simp only [State.panStopping, serviceSet_enable hp]
    exact setP_get_same _ _ _ (panEnable_ne hp).2.1
  · rw [hpans, nth_upd_same h]
  · simp only [State.panStopping, chartGeometry_mg, State.radioPower_mg]
    exact setP_mg ..

theorem itemSoFar_whole {r : Req} (h : r.blk = none) (s : State) (k : Nat) (w : Wire) : s.itemSoFar r k w = w := by
  simp only [State.itemSoFar, h]

end Sys2Proof.Machine

section
open Sys2Proof.Machine

/-- Settles O13: a write that passes the checks is taken (`write_effect`), since R155 refuses nothing; what the start or the stop of the
service sets stands through the power of the radio domains, the new chart and the pair stream. -/
theorem panServiceCompletes : Obligations.PanServiceCompletes := by
  refine ⟨?_, ?_⟩
  · rintro s r p ⟨htakes, hp, hlen, hoff, hsound⟩
    have hkey : Obj.PN_ENABLE p ≠ Obj.LB_COMMITS := (panEnable_ne hp).2.1
    have hnew : (s.taken (0x4000 + p) 1 (.bool true)).getB (Obj.PN_ENABLE p) = false := by
      rw [State.getB_of_get (taken_get_ne s _ _ _ hkey), hoff]
    obtain ⟨hen, hruns, hmg⟩ := panStart_serves (s := s.taken (0x4000 + p) 1 (.bool true)) hp (by simpa using hlen)
    have hexec : execPanEnable r p (.bool true) s = .next (s.write r (0x4000 + p) 1 (.bool true) (fun s _ _ => s.panRefusal p)
        (fun s _ _ => if s.getB (Obj.PN_ENABLE p) then s else s.panStart p)) :=
      if_neg (by simp [itemSoFar_whole htakes.1.2.1, Nat.not_le.2 hp])
    obtain ⟨hhelm, hget, hreply⟩ := write_effect (late := fun s _ _ => s.panRefusal p)
      (eff := fun s _ _ => if s.getB (Obj.PN_ENABLE p) then s else s.panStart p) htakes
      ((panRefusal_congr (entered_obj s) p).trans hsound) (by simp [hnew, hmg])
    simp only [hnew, Bool.false_eq_true, if_false] at hhelm hget
    refine ⟨_, hexec, ?_, ?_, hreply⟩
    · rw [State.getB, hget _ (by simp only [Obj.PN_ENABLE]; omega), hen]
      rfl
    · rw [hhelm, hruns, epoch_congr (taken_get_ne s _ _ _ (by simp only [Obj.PN_EPOCH, Obj.LB_COMMITS]; omega)), taken_time]
  · rintro s r p ⟨htakes, hp, hlen⟩
    obtain ⟨hen, hstop, hmg⟩ := panStopping_stops (s := s.taken (0x4000 + p) 1 (.bool false)) hp (by simpa using hlen)
    have hexec : execPanStop r p (.bool false) s = .next (s.write r (0x4000 + p) 1 (.bool false) (fun _ _ _ => none)
        (fun s _ _ => s.panStopping p)) :=
      if_pos ⟨itemSoFar_whole htakes.1.2.1 .., hp⟩
    obtain ⟨hhelm, hget, hreply⟩ := write_effect (late := fun _ _ _ => none) (eff := fun s _ _ => s.panStopping p) htakes rfl
      (by simp [hmg])
    refine ⟨_, hexec, ?_, ?_, hreply⟩
    · rw [State.getB, hget _ (by simp only [Obj.PN_ENABLE]; omega), hen]
      rfl
    · rw [hhelm, hstop, taken_helm]

end

namespace Sys2Proof.Machine

/-! ### A discard under a kept table without slotframes (R194, R435) -/

/-- A table of no slotframe gives the staged objects no value to take: only the staged cells go. -/
theorem restage_nil (s : State) : s.restage [] = { s with helm := { s.helm with staged := [] } } := rfl

/-- A member that does not stream sends no copy of a write. -/
theorem streamWrite_of_alone {s : State} (h : s.streams = false) (sess ix sub : Nat) (v : Val) :
    s.streamWrite sess ix sub v = s := by
  simp [State.streamWrite, State.stream, h]

/-- While Lodestar serves from its chart the table in force is the one kept for the Attach. -/
theorem tableNow_of_lodestar {s : State} (h : s.rst.lodestar = true) : s.tableNow = s.rst.table := by
  simp [State.tableNow, State.fromChart, h]

/-- A staged slotframe enable is counted as a change where the table in force has no slotframe. -/
theorem stagedCount_pos {s : State} (ht : s.tableNow.1 = []) (he : s.get (Obj.SS_ENABLE 0) = .bool true) : s.stagedCount ≠ 0 := by
  have hdiffers : (s.sfInForce (Obj.SS_ENABLE 0) != some (s.get (Obj.SS_ENABLE 0))) = true := by
    rw [he, State.sfInForce, ht]
    decide
  have hmem : Obj.SS_ENABLE 0 ∈ (List.range 64).flatMap (fun f =>
      [Obj.SS_ENABLE f, Obj.SS_PAN f, Obj.SS_LENGTH f, Obj.SS_TX_OFFSET f]) :=
    List.mem_flatMap.2 ⟨0, by decide, List.mem_cons_self⟩
  have hpos := List.length_pos_of_mem
    (List.mem_filter (p := fun k => s.sfInForce k != some (s.get k)).2 ⟨hmem, hdiffers⟩)
  unfold State.stagedCount
  dsimp only
  omega

/-- SCHED_DISCARD while Lodestar serves from its chart and the table kept for the Attach has no slotframe: a staged enable stays. -/
theorem schedDiscard_leaves_change {s : State} {r : Req} {w : Wire} {v : Val} (h : Takes s r 0x4200 7 w v)
    (hlode : s.rst.lodestar = true) (htab : s.rst.table.1 = []) (hcs : s.getN Obj.CS_STATE ≠ 2)
    (he : s.get (Obj.SS_ENABLE 0) = .bool true) :
    ∃ t, execSchedDiscard r w s = .next t ∧ t.stagedCount ≠ 0 := by
  obtain ⟨hlode', htab'⟩ := taken_table s 0x4200 7 w
  have hnow : (s.taken 0x4200 7 w).tableNow.1 = [] := by
    rw [tableNow_of_lodestar (hlode'.trans hlode), htab', htab]
  have hdiscard : (s.taken 0x4200 7 w).discardStaged =
      { s.taken 0x4200 7 w with helm := { (s.taken 0x4200 7 w).helm with staged := [] } } := by
    rw [State.discardStaged, hnow, restage_nil]
  have halone : (s.taken 0x4200 7 w).discardStaged.streams = false := by
    have hstate : (s.taken 0x4200 7 w).discardStaged.getN Obj.CS_STATE = s.getN Obj.CS_STATE :=
      (State.getN_of_obj (by rw [hdiscard]) _).trans (State.getN_of_get (taken_get_ne s _ _ _ (by decide)))
    simp [State.streams, hstate, hcs]
  refine ⟨_, congrArg Host.Outcome.next (write_of_takes h rfl), ?_⟩
  rw [streamWrite_of_alone halone, hdiscard, reply_quay]
  refine stagedCount_pos ?_ ?_
  · refine (congrArg Prod.fst (tableNow_of_lodestar ?_)).trans ((congrArg Prod.fst htab').trans htab)
    exact hlode'.trans hlode
  · rw [State.get_of_obj (State.quayFrame_obj ..)]
    exact (taken_get_ne s 0x4200 7 w (by decide)).trans he

/-- Lodestar serves from its chart, the table kept for the Attach has no slotframe, and slotframe 0 is staged as enabled; the
firmware is attached and every domain is on. -/
def keptEmpty : State :=
  let s := State.reset.setB (Obj.SS_ENABLE 0) true
  { s with mg := { s.mg with busy := false }, pwr := { s.pwr with dom := List.replicate 16 .on }
           rst := { s.rst with lodestar := true, table := ([], []) } }

/-- A request on the Quay port. -/
def quayReq : Req := { via := .quay, tok := 1, blk := none }

theorem keptEmpty_ready : Ready keptEmpty quayReq := by decide

theorem keptEmpty_takes : Takes keptEmpty quayReq 0x4200 7 (.bool true) (.bool true) := ⟨keptEmpty_ready, by decide⟩

end Sys2Proof.Machine

section
open Sys2Proof.Machine

/-- Refutes O14: SCHED_DISCARD reads the staged slotframe objects back from the table in force (R194), which while Lodestar serves from
its chart is the one kept for the Attach; the clause for SCHED_DISCARD gives the length of Helm's own list of slotframes and none for
that table. The state `keptEmpty` meets its conditions with a kept table of no slotframe, and a change stays staged. -/
theorem not_scheduleCompletes : ¬ Obligations.ScheduleCompletes := by
  rintro ⟨-, hdiscard, -, -⟩
  obtain ⟨t, hexec, -, hzero, -⟩ := hdiscard keptEmpty quayReq (.bool true) (.bool true) ⟨keptEmpty_takes, rfl⟩
  obtain ⟨u, hnext, hleft⟩ := schedDiscard_leaves_change keptEmpty_takes rfl rfl (by decide) rfl
  obtain rfl := Host.Outcome.next.inj (hexec.symm.trans hnext)
  exact hleft hzero

end
